-- ==== Sys2Proof/Word.lean ====
section
/-! DEFINITION. The word types of the machine. -/

namespace Sys2Proof

/-- A byte of a memory or an image. -/
abbrev Byte := BitVec 8

/-- A 32-bit word: a scalar register, a lane of a vector, an accumulator. -/
abbrev Word := BitVec 32

end Sys2Proof
end

