-- ==== Sys2Proof/Syntax.lean ====
section
/-! DEFINITION. The commands of the block, one constructor for each row of the opcode table, and the operand types that they carry.
A command is a write or read of a register, a host or management operation, a packet or block that arrives, or an event that a
unit reports; what the surroundings decide (readings, upsets, arrivals) are its operands (assumption 4). -/

namespace Sys2Proof

/-- Who accesses a register or a hive address (R7, R29, R31): the physical function, the keeper, a virtual function, a unit that acts for a
context, or a function through its BAR0, whose accesses carry an offset in the BAR in place of a hive address (R389, R390). -/
inductive Requester where
  | pf
  | keeper
  | vf (f : Fin 16)
  | ctx (c : Fin 16)
  | bar0 (f : Fin 16)
  deriving DecidableEq, Repr

/-- The static networks (R112). -/
inductive Net where
  | vector | scalar | control
  deriving DecidableEq, Repr

/-- What the SECDED check of a slot finds as a thread's pointer comes to name it (R77). -/
inductive SlotEcc where
  | good | single | double
  deriving DecidableEq, Repr

/-- An error that has struck a slot of a worker's active store, of one bit or of two bits of a quarter, and that the next read of the slot
finds (R77). -/
structure Upset where
  x : Fin 28
  y : Fin 24
  w : Fin 32
  slot : Fin 512
  double : Bool
  deriving DecidableEq, Repr

/-- What the CRC check finds in a block that a CMRD or a dynamic requester reads: the CRC holds; it fails and the one re-read passes, arriving `late`
cycles after the first; or the re-read fails too (R316, R180). -/
inductive BlockCrc where
  | good
  | reread (late : Fin 33)
  | failed (late : Fin 33)
  deriving DecidableEq, Repr

/-- A step or replay of a context that starts, and the errors in slot stores that the reads of its first slots find (R77). -/
structure StepRun where
  ctx : Fin 16
  upsets : List Upset
  deriving DecidableEq, Repr

/-- A worker that flips, and the errors in its new store: slots, true for a double-bit error (R77). -/
structure FlipOf where
  worker : Fin 32
  upsets : List (Fin 512 × Bool)
  deriving DecidableEq, Repr

/-- How a block came to a drop: its sideband check passed, and the cycles for which a busy bank deferred its write (R64, R244). -/
structure DropCheck where
  good : Bool
  deferred : Nat
  deriving DecidableEq, Repr

/-- What a refresh of a row found: the failing blocks, and the cycles that it took from service (R317). -/
structure RowRefresh where
  bad : List (Fin 64)
  deferred : Nat
  deriving DecidableEq, Repr

/-- A read through the hive window: its bytes, and the verdicts of the checks of its blocks (R305). -/
structure WindowRead where
  bytes : Nat
  crc : List BlockCrc
  deriving DecidableEq, Repr

/-- A check that fails on a static link: whether the word is the one that failed last, and the cycles that the re-send costs (R118, R119). -/
structure LinkResend where
  again : Bool
  slip : Nat
  deriving DecidableEq, Repr

/-- A check that fails on a mesh link into a router: the side of the link, and whether the flit is the one that failed last (R262). -/
structure MeshResend where
  dir : Fin 4
  again : Bool
  deriving DecidableEq, Repr

/-- What the tests of a region found: the units that failed, as defect entries, and the retention bins of the comb-memory rows (comb × 12,288 +
bank × 768 + row; 0: 64 ms, 1: 128 ms) that are not in the 256 ms bin (R326). -/
structure RegionResult where
  bad : List (BitVec 64)
  bins : List (BitVec 24 × Fin 2)
  deriving DecidableEq, Repr

/-- A firing of one slot: the worker and thread, and what its surroundings add: the blocks that a bank conflict deferred (R64), the
DRAIN row that leaves in this cycle (R51,
`SRCA` 7), the check of the slot that the pointer names next (R77), and the checks of the blocks that a CMRD reads, in order; a block past
the list's end is good (R316). -/
structure Fire where
  x : Fin 28
  y : Fin 24
  w : Fin 32
  thread : Fin 128
  deferred : Nat
  drainRow : Fin 16
  ecc : SlotEcc
  crc : List BlockCrc := []
  deriving DecidableEq, Repr

/-- A packet of the mesh, the fields of R258. The virtual channel follows from the operation, the length from the payload. -/
structure Packet where
  op : BitVec 5
  mcast : Bool := false
  last : Bool := false
  tlen : BitVec 2 := 0
  gen : BitVec 8 := 0
  ctx : BitVec 4 := 0
  born : BitVec 12 := 0
  flow : BitVec 6 := 0
  seq : BitVec 16 := 0
  ctxv : Bool := false
  src : BitVec 16 := 0
  dest : BitVec 16 := 0
  mrect : BitVec 32 := 0
  addr : BitVec 64 := 0
  aux : BitVec 32 := 0
  value : BitVec 32 := 0
  payload : List Byte := []
  deriving DecidableEq, Repr

/-- A packet that reads, and the verdicts of the checks of its blocks (R305). -/
structure CheckedRead where
  pkt : Packet
  crc : List BlockCrc
  deriving DecidableEq, Repr

/-- What opened the trip chain: a die sensor at 115.0 °C (R216), or a coolant reading at its fatal threshold (R474). -/
inductive TripCause where
  | sensor | coolant
  deriving DecidableEq, Repr

/-- Faulty wires of a rafter lane in one of its spans (R247). -/
structure WireFault where
  lane : Fin 4
  span : Fin 8
  wires : Nat
  deriving DecidableEq, Repr

/-- What a start-up stage found (R408 to R417): the units that failed, as defect entries; at stage 0x01 a key that fails to unseal; at stage 0x03 what
the seal's own check found (0 none, 2 FORMAT, 3 SIG), whether the flash copy of the defect record verifies, a fuse row that fails uncorrectably, and
how many rows were corrected; at stage 0x05 the channels that fail at each of the three rates, the fastest first, those that fail the last retraining,
and the logged groups that the packages repaired by hard PPR; at stage 0x07 the faulty wires of the rafters and the regions whose crossings did not
train; at stage 0x0A the retention bins of the comb-memory rows (comb × 12,288 + bank × 768 + row; 0: 64 ms, 1: 128 ms) that are not in the 256 ms
bin; at stage 0x09 a scout image whose signature does not verify (R430). -/
structure StageResult where
  bad : List (BitVec 64) := []
  keyBad : Bool := false
  sealCode : BitVec 4 := 0
  recordOk : Bool := true
  fuseEcc : Option (BitVec 16) := none
  fuseFixed : Nat := 0
  fails : List (List (Fin 2048)) := []
  down : List (Fin 2048) := []
  wires : List (Fin 8 × Fin 14 × WireFault) := []
  ppr : List (Fin 2048 × BitVec 21) := []
  untrained : List (Fin 42) := []
  bins : List (BitVec 24 × Fin 2) := []
  scoutSig : Option (BitVec 8) := none
  deriving DecidableEq, Repr

/-- What the sensors read at a tick boundary (R215, R451, R469, R473): the eight sensors of each region and the hottest of each segment in 0.125 °C, a
region's or a segment's missing reading standing for 0, the four voltage monitors of each region in mV, the keeper-island sensor, busbar voltage in
mV, current in 0.1 A, power in W and energy in µJ, coolant temperatures in 0.125 °C, and the regions whose comb array spent at least 0.5 ms of the
interval in RUN (R307). -/
structure Readings where
  region : List (Fin 42 × List (BitVec 10)) := []
  segment : List (Fin 8 × BitVec 10) := []
  volts : List (Fin 42 × List (BitVec 16)) := []
  keeper : BitVec 10 := 0
  mv : BitVec 16 := 54000
  da : BitVec 16 := 0
  w : BitVec 16 := 0
  uj : BitVec 64 := 0
  inlet : BitVec 10 := 240
  outlet : BitVec 10 := 240
  ran : List (Fin 42) := []
  deriving DecidableEq, Repr

/-- What a worker's suite found (R309, R310): every point passed, the nominal point failed in a kernel, or only the margin (`hot` false)
or the hot point failed. -/
inductive Verdict where
  | pass
  | nominal (kernel : BitVec 8)
  | stress (kernel : BitVec 8) (hot : Bool)
  deriving DecidableEq, Repr

/-- The use of a maintenance slot (R232). -/
inductive Maint where
  | refresh | scrub | training | idle
  deriving DecidableEq, Repr

/-- Causes of a DMA transfer error (R299). -/
abbrev DmaErr := BitVec 8

/-- What a port's training found (R365): whether every wavelength locked, the fibre length in 0.1 m, the lanes in service of each direction. -/
structure TrainResult where
  ok : Bool
  fibre : BitVec 12 := 100
  tx : BitVec 16 := 0xFFFF
  rx : BitVec 16 := 0xFFFF
  deriving DecidableEq, Repr

/-- A block on a fabric port (R359): the header fields, and the mesh packet of a PACKET block with up to 7 payload flits, or the 256 bytes
of a STREAM block. Kind and CRC follow from the command that carries it. -/
structure Block where
  cls : BitVec 3 := 0
  dl : Bool := false
  age : BitVec 10 := 0
  seq : BitVec 16 := 0
  ack : BitVec 16 := 0
  dmod : BitVec 10 := 0
  smod : BitVec 10 := 0
  span : BitVec 12 := 0
  pflow : BitVec 12 := 0
  flitCount : BitVec 5 := 0
  packet : Option Packet := none
  data : List Byte := []
  deriving DecidableEq, Repr

/-- The path of a management or SPDM message (R440, R448): the DOE mailbox of a function, MCTP over I3C, MCTP over PCIe VDM. -/
inductive Binding where
  | doe (f : Fin 16)
  | i3c
  | vdm
  deriving DecidableEq, Repr

/-- A message's path, and the SPDM session that secures it, if one does. -/
structure Via where
  path : Binding
  session : Option (Fin 4) := none
  deriving DecidableEq, Repr

/-- A firmware image as it arrives, and what the image area reads back (R457, R458). -/
structure FwImage where
  bytes : List Byte
  deriving DecidableEq, Repr

/-- How a memory write TLP of the host arrived (R405): good, poisoned at BAR2, or poisoned at BAR0. -/
inductive Tlp where
  | good | poisoned | poisonedBar0
  deriving DecidableEq, Repr
/-- The commands. Each constructor names its row and rule. -/
inductive Instr where
  /-- `INPUT_POWER_GOOD`, R468. -/
  | inputPowerGood
  /-- `SOFT_START_FAULT`, R468. -/
  | softStartFault
  /-- `INPUT_OVERVOLTAGE`, R469. -/
  | inputOvervoltage
  /-- `POWER_FAIL_SEQUENCE`, R470. -/
  | powerFailSequence
  /-- `BLADE_IDLE`, R467. -/
  | bladeIdle (blade : Fin 2)
  /-- `PERST_N`, R387. -/
  | perstN
  /-- `HOT_RESET`, R387. -/
  | hotReset
  /-- `PF_FLR`, R387. -/
  | pfFlr
  /-- `VF_FLR`, R387. -/
  | vfFlr (f : Fin 16)
  /-- `WARM_MODULE_RESET`, R342. -/
  | warmModuleReset
  /-- `CONTEXT_RESET`, R343. -/
  | contextReset (c : Fin 16)
  /-- `KEEPER_RESET`, R447. -/
  | keeperReset
  /-- `KEEPER_RESUME`, R447. -/
  | keeperResume (copyOk : Bool) (flashOk : Bool) (retained : Bool) (r : Readings)
  /-- `REFERENCE_LOSS`, R205. -/
  | referenceLoss
  /-- `TRIP`, R222. -/
  | trip (cause : TripCause)
  /-- `HOT_SET`, R219. -/
  | hotSet (r : Fin 42) (sensor : Fin 8) (temp : Nat)
  /-- `COMB_ARRAY_SWITCH_OFF`, R219. -/
  | combArraySwitchOff (r : Fin 42)
  /-- `HOT_OFF_RETURN`, R221. -/
  | hotOffReturn (r : Fin 42)
  /-- `SPINE_FAULT`, R206. -/
  | spineFault (r : Fin 42)
  /-- `COMB_ARRAY_PLL_LOSS`, R206. -/
  | combArrayPllLoss (r : Fin 42)
  /-- `SEGMENT_FAULT`, R250. -/
  | segmentFault (seg : Fin 8)
  /-- `DOMAIN_READY`, R212. -/
  | domainReady (d : Fin 93)
  /-- `STAGE_END`, R408. -/
  | stageEnd (r : StageResult)
  /-- `STAGE_FAIL`, R420. -/
  | stageFail (unit : Option Nat)
  /-- `TICK_BOUNDARY`, R444. -/
  | tickBoundary (r : Readings)
  /-- `FLOW_LOW`, R474. -/
  | flowLow
  /-- `STEP_WATCHDOG`, R346. -/
  | stepWatchdog (c : Fin 16)
  /-- `HOLD_TIMEOUT`, R347. -/
  | holdTimeout (c : Fin 16)
  /-- `COMB_SHARED_LOGIC_FAULT`, R307. -/
  | combSharedLogicFault (x : Fin 28) (y : Fin 24)
  /-- `COMB_FENCE`, R324. -/
  | combFence (px : Fin 35) (py : Fin 24)
  /-- `SCOUT_VERDICT`, R310. -/
  | scoutVerdict (px : Fin 35) (py : Fin 24) (w : Fin 34) (v : Verdict)
  /-- `ROTATION_GRID_POINT`, R312. -/
  | rotationGridPoint
  /-- `PAUSE_SLICE_GRID`, R315. -/
  | pauseSliceGrid
  /-- `IDLE_SLEEP`, R214. -/
  | idleSleep (r : Fin 42)
  /-- `REGION_TEST_COMPLETE`, R326. -/
  | regionTestComplete (r : Fin 42) (found : RegionResult)
  /-- `SPARE_COMB_TEST`, R325. -/
  | spareCombTest (px : Fin 35) (py : Fin 24) (pass : Bool)
  /-- `PORT_RETRAIN`, R366. -/
  | portRetrain (p : Fin 6)
  /-- `LIFE_COUNTER_WRITE`, R456. -/
  | lifeCounterWrite
  /-- `SERVICE_LIFE_PREDICTION`, R334. -/
  | serviceLifePrediction
  /-- `INBOX_WRITE`, R394. -/
  | inboxWrite (f : Fin 16) (off : Nat) (data : List Byte)
  /-- `NOP`, R398. -/
  | nop (f : Fin 16)
  /-- `GRANT`, R337. -/
  | grant (f : Fin 16)
  /-- `LOAD`, R160. -/
  | load (f : Fin 16)
  /-- `IMAGE_ACCEPTED`, R163. -/
  | imageAccepted (c : Fin 16)
  /-- `LOAD_COMPLETE`, R164. -/
  | loadComplete (c : Fin 16)
  /-- `COURSE`, R166. -/
  | course (f : Fin 16)
  /-- `RESET`, R344. -/
  | reset (f : Fin 16)
  /-- `RELEASE`, R354. -/
  | release (f : Fin 16)
  /-- `RELEASE_WIPE_COMPLETE`, R354. -/
  | releaseWipeComplete (c : Fin 16)
  /-- `WARM_RESET`, R398. -/
  | warmReset (f : Fin 16)
  /-- `COLD_RESET`, R398. -/
  | coldReset (f : Fin 16)
  /-- `SHUTDOWN`, R398. -/
  | shutdown (f : Fin 16)
  /-- `SHUTDOWN_TEST_COMPLETE`, R332. -/
  | shutdownTestComplete (bad : List (BitVec 64))
  /-- `HIVE_WINDOW_READ`, R391. -/
  | hiveWindowRead (f : Fin 16) (off : BitVec 36) (rd : WindowRead)
  /-- `HIVE_WINDOW_WRITE`, R391. -/
  | hiveWindowWrite (f : Fin 16) (off : BitVec 36) (data : List Byte) (tlp : Tlp)
  /-- `CQ_HEAD_WRITE`, R402. -/
  | cqHeadWrite (f : Fin 16) (v : BitVec 16)
  /-- `FQ_HEAD_WRITE`, R403. -/
  | fqHeadWrite (f : Fin 16) (v : BitVec 16)
  /-- `CQ_ENABLE`, R407. -/
  | cqEnable (f : Fin 16) (v : BitVec 32)
  /-- `FQ_ENABLE`, R407. -/
  | fqEnable (f : Fin 16) (v : BitVec 32)
  /-- `LINK_SPEED_CHANGE`, R386. -/
  | linkSpeedChange (speed : BitVec 3) (width : BitVec 2) (flit : Bool)
  /-- `COMPLETION_TIMEOUT`, R405. -/
  | completionTimeout (h : Fin 16) (done : Nat)
  /-- `ERROR_COMPLETION`, R405. -/
  | errorCompletion (h : Fin 16) (done : Nat)
  /-- `POWER_STATE_CHANGE`, R385. -/
  | powerStateChange (f : Fin 16) (d3 : Bool)
  /-- `REGISTER_WRITE`, R2. -/
  | registerWrite (who : Requester) (a : BitVec 64) (bytes : Nat) (v : BitVec 64)
  /-- `RC_COUNTER_READ`, R4. -/
  | rcCounterRead (who : Requester) (a : BitVec 64) (bytes : Nat)
  /-- `LOW_HALF_READ`, R8. -/
  | lowHalfRead (who : Requester) (a : BitVec 64)
  /-- `GO`, R304. -/
  | go (who : Requester) (c : Fin 80)
  /-- `STOP`, R301. -/
  | stop (who : Requester) (c : Fin 80)
  /-- `RESUME`, R300. -/
  | resume (who : Requester) (c : Fin 80)
  /-- `SKIP`, R300. -/
  | skip (who : Requester) (c : Fin 80)
  /-- `ABORT`, R300. -/
  | abort (who : Requester) (c : Fin 80)
  /-- `PRESET`, R303. -/
  | preset (who : Requester) (c : Fin 80)
  /-- `CTX_RESET_REQUEST`, R343. -/
  | ctxResetRequest (who : Requester) (c : Fin 16) (v : BitVec 32)
  /-- `WRK_DBG_HALT`, R80. -/
  | wrkDbgHalt (who : Requester) (x : Fin 28) (y : Fin 24) (w : Fin 32) (v : BitVec 32)
  /-- `WRK_DBG_STEP`, R79. -/
  | wrkDbgStep (who : Requester) (f : Fire)
  /-- `SYN_OBJ_WRITE`, R284. -/
  | synObjWrite (who : Requester) (x : Fin 28) (y : Fin 24) (n : Fin 4096) (v : BitVec 32)
  /-- `MSG_QPOP_READ`, R288. -/
  | msgQpopRead (who : Requester) (x : Fin 28) (y : Fin 24) (w : Fin 32) (q : Fin 8)
  /-- `EAV_CTX_CFG_WRITE`, R254. -/
  | eavCtxCfgWrite (who : Requester) (c : Fin 16) (v : BitVec 64)
  /-- `PRT_TOPO_WRITE`, R370. -/
  | prtTopoWrite (who : Requester) (v : BitVec 32)
  /-- `ADMIT_OPEN`, R382. -/
  | admitOpen (who : Requester) (v : Bool)
  /-- `MIRROR_RESUME`, R381. -/
  | mirrorResume (who : Requester) (c : Fin 16)
  /-- `KPR_RECOV_LOAD`, R458. -/
  | kprRecovLoad (who : Requester) (addr : BitVec 52) (size : BitVec 9)
  /-- `GET_VERSION`, R440. -/
  | getVersion (via : Via)
  /-- `GET_CAPABILITIES`, R440. -/
  | getCapabilities (via : Via)
  /-- `NEGOTIATE_ALGORITHMS`, R440. -/
  | negotiateAlgorithms (via : Via) (offers : Bool)
  /-- `GET_DIGESTS`, R440. -/
  | getDigests (via : Via)
  /-- `GET_CERTIFICATE`, R440. -/
  | getCertificate (via : Via) (slot : BitVec 8)
  /-- `CHALLENGE`, R440. -/
  | challenge (via : Via) (slot : BitVec 8)
  /-- `GET_MEASUREMENTS`, R441. -/
  | getMeasurements (via : Via) (index : BitVec 8)
  /-- `KEY_EXCHANGE`, R440. -/
  | keyExchange (via : Via)
  /-- `FINISH`, R440. -/
  | finish (via : Via) (good : Bool)
  /-- `HEARTBEAT`, R440. -/
  | heartbeat (via : Via)
  /-- `KEY_UPDATE`, R440. -/
  | keyUpdate (via : Via)
  /-- `END_SESSION`, R440. -/
  | endSession (via : Via)
  /-- `IDE_KM`, R440. -/
  | ideKm (via : Via)
  /-- `LC_NONCE`, R433. -/
  | lcNonce (via : Via)
  /-- `PROVISION`, R427. -/
  | provision (via : Via) (tokens : List Byte) (burn : Bool)
  /-- `SHIP`, R435. -/
  | ship (via : Via) (tokens : List Byte) (burn : Bool)
  /-- `DEBUG_ON`, R435. -/
  | debugOn (via : Via) (tokens : List Byte)
  /-- `DEBUG_OFF`, R435. -/
  | debugOff (via : Via) (tokens : List Byte)
  /-- `RETURN`, R437. -/
  | returnOp (via : Via) (tokens : List Byte) (burn : Bool)
  /-- `REFIELD`, R435. -/
  | refield (via : Via) (tokens : List Byte) (burn : Bool)
  /-- `SCRAP`, R435. -/
  | scrap (via : Via) (tokens : List Byte) (burn : Bool)
  /-- `OWNER_KEY`, R435. -/
  | ownerKey (via : Via) (tokens : List Byte) (burn : Bool)
  /-- `VENDOR_REVOKE`, R435. -/
  | vendorRevoke (via : Via) (tokens : List Byte) (burn : Bool)
  /-- `SCAN_ON`, R438. -/
  | scanOn (via : Via) (tokens : List Byte)
  /-- `SET_ENDPOINT_ID`, R448. -/
  | setEndpointId (via : Binding) (eid : BitVec 8)
  /-- `ENTDAA`, R448. -/
  | entdaa (addr : BitVec 7)
  /-- `MCTP_WARM_RESET`, R449. -/
  | mctpWarmReset (via : Binding)
  /-- `MCTP_COLD_RESET`, R449. -/
  | mctpColdReset (via : Binding)
  /-- `MCTP_READ_STATUS`, R449. -/
  | mctpReadStatus (via : Binding)
  /-- `MCTP_WRITE_ALERT`, R449. -/
  | mctpWriteAlert (via : Binding) (v : BitVec 32)
  /-- `PLDM_DISCOVERY`, R448. -/
  | pldmDiscovery (via : Binding) (cmd : BitVec 8)
  /-- `SENSOR_READ`, R452. -/
  | sensorRead (via : Binding) (sensor : BitVec 16)
  /-- `REQUEST_UPDATE`, R458. -/
  | requestUpdate (via : Binding)
  /-- `PASS_COMPONENT_TABLE`, R458. -/
  | passComponentTable (via : Binding) (comp : BitVec 16)
  /-- `FIRMWARE_DATA_RECEIVED`, R458. -/
  | firmwareDataReceived (image : FwImage)
  /-- `APPLY_COMPLETE`, R458. -/
  | applyComplete (readBack : Bool)
  /-- `ACTIVATE_FIRMWARE`, R458. -/
  | activateFirmware (via : Binding)
  /-- `STEP_START`, R178. -/
  | stepStart (run : StepRun)
  /-- `RIDGE_RELEASE`, R183. -/
  | ridgeRelease (c : Fin 16)
  /-- `RIDGE_SIGNAL`, R185. -/
  | ridgeSignal (c : Fin 16)
  /-- `RIDGE_COMPLETE`, R187. -/
  | ridgeComplete (c : Fin 16)
  /-- `RIDGE_TIMEOUT`, R188. -/
  | ridgeTimeout (c : Fin 16)
  /-- `STEP_ABANDON`, R200. -/
  | stepAbandon (c : Fin 16)
  /-- `REPLAY_START`, R198. -/
  | replayStart (run : StepRun)
  /-- `SUM_LANE_FAIL`, R68. -/
  | sumLaneFail (x : Fin 28) (y : Fin 24) (w : Fin 32) (thread : Fin 128) (tile : Fin 4) (row : Fin 16) (block : Bool)
  /-- `PLAUSIBILITY_EVENT`, R70. -/
  | plausibilityEvent (x : Fin 28) (y : Fin 24) (w : Fin 32)
  /-- `PORT_PARITY_ERROR`, R120. -/
  | portParityError (x : Fin 28) (y : Fin 24) (w : Fin 32) (port : Nat)
  /-- `RESIDUE_MISMATCH`, R132. -/
  | residueMismatch (x : Fin 28) (y : Fin 24) (out : Fin 68)
  /-- `WAIT_SEND_TIMEOUT`, R60. -/
  | waitSendTimeout (x : Fin 28) (y : Fin 24) (w : Fin 32) (thread : Fin 128)
  /-- `MMA`, R65. -/
  | mma (f : Fire)
  /-- `MMAZ`, R50. -/
  | mmaz (f : Fire)
  /-- `DRAIN`, R106. -/
  | drain (f : Fire)
  /-- `CLEAR`, R50. -/
  | clear (f : Fire)
  /-- `VECTOR_ADD`, R52. -/
  | vectorAdd (f : Fire)
  /-- `VECTOR_SUB`, R52. -/
  | vectorSub (f : Fire)
  /-- `VECTOR_MUL`, R52. -/
  | vectorMul (f : Fire)
  /-- `FMA`, R52. -/
  | fma (f : Fire)
  /-- `FMS`, R52. -/
  | fms (f : Fire)
  /-- `VECTOR_MIN`, R108. -/
  | vectorMin (f : Fire)
  /-- `VECTOR_MAX`, R108. -/
  | vectorMax (f : Fire)
  /-- `ABS`, R108. -/
  | abs (f : Fire)
  /-- `NEG`, R108. -/
  | neg (f : Fire)
  /-- `IADD`, R52. -/
  | iadd (f : Fire)
  /-- `ISUB`, R52. -/
  | isub (f : Fire)
  /-- `IMULLO`, R52. -/
  | imullo (f : Fire)
  /-- `IMIN`, R52. -/
  | imin (f : Fire)
  /-- `IMAX`, R52. -/
  | imax (f : Fire)
  /-- `VECTOR_AND`, R52. -/
  | vectorAnd (f : Fire)
  /-- `VECTOR_OR`, R52. -/
  | vectorOr (f : Fire)
  /-- `VECTOR_XOR`, R52. -/
  | vectorXor (f : Fire)
  /-- `VECTOR_SHL`, R52. -/
  | vectorShl (f : Fire)
  /-- `VECTOR_SHR`, R52. -/
  | vectorShr (f : Fire)
  /-- `VECTOR_SRA`, R52. -/
  | vectorSra (f : Fire)
  /-- `VECTOR_EQ`, R52. -/
  | vectorEq (f : Fire)
  /-- `VECTOR_NE`, R52. -/
  | vectorNe (f : Fire)
  /-- `VECTOR_LT`, R52. -/
  | vectorLt (f : Fire)
  /-- `VECTOR_LE`, R52. -/
  | vectorLe (f : Fire)
  /-- `VECTOR_GT`, R52. -/
  | vectorGt (f : Fire)
  /-- `VECTOR_GE`, R52. -/
  | vectorGe (f : Fire)
  /-- `VECTOR_SFN`, R110. -/
  | vectorSfn (f : Fire)
  /-- `RSUM`, R109. -/
  | rsum (f : Fire)
  /-- `RMAX`, R109. -/
  | rmax (f : Fire)
  /-- `RMIN`, R109. -/
  | rmin (f : Fire)
  /-- `ROT`, R52. -/
  | rot (f : Fire)
  /-- `BCAST`, R52. -/
  | bcast (f : Fire)
  /-- `SEL`, R52. -/
  | sel (f : Fire)
  /-- `VECTOR_CVT`, R105. -/
  | vectorCvt (f : Fire)
  /-- `SCALAR_ADD`, R55. -/
  | scalarAdd (f : Fire)
  /-- `SCALAR_SUB`, R55. -/
  | scalarSub (f : Fire)
  /-- `SCALAR_AND`, R55. -/
  | scalarAnd (f : Fire)
  /-- `SCALAR_OR`, R55. -/
  | scalarOr (f : Fire)
  /-- `SCALAR_XOR`, R55. -/
  | scalarXor (f : Fire)
  /-- `SCALAR_SHL`, R55. -/
  | scalarShl (f : Fire)
  /-- `SCALAR_SHR`, R55. -/
  | scalarShr (f : Fire)
  /-- `SCALAR_SRA`, R55. -/
  | scalarSra (f : Fire)
  /-- `SCALAR_MUL`, R55. -/
  | scalarMul (f : Fire)
  /-- `SCALAR_MIN`, R55. -/
  | scalarMin (f : Fire)
  /-- `SCALAR_MAX`, R55. -/
  | scalarMax (f : Fire)
  /-- `SCALAR_EQ`, R55. -/
  | scalarEq (f : Fire)
  /-- `SCALAR_NE`, R55. -/
  | scalarNe (f : Fire)
  /-- `SCALAR_LT`, R55. -/
  | scalarLt (f : Fire)
  /-- `LTU`, R55. -/
  | ltu (f : Fire)
  /-- `SCALAR_LE`, R55. -/
  | scalarLe (f : Fire)
  /-- `LEU`, R55. -/
  | leu (f : Fire)
  /-- `MOV`, R55. -/
  | mov (f : Fire)
  /-- `FADD`, R55. -/
  | fadd (f : Fire)
  /-- `FMUL`, R55. -/
  | fmul (f : Fire)
  /-- `FMIN`, R55. -/
  | fmin (f : Fire)
  /-- `FMAX`, R55. -/
  | fmax (f : Fire)
  /-- `MOVE_TO_LOOP_COUNTER`, R55. -/
  | moveToLoopCounter (f : Fire)
  /-- `MOVE_FROM_LOOP_COUNTER`, R55. -/
  | moveFromLoopCounter (f : Fire)
  /-- `LDV`, R56. -/
  | ldv (f : Fire)
  /-- `STV`, R56. -/
  | stv (f : Fire)
  /-- `LDS`, R56. -/
  | lds (f : Fire)
  /-- `STS`, R56. -/
  | sts (f : Fire)
  /-- `CMRD`, R63. -/
  | cmrd (f : Fire)
  /-- `CMWR`, R63. -/
  | cmwr (f : Fire)
  /-- `RTLS`, R56. -/
  | rtls (f : Fire)
  /-- `RTB`, R56. -/
  | rtb (f : Fire)
  /-- `LDB`, R56. -/
  | ldb (f : Fire)
  /-- `SELECT`, R71. -/
  | select (f : Fire)
  /-- `SWITCH`, R71. -/
  | switch (f : Fire)
  /-- `MERGE`, R71. -/
  | merge (f : Fire)
  /-- `GATE`, R71. -/
  | gate (f : Fire)
  /-- `EMIT`, R71. -/
  | emit (f : Fire)
  /-- `FORWARD`, R71. -/
  | forward (f : Fire)
  /-- `SIG`, R59. -/
  | sig (f : Fire)
  /-- `WAIT`, R280. -/
  | wait (f : Fire)
  /-- `RSIG`, R283. -/
  | rsig (f : Fire)
  /-- `SEND`, R274. -/
  | send (f : Fire)
  /-- `POP`, R276. -/
  | pop (f : Fire)
  /-- `NEXT_SEQ`, R48. -/
  | nextSeq (f : Fire)
  /-- `JUMP`, R48. -/
  | jump (f : Fire)
  /-- `BRT`, R48. -/
  | brt (f : Fire)
  /-- `BRF`, R48. -/
  | brf (f : Fire)
  /-- `LOOP`, R48. -/
  | loop (f : Fire)
  /-- `END`, R49. -/
  | endStep (f : Fire)
  /-- `COURSE_MARK_EMIT`, R168. -/
  | courseMarkEmit (x : Fin 28) (y : Fin 24) (w : Fin 32)
  /-- `WORKER_FLIP`, R168. -/
  | workerFlip (x : Fin 28) (y : Fin 24) (w : FlipOf)
  /-- `SWITCH_FLIP`, R169. -/
  | switchFlip (x : Fin 28) (y : Fin 24) (net : Net)
  /-- `COURSE_MARK_MISMATCH`, R172. -/
  | courseMarkMismatch (x : Fin 28) (y : Fin 24) (net : Net) (inp : Fin 132)
  /-- `ROUTE_GROUP_FIRE`, R122. -/
  | routeGroupFire (x : Fin 28) (y : Fin 24) (net : Net) (inp : Fin 68)
  /-- `STATIC_LINK_CHECK_FAIL`, R118. -/
  | staticLinkCheckFail (x : Fin 28) (y : Fin 24) (net : Net) (dir : Fin 4) (back : Fin 16) (sent : LinkResend)
  /-- `CROSSING_WANDER`, R117. -/
  | crossingWander (r : Fin 42) (side : Fin 4) (words : Nat) (c : Fin 16)
  /-- `STREAM_SLOT`, R235. -/
  | streamSlot (ch : Fin 2048) (k : Nat)
  /-- `MAINTENANCE_SLOT`, R231. -/
  | maintenanceSlot (ch : Fin 2048) (k : Nat) (use : Maint)
  /-- `RAFTER_INJECT`, R235. -/
  | rafterInject (ch : Fin 2048) (good : Bool)
  /-- `REREAD_VERDICT`, R243. -/
  | rereadVerdict (ch : Fin 2048) (entry : Fin 2) (good : Bool)
  /-- `DROP_ARRIVAL`, R241. -/
  | dropArrival (x : Fin 28) (y : Fin 24) (rsel : Fin 4) (lane : Fin 4) (got : DropCheck)
  /-- `REPAIR_ANSWER`, R244. -/
  | repairAnswer (x : Fin 28) (y : Fin 24) (late : Nat)
  /-- `RAFTER_LANE_TEST`, R247. -/
  | rafterLaneTest (seg : Fin 8) (rafter : Fin 14) (lane : Fin 4) (faulty : List WireFault)
  /-- `PATROL_SCRUB_READ`, R248. -/
  | patrolScrubRead (ch : Fin 2048) (bad : List (Fin 16))
  /-- `CMEM_REFRESH`, R317. -/
  | cmemRefresh (x : Fin 28) (y : Fin 24) (bank : Fin 16) (row : Fin 768) (found : RowRefresh)
  /-- `RDREQ_PACKET`, R258. -/
  | rdreqPacket (p : CheckedRead)
  /-- `WR_PACKET`, R264. -/
  | wrPacket (p : Packet)
  /-- `RDRSP_PACKET`, R258. -/
  | rdrspPacket (p : Packet)
  /-- `ACK_PACKET`, R264. -/
  | ackPacket (p : Packet)
  /-- `NACK_PACKET`, R265. -/
  | nackPacket (p : Packet)
  /-- `SEND_PACKET`, R277. -/
  | sendPacket (p : Packet)
  /-- `CREDIT_PACKET`, R278. -/
  | creditPacket (p : Packet)
  /-- `SIG_PACKET`, R283. -/
  | sigPacket (p : Packet)
  /-- `SIGACK_PACKET`, R283. -/
  | sigackPacket (p : Packet)
  /-- `RIDGE_PACKET`, R186. -/
  | ridgePacket (p : Packet)
  /-- `MGMT_PACKET`, R273. -/
  | mgmtPacket (p : Packet) (c : Fin 16) (delays : Nat)
  /-- `FAULT_PACKET`, R331. -/
  | faultPacket (unit : Fin 50)
  /-- `PACKET_AGE_DROP`, R267. The router by the X and Y of the endpoints that attach to it (R255). -/
  | packetAgeDrop (x : Fin 32) (y : Fin 32) (p : Packet)
  /-- `MESH_LINK_CHECK_FAIL`, R262. -/
  | meshLinkCheckFail (x : Fin 28) (y : Fin 24) (f : MeshResend)
  /-- `WINDOW_TIMEOUT`, R266. -/
  | windowTimeout (ep : BitVec 16) (flow : BitVec 6)
  /-- `OPEN_RETRY`, R264. -/
  | openRetry (ep : BitVec 16) (flow : BitVec 6)
  /-- `MULTICAST_ACK_TIMEOUT`, R272. -/
  | multicastAckTimeout (c : Fin 16)
  /-- `DESCRIPTOR_START`, R295. -/
  | descriptorStart (c : Fin 80)
  /-- `DMA_TRANSFER_ERROR`, R299. -/
  | dmaTransferError (c : Fin 80) (cause : DmaErr) (done : Nat)
  /-- `DESCRIPTOR_COMPLETE`, R298. -/
  | descriptorComplete (c : Fin 80)
  /-- `PORT_TRAINING`, R365. -/
  | portTraining (p : Fin 6) (r : TrainResult)
  /-- `IDLE_BLOCK`, R364. -/
  | idleBlock (p : Fin 6) (b : Block)
  /-- `PACKET_BLOCK`, R374. -/
  | packetBlock (p : Fin 6) (b : Block) (good : Bool)
  /-- `STREAM_BLOCK`, R374. -/
  | streamBlock (p : Fin 6) (b : Block) (good : Bool)
  /-- `CREDIT_RECORD`, R363. -/
  | creditRecord (p : Fin 6) (v : BitVec 64)
  /-- `RESEND_RECORD`, R364. -/
  | resendRecord (p : Fin 6) (v : BitVec 64) (late : Nat)
  /-- `SPARE_RECORD`, R368. -/
  | spareRecord (p : Fin 6) (v : BitVec 64)
  /-- `SPAREACK_RECORD`, R368. -/
  | spareackRecord (p : Fin 6) (v : BitVec 64)
  /-- `IDENT_RECORD`, R365. -/
  | identRecord (p : Fin 6) (v : BitVec 64)
  /-- `DOWN_RECORD`, R366. -/
  | downRecord (p : Fin 6) (v : BitVec 64)
  /-- `LANE_FAULT`, R368. -/
  | laneFault (p : Fin 6) (lane : Fin 16) (fibre : Bool)
  /-- `LOSS_OF_LIGHT`, R366. -/
  | lossOfLight (p : Fin 6)
  /-- `PORT_SILENT`, R366. -/
  | portSilent (p : Fin 6)
  /-- `MIRROR_WAIT_TIMEOUT`, R381. -/
  | mirrorWaitTimeout (c : Fin 16)
  /-- `SOFT_START`, R468. -/
  | softStart (mv : Nat)
  /-- `INPUT_SWITCH_CLOSE`, R468. -/
  | inputSwitchClose
  /-- `HOUSEKEEPING_SLICE`, R307. -/
  | housekeepingSlice (px : Fin 35) (py : Fin 24) (pass : Bool)
  /-- `RETURN_WIPE_COMPLETE`, R437. -/
  | returnWipeComplete
  /-- `IDE_INTEGRITY_FAILURE`, R442. -/
  | ideIntegrityFailure
  deriving DecidableEq, Repr

end Sys2Proof
end

