-- ==== Sys2Proof/Config.lean ====
section
/-! DEFINITION. What the manual leaves open: the free values and the byte layouts it does not give. A claim about the machine holds whatever
these constants are. -/

namespace Sys2Proof

/-- The n-th free value of a run: a bit vector that nothing constrains (assumption 10). A command that needs a value the manual
does not state takes `freeBits w` of the counter `State.free` and advances the counter. No body: nothing can compute it. -/
opaque Config.freeBits (w : Nat) : Nat → BitVec w

/-- The mask that a compare of packed elements writes, from its operation code, its `VFMT` code and its two operands: 64 elements, for which the
manual states no 32-bit mask (R52; assumption 10). -/
opaque Config.packedCompare : Nat → Nat → List Word → List Word → Word

/-- The SHA-512 of the boot ROM, whose contents the manual does not give (R441; assumption 10). -/
opaque Config.bootRomHash : BitVec 512

/-- The byte string of the fuse map and the field defect record that `FUSE_HASH` hashes; the manual does not give its layout (R333; assumption 10). -/
opaque Config.fuseBytes : List Nat → List (BitVec 64) → List Byte

/-- The 16 bytes of measurement 5 from the values that it covers; the manual does not give their layout (R441; assumption 10). -/
opaque Config.lifeBytes : List Nat → BitVec 128

/-- Sundienik's PCI-SIG vendor number, which the module label gives and the spec does not (R388; assumption 111). -/
opaque Config.vendorId : BitVec 16

/-- The kernel of the scout image that runs so many cycles into a suite (R309, R335; assumption 114). -/
opaque Config.scoutKernel : Nat → BitVec 5

/-- What the scout runs of a physical comb have left in its scout scratch: comb, runs so far, offset (R308; assumption 114). -/
opaque Config.scoutByte : Nat → Nat → Nat → Byte

/-- The serial number of the module, which no rule gives (R434; assumption 10). -/
opaque Config.serial : BitVec 512

end Sys2Proof
end

