-- ==== Sys2Proof/Machine/Bits.lean ====
section
/-! DEFINITION. Bit fields, byte strings and lists: the small helpers that every layout of the manual uses. -/

namespace Sys2Proof.Machine

/-- Bits [lo + w - 1 : lo] of a number (a field of a layout). -/
def fld (n lo w : Nat) : Nat := (n >>> lo) % 2 ^ w

/-- One bit of a number. -/
def bit (n i : Nat) : Bool := (n >>> i) % 2 == 1

/-- A Bool as the bit a register shows. -/
def b2n (b : Bool) : Nat := if b then 1 else 0

/-- The number `n` with `w` bits from `lo` on replaced by `v`. -/
def setFld (n lo w v : Nat) : Nat :=
  n - (fld n lo w <<< lo) + ((v % 2 ^ w) <<< lo)

/-- The number of ones among the low `w` bits. -/
def ones (n : Nat) : Nat → Nat
  | 0 => 0
  | w + 1 => ones n w + b2n (bit n w)

/-- The value of a byte string, little-endian (the manual's convention for memory, images and records). -/
def ofLe : List Byte → Nat
  | [] => 0
  | b :: r => b.toNat + 256 * ofLe r

/-- The value of a byte string, big-endian (signatures and keys, R158). -/
def ofBe (l : List Byte) : Nat := l.foldl (fun a b => a * 256 + b.toNat) 0

/-- `k` bytes of a number, little-endian. -/
def toLe : Nat → Nat → List Byte
  | 0, _ => []
  | k + 1, n => BitVec.ofNat 8 n :: toLe k (n / 256)

/-- `k` bytes of a number, big-endian. -/
def toBe (k n : Nat) : List Byte := (toLe k n).reverse

/-- `k` bytes of a string from offset `o`, as they stand (short at the end of the string). -/
def slice (l : List Byte) (o k : Nat) : List Byte := (l.drop o).take k

/-- A little-endian field of a byte string. -/
def leAt (l : List Byte) (o k : Nat) : Nat := ofLe (slice l o k)

/-- `l` filled with zero bytes up to length `k`. -/
def padTo (k : Nat) (l : List Byte) : List Byte := l ++ List.replicate (k - l.length) 0

/-- Signed value of the low `w` bits of a number. -/
def sext (w n : Nat) : Int :=
  let v := n % 2 ^ w
  if w ≠ 0 ∧ 2 ^ (w - 1) ≤ v then (v : Int) - 2 ^ w else v

/-- Word `i` of a list of words, 0 outside it. -/
def wordAt (l : List Word) (i : Nat) : Word := l.getD i 0

/-- A sparse table: the first entry of a key counts, and a key without an entry has the value `d`. -/
def tget {α : Type} (d : α) : List (Nat × α) → Nat → α
  | [], _ => d
  | (k, v) :: r, i => if k = i then v else tget d r i

/-- Writes one entry of a sparse table. -/
def tset {α : Type} (t : List (Nat × α)) (i : Nat) (v : α) : List (Nat × α) :=
  (i, v) :: t.filter (fun e => e.1 != i)

/-- Removes the entries whose key satisfies `p`. -/
def tdrop {α : Type} (t : List (Nat × α)) (p : Nat → Bool) : List (Nat × α) :=
  t.filter (fun e => !p e.1)

/-- Replaces the first element that satisfies `p`. -/
def replFirst {α : Type} (p : α → Bool) (f : α → α) : List α → List α
  | [] => []
  | a :: r => if p a then f a :: r else a :: replFirst p f r

/-- Removes the first element that satisfies `p`. -/
def dropFirst {α : Type} (p : α → Bool) : List α → List α
  | [] => []
  | a :: r => if p a then r else a :: dropFirst p r

/-- A sequence number counted up by one: 16 bits, modular (R9). -/
def seqNext (n : Nat) : Nat := (n + 1) % 65536

/-- `a` is later than `b` (R11). -/
def seqLater (a b : Nat) : Bool :=
  let d := (a + 65536 - b % 65536) % 65536
  1 ≤ d && d ≤ 32767

end Sys2Proof.Machine
end

