-- ==== Sys2Proof/Machine/PciConfig.lean ====
section
/-! DEFINITION. The PCI configuration identity of the functions, and the hive addresses behind BAR0 (R1, R385, R388 to R390, R459). -/

namespace Sys2Proof.Machine

/-! ### Identity (R1, R388) -/

/-- A base address register: its size in bytes, and whether it is 64 bits wide and prefetchable. -/
structure BarInfo where
  bytes : Nat
  wide : Bool
  prefetch : Bool
  deriving DecidableEq, Repr

/-- What configuration space says of a function. -/
structure PciIdent where
  vendor : BitVec 16
  device : BitVec 16
  revision : Byte
  classCode : BitVec 24
  subVendor : BitVec 16
  subSystem : BitVec 16
  bar0 : BarInfo
  bar2 : BarInfo
  deriving DecidableEq, Repr

/-- The identity of a function, 0 the physical one (R388). Sundienik's vendor number stands on the module label, not in the spec (assumption 111). -/
def pciIdent (f : Nat) : PciIdent :=
  { vendor := Config.vendorId, device := if f = 0 then 0x5A42 else 0x5A43, revision := 0xB0, classCode := 0x120000
    subVendor := Config.vendorId, subSystem := 0x0042
    bar0 := ⟨if f = 0 then 2 ^ 24 else 2 ^ 16, true, false⟩, bar2 := ⟨2 ^ 36, true, true⟩ }

/-- The dwords of a configuration header that hold the identity (the header of PCI Express; assumption 111); every other dword is the link's. -/
def pciDword (f d : Nat) : Option Nat :=
  let p := pciIdent f
  match d with
  | 0 => some (p.vendor.toNat + p.device.toNat * 2 ^ 16)
  | 2 => some (p.revision.toNat + p.classCode.toNat * 2 ^ 8)
  | 11 => some (p.subVendor.toNat + p.subSystem.toNat * 2 ^ 16)
  | _ => none

/-- The SR-IOV capability: TotalVFs, First VF Offset, VF Stride (R385). -/
def sriov : Nat × Nat × Nat := (15, 1, 1)

/-- The routing number of a function's requester, counted from the physical function's (R385). -/
def vfOffset (f : Nat) : Nat := if f = 0 then 0 else sriov.2.1 + (f - 1) * sriov.2.2

/-! ### BAR0 (R389, R390, R459) -/

/-- A register-space address of a domain. -/
def rgAddr (dom off : Nat) : Nat := 3 * 2 ^ 60 + dom * 2 ^ 56 + off

/-- The hive address that an offset in a function's BAR0 reaches; none outside the BAR. A virtual function's BAR0 is its host block. -/
def bar0Addr (f o : Nat) : Option Nat :=
  if f ≠ 0 then (if o < 0x10000 then some (rgAddr 4 (f * 0x10000 + o)) else none)
  else if o < 0x100000 then some (rgAddr 4 o)
  else if o < 0x200000 then some (rgAddr 5 (o - 0x100000))
  else if o < 0x300000 then some (rgAddr 7 (o - 0x200000))
  else if o < 0x400000 then some (rgAddr 3 (o - 0x300000))
  else if o < 0x800000 then some (rgAddr 2 (o - 0x400000))
  else if o < 0xC00000 then some (rgAddr 5 (0x400000 + (o - 0x800000)))
  else if o < 0x1000000 then some (rgAddr 6 (o - 0xC00000))
  else none

/-- The regions of BAR0 that are read-only: telemetry, security and life cycle. -/
def bar0ReadOnly (f o : Nat) : Bool := f == 0 && decide (0x800000 ≤ o)

end Sys2Proof.Machine
end

