-- ==== Sys2Proof/Machine/Crc.lean ====
section
/-! DEFINITION. CRC-32C, the check of every image section, record and block (R138, R227). -/

namespace Sys2Proof.Machine

/-- Eight shifts of the reflected CRC-32C register (polynomial 0x1EDC_6F41, reflected 0x82F6_3B78). -/
def crcBits : Nat → BitVec 32 → BitVec 32
  | 0, c => c
  | k + 1, c => crcBits k (if c.getLsbD 0 then (c >>> 1) ^^^ 0x82F63B78#32 else c >>> 1)

/-- One byte into the register. -/
def crcByte (c : BitVec 32) (b : Byte) : BitVec 32 := crcBits 8 (c ^^^ b.setWidth 32)

/-- The bytes of a string into the register, one by one. The test changes nothing: it makes an evaluation finish each byte before the next. -/
def crcFrom : List Byte → BitVec 32 → BitVec 32
  | [], c => c
  | b :: r, c => if c = 0 then crcFrom r (crcByte 0 b) else crcFrom r (crcByte c b)

/-- CRC-32C of a byte string (R138: initial value and final exclusive-or 0xFFFF_FFFF). -/
def crc32c (l : List Byte) : BitVec 32 := crcFrom l 0xFFFFFFFF#32 ^^^ 0xFFFFFFFF#32

end Sys2Proof.Machine
end

