-- ==== Sys2Proof/Machine/Float.lean ====
section
/-! DEFINITION. Exact values of the floating-point formats, their encodings and the one rounding of every result
(R83 to R85, R99 to R102, R107, R108). -/

namespace Sys2Proof.Machine

/-- A value before rounding: NaN, an infinity, or (-1)^neg * m * 2^e exactly. -/
inductive FVal where
  | nan
  | inf (neg : Bool)
  | fin (neg : Bool) (m : Nat) (e : Int)
  deriving DecidableEq, Repr

/-- The rounding modes of R99. -/
inductive Round where
  | rne | sr | rtz
  deriving DecidableEq, Repr

/-- A floating-point element format (R83): `maxMag` is the encoding of the largest finite value without its sign, `nanEnc` the
canonical NaN of R85 and `infEnc` the encoding of +infinity. -/
structure Fmt where
  ebits : Nat
  fbits : Nat
  bias : Nat
  maxMag : Nat
  nanEnc : Option Nat
  infEnc : Option Nat
  deriving DecidableEq, Repr

def fp32 : Fmt := ⟨8, 23, 127, 0x7F7FFFFF, some 0x7FC00000, some 0x7F800000⟩
def fp64 : Fmt := ⟨11, 52, 1023, 0x7FEFFFFFFFFFFFFF, some 0x7FF8000000000000, some 0x7FF0000000000000⟩
def bf16 : Fmt := ⟨8, 7, 127, 0x7F7F, some 0x7FC0, some 0x7F80⟩
def fp16 : Fmt := ⟨5, 10, 15, 0x7BFF, some 0x7E00, some 0x7C00⟩
def e4m3 : Fmt := ⟨4, 3, 7, 0x7E, some 0x7F, none⟩
def e5m2 : Fmt := ⟨5, 2, 15, 0x7B, some 0x7E, some 0x7C⟩
def e3m2 : Fmt := ⟨3, 2, 3, 0x1F, none, none⟩
def e2m3 : Fmt := ⟨2, 3, 1, 0x1F, none, none⟩
def e2m1 : Fmt := ⟨2, 1, 1, 0x7, none, none⟩

/-- The width of a format in bits. -/
def Fmt.width (f : Fmt) : Nat := 1 + f.ebits + f.fbits

/-- The value of an encoding (R83). -/
def decodeF (f : Fmt) (n : Nat) : FVal :=
  let neg := bit n (f.ebits + f.fbits)
  let mag := n % 2 ^ (f.ebits + f.fbits)
  let ex := mag >>> f.fbits
  let fr := mag % 2 ^ f.fbits
  if f.maxMag < mag then
    if f.infEnc = some mag then .inf neg else .nan
  else if ex = 0 then .fin neg fr (1 - (f.bias : Int) - f.fbits)
  else .fin neg (2 ^ f.fbits + fr) ((ex : Int) - f.bias - f.fbits)

/-- `m * 2^e` as a whole multiple of `2^q`, rounded (R99, R101). `draw` is the 32-bit draw of a stochastic rounding. For a
negative value the lower neighbour is the one of larger magnitude. -/
def roundAt (mode : Round) (neg : Bool) (draw m : Nat) (e q : Int) : Nat :=
  if q ≤ e then m <<< (e - q).toNat
  else
    let sh := (q - e).toNat
    let k := m >>> sh
    let rem := m % 2 ^ sh
    if rem = 0 then k
    else match mode with
      | .rne => if 2 ^ (sh - 1) < rem || (rem == 2 ^ (sh - 1) && k % 2 == 1) then k + 1 else k
      | .rtz => k
      | .sr =>
        let u := ((if neg then 2 ^ sh - rem else rem) <<< 16) >>> sh
        if (fld draw 16 16 < u) != neg then k + 1 else k

/-- The magnitude encoding of `k * 2^q` where `2^qmin` is the unit of the format's smallest exponent. -/
def encMag (f : Fmt) (k : Nat) (q qmin : Int) : Nat :=
  if k = 0 then 0 else (q - qmin).toNat * 2 ^ f.fbits + k

/-- The encoding of a value rounded to a format. `conv` marks a conversion, which saturates; every other operation gives
infinity, or the largest finite value toward zero (R102). -/
def roundF (f : Fmt) (mode : Round) (conv : Bool) (draw : Nat) (v : FVal) : Nat :=
  let sign (neg : Bool) := b2n neg <<< (f.ebits + f.fbits)
  match v with
  | .nan => f.nanEnc.getD 0
  | .inf neg => sign neg + f.infEnc.getD f.maxMag
  | .fin neg m e =>
    if m = 0 then sign neg
    else
      let qmin : Int := 1 - (f.bias : Int) - f.fbits
      let q : Int := max ((Nat.log2 m : Int) + e - f.fbits) qmin
      let enc := encMag f (roundAt mode neg draw m e q) q qmin
      let kz := roundAt .rtz neg draw m e q
      let encz := encMag f kz q qmin
      let exact : Bool := decide (q ≤ e) || decide (m % 2 ^ (q - e).toNat = 0)
      let beyond := decide (f.maxMag < encz) || (encz == f.maxMag && !exact)
      if f.maxMag < enc || (mode == .sr && beyond) then
        if conv || mode == .rtz then sign neg + f.maxMag else sign neg + f.infEnc.getD f.maxMag
      else sign neg + enc

/-- A value rounded to an integer and saturated to `lo` .. `hi` (R99, R102). -/
def roundI (mode : Round) (draw : Nat) (lo hi : Int) : FVal → Int
  | .nan => 0
  | .inf neg => if neg then lo else hi
  | .fin neg m e =>
    let k := (roundAt mode neg draw m e 0 : Int)
    let x := if neg then -k else k
    max lo (min hi x)

/-- The exact value of an integer. -/
def fvInt (x : Int) : FVal := .fin (decide (x < 0)) x.natAbs 0

/-- Changes the sign. -/
def fvNeg : FVal → FVal
  | .nan => .nan
  | .inf n => .inf (!n)
  | .fin n m e => .fin (!n) m e

/-- Exact sum, with the special values and the zero signs of IEEE 754. -/
def fvAdd : FVal → FVal → FVal
  | .nan, _ => .nan
  | _, .nan => .nan
  | .inf a, .inf b => if a = b then .inf a else .nan
  | .inf a, _ => .inf a
  | _, .inf b => .inf b
  | .fin a m e, .fin b n g =>
    if m = 0 ∧ n = 0 then .fin (a && b) 0 0
    else
      let q := min e g
      let x : Int := (m <<< (e - q).toNat : Nat)
      let y : Int := (n <<< (g - q).toNat : Nat)
      let s := (if a then -x else x) + (if b then -y else y)
      .fin (decide (s < 0)) s.natAbs q

/-- Exact product (R95 names its special values). -/
def fvMul : FVal → FVal → FVal
  | .nan, _ => .nan
  | _, .nan => .nan
  | .inf a, .inf b => .inf (a != b)
  | .inf a, .fin b n _ => if n = 0 then .nan else .inf (a != b)
  | .fin a m _, .inf b => if m = 0 then .nan else .inf (a != b)
  | .fin a m e, .fin b n g => .fin (a != b) (m * n) (e + g)

/-- Exact value times a power of two (a block scale, R87). -/
def fvScale (k : Int) : FVal → FVal
  | .fin n m e => .fin n m (e + k)
  | v => v

/-- The magnitude. -/
def fvAbs : FVal → FVal
  | .nan => .nan
  | .inf _ => .inf false
  | .fin _ m e => .fin false m e

/-- Order of two values that are no NaN: -1, 0 or 1 as an Int. -/
def fvCmp : FVal → FVal → Int
  | .inf a, .inf b => if a = b then 0 else if a then -1 else 1
  | .inf a, _ => if a then -1 else 1
  | _, .inf b => if b then 1 else -1
  | .fin a m e, .fin b n g =>
    let q := min e g
    let x : Int := (m <<< (e - q).toNat : Nat)
    let y : Int := (n <<< (g - q).toNat : Nat)
    let d := (if a then -x else x) - (if b then -y else y)
    if d < 0 then -1 else if d = 0 then 0 else 1
  | _, _ => 0

def fvIsNan : FVal → Bool
  | .nan => true
  | _ => false

def fvIsFin : FVal → Bool
  | .fin _ _ _ => true
  | _ => false

def fvSign : FVal → Bool
  | .nan => false
  | .inf n => n
  | .fin n _ _ => n

/-- MIN and MAX of R108 on encodings: the operand that is no NaN, the canonical NaN when both are, -0 below +0. -/
def minMaxF (f : Fmt) (isMax : Bool) (a b : Nat) : Nat :=
  let x := decodeF f a
  let y := decodeF f b
  if fvIsNan x && fvIsNan y then f.nanEnc.getD 0
  else if fvIsNan x then b
  else if fvIsNan y then a
  else
    let c := fvCmp x y
    let aFirst : Bool := if c = 0 then fvSign x || !fvSign y else decide (c < 0)
    if aFirst != isMax then a else b

end Sys2Proof.Machine
end

