-- ==== Sys2Proof/Machine/Sfn.lean ====
section
/-! DEFINITION. The special functions of the vector unit (R110): each gives the exact value of its function to far more than the
bits that any rounding of R99 can see, with a last bit that marks an inexact value, so that the one rounding to FP32 is the
correct one. -/

namespace Sys2Proof.Machine

/-- Fraction bits of the fixed-point values. -/
def sfnBits : Nat := 400

/-- `2^sfnBits * ln 2`, by the series of 1 / (k * 2^k). -/
def ln2Sum : Nat → Nat
  | 0 => 0
  | k + 1 => ln2Sum k + 2 ^ sfnBits / ((k + 1) * 2 ^ (k + 1))

def ln2Fix : Nat := ln2Sum 420

/-- exp of a fixed-point `r` below 1, by its power series: `n` terms still to add, the next being number `i`. -/
def expSeries (r : Nat) : Nat → Nat → Nat → Nat → Nat
  | 0, _, _, acc => acc
  | n + 1, i, term, acc =>
    let t := ((term * r) >>> sfnBits) / i
    expSeries r n (i + 1) t (acc + t)

def expFix (r : Nat) : Nat := expSeries r 95 1 (2 ^ sfnBits) (2 ^ sfnBits)

/-- The sum of z^(2i+1) / (2i+1) for a fixed-point `z` of at most 1/3. -/
def atanhSeries (z2 : Nat) : Nat → Nat → Nat → Nat → Nat
  | 0, _, _, acc => acc
  | n + 1, i, p, acc =>
    let q := (p * z2) >>> sfnBits
    atanhSeries z2 n (i + 2) q (acc + q / (i + 2))

/-- The square root of a number, rounded down, found bit by bit. -/
def isqrtFrom (n : Nat) : Nat → Nat → Nat
  | 0, r => r
  | k + 1, r => let t := r + 2 ^ k; isqrtFrom n k (if t * t ≤ n then t else r)

def isqrt (n : Nat) : Nat := isqrtFrom n (Nat.log2 n / 2 + 1) 0

/-- A positive fixed-point mantissa with exponent, marked inexact. -/
def sticky (neg : Bool) (m : Nat) (e : Int) : FVal := .fin neg (2 * m + 1) (e - 1)

/-- A value just below 2^0, of magnitude 1 - 2^-64 (the limit of tanh and sigmoid). -/
def justBelowOne (neg : Bool) : FVal := .fin neg (2 ^ 64 - 1) (-64)

/-- x = m * 2^e (signed) as a fixed-point Int. -/
def toFix (neg : Bool) (m : Nat) (e : Int) : Int :=
  let k := e + sfnBits
  let a : Int := if 0 ≤ k then (m <<< k.toNat : Nat) else (m >>> (-k).toNat : Nat)
  if neg then -a else a

/-- exp of a finite x with |x| below 512, as a mantissa of `sfnBits` fraction bits and an exponent. -/
def expParts (x : Int) : Nat × Int :=
  let k := x / (ln2Fix : Int)
  (expFix (x - k * ln2Fix).toNat, k)

/-- `|x|` is at least 2^b. -/
def atLeast (m : Nat) (e : Int) (b : Int) : Bool := decide (m ≠ 0) && decide (b ≤ (Nat.log2 m : Int) + e)

def sfnRecip : FVal → FVal
  | .nan => .nan
  | .inf n => .fin n 0 0
  | .fin n m e =>
    if m = 0 then .inf n
    else
      let k := Nat.log2 m + 64
      let q := 2 ^ k / m
      .fin n (2 * q + b2n (decide (2 ^ k % m ≠ 0))) (-e - k - 1)

def sfnSqrt : FVal → FVal
  | .nan => .nan
  | .inf n => if n then .nan else .inf false
  | .fin n m e =>
    if m = 0 then .fin n 0 0
    else if n then .nan
    else
      let m' := if e % 2 = 0 then m else 2 * m
      let e' := if e % 2 = 0 then e else e - 1
      let v := m' <<< 128
      let r := isqrt v
      .fin false (2 * r + b2n (decide (r * r ≠ v))) ((e' - 128) / 2 - 1)

def sfnRsqrt : FVal → FVal
  | .nan => .nan
  | .inf n => if n then .nan else .fin false 0 0
  | .fin n m e =>
    if m = 0 then .inf n
    else if n then .nan
    else
      let m' := if e % 2 = 0 then m else 2 * m
      let e' := if e % 2 = 0 then e else e - 1
      let r := isqrt (2 ^ 256 / m')
      .fin false (2 * r + b2n (decide (r * r * m' ≠ 2 ^ 256))) (-(e' / 2) - 128 - 1)

def sfnExp : FVal → FVal
  | .nan => .nan
  | .inf n => if n then .fin false 0 0 else .inf false
  | .fin n m e =>
    if m = 0 then .fin false 1 0
    else if atLeast m e 9 then (if n then .fin false 1 (-1000) else .fin false 1 1000)
    else
      let (y, k) := expParts (toFix n m e)
      sticky false y (k - sfnBits)

def sfnExp2 : FVal → FVal
  | .nan => .nan
  | .inf n => if n then .fin false 0 0 else .inf false
  | .fin n m e =>
    if m = 0 then .fin false 1 0
    else if atLeast m e 9 then (if n then .fin false 1 (-1000) else .fin false 1 1000)
    else
      let x := toFix n m e
      let k := x / (2 ^ sfnBits : Nat)
      let fr := (x - k * (2 ^ sfnBits : Nat)).toNat
      if fr = 0 then .fin false 1 k
      else sticky false (expFix ((fr * ln2Fix) >>> sfnBits)) (k - sfnBits)

def sfnLog2 : FVal → FVal
  | .nan => .nan
  | .inf n => if n then .nan else .inf false
  | .fin n m e =>
    if m = 0 then .inf true
    else if n then .nan
    else
      let l := Nat.log2 m
      let i : Int := e + l
      if m = 2 ^ l then fvInt i
      else
        let z := ((m - 2 ^ l) <<< sfnBits) / (m + 2 ^ l)
        let a := atanhSeries ((z * z) >>> sfnBits) 130 1 z z
        let fr := ((2 * a) <<< sfnBits) / ln2Fix
        let v : Int := 2 * (i * (2 ^ sfnBits : Nat) + fr) + 1
        .fin (decide (v < 0)) v.natAbs (-(sfnBits : Int) - 1)

def sfnTanh : FVal → FVal
  | .nan => .nan
  | .inf n => .fin n 1 0
  | .fin n m e =>
    if m = 0 then .fin n 0 0
    else if !atLeast m e (-30) then .fin n (m * 2 ^ 64 - 1) (e - 64)
    else if atLeast m e 6 then justBelowOne n
    else
      let (y, k) := expParts (toFix true (2 * m) e)
      let t := y >>> (-k).toNat
      sticky n (((2 ^ sfnBits - t) <<< sfnBits) / (2 ^ sfnBits + t)) (-(sfnBits : Int))

def sfnSigmoid : FVal → FVal
  | .nan => .nan
  | .inf n => if n then .fin false 0 0 else .fin false 1 0
  | .fin n m e =>
    if m = 0 then .fin false 1 (-1)
    else if !n && atLeast m e 8 then justBelowOne false
    else if atLeast m e 9 then .fin false 1 (-1000)
    else
      let (y, k) := expParts (toFix true m e)
      let t := y >>> (-k).toNat
      if n then sticky false ((y <<< sfnBits) / (2 ^ sfnBits + t)) (k - sfnBits)
      else sticky false (2 ^ (2 * sfnBits) / (2 ^ sfnBits + t)) (-(sfnBits : Int))

/-- The function that the `SFN` field names (R51). -/
def sfnVal (code : Nat) (v : FVal) : FVal :=
  match code with
  | 0 => sfnExp2 v
  | 1 => sfnLog2 v
  | 2 => sfnRecip v
  | 3 => sfnRsqrt v
  | 4 => sfnSqrt v
  | 5 => sfnExp v
  | 6 => sfnTanh v
  | _ => sfnSigmoid v

end Sys2Proof.Machine
end

