-- ==== Sys2Proof/Machine/Formats.lean ====
section
/-! DEFINITION. The number formats as operands: block layouts, matrix operands, conversions, and the arithmetic of vector and
scalar lanes (R81 to R110). -/

namespace Sys2Proof.Machine

/-- The floating-point element format of a format code (R81), where the code names one. -/
def fmtOf : Nat → Option Fmt
  | 0x0 => some fp32
  | 0x1 => some bf16
  | 0x2 => some fp16
  | 0x3 => some e4m3
  | 0x4 => some e5m2
  | 0x6 => some e3m2
  | 0x7 => some e2m3
  | 0x8 => some e2m1
  | _ => none

/-- The rounding mode of a `ROUND` field (R99). -/
def roundOf : Nat → Round
  | 1 => .sr
  | 2 => .rtz
  | _ => .rne

/-- Element size in bytes of a matrix A format (R91). -/
def aBytes (af : Nat) : Nat := if af = 1 ∨ af = 2 then 2 else 1

/-- K per K-step (R65). -/
def kStep (bf : Nat) : Nat := if bf = 0xA then 4 else if bf = 8 ∨ bf = 9 then 2 else 1

/-- K per weight-buffer entry, which is also the group of R92. -/
def kEntry (bf : Nat) : Nat := if bf = 0xA then 80 else if bf = 1 ∨ bf = 2 then 16 else 32

/-- Bytes of one column of a weight-buffer entry (R90). -/
def blockL (bf : Nat) : Nat :=
  if bf = 0xA ∨ bf = 8 ∨ bf = 9 then 17 else if bf = 6 ∨ bf = 7 then 25 else 32

/-- A format with a shared block scale (R87). -/
def scaled (f : Nat) : Bool := f == 6 || f == 7 || f == 8 || f == 9 || f == 0xA

/-- The pairs of R92. -/
def pairOk (bf af : Nat) : Bool :=
  if bf = 0xA ∨ bf = 6 ∨ bf = 7 ∨ bf = 8 ∨ bf = 9 then af == 5 || af == 3 || af == 4
  else if bf = 3 ∨ bf = 4 then af == 3 || af == 4
  else if bf = 5 then af == 5
  else (bf == 1 && af == 1) || (bf == 2 && af == 2)

/-- The tile type of a pair: INT32 for INT8 by INT8, FP32 otherwise (R92). -/
def pairInt (bf : Nat) : Bool := bf == 5

/-- Trit `i` of a TN byte (R88); a byte of 243 to 255 decodes as zeros (R89). -/
def trit (v i : Nat) : Int := if 243 ≤ v then 0 else ((v / 3 ^ i % 3 : Nat) : Int) - 1

/-- The scale byte of a block (R87), 127 (a scale of 1) for a format without one. -/
def scaleByte (bf blk : Nat) : Nat := if scaled bf then fld blk (8 * (blockL bf - 1)) 8 else 127

/-- Element `j` of a block before its scale (R86, R87, R90). -/
def blockElem (bf blk j : Nat) : FVal :=
  if scaled bf && scaleByte bf blk == 255 then .nan
  else match bf with
    | 0xA => fvInt (trit (fld blk (8 * (j / 5)) 8) (j % 5))
    | 9 => fvInt (sext 4 (fld blk (4 * j) 4))
    | 8 => decodeF e2m1 (fld blk (4 * j) 4)
    | 7 => decodeF e2m3 (fld blk (6 * j) 6)
    | 6 => decodeF e3m2 (fld blk (6 * j) 6)
    | 5 => fvInt (sext 8 (fld blk (8 * j) 8))
    | 4 => decodeF e5m2 (fld blk (8 * j) 8)
    | 3 => decodeF e4m3 (fld blk (8 * j) 8)
    | 2 => decodeF fp16 (fld blk (16 * j) 16)
    | _ => decodeF bf16 (fld blk (16 * j) 16)

/-- The value of a matrix A element. -/
def aElem (af n : Nat) : FVal :=
  match af with
  | 5 => fvInt (sext 8 n)
  | 4 => decodeF e5m2 n
  | 3 => decodeF e4m3 n
  | 2 => decodeF fp16 n
  | _ => decodeF bf16 n

/-- Element j (counted over the whole operation) of row m of operand A, from the words of its K-steps (R91). -/
def aAt (af bf : Nat) (aw : List Nat) (m j : Nat) : FVal :=
  let e := kStep bf
  let s := aBytes af
  aElem af (fld (aw.getD (j / e) 0) (8 * ((m * e + j % e) * s)) (8 * s))

/-- Column n of a weight-buffer entry as one block. -/
def column (bf entry n : Nat) : Nat := fld entry (8 * (n * blockL bf)) (8 * blockL bf)

/-- Exact sum of a list of values, from +0. -/
def fvSum (l : List FVal) : FVal := match l with
  | [] => .fin false 0 0
  | a :: r => r.foldl fvAdd a

/-- The sum of one group for one element of the tile, before its block scale (R93, R95): elements `pos` to `pos + g - 1` of
column n, against row m from element `off` of A. `ent i` is the entry as element `i` of the group reads it. -/
def groupProduct (af bf : Nat) (aw : List Nat) (ent : Nat → Nat) (m n off pos g : Nat) : FVal :=
  fvSum ((List.range g).map fun i => fvMul (aAt af bf aw m (off + i)) (blockElem bf (column bf (ent i) n) (pos + i)))

/-- The same with the block's scale, which the group's first element reads (R93). -/
def groupSum (af bf : Nat) (aw : List Nat) (ent : Nat → Nat) (m n off pos g : Nat) : FVal :=
  fvScale ((scaleByte bf (column bf (ent 0) n) : Int) - 127) (groupProduct af bf aw ent m n off pos g)

/-- A value as the sum lane holds it: in binary64 for an FP32 tile, as an integer for an INT32 tile (R66). -/
def laneVal (int : Bool) (v : FVal) : FVal := if int then v else decodeF fp64 (roundF fp64 .rne false 0 v)

/-- A running sum of the sum lane, from the first value on (R66; assumption 13). -/
def laneSum (int : Bool) (l : List FVal) : FVal := l.foldl (fun a v => laneVal int (fvAdd a v)) (.fin false 0 0)

/-- An FP32 value of an accumulator or lane. -/
def f32 (w : Word) : FVal := decodeF fp32 w.toNat

/-- A value rounded to FP32 as arithmetic rounds it, to nearest with ties to even. -/
def toF32 (v : FVal) : Word := BitVec.ofNat 32 (roundF fp32 .rne false 0 v)

/-- A value of an integer accumulator plus an exact integer, modulo 2^32. -/
def addInt (w : Word) (v : FVal) : Word :=
  match v with
  | .fin neg m e => w + BitVec.ofInt 32 (let k : Int := (roundAt .rtz neg 0 m e 0 : Nat); if neg then -k else k)
  | _ => w

/-- One accumulator update (R93). -/
def accAdd (int : Bool) (c : Word) (v : FVal) : Word := if int then addInt c v else toF32 (fvAdd (f32 c) v)

/-- DRAIN: one accumulator value in `OFMT` (R106), and the width of the element in bits. -/
def drainElem (int : Bool) (ofmt : Nat) (mode : Round) (draw : Nat) (c : Word) : Nat :=
  let v := if int then fvInt c.toInt else f32 c
  match ofmt with
  | 0x5 => ((BitVec.ofInt 8 (roundI mode draw (-128) 127 v)).toNat)
  | 0xB => ((BitVec.ofInt 32 (roundI mode draw (-2147483648) 2147483647 v)).toNat)
  | f => match fmtOf f with
    | some fm => roundF fm mode true draw v
    | none => 0

/-- Element width in bits of a DRAIN output or the packed side of a CVT (R104). -/
def packBits (f : Nat) : Nat :=
  match f with
  | 0x0 => 32
  | 0xB => 32
  | 0x1 => 16
  | 0x2 => 16
  | _ => 8

/-- Packs elements of width `w` from bit 0. -/
def packEls (w : Nat) : List Nat → Nat
  | [] => 0
  | x :: r => x % 2 ^ w + (packEls w r <<< w)

/-- A number as `k` lanes of 32 bits, lane 0 in the low bits. -/
def toLanes (k n : Nat) : List Word := (List.range k).map fun i => BitVec.ofNat 32 (fld n (32 * i) 32)

/-- Lanes as one number. -/
def ofLanes (l : List Word) : Nat := packEls 32 (l.map (·.toNat))

/-- The block-scaled element formats that CVT accepts: their largest power-of-two exponent (R105). -/
def blockQ (f : Nat) : Int := if f = 6 then 4 else 2

/-- Quantises 32 values as one block (R105); `draws` are the 32 draws in element order. -/
def quantise (f : Nat) (mode : Round) (draws : List Nat) (vals : List FVal) : Nat :=
  let eb := if f = 6 ∨ f = 7 then 6 else 4
  if vals.any fvIsNan then 255 <<< (eb * 32)
  else
    let exps := vals.filterMap fun v => match v with
      | .fin _ m e => if m = 0 then none else some ((Nat.log2 m : Int) + e)
      | _ => none
    let sexp : Int := match exps with
      | [] => 0
      | x :: r => max (-127) (min 127 (r.foldl max x - blockQ f))
    let els := (List.range 32).map fun i =>
      let v := fvScale (-sexp) (vals.getD i (.fin false 0 0))
      let d := draws.getD i 0
      match f with
      | 9 => (BitVec.ofInt 4 (roundI mode d (-8) 7 v)).toNat
      | 8 => roundF e2m1 mode true d v
      | 7 => roundF e2m3 mode true d v
      | _ => roundF e3m2 mode true d v
    packEls eb els + ((sexp + 127).toNat <<< (eb * 32))

/-- CVT of 32 elements: source format `src`, destination format `dst`, the source's 32 lanes (R103 to R105). -/
def cvt (src dst : Nat) (mode : Round) (draws : List Nat) (a : List Word) : List Word :=
  let n := ofLanes a
  let wide (f : Nat) : Bool := f == 0 || f == 0xB
  -- the 32 source values
  let vals : List FVal := (List.range 32).map fun i =>
    if src = 0 then f32 (wordAt a i)
    else if src = 0xB then fvInt (wordAt a i).toInt
    else if scaled src then
      let blk := fld n 0 (8 * blockL src)
      fvScale ((scaleByte src blk : Int) - 127) (blockElem src blk i)
    else if src = 5 then fvInt (sext 8 (fld n (8 * i) 8))
    else match fmtOf src with
      | some fm => decodeF fm (fld n (packBits src * i) (packBits src))
      | none => .nan
  let d (i : Nat) := draws.getD i 0
  let el (i : Nat) : FVal := vals.getD i (.fin false 0 0)
  if wide dst then
    (List.range 32).map fun i =>
      if dst = 0 then BitVec.ofNat 32 (roundF fp32 mode true (d i) (el i))
      else BitVec.ofInt 32 (roundI mode (d i) (-2147483648) 2147483647 (el i))
  else if scaled dst then toLanes 32 (quantise dst mode draws vals)
  else if dst = 5 then
    toLanes 32 (packEls 8 ((List.range 32).map fun i => (BitVec.ofInt 8 (roundI mode (d i) (-128) 127 (el i))).toNat))
  else match fmtOf dst with
    | some fm => toLanes 32 (packEls (packBits dst) ((List.range 32).map fun i => roundF fm mode true (d i) (el i)))
    | none => toLanes 32 0

/-- The pairs that CVT accepts (R103). -/
def cvtOk (src dst : Nat) : Bool :=
  let other (f : Nat) : Bool := f == 1 || f == 2 || f == 3 || f == 4 || f == 5 || f == 6 || f == 7 || f == 8 || f == 9 || f == 0xB
  (src == 0 && other dst) || (dst == 0 && other src) || (src == 0xB && dst == 5) || (src == 5 && dst == 0xB)

/-! ### Lanes of the vector unit -/

/-- The element formats of `VFMT` (R51). -/
inductive VF where
  | f32 | i32 | pbf | pfp
  deriving DecidableEq, Repr

def vfOf : Nat → VF
  | 0 => .f32
  | 1 => .i32
  | 2 => .pbf
  | _ => .pfp

/-- The float format of a lane element. -/
def vfFmt : VF → Fmt
  | .pbf => bf16
  | .pfp => fp16
  | _ => fp32

def vfPacked : VF → Bool
  | .pbf => true
  | .pfp => true
  | _ => false

/-- Applies a function of element index and elements to every element of a lane; a packed lane holds elements 2i (low half) and
2i + 1 (R101). -/
def laneMap (vf : VF) (i : Nat) (f : Nat → Nat → Nat → Nat → Nat) (a b c : Word) : Word :=
  if vfPacked vf then
    let lo := f (2 * i) (fld a.toNat 0 16) (fld b.toNat 0 16) (fld c.toNat 0 16)
    let hi := f (2 * i + 1) (fld a.toNat 16 16) (fld b.toNat 16 16) (fld c.toNat 16 16)
    BitVec.ofNat 32 (lo % 65536 + (hi % 65536) * 65536)
  else BitVec.ofNat 32 (f i a.toNat b.toNat c.toNat)

/-- The floating-point lane-wise operations 0x01 to 0x09 on encodings (R52, R107, R108). -/
def floatOp (op : Nat) (fm : Fmt) (mode : Round) (draw a b c : Nat) : Nat :=
  let x := decodeF fm a
  let y := decodeF fm b
  let z := decodeF fm c
  let rd := roundF fm mode false draw
  match op with
  | 1 => rd (fvAdd x y)
  | 2 => rd (fvAdd x (fvNeg y))
  | 3 => rd (fvMul x y)
  | 4 => rd (fvAdd (fvMul x y) z)
  | 5 => rd (fvAdd (fvMul x y) (fvNeg z))
  | 6 => minMaxF fm false a b
  | 7 => minMaxF fm true a b
  | 8 => a % 2 ^ (fm.width - 1)
  | _ => if bit a (fm.width - 1) then a % 2 ^ (fm.width - 1) else a + 2 ^ (fm.width - 1)

/-- The INT32 form of 0x01 to 0x09 and the integer operations 0x10 to 0x1A; arithmetic wraps (R52, R107). -/
def intOp (op : Nat) (a b c : Word) : Word :=
  match op with
  | 1 => a + b
  | 2 => a - b
  | 3 => a * b
  | 4 => a * b + c
  | 5 => a * b - c
  | 6 => if a.slt b then a else b
  | 7 => if a.slt b then b else a
  | 8 => if a.slt 0 then -a else a
  | 9 => -a
  | 0x10 => a + b
  | 0x11 => a - b
  | 0x12 => a * b
  | 0x13 => if a.slt b then a else b
  | 0x14 => if a.slt b then b else a
  | 0x15 => a &&& b
  | 0x16 => a ||| b
  | 0x17 => a ^^^ b
  | 0x18 => a <<< (b.toNat % 32)
  | 0x19 => a >>> (b.toNat % 32)
  | _ => a.sshiftRight (b.toNat % 32)

/-- The compares 0x20 to 0x25 (R52, R108): EQ, NE, LT, LE, GT, GE. -/
def cmpOp (op : Nat) (lt eq nan : Bool) : Bool :=
  match op with
  | 0x20 => eq && !nan
  | 0x21 => !eq || nan
  | 0x22 => lt && !nan
  | 0x23 => (lt || eq) && !nan
  | 0x24 => !(lt || eq) && !nan
  | _ => !lt && !nan

def cmpFloat (op : Nat) (fm : Fmt) (a b : Nat) : Bool :=
  let x := decodeF fm a
  let y := decodeF fm b
  let c := fvCmp x y
  cmpOp op (decide (c < 0)) (decide (c = 0)) (fvIsNan x || fvIsNan y)

def cmpInt (op : Nat) (a b : Word) : Bool := cmpOp op (a.slt b) (decide (a = b)) false

/-! ### The rounding generator -/

/-- One draw of the xorshift generator (R100). -/
def rngDraw (g : List Word) : Word × List Word :=
  let w0 := wordAt g 0
  let w3 := wordAt g 3
  let t := w0 ^^^ (w0 <<< 11)
  let n := w3 ^^^ (w3 >>> 19) ^^^ t ^^^ (t >>> 8)
  (n, [wordAt g 1, wordAt g 2, w3, n])

/-- `k` draws in order. -/
def rngDraws : Nat → List Word → List Nat × List Word
  | 0, g => ([], g)
  | k + 1, g =>
    let d := rngDraw g
    let r := rngDraws k d.2
    (d.1.toNat :: r.1, r.2)

/-- The draws of an operation of `k` elements: none is taken unless the mode is stochastic (R101). -/
def drawsFor (mode : Round) (k : Nat) (g : List Word) : List Nat × List Word :=
  if mode = .sr then rngDraws k g else ([], g)

/-- The generator loaded from a 16-byte seed (R100). -/
def rngSeed (seed : Nat) : List Word := if seed = 0 then [0x9E3779B9#32, 0, 0, 0] else toLanes 4 seed

/-! ### Reductions -/

/-- One stage of a reduction: neighbours are joined, left operand first (R52). `d` gives the draws of the stage in order. -/
def pairUp (f : Nat → Nat → Nat → Nat) : List Nat → List Nat → List Nat
  | a :: b :: r, d => f (d.getD 0 0) a b :: pairUp f r (d.drop 1)
  | l, _ => l

/-- The five stages of a reduction of 32 elements. -/
def reduce5 (f : Nat → Nat → Nat → Nat) (l : List Nat) (d : List Nat) : Nat :=
  let s1 := pairUp f l d
  let s2 := pairUp f s1 (d.drop 16)
  let s3 := pairUp f s2 (d.drop 24)
  let s4 := pairUp f s3 (d.drop 28)
  (pairUp f s4 (d.drop 30)).getD 0 0

/-- Every second element. -/
def everyOther : List Nat → List Nat
  | a :: _ :: r => a :: everyOther r
  | l => l

/-- RSUM, RMAX, RMIN (R52, R109): the value of lane 0. -/
def reduceOp (op : Nat) (vf : VF) (mode : Round) (draws : List Nat) (a : List Word) : Word :=
  let fm := vfFmt vf
  let f (d x y : Nat) : Nat :=
    match op with
    | 0x30 => roundF fm mode false d (fvAdd (decodeF fm x) (decodeF fm y))
    | 0x31 => minMaxF fm true x y
    | _ => minMaxF fm false x y
  match vf with
  | .i32 =>
    let g (_ x y : Nat) : Nat :=
      (intOp (if op = 0x30 then 1 else if op = 0x31 then 7 else 6) (BitVec.ofNat 32 x) (BitVec.ofNat 32 y) 0).toNat
    BitVec.ofNat 32 (reduce5 g (a.map (·.toNat)) [])
  | .f32 => BitVec.ofNat 32 (reduce5 f (a.map (·.toNat)) draws)
  | _ =>
    let ev := reduce5 f (a.map fun w => fld w.toNat 0 16) (everyOther draws)
    let od := reduce5 f (a.map fun w => fld w.toNat 16 16) (everyOther (draws.drop 1))
    BitVec.ofNat 32 (ev % 65536 + (od % 65536) * 65536)

/-! ### Scalar operations -/

/-- The scalar operations 0x01 to 0x0B and 0x20 to 0x23 (R55). -/
def scalarOp (op : Nat) (a b : Word) : Word :=
  match op with
  | 0x01 => a + b
  | 0x02 => a - b
  | 0x03 => a &&& b
  | 0x04 => a ||| b
  | 0x05 => a ^^^ b
  | 0x06 => a <<< (b.toNat % 32)
  | 0x07 => a >>> (b.toNat % 32)
  | 0x08 => a.sshiftRight (b.toNat % 32)
  | 0x09 => a * b
  | 0x0A => if a.slt b then a else b
  | 0x0B => if a.slt b then b else a
  | 0x20 => toF32 (fvAdd (f32 a) (f32 b))
  | 0x21 => toF32 (fvMul (f32 a) (f32 b))
  | 0x22 => BitVec.ofNat 32 (minMaxF fp32 false a.toNat b.toNat)
  | 0x23 => BitVec.ofNat 32 (minMaxF fp32 true a.toNat b.toNat)
  | _ => a

/-- The scalar compares 0x10 to 0x15 (R55): EQ, NE, LT, LTU, LE, LEU. -/
def scalarCmp (op : Nat) (a b : Word) : Bool :=
  match op with
  | 0x10 => a == b
  | 0x11 => a != b
  | 0x12 => a.slt b
  | 0x13 => a.ult b
  | 0x14 => !b.slt a
  | _ => !b.ult a

end Sys2Proof.Machine
end

