-- ==== Sys2Proof/Machine/Slot.lean ====
section
/-! DEFINITION. The slot word: its 256 bits as named fields (R44, R46, R48, R50, R51, R55, R56, R58, R59). -/

namespace Sys2Proof.Machine

/-- The fields of one slot, as numbers. -/
structure Slot where
  -- fire rule, R46
  need : Nat
  qsel : Nat
  pcond : Nat
  psel : Nat
  cmdone : Nat
  -- next-slot control, R48
  next : Nat
  target : Nat
  bpsel : Nat
  lsel : Nat
  -- matrix, R50
  mop : Nat
  tile : Nat
  afmt : Nat
  bfmt : Nat
  asrc : Nat
  areg : Nat
  bent : Nat
  ksteps : Nat
  mround : Nat
  ofmt : Nat
  mdst : Nat
  dreg : Nat
  mres : Nat
  -- vector, R51
  vop : Nat
  vfmt : Nat
  vdst : Nat
  vsrca : Nat
  vsrcb : Nat
  vsrcc : Nat
  vareg : Nat
  msel : Nat
  vround : Nat
  vres0 : Nat
  sfn : Nat
  ctrl : Nat
  vres1 : Nat
  -- scalar, R55
  sop : Nat
  sdst : Nat
  ssrca : Nat
  ssrcb : Nat
  imm : Nat
  pdst : Nat
  sin : Nat
  sout : Nat
  sres : Nat
  -- memory, R56
  memop : Nat
  reg : Nat
  mareg : Nat
  offset : Nat
  blocks : Nat
  post : Nat
  memres : Nat
  -- network and steering, R58
  steer : Nat
  sctl : Nat
  sia : Nat
  sib : Nat
  stout : Nat
  token : Nat
  keep : Nat
  keepc : Nat
  limit : Nat
  syncf : Nat
  stres : Nat
  -- immediate or sync, R59
  immw : Nat
  yop : Nat
  yobj : Nat
  ybind : Nat
  yreg : Nat
  ytreg : Nat
  ylen : Nat
  yres : Nat
  deriving DecidableEq, Repr

/-- Reads the fields of a slot word. -/
def slotOf (b : BitVec 256) : Slot :=
  let n := b.toNat
  { need := fld n 248 8, qsel := fld n 245 3, pcond := fld n 243 2, psel := fld n 241 2, cmdone := fld n 240 1
    next := fld n 237 3, target := fld n 228 9, bpsel := fld n 226 2, lsel := fld n 224 2
    mop := fld n 220 4, tile := fld n 218 2, afmt := fld n 214 4, bfmt := fld n 210 4, asrc := fld n 207 3
    areg := fld n 203 4, bent := fld n 199 4, ksteps := fld n 193 6, mround := fld n 191 2, ofmt := fld n 187 4
    mdst := fld n 184 3, dreg := fld n 180 4, mres := fld n 176 4
    vop := fld n 170 6, vfmt := fld n 168 2, vdst := fld n 165 3, vsrca := fld n 162 3, vsrcb := fld n 159 3
    vsrcc := fld n 156 3, vareg := fld n 152 4, msel := fld n 149 3, vround := fld n 147 2, vres0 := fld n 144 3
    sfn := fld n 140 4, ctrl := fld n 132 8, vres1 := fld n 128 4
    sop := fld n 122 6, sdst := fld n 118 4, ssrca := fld n 114 4, ssrcb := fld n 110 4, imm := fld n 109 1
    pdst := fld n 107 2, sin := fld n 105 2, sout := fld n 104 1, sres := fld n 96 8
    memop := fld n 92 4, reg := fld n 88 4, mareg := fld n 84 4, offset := fld n 72 12, blocks := fld n 66 6
    post := fld n 65 1, memres := fld n 64 1
    steer := fld n 61 3, sctl := fld n 60 1, sia := fld n 58 2, sib := fld n 56 2, stout := fld n 54 2
    token := fld n 51 3, keep := fld n 47 4, keepc := fld n 45 2, limit := fld n 41 4, syncf := fld n 40 1
    stres := fld n 32 8
    immw := fld n 0 32, yop := fld n 28 4, yobj := fld n 16 12, ybind := fld n 13 3, yreg := fld n 9 4
    ytreg := fld n 5 4, ylen := fld n 3 2, yres := fld n 0 3 }

/-- The inputs of `NEED`, in the order of its bits from 255 down: VI0, VI1, SI0, SI1, CI0, CI1 (R46). Input `i` of the six
ports is named when bit 7 - i is 1. -/
def needs (s : Slot) (i : Nat) : Bool := bit s.need (7 - i)

/-- NEED names the rafter tap. -/
def needsRT (s : Slot) : Bool := bit s.need 1

/-- NEED names the receive queue in QSEL. -/
def needsMQ (s : Slot) : Bool := bit s.need 0

/-- The KEEP bit of input port `i` (R58: from bit 50 down VI0, VI1, SI0, SI1; KEEPC: CI0, CI1). -/
def keeps (s : Slot) (i : Nat) : Bool := if i < 4 then bit s.keep (3 - i) else bit s.keepc (5 - i)

/-- The slot performs a sync or message operation (R59): its code, or 0. -/
def syncOp (s : Slot) : Nat := if s.syncf = 1 then s.yop else 0

/-- A vector operation of one source (R45 lists them as unary). -/
def vUnary (op : Nat) : Bool := op == 8 || op == 9 || op == 0x28 || op == 0x30 || op == 0x31 || op == 0x32 ||
  op == 0x33 || op == 0x34 || op == 0x38

/-- A vector operation that reads SRCA, SRCB, SRCC. -/
def vReadsA (op : Nat) : Bool := op != 0
def vReadsB (op : Nat) : Bool := op != 0 && !vUnary op
def vReadsC (op : Nat) : Bool := op == 4 || op == 5

/-- The slot writes port VO0 (p = 0) or VO1 (p = 1) (R167). -/
def writesVO (s : Slot) (p : Nat) : Bool :=
  (s.mop == 3 && s.mdst == p) || (s.vop != 0 && s.vdst == 4 + p && !(0x20 ≤ s.vop && s.vop ≤ 0x25)) ||
  ((s.steer == 1 || s.steer == 3 || s.steer == 4) && s.stout == p) || s.steer == 2

/-- The slot writes SO0. -/
def writesSO (s : Slot) : Bool :=
  (s.sop != 0 && s.sout == 1) || ((s.steer == 1 || s.steer == 3 || s.steer == 4) && s.stout == 2)

/-- The slot emits or forwards a token on CO0. -/
def writesCO (s : Slot) : Bool := s.token != 0 || s.steer == 6

end Sys2Proof.Machine
end

