-- ==== Sys2Proof/Machine/Types.lean ====
section
/-! DEFINITION. The parts of the machine's state below the level of a register: threads, workers, switches, sync objects,
packets, stream programs, thatches, contexts. Plain data throughout. -/

namespace Sys2Proof.Machine

/-! ### Workers (chapter 3) -/

/-- Why a thread is parked: on a local sync object, for a credit of a binding (with the tuple it sends), or on a schedule fault
until the step ends (R60, R72, R96). -/
inductive Park where
  | none
  | wait (obj : Nat) (threshold : Word)
  | credit (bind : Nat) (tuple : List Word)
  | fault
  deriving DecidableEq, Repr

/-- The items of a frame that are carried across a ridge (R39). -/
structure Carried where
  ptr : Nat
  s : List Word
  p : Nat
  m : List Word
  l : List Nat
  rng : List Word
  deriving DecidableEq, Repr

/-- A thread: its frame, the vector registers, its end and park state, and the checked copy of its slot (R39, R77). -/
structure Thread where
  ptr : Nat
  s : List Word
  p : Nat
  m : List Word
  l : List Nat
  v : List (List Word)
  rng : List Word
  ended : Bool
  park : Park
  slot : BitVec 256
  lastFire : Nat
  deriving DecidableEq, Repr

/-- A monitor limit set (R69, R154): `fmt` 0 FP32, 1 packed BF16, 2 packed FP16, 3 INT32; `flags` [7] DEFINED, [1] infinity, [0] NaN. -/
structure MonLim where
  fmt : Nat
  flags : Nat
  maxExp : Nat
  lower : Nat
  upper : Nat
  deriving DecidableEq, Repr

/-- The target and credit limit of a queue binding (R153, R274). -/
structure QTarget where
  x : Nat
  y : Nat
  w : Nat
  q : Nat
  max : Nat
  deriving DecidableEq, Repr

/-- The target of a sync binding (R153). -/
structure STarget where
  x : Nat
  y : Nat
  obj : Nat
  deriving DecidableEq, Repr

/-- An initial thread frame (R149). -/
structure Frame where
  start : Nat
  p : Nat
  l : List Nat
  m : List Word
  s : List Word
  seed : Nat
  deriving DecidableEq, Repr

/-- What a thatch sets in a worker: slot program, thread count − 1, SUMTOL, limit sets, bindings, frames. `present` is true when
a WSLOT section reaches the worker (R147, R148). -/
structure WCfg where
  present : Bool
  slots : List (BitVec 256)
  threads : Nat
  sumtol : Nat
  limits : List MonLim
  qb : List (Nat × QTarget)
  sb : List (Nat × STarget)
  frames : List Frame
  deriving DecidableEq, Repr

/-- A word of a static network: a mark, or its lanes (16, 1, or one token byte), and the cycle in which it came (R112, R114). -/
structure NWord where
  mark : Bool
  data : List Word
  cyc : Nat
  deriving DecidableEq, Repr

/-- The type of an accumulator tile (R96). -/
inductive TileTy where
  | none | fp | int
  deriving DecidableEq, Repr

/-- An accumulator tile: 256 accumulators row by row, its type, the sum lane's S and M of each row, and the weight-buffer entry and
element at which its last operation stopped (R65, R66, R94). -/
structure Tile where
  acc : List Word
  ty : TileTy
  sumS : List FVal
  sumM : List FVal
  kept : Option (Nat × Nat)
  deriving DecidableEq, Repr

/-- An MMA that still takes its A words from a vector input (R91): the words taken so far, and the weight buffer as each of their K-steps
read it (R65). -/
structure MmaRun where
  slot : BitVec 256
  thread : Nat
  ptr : Nat
  words : List Nat
  wbufs : List (List Nat)
  deriving DecidableEq, Repr

/-- An entry of a receive queue: the tuple, and the endpoint and binding that sent it (R276). -/
structure QEntry where
  words : List Word
  src : Nat
  bind : Nat
  deriving DecidableEq, Repr

/-- A plausibility event that a word has caused and that is still to be raised (R69). -/
structure PlausEv where
  port : Nat
  set : Nat
  elem : Nat
  thread : Nat
  slot : Nat
  deriving DecidableEq, Repr

/-- A failed row check of a DRAIN, or a failed block check of an MMA, that is still to be reported (R67, R68). -/
structure SumEv where
  block : Bool
  tile : Nat
  row : Nat
  thread : Nat
  slot : Nat
  deriving DecidableEq, Repr

/-- A block of a worker's tap stream: its bytes once they are there, or the repair it waits for (R241, R244). -/
structure TapBlk where
  data : Nat
  pending : Option Nat
  deriving DecidableEq, Repr

/-- A logical worker. `tap` holds the beats of the rafter tap, `stream` the blocks that make up the next beats; `outq` the DRAIN rows that still wait
for a credit, by port and tile; `mmaTill` and `drainTill` the tile of the last MMA and DRAIN and the first cycle in which the unit is free of it,
`sfnFree` and `cmFree` the same for the SFN unit and the crossbar port (R62); `nextFire` the first cycle in which the worker fires again (R42);
`upsets` the slots of the active store whose next read finds an error, a double-bit one where true (R77); `lastDrain` the rows of the DRAIN that runs;
`saved` the step-entry copy of its threads' frames (R40). -/
structure Worker where
  act : WCfg
  sh : WCfg
  shReady : Bool
  th : List (Nat × Thread)
  tiles : List Tile
  wbuf : List Nat
  mma : Option MmaRun
  mmaTill : Nat × Nat
  drainTill : Nat × Nat
  sfnFree : Nat
  cmFree : Nat
  nextFire : Nat
  fifo : List (List NWord)
  tap : List Nat
  stream : List TapBlk
  streamOff : Nat
  queues : List (List QEntry)
  cred : List Nat
  gone : List Bool
  unacked : List Nat
  lastFired : Nat
  stopped : Bool
  saved : List (Nat × Carried)
  plaus : List PlausEv
  sumEv : List SumEv
  lastDrain : List Nat
  outq : List (Nat × Nat × NWord)
  upsets : List (Nat × Bool)
  marksOut : Bool
  flipped : Bool
  deriving DecidableEq, Repr

/-! ### Switches (chapter 5) -/

/-- A route entry (R121). -/
structure Route where
  phase : Nat
  op : Nat
  out : Nat
  ins : List Nat
  count : Nat
  deriving DecidableEq, Repr

/-- A switch configuration (R150). -/
structure SwCfg where
  present : Bool
  phases : Nat
  delays : List Nat
  routes : List Route
  deriving DecidableEq, Repr

/-- A switch of one static network in one comb: configurations, phase, words sent by each route in the phase, the buffered words of
each input, the outputs on which a mark is still to be sent (R169), the cycle of the last balance stall (R128), and the phase in which each output
last sent a word (R156). -/
structure Switch where
  act : SwCfg
  sh : SwCfg
  shReady : Bool
  phase : Nat
  sent : List (Nat × Nat)
  qs : List (Nat × List NWord)
  flipped : Bool
  marks : List Nat
  stallAt : Option Nat
  sentIn : List (Nat × Nat)
  deriving DecidableEq, Repr

/-- A link between two routers or switches: how often in a row its present word has failed its check, and whether it has stopped (R119, R262). -/
structure LinkSt where
  fails : Nat
  stopped : Bool
  deriving DecidableEq, Repr

/-! ### Sync objects (R280) -/

structure Waiter where
  worker : Nat
  thread : Nat
  threshold : Word
  deriving DecidableEq, Repr

structure SyncObj where
  ty : Nat
  value : Nat
  phase : Nat
  param : Nat
  waiters : List Waiter
  deriving DecidableEq, Repr

/-! ### Rafter drops and stream programs (chapter 9) -/

/-- A TAP (`cmem` none) or CMEM (`cmem` the first block) record of a drop table (R240). -/
structure DropRec where
  rsel : Nat
  lane : Nat
  worker : Nat
  start : Nat
  stop : Nat
  cmem : Option Nat
  taken : Nat
  deriving DecidableEq, Repr

structure DropTab where
  present : Bool
  beats : List (Nat × Nat)
  recs : List DropRec
  courseStart : Nat
  last : Nat
  deriving DecidableEq, Repr

/-- A RUN record (R234). -/
structure Run where
  first : Nat
  count : Nat
  rafter : Nat
  lane : Nat
  slot : Nat
  group : Nat
  rep : Nat
  skip : Nat
  deriving DecidableEq, Repr

structure StreamProg where
  present : Bool
  rate : Nat
  runs : List Run
  courseStart : Nat
  last : Nat
  deriving DecidableEq, Repr

/-- A block that a stream program has read: waiting for its injection, or in flight on a rafter lane. `st` is the lane state of
R237: 1 DATA, 2 PENDING, 3 POISON. `seen` lists the combs whose drop it has reached; `verdict` is that of a repair, 1 repaired or 3 poisoned. -/
structure LaneBlk where
  id : Nat
  chan : Nat
  group : Nat
  block : Nat
  rafter : Nat
  lane : Nat
  inject : Nat
  st : Nat
  data : Nat
  ctx : Nat
  seen : List Nat
  verdict : Option Nat
  deriving DecidableEq, Repr

/-- A repair entry of a channel (R243): the block and the re-reads that failed. -/
structure Repair where
  blk : LaneBlk
  tries : Nat
  deriving DecidableEq, Repr

/-- A drop that waits for a block (R244, R246): the block and where its bytes go, a worker's tap or a comb-memory block; `resend` when the
sideband check failed. -/
structure DropWait where
  id : Nat
  comb : Nat
  worker : Option Nat
  cmem : Nat
  resend : Bool
  deriving DecidableEq, Repr

/-- An eave channel's engine. -/
structure Channel where
  act : StreamProg
  sh : StreamProg
  shReady : Bool
  feed : List LaneBlk
  repairs : List Repair
  nextSlot : Nat
  scrubAt : Nat
  passes : Nat
  deriving DecidableEq, Repr

/-- A tag of a comb-memory transfer (R63, R193, R194): the comb, the worker and thread of a CMRD or CMWR, whether it reads, whether it is of the
static share, the cycle in which its block completes, the repair that a PENDING block waits for, and where its bytes go in the local store. -/
structure Tag where
  comb : Nat
  owner : Option (Nat × Nat)
  read : Bool
  isStatic : Bool
  due : Nat
  pending : Option Nat
  ls : Nat
  deriving DecidableEq, Repr

/-! ### Packets and flows (chapter 10) -/

/-- A source's side of a flow (R263). -/
structure TxFlow where
  dest : Nat
  window : Nat
  credits : Nat
  next : Nat
  failed : Bool
  retryAt : Option Nat
  deriving DecidableEq, Repr

/-- A context's MIRROR flow (R263, R380): the next `SEQ` to send, the next one acknowledged, whether the flow is open, and the appends of the release
that are still to be sent: shelter offset, source and length. -/
structure MirFlow where
  next : Nat
  acked : Nat
  opened : Bool
  todo : List (Nat × Nat × Nat)
  deriving DecidableEq, Repr

/-- A destination's side of a flow (R264). -/
structure RxFlow where
  src : Nat
  flow : Nat
  next : Nat
  failed : Bool
  deriving DecidableEq, Repr

/-! ### Fault records (R329) -/

/-- A fault record before its sequence number and CRC. `func` is the function whose fault ring takes it where it names no context (R392). -/
structure FaultRec where
  cls : Nat
  outcome : Nat
  seq : Nat := 0
  ctx : Option Nat := none
  gen : Nat := 0
  module : Nat := 0
  tick : Nat := 0
  cycle : Nat := 0
  step : Nat := 0
  lsite : Nat := 0
  psite : Nat := 0
  detail : Nat := 0
  addr : Nat := 0
  func : Nat := 0
  deriving DecidableEq, Repr

/-! ### Thatches and contexts (chapters 6, 7, 13) -/

/-- A step-table entry (R141). -/
structure StepEnt where
  budget : Nat
  slip : Nat
  ridgeTo : Nat
  drift : Nat
  deriving DecidableEq, Repr

/-- A section header (R143). -/
structure Sect where
  ty : Nat
  target : Nat
  item : Nat
  offset : Nat
  length : Nat
  crc : Nat
  deriving DecidableEq, Repr

/-- An accepted thatch: its header facts, its directory, its reduction-tree nodes (comb, phase, output, tree), its place in eave memory and its load
sequence. -/
structure Thatch where
  id : Nat
  pred : Nat
  loadSeq : Nat
  steps : List StepEnt
  courseBudget : Nat
  courseRidgeTo : Nat
  nondet : Bool
  syncObjects : Nat
  dir : List Sect
  syncInit : List (Nat × SyncObj)
  presets : List (Nat × List Byte)
  trees : List (Nat × Nat × Nat × Nat)
  base : Nat
  bytes : Nat
  deriving DecidableEq, Repr

/-- What an allotment holds (R336): the region rectangle, the channels, the column rafter lanes (rafter number, lane), the DMA
channels, sync objects per comb and the function. -/
structure Allot where
  col0 : Nat
  col1 : Nat
  row0 : Nat
  row1 : Nat
  chans : List Nat
  lanes : List (Nat × Nat)
  dma : List Nat
  sync : Nat
  func : Nat
  deriving DecidableEq, Repr

/-- Where a context's step stands: between steps (at a ridge), in the work phase, released, or in the ridge wait (chapter 7);
abandoned before a replay (R200); ended by a switch-off, a trip or a loss of the reference, until the context's reset (R18). -/
inductive Phase where
  | idle | work | released | wait | abandoned | ended
  deriving DecidableEq, Repr

/-- The kind of an armed course (R166). -/
inductive Arm where
  | none | boundary | overlapped | running (overlapped : Bool)
  deriving DecidableEq, Repr

/-- A load in progress (R160 to R164): the staged range, the command's tag, whether the image has been accepted, its thatch, the sections sent
once more, the deliveries made (directory index and comb, 672 for a stream engine), the bytes of the sections under way, and the multicast
window of R273: for a comb, the blocks sent and the blocks acknowledged of the running section. -/
structure LoadJob where
  addr : Nat
  bytes : Nat
  tag : Nat
  func : Nat
  accepted : Bool
  thatch : Option Thatch
  retried : List Nat
  got : List (Nat × Nat)
  buf : List (Nat × List Byte)
  mwin : List (Nat × (Nat × Nat))
  deriving DecidableEq, Repr

/-- What a context holds beside its registers. `genTick` is the tick of the latest change of its generation (R340); `resetOwn` tells that host
software asked for the reset that is due, `lapsed` that a worker was halted in the step (R80), `pauseAt` is the cycle in which the pause before
the next step began (R217). -/
structure Ctx where
  allot : Option Allot
  active : Option Thatch
  waiting : Option Thatch
  load : Option LoadJob
  loadSeq : Nat
  arm : Arm
  cfgWritten : Bool
  phase : Phase
  stepsRun : Nat
  start : Nat
  failed : Bool
  schedFault : Bool
  excess : Bool
  overSent : List Nat
  stallSeen : List Nat
  replayed : Bool
  replayOf : Option FaultRec
  hangs : Nat
  firstFail : Option FaultRec
  suspects : List (Nat × Nat)
  plausHist : List (Nat × PlausEv)
  residueHist : List Nat
  signalAt : Nat
  maskedDue : Option FaultRec
  peers : List Nat
  ridgeDropped : Nat
  heldTicks : Nat
  ridgeHold : Bool
  pauseDue : Nat
  pauseAt : Option Nat
  resetReq : Option (Option Nat)
  releasing : Bool
  grantTag : Option (Nat × Nat)
  replyTags : List (Nat × Nat)
  entryObjs : List (Nat × SyncObj)
  held : Option FaultRec
  poisonRead : Bool
  lapsed : Bool
  mirrorSteps : Nat
  genTick : Option Nat
  resetOwn : Bool
  deriving DecidableEq, Repr

/-! ### Physical combs (chapters 2, 12) -/

/-- The steps that a physical worker has served since its last clean pass (R311): the context and generation, the first step, and the last one
once it has left service. -/
structure Served where
  ctx : Nat
  gen : Nat
  first : Nat
  last : Option Nat
  deriving DecidableEq, Repr

/-- A physical comb: whether it is good, its fenced workers, the physical worker behind each logical worker where it is not the same
number, the worker under test and the reserve (63 for none), whether the worker under test has finished its suite and how, the ticks at
which each worker's last clean pass ended, marginal flags, the grid point of its last swap, the workers out of service that wait for the next swap,
the steps each worker served, whether a move waits for the ridge or for its paths to drain, the cycle in which the suite of the worker under test
began, the scout runs that have written the scout scratch (R308), the tender's heartbeat, and whether the tender has stopped (R306). -/
structure PComb where
  good : Bool
  fenced : List Nat
  wmap : List (Nat × Nat)
  test : Nat
  reserve : Nat
  suiteDone : Bool
  reserveDone : Bool
  lastPass : List (Nat × Nat)
  marginal : List Nat
  swapAt : Nat
  waiting : List Nat
  served : List (Nat × Served)
  moving : Bool
  suiteAt : Nat
  scouts : Nat
  beat : Nat
  fault : Bool
  deriving DecidableEq, Repr

/-! ### Host interface (chapter 15) -/

/-- A host command as the inbox accepted it (R397). `resv` tells that a reserved byte is not 0, `started` that the keeper has begun it. -/
structure HostCmd where
  func : Nat
  opcode : Nat
  ctx : Nat
  tag : Nat
  arg0 : Nat
  arg1 : Nat
  resv : Bool
  started : Bool
  deriving DecidableEq, Repr

/-- A completion record before its PHASE bit (R401). -/
structure Cpl where
  kind : Nat
  status : Nat
  ctx : Option Nat
  source : Nat
  gen : Nat
  tag : Nat
  detail : Nat
  deriving DecidableEq, Repr

/-- What a function holds beside its `HST_` registers: commands accepted and not yet taken, completion records that wait for room, the
pass bits of its rings, the MSI-X table by dword, pending vectors, the messages sent, and its device power state. -/
structure HostFn where
  inbox : List HostCmd
  held : List Cpl
  cqPhase : Bool
  msix : List (Nat × Nat)
  mpend : List Nat
  sent : List Nat
  d3 : Bool
  enabled : Bool
  deriving DecidableEq, Repr

/-! ### DMA channels (chapter 11) -/

/-- A WR packet that a channel has sent and that is not acknowledged: its flow, first `SEQ`, blocks, place among the destination bytes, how many of its
bytes count, and whether it opened the flow. -/
structure DmaOut where
  flow : Nat
  seq : Nat
  blocks : Nat
  off : Nat
  bytes : Nat
  opens : Bool
  deriving DecidableEq, Repr

/-- What a channel holds beside its registers. `fetch`: in RUN, the descriptor at `DMA_CUR` is still to be started. `checkFail`: the halt is a
failed check of R295. `desc`: the 64 bytes of the descriptor in progress. `sent`: destination bytes handed to the mesh. `presetAt`: the
preset that runs. `last`: the preset of a store since replaced that still runs, the last of its chain (R303). `ridge`: the chain is the ridge-phase
chain; `ridgeDue`: it waits for IDLE. `record`: a completion record without a place. -/
structure DmaCh where
  fetch : Bool
  checkFail : Bool
  desc : List Byte
  sent : Nat
  opened : List Nat
  out : List DmaOut
  presets : List (List Byte)
  presetAt : Option Nat
  last : Option (List Byte)
  ridge : Bool
  ridgeDue : Bool
  record : Option Cpl
  deriving DecidableEq, Repr

/-! ### Fabric ports (chapter 14) -/

/-- A port flow of the ingress: the WR in assembly with the flits still missing, the address that follows its last byte, and the mesh flow
behind it, and, once its CLOSE has gone on, the `SEQ` whose acknowledgement ends it. -/
structure PortFlow where
  asm : Option Packet
  missing : Nat
  next : Nat
  seq : Nat
  ctx : Option Nat
  closed : Bool
  smod : Nat
  mesh : Nat
  close : Option Nat
  deriving DecidableEq, Repr

/-- An outbound port flow: the requester's endpoint and flow, the address that follows its last byte, and, once its CLOSE has left, the `SEQ` whose
acknowledgement ends it. -/
structure OutFlow where
  src : Nat
  flow : Nat
  ctx : Option Nat
  next : Nat
  close : Option Nat
  deriving DecidableEq, Repr

/-- A port: next data `SEQ` to send and to expect, the retry buffer, credits used and returned by class and `DL` (key class × 2 + DL), the ingress's
discard state and run of failures of one `SEQ`, blocks accepted by class, CONTROL records to send, port flows, training failures, the peer's port, and
the REQ blocks that wait in the ingress buffer for a mesh flow (R263). `waiting` holds the blocks that wait at the egress with the slow cycle in which
they came, `early` the good blocks that came before one of a lower `SEQ` (R361), `lastCls` and `lastOut` the class of REQ, MIRROR and ADMIT that sent
last and the last block of each class (R363). -/
structure PortSt where
  txSeq : Nat
  rxSeq : Nat
  retry : List (Bool × Block)
  waiting : List (Nat × (Bool × Block))
  early : List (Bool × Block)
  lastCls : Nat
  lastOut : List (Nat × Block)
  used : List (Nat × Nat)
  returned : List (Nat × Nat)
  taken : List (Nat × Nat)
  discard : Bool
  fails : Nat
  resends : Nat × Nat
  ctl : List Nat
  inFlows : List (Nat × PortFlow)
  outFlows : List (Nat × OutFlow)
  trainFails : Nat
  peerPort : Nat
  stall : List (Bool × Block)
  deriving DecidableEq, Repr

/-! ### Start-up, power, keeper, flash, security (chapters 8, 16 to 19) -/

/-- The start in progress (R408 to R423): start number, the tick and cycle it counts from, whether a warm module reset's stages run, WARM_RESET
commands that wait for stage 0x0E, whether the current stage runs by its alternative, stages that failed in this and in the previous start,
what a SHUTDOWN keeps (ticks, least and greatest keeper temperature) and the test that it asked for, whether a cold-reset command began the
start, the tick at which stage 0x09 tested every worker, whether a failed warm start runs the full stage list, the retention bin of rows
that no entry of `rowBins` names, and whether a life-cycle fuse failed its read-back, which holds the next start. -/
structure StartSt where
  number : Nat
  from' : Nat
  warm : Bool
  warmDue : Bool
  warmTags : List HostCmd
  failed : List (Nat × Option Nat)
  before : List (Nat × Option Nat)
  shutdown : Option (Nat × Nat × Nat)
  shutTest : Option (HostCmd × Nat)
  cold : Bool
  testedAt : Nat
  rerun : Bool
  binBase : Nat
  fuseFail : Bool
  deriving DecidableEq, Repr

/-- A boot-journal entry (R423). -/
structure Journal where
  start : Nat
  stage : Nat
  event : Nat
  attempt : Nat
  alt : Nat
  time : Nat
  detail : Nat
  aux : Nat
  deriving DecidableEq, Repr

/-- A thatch-cache entry (R455): the digest of the signed message and the key that signed it. -/
structure Cached where
  digest : Nat
  signer : Nat
  slot : Nat
  head : List Byte
  deriving DecidableEq, Repr

/-- The seal in flash: its bytes and whether a start has used it (R333, R411). -/
structure SealRec where
  bytes : List Byte
  entries : List (BitVec 64)
  rate : Nat
  used : Bool
  deriving DecidableEq, Repr

/-- The standby record (R412). -/
structure Standby where
  ticks : Nat
  least : Nat
  most : Nat
  deriving DecidableEq, Repr

/-- Module flash and the field fuse rows (R415, R454). -/
structure Flash where
  image : List Byte
  pendingImage : Option (List Byte)
  chain : List Byte
  journal : List Journal
  sealed : Option SealRec
  standby : Option Standby
  record : List (BitVec 64)
  rows : List (BitVec 64)
  crash : List (Nat × List Byte)
  crashNext : Nat
  life : Nat × Nat × Nat
  cache : List Cached
  deriving DecidableEq, Repr

/-- An SPDM session (R440): its path, whether FINISH has completed it, the number of its keys. -/
structure Session where
  path : Binding
  open' : Bool
  keys : Nat
  deriving DecidableEq, Repr

/-- The answer to a management or SPDM message: its status or completion code, and its data. -/
structure Reply where
  name : String
  code : Nat
  data : List Byte
  deriving DecidableEq, Repr

/-- The security island (chapter 17): the nonce, sessions, the identity public key, the life-cycle request in progress. -/
structure Secure where
  nonce : Option (List Byte)
  sessions : List (Nat × Session)
  pub : Option (List Byte)
  key : Bool
  wipe : Option Via
  ideKeyed : Bool
  measures : List (Nat × List Byte)
  deriving DecidableEq, Repr

/-- The keeper (chapter 18): reset in progress, the record sequence number, the fault log, endpoint identifiers by binding, the I3C
address, the firmware update in progress (with its image once it is verified and being written), the ticks of idle regions, heat boundaries of HOT_OFF regions,
heartbeats seen, combs whose fault is counted, regions in test, flow estimates and conditions of R328 that fail, fences by tick, combs due for
and in a pause slice, regions waking, a reference loss that waits for the keeper, the rotation grid points passed, whether an admission has
ended (R382), the keeper-island temperature, ticks counted towards powered hours, hot hours and the next write of the life counters, stress
points that failed once, the regions whose spine is out of service until the next cold reset (R206), the workers that the keeper fences at the next
tick boundary (physical comb, worker, class; R18, R321), the regions that left SLEEP or OFF with the tick in which they woke (R214), whether
the scout images do not verify, so that no suite runs (R430), and an MCTP cold reset that waits while the image area is written (R458). -/
structure Keeper where
  inReset : Bool
  seq : Nat
  log : List (Nat × FaultRec)
  eids : List (Binding × Nat)
  i3c : Nat
  update : Option (Option (List Byte))
  idle : List (Nat × Nat)
  cool : List (Nat × Nat)
  beats : List (Nat × (Nat × Nat))
  combFail : List Nat
  testing : List Nat
  flowLow : Nat
  flowHigh : Nat
  flowBad : Bool
  promiseBad : Bool
  fences : List (Nat × Nat)
  fenceDue : Bool
  pauseArm : List Nat
  waking : List Nat
  refPending : Bool
  grid : Nat
  joining : Bool
  slicing : List Nat
  island : Nat
  hotHours : Nat × Nat × Nat
  verdicts : List (Nat × Verdict)
  spineBad : List Nat
  fenceAsk : List (Nat × Nat × Nat)
  woke : List (Nat × Nat)
  scoutBad : Bool
  coldAsk : Bool
  deriving DecidableEq, Repr

/-- The input switches (chapter 19): 0 open, 1 charging, 2 closed; soft-start failures; `PWR_GOOD`; the power-fail sequence has begun. -/
structure PowerIn where
  switch : Nat
  fails : Nat
  locked : Bool
  good : Bool
  failing : Bool
  deriving DecidableEq, Repr

end Sys2Proof.Machine
end

