-- ==== Sys2Proof/Machine/Flags.lean ====
section
/-! DEFINITION. The verdicts that the module computes beside its results: branch conditions and next-slot control, plausibility
monitors, the sum lane's row check. -/

namespace Sys2Proof.Machine

/-- A predicate of a thread. -/
def predOf (th : Thread) (i : Nat) : Bool := bit th.p i

def setPred (th : Thread) (i : Nat) (v : Bool) : Thread := { th with p := setFld th.p i 1 (b2n v) }

/-- The predicate condition of a slot holds (R46). -/
def predOk (sl : Slot) (th : Thread) : Bool :=
  match sl.pcond with
  | 1 => predOf th sl.psel
  | 2 => !predOf th sl.psel
  | _ => true

/-- The slot that follows in the store: the pointer is 9 bits wide, and R45 keeps a program from falling through slot 511. -/
def ptrNext (p : Nat) : Nat := (p + 1) % 512

/-- Next-slot control (R48): the thread with its pointer moved, its loop counter counted down, or ended at `TARGET`. -/
def nextSlot (sl : Slot) (th : Thread) : Thread :=
  match sl.next with
  | 1 => { th with ptr := sl.target }
  | 2 => { th with ptr := if predOf th sl.bpsel then sl.target else ptrNext th.ptr }
  | 3 => { th with ptr := if predOf th sl.bpsel then ptrNext th.ptr else sl.target }
  | 4 =>
    let l := th.l.getD sl.lsel 0
    if l = 0 then { th with ptr := ptrNext th.ptr }
    else { th with l := th.l.set sl.lsel (l - 1), ptr := if l = 1 then ptrNext th.ptr else sl.target }
  | 5 => { th with ptr := sl.target, ended := true }
  | _ => { th with ptr := ptrNext th.ptr }

/-! ### Plausibility monitors (R69, R154) -/

/-- An element lies inside a limit set: the flags alone judge NaN and infinity; bounds and exponent judge finite elements. -/
def elemOk (m : MonLim) (v : FVal) : Bool :=
  match v with
  | .nan => bit m.flags 0
  | .inf _ => bit m.flags 1
  | .fin _ mag e =>
    (mag == 0 || decide ((Nat.log2 mag : Int) + e ≤ sext 8 m.maxExp)) &&
      decide (fvCmp v (decodeF fp32 m.lower) ≥ 0) && decide (fvCmp v (decodeF fp32 m.upper) ≤ 0)

/-- The elements of a word, in order, outside the set: 16 FP32 or INT32 elements, or 32 packed ones. An undefined set flags only NaN in FP32
elements. -/
def monFail (m : MonLim) (lanes : List Word) : List Nat :=
  let el (i : Nat) : Nat := (wordAt lanes i).toNat
  if !bit m.flags 7 then (List.range 16).filter fun i => fvIsNan (decodeF fp32 (el i))
  else match m.fmt with
    | 3 => (List.range 16).filter fun i =>
        !(decide (sext 32 m.lower ≤ sext 32 (el i)) && decide (sext 32 (el i) ≤ sext 32 m.upper))
    | 0 => (List.range 16).filter fun i => !elemOk m (decodeF fp32 (el i))
    | f => (List.range 32).filter fun i =>
        !elemOk m (decodeF (if f = 1 then bf16 else fp16) (fld (el (i / 2)) (16 * (i % 2)) 16))

/-! ### The sum lane (R66, R67, R97) -/

/-- The row check at DRAIN: true when it passes. T is the sum of the row in binary64, by ascending column (assumption 13). -/
def rowOk (ty : TileTy) (sumtol : Nat) (vals : List Word) (sS sM : FVal) : Bool :=
  match ty with
  | .int =>
    let t := vals.foldl (fun a w => a + w) (0 : Word)
    addInt 0 sS == t
  | _ =>
    if vals.any (fun w => !fvIsFin (f32 w)) then true
    else match sS with
      | .fin .. =>
        let d := fvAbs (laneVal false (fvAdd sS (fvNeg (laneSum false (vals.map f32)))))
        decide (fvCmp d (fvScale (-(sumtol : Int)) sM) ≤ 0)
      | _ => true

end Sys2Proof.Machine
end

