-- ==== Sys2Proof/Machine/Field.lean ====
section
/-! DEFINITION. The names of the machine's registers and of their fields, as the chapters of the manual give them (R19, R36, R79, R137, R224, R253, R287, R288, R304, R335, R355, R384, R407, R426, R443, R459). -/

namespace Sys2Proof.Machine

/-- One constructor for each register field of the manual (reserved fields apart): REGISTER_FIELD. -/
inductive F where
  | CMB_ID_PX
  | CMB_ID_PY
  | CMB_ID_REGION
  | CMB_ID_Y
  | CMB_ID_X
  | CMB_STATUS_MAP_SEQ
  | CMB_STATUS_GOOD_WORKERS
  | CMB_STATUS_MEM_LOST
  | CMB_STATUS_MOVED
  | CMB_STATUS_ROTATION
  | CMB_STATUS_STATE
  | CMB_WORKERS_TEST
  | CMB_WORKERS_RESERVE
  | CMB_WORKERS_FENCED
  | CMB_WMAP_PHYS3
  | CMB_WMAP_PHYS2
  | CMB_WMAP_PHYS1
  | CMB_WMAP_PHYS0
  | CMB_RMAP_WITHDRAWN
  | CMB_RMAP_GOOD3
  | CMB_RMAP_GOOD2
  | CMB_RMAP_GOOD1
  | CMB_RMAP_GOOD0
  | WRK_STATUS_STATE
  | WRK_STATUS_STEP_FAILED
  | WRK_STATUS_SHADOW_READY
  | WRK_STATUS_ENDED
  | WRK_STATUS_PARKED
  | WRK_CFG_SUMTOL
  | WRK_CFG_THREADS
  | WRK_ISSUED_COUNT
  | WRK_EVT_COUNT
  | WRK_OVF_OVF
  | WRK_FAULT_CLASS
  | WRK_FAULT_DETAIL
  | WRK_FAULT_THREAD
  | WRK_FAULT_SLOT
  | WRK_FAULT_CYCLE
  | WRK_DBG_HALT
  | WRK_DBG_STEP
  | WRK_DBG_THREAD
  | WRK_DBG_BREAK
  | WRK_DBG_BREAK_EN
  | NET_STATUS_VPHASE
  | NET_STATUS_SPHASE
  | NET_STATUS_CPHASE
  | NET_STATUS_SHADOW_READY
  | NET_STATUS_STALLED
  | NET_CFG_VPHASES
  | NET_CFG_SPHASES
  | NET_CFG_CPHASES
  | NET_CFG_EDGE_OFF
  | NET_EVT_COUNT
  | NET_OVF_OVF
  | NET_STALL_NET
  | NET_STALL_INPUT
  | NET_STALL_PHASE
  | NET_STALL_VALID
  | NET_STALL_CYCLE
  | NET_XING_TRAINED
  | NET_XING_SET_N
  | NET_XING_SET_E
  | NET_XING_SET_S
  | NET_XING_SET_W
  | NET_XING_WANDER
  | NET_XEVT_COUNT
  | NET_XOVF_OVF
  | PWR_RSTAT_CA_STATE
  | PWR_RSTAT_SP_STATE
  | PWR_RSTAT_SPLL_LOCK
  | PWR_RSTAT_CPLL_LOCK
  | PWR_RSTAT_MCLK_LOCK
  | PWR_RSTAT_HOT
  | PWR_RSTAT_HOT_TICKS
  | PWR_RSTAT_TMAX
  | PWR_RTEMP_TEMP
  | PWR_RVOLT_VMON
  | PWR_REVT_COUNT
  | PWR_ROVF_OVF
  | PWR_CTRL_AUTO_SLEEP
  | PWR_CTRL_IDLE_TICKS
  | PWR_HEAT_TRIPPED
  | PWR_HEAT_RATIO
  | PWR_HEAT_HOTREG
  | PWR_HEAT_TMAX
  | PWR_PAUSED_COUNT
  | PWR_ENERGY_UJ
  | CLK_STATUS_REF_OK
  | CLK_STATUS_RC_ACTIVE
  | CLK_STATUS_KPLL_LOCK
  | CLK_TICK_COUNT
  | CLK_CYCLE_COUNT
  | EAV_SEG_STATE
  | EAV_SEG_RATE
  | EAV_SEG_TRANSIT
  | EAV_SEG_DEGRADED
  | EAV_SEG_IN_SERVICE
  | EAV_EVT_COUNT
  | EAV_OVF_OVF
  | EAV_POISON_VALID
  | EAV_POISON_CHANNEL
  | EAV_POISON_GROUP
  | EAV_POISON_BLOCK
  | EAV_POISON_CTX
  | MEM_SCRUB_LAST_PASS
  | MEM_CHSTAT_STATE
  | MEM_CHSTAT_MIRROR
  | MEM_CHSTAT_OWNED
  | MEM_CHSTAT_OWNER
  | MEM_CHSTAT_PPR
  | MEM_CHSTAT_REMAPPED
  | MEM_CHSTAT_ERR_OVF
  | MEM_CHERR_COUNT
  | RFT_STAT_FAILED
  | RFT_STAT_EVT_OVF
  | RFT_STAT_OWNER
  | RFT_STAT_SPARES
  | RFT_EVT_COUNT
  | EAV_CTX_CFG_GRANULE
  | EAV_CTX_CFG_MIRROR_BASE
  | EAV_CTX_CFG_MIRROR_COUNT
  | MSH_STATUS_RXFLOWS
  | MSH_STATUS_TXFLOWS
  | MSH_EVT_COUNT
  | MSH_OVF_OVF
  | MSH_DROP_VALID
  | MSH_DROP_CAUSE
  | MSH_DROP_SRC
  | MSH_DROP_FLOW
  | MSH_DROP_SEQ
  | MSH_DROP_GEN
  | MSH_DROP_CTX
  | MSG_QBIND_CREDITS
  | MSG_QBIND_MAX
  | MSG_QBIND_GONE
  | MSG_QBIND_X
  | MSG_QBIND_Y
  | MSG_QBIND_W
  | MSG_QBIND_Q
  | MSG_SBIND_UNACKED
  | MSG_SBIND_X
  | MSG_SBIND_Y
  | MSG_SBIND_OBJ
  | MSG_SBIND_USED
  | MSG_QSTAT_ENTRIES
  | MSG_QSTAT_ACCEPT
  | MSG_QSTAT_POPVALID
  | MSG_QSTAT_POPLEN
  | MSG_QPOP_WORD0
  | MSG_QW1_WORD
  | MSG_QW2_WORD
  | MSG_QW3_WORD
  | MSG_EVT_COUNT
  | MSG_OVF_OVF
  | SYN_OBJ_TYPE
  | SYN_OBJ_WAITERS
  | SYN_OBJ_PARAM
  | SYN_OBJ_VALUE
  | SYN_OBJPH_PHASE
  | SYN_EVT_COUNT
  | SYN_OVF_OVF
  | DMA_CTRL_GO
  | DMA_CTRL_STOP
  | DMA_CTRL_RESUME
  | DMA_CTRL_SKIP
  | DMA_CTRL_ABORT
  | DMA_CTRL_PRESET
  | DMA_DESC_ADDR
  | DMA_STATUS_STATE
  | DMA_STATUS_STOP_PEND
  | DMA_STATUS_CAUSE
  | DMA_STATUS_OUT
  | DMA_CUR_ADDR
  | DMA_DONE_BYTES
  | DMA_FAIL_ADDR
  | DMA_FINFO_VALID
  | DMA_FINFO_DIR
  | DMA_FINFO_CAUSE
  | DMA_OWNER_BOUND
  | DMA_OWNER_CTX
  | DMA_OWNER_INDEX
  | DMA_EVT_COUNT
  | DMA_OVF_OVF
  | TND_STATUS_MODE
  | TND_STATUS_FW_OK
  | TND_STATUS_BEAT
  | TND_ROT_SWAPS
  | TND_ROT_LAST_SWAP
  | TND_EVT_COUNT
  | TND_OVF_OVF
  | ASY_STATUS_STATE
  | ASY_STATUS_POINT
  | ASY_STATUS_WORKER
  | ASY_STATUS_KERNEL
  | ASY_EVT_COUNT
  | ASY_OVF_OVF
  | BST_CTRL_SCOUTS
  | BST_CTRL_ROTATION
  | BST_CTRL_MARGIN
  | BST_CTRL_HOT
  | BST_CTRL_MONITORS
  | BST_HEALTH_DEGRADED
  | BST_HEALTH_STATES
  | BST_HEALTH_PROMISE
  | BST_HEALTH_REGIONS_OUT
  | BST_SPARES_SPARE_COMBS
  | BST_SPARES_C34
  | BST_SPARES_C33
  | BST_SPARES_C32
  | BST_SPARES_MARGINAL
  | BST_LIFE_DAYS
  | BST_LIFE_REGION
  | BST_EVT_COUNT
  | BST_OVF_OVF
  | CTX_STATE_STATE
  | CTX_STATE_GEN
  | CTX_STATE_FUNC
  | CTX_STATE_HOLD_CLASS
  | CTX_STATE_RESTART_BLOCKED
  | CTX_CTRL_RESET
  | CTX_CTRL_GEN_EN
  | CTX_CTRL_GEN_SET
  | CTX_CTRL_HOLD_TICKS
  | CTX_ALLOT_COL0
  | CTX_ALLOT_COL1
  | CTX_ALLOT_ROW0
  | CTX_ALLOT_ROW1
  | CTX_ALLOT_CHANNELS
  | CTX_ALLOT_RING_DMA
  | CTX_ALLOT_HOST_DMA
  | CTX_ALLOT_SYNC
  | CTX_STEP_COUNT
  | CTX_STEPSTAT_SLIP
  | CTX_STEPSTAT_LAST_WAIT
  | CTX_EVT_COUNT
  | CTX_OVF_OVF
  | CTX_CAPCFG_CAPTURE
  | CTX_CAPCFG_SAMPLE
  | CTX_CAPCFG_LS_PAGE
  | CTX_CAPCFG_CM_PAGE
  | CTX_CAPCFG_BASE_PAGE
  | CTX_CAPSTAT_VALID
  | CTX_CAPSTAT_RESULT
  | CTX_CAPSTAT_SLOT
  | CTX_CAPSTAT_GEN
  | CTX_CAPSTAT_BYTES
  | PRT_STATUS_STATE
  | PRT_STATUS_TX_LANES
  | PRT_STATUS_RX_LANES
  | PRT_STATUS_CAUSE
  | PRT_STATUS_PEER_VALID
  | PRT_STATUS_PEER
  | PRT_LANES_TX_FSP
  | PRT_LANES_TX_FSP_FOR
  | PRT_LANES_TX_W0SP
  | PRT_LANES_TX_W1SP
  | PRT_LANES_TX_OK
  | PRT_LANES_RX_FSP
  | PRT_LANES_RX_FSP_FOR
  | PRT_LANES_RX_W0SP
  | PRT_LANES_RX_W1SP
  | PRT_LANES_RX_OK
  | PRT_LAT_PINNED
  | PRT_LAT_FIBRE
  | PRT_LAT_LAT
  | PRT_EVT_COUNT
  | PRT_OVF_OVF
  | PRT_TOPO_VALID
  | PRT_TOPO_P
  | PRT_TOPO_NX1
  | PRT_TOPO_NY1
  | PRT_TOPO_X
  | PRT_TOPO_Y
  | PRT_TOPO_TWIN_EXP
  | PRT_TOPO_ATT_EXP
  | PRT_TOPO_MODULE
  | PRT_TWIN_PAIRED
  | PRT_TWIN_ADMIT
  | PRT_TWIN_ADMIT_OPEN
  | PRT_TWIN_SH_K
  | PRT_SPAN_VALID
  | PRT_SPAN_SPAN
  | PRT_SPAN_X0
  | PRT_SPAN_NXS1
  | PRT_SPAN_Y0
  | PRT_SPAN_NYS1
  | PRT_MIRCFG_RESUME
  | PRT_MIRCFG_ENTRIES
  | PRT_MIRCFG_WAIT
  | PRT_MIRWIN_BASE
  | PRT_MIRWIN_SIZE
  | PRT_MIRSTAT_SUSPENDED
  | PRT_MIRSTAT_FULL
  | PRT_MIRSTAT_CAUSE
  | PRT_MIRSTAT_COVER
  | PRT_MIRTAB_TABLE
  | HST_STATUS_STAGE
  | HST_STATUS_FAILED
  | HST_STATUS_ATTEMPT
  | HST_STATUS_HOLD
  | HST_STATUS_LINK_SLOW
  | HST_STATUS_SPEED
  | HST_STATUS_WIDTH
  | HST_STATUS_FLIT
  | HST_STATUS_IDE
  | HST_STATUS_BOUND
  | HST_STATUS_CTX
  | HST_INBOX_ACCEPTED
  | HST_INBOX_RETURNED
  | HST_CQ_BASE_ADDR
  | HST_FQ_BASE_ADDR
  | HST_CQ_CFG_ENABLE
  | HST_CQ_CFG_LOG2
  | HST_FQ_CFG_ENABLE
  | HST_FQ_CFG_LOG2
  | HST_CQ_PTR_TAIL
  | HST_CQ_PTR_HEAD
  | HST_FQ_PTR_TAIL
  | HST_FQ_PTR_HEAD
  | HST_WIN_BASE_BASE
  | HST_AFAULT_ADDR
  | HST_AFINFO_VALID
  | HST_AFINFO_DIR
  | HST_EVT_COUNT
  | HST_OVF_OVF
  | FUS_START_QUICK
  | FUS_START_SEAL
  | FUS_START_CAUSE
  | FUS_START_ALT
  | FUS_START_READY
  | FUS_STATUS_ROWS_FULL
  | FUS_STATUS_COPY_OK
  | FUS_STATUS_SHIP_OK
  | FUS_STATUS_SHIP
  | FUS_STATUS_ECC_FAIL
  | FUS_STATUS_ROWS_USED
  | FUS_RECORD_ENTRIES
  | FUS_RECORD_JCOUNT
  | FUS_EVT_COUNT
  | FUS_OVF_OVF
  | FUS_CMAP_COMB_OK
  | FUS_CMAP_WORKER_OK
  | FUS_CMAP_MEMREP
  | FUS_RMAP_SPINE_OK
  | FUS_RMAP_CA_OK
  | FUS_RMAP_VTRIM
  | FUS_CHMAP_CH_OK
  | FUS_DEFECT_ENTRY
  | SEC_STATE_STATE
  | SEC_STATE_LIFE
  | SEC_STATE_SCAN
  | SEC_STATE_KEYLOCK
  | SEC_STATE_KEY_OK
  | SEC_STATE_CERT_OK
  | SEC_STATE_VFUSED
  | SEC_STATE_VREVOKED
  | SEC_STATE_OFUSED
  | SEC_STATE_OREVOKED
  | SEC_STATE_OWNER_ACTIVE
  | SEC_STATE_LC_ROW
  | SEC_STATE_BUSY
  | SEC_FW_SVN_MIN
  | SEC_FW_SVN
  | SEC_EVT_COUNT
  | SEC_OVF_OVF
  | SEC_IDHASH_HASH
  | SEC_VKEY_HASH
  | SEC_OKEY_HASH
  | KPR_STATUS_KRESET
  | KPR_STATUS_RECOVERY
  | KPR_STATUS_AWAKE
  | KPR_ALERT_HEAT
  | KPR_ALERT_TRIP
  | KPR_ALERT_DEGRADED
  | KPR_ALERT_HOLD
  | KPR_ALERT_KRESET
  | KPR_ALERT_FWUPD
  | KPR_FLOG_NEXT
  | KPR_FLOG_WRAPPED
  | KPR_FLOG_TOTAL
  | KPR_FWUPD_PENDING
  | KPR_FWUPD_ACTIVE
  | KPR_FWUPD_NEW_SVN
  | KPR_RECOV_ADDR
  | KPR_RECOV_RESULT
  | KPR_RECOV_SIZE
  | KPR_EVT_COUNT
  | KPR_OVF_OVF
  | TLM_SEQ_SEQ
  | TLM_POWER_MV
  | TLM_POWER_DA
  | TLM_POWER_W
  | TLM_COOL_INLET
  | TLM_COOL_OUTLET
  | TLM_LIFE_HOURS
  | TLM_LIFE_HOT_HOURS
  | TLM_LIFE_STARTS
  deriving DecidableEq, Repr

/-- One constructor for each register of the manual. -/
inductive R where
  | CMB_ID
  | CMB_STATUS
  | CMB_WORKERS
  | CMB_WMAP
  | CMB_RMAP
  | WRK_STATUS
  | WRK_CFG
  | WRK_ISSUED
  | WRK_EVT
  | WRK_OVF
  | WRK_FAULT
  | WRK_DBG
  | NET_STATUS
  | NET_CFG
  | NET_EVT
  | NET_OVF
  | NET_STALL
  | NET_XING
  | NET_XEVT
  | NET_XOVF
  | PWR_RSTAT
  | PWR_RTEMP
  | PWR_RVOLT
  | PWR_REVT
  | PWR_ROVF
  | PWR_CTRL
  | PWR_HEAT
  | PWR_PAUSED
  | PWR_ENERGY
  | CLK_STATUS
  | CLK_TICK
  | CLK_CYCLE
  | EAV_SEG
  | EAV_EVT
  | EAV_OVF
  | EAV_POISON
  | MEM_SCRUB
  | MEM_CHSTAT
  | MEM_CHERR
  | RFT_STAT
  | RFT_EVT
  | EAV_CTX_CFG
  | MSH_STATUS
  | MSH_EVT
  | MSH_OVF
  | MSH_DROP
  | MSG_QBIND
  | MSG_SBIND
  | MSG_QSTAT
  | MSG_QPOP
  | MSG_QW1
  | MSG_QW2
  | MSG_QW3
  | MSG_EVT
  | MSG_OVF
  | SYN_OBJ
  | SYN_OBJPH
  | SYN_EVT
  | SYN_OVF
  | DMA_CTRL
  | DMA_DESC
  | DMA_STATUS
  | DMA_CUR
  | DMA_DONE
  | DMA_FAIL
  | DMA_FINFO
  | DMA_OWNER
  | DMA_EVT
  | DMA_OVF
  | TND_STATUS
  | TND_ROT
  | TND_EVT
  | TND_OVF
  | ASY_STATUS
  | ASY_EVT
  | ASY_OVF
  | BST_CTRL
  | BST_HEALTH
  | BST_SPARES
  | BST_LIFE
  | BST_EVT
  | BST_OVF
  | CTX_STATE
  | CTX_CTRL
  | CTX_ALLOT
  | CTX_STEP
  | CTX_STEPSTAT
  | CTX_EVT
  | CTX_OVF
  | CTX_CAPCFG
  | CTX_CAPSTAT
  | PRT_STATUS
  | PRT_LANES
  | PRT_LAT
  | PRT_EVT
  | PRT_OVF
  | PRT_TOPO
  | PRT_TWIN
  | PRT_SPAN
  | PRT_MIRCFG
  | PRT_MIRWIN
  | PRT_MIRSTAT
  | PRT_MIRTAB
  | HST_STATUS
  | HST_INBOX
  | HST_CQ_BASE
  | HST_FQ_BASE
  | HST_CQ_CFG
  | HST_FQ_CFG
  | HST_CQ_PTR
  | HST_FQ_PTR
  | HST_WIN_BASE
  | HST_AFAULT
  | HST_AFINFO
  | HST_EVT
  | HST_OVF
  | FUS_START
  | FUS_STATUS
  | FUS_RECORD
  | FUS_EVT
  | FUS_OVF
  | FUS_CMAP
  | FUS_RMAP
  | FUS_CHMAP
  | FUS_DEFECT
  | SEC_STATE
  | SEC_FW
  | SEC_EVT
  | SEC_OVF
  | SEC_IDHASH
  | SEC_VKEY
  | SEC_OKEY
  | KPR_STATUS
  | KPR_ALERT
  | KPR_FLOG
  | KPR_FWUPD
  | KPR_RECOV
  | KPR_EVT
  | KPR_OVF
  | TLM_SEQ
  | TLM_POWER
  | TLM_COOL
  | TLM_LIFE
  deriving DecidableEq, Repr

/-- The access codes of R2. -/
inductive Acc where
  | ro | rw | wo | w1c | w1s | rc | rwl | rov
  deriving DecidableEq, Repr

/-- The blocks of register space that hold registers (R30): where the index of a register comes from. -/
inductive Dom where
  | comb | worker | region | eave | eave0 | so | dma | keeper | ctx | port | port0 | host | fuse
  deriving DecidableEq, Repr

/-- A field inside a register: its low bit, width, access code, and how many copies of it stand side by side. -/
structure FieldAt where
  f : F
  lo : Nat
  width : Nat
  acc : Acc
  copies : Nat := 1
  deriving DecidableEq, Repr

/-- A register: its block, first offset, distance between copies, number of copies, width in bits and fields. -/
structure RegRow where
  r : R
  dom : Dom
  base : Nat
  stride : Nat
  count : Nat
  bits : Nat
  fields : List FieldAt
  deriving DecidableEq, Repr

end Sys2Proof.Machine
end

