-- ==== Sys2Proof/Machine/RegTable.lean ====
section
/-! DEFINITION. The register map: the place, the fields, the access codes and the reset values of every register, from the register tables of the manual. -/

namespace Sys2Proof.Machine

/-- The registers with prefix `CMB_` (R19). -/
def regRowsCMB : List RegRow := [
  ⟨.CMB_ID, .comb, 0x0, 8, 1, 32,
    [⟨.CMB_ID_PX, 26, 6, .rov, 1⟩, ⟨.CMB_ID_PY, 21, 5, .ro, 1⟩, ⟨.CMB_ID_REGION, 15, 6, .ro, 1⟩, ⟨.CMB_ID_Y, 10, 5, .ro, 1⟩, ⟨.CMB_ID_X, 5, 5, .ro, 1⟩]⟩,
  ⟨.CMB_STATUS, .comb, 0x8, 8, 1, 32,
    [⟨.CMB_STATUS_MAP_SEQ, 16, 16, .rov, 1⟩, ⟨.CMB_STATUS_GOOD_WORKERS, 8, 8, .rov, 1⟩, ⟨.CMB_STATUS_MEM_LOST, 7, 1, .w1c, 1⟩, ⟨.CMB_STATUS_MOVED, 6, 1, .w1c, 1⟩, ⟨.CMB_STATUS_ROTATION, 3, 1, .rov, 1⟩, ⟨.CMB_STATUS_STATE, 0, 3, .rov, 1⟩]⟩,
  ⟨.CMB_WORKERS, .comb, 0x10, 8, 1, 64,
    [⟨.CMB_WORKERS_TEST, 58, 6, .rov, 1⟩, ⟨.CMB_WORKERS_RESERVE, 52, 6, .rov, 1⟩, ⟨.CMB_WORKERS_FENCED, 0, 34, .rov, 1⟩]⟩,
  ⟨.CMB_WMAP, .comb, 0x20, 4, 8, 32,
    [⟨.CMB_WMAP_PHYS3, 24, 6, .rov, 1⟩, ⟨.CMB_WMAP_PHYS2, 16, 6, .rov, 1⟩, ⟨.CMB_WMAP_PHYS1, 8, 6, .rov, 1⟩, ⟨.CMB_WMAP_PHYS0, 0, 6, .rov, 1⟩]⟩,
  ⟨.CMB_RMAP, .region, 0x100, 4, 1, 32,
    [⟨.CMB_RMAP_WITHDRAWN, 31, 1, .rov, 1⟩, ⟨.CMB_RMAP_GOOD3, 15, 5, .rov, 1⟩, ⟨.CMB_RMAP_GOOD2, 10, 5, .rov, 1⟩, ⟨.CMB_RMAP_GOOD1, 5, 5, .rov, 1⟩, ⟨.CMB_RMAP_GOOD0, 0, 5, .rov, 1⟩]⟩]

/-- The registers with prefix `WRK_` (R19). -/
def regRowsWRK : List RegRow := [
  ⟨.WRK_STATUS, .worker, 0x0, 4, 1, 32,
    [⟨.WRK_STATUS_STATE, 29, 3, .rov, 1⟩, ⟨.WRK_STATUS_STEP_FAILED, 28, 1, .rov, 1⟩, ⟨.WRK_STATUS_SHADOW_READY, 27, 1, .rov, 1⟩, ⟨.WRK_STATUS_ENDED, 16, 8, .rov, 1⟩, ⟨.WRK_STATUS_PARKED, 8, 8, .rov, 1⟩]⟩,
  ⟨.WRK_CFG, .worker, 0x4, 4, 1, 32,
    [⟨.WRK_CFG_SUMTOL, 16, 5, .ro, 1⟩, ⟨.WRK_CFG_THREADS, 0, 7, .ro, 1⟩]⟩,
  ⟨.WRK_ISSUED, .worker, 0x10, 8, 1, 64,
    [⟨.WRK_ISSUED_COUNT, 0, 64, .rov, 1⟩]⟩,
  ⟨.WRK_EVT, .worker, 0x20, 4, 6, 32,
    [⟨.WRK_EVT_COUNT, 0, 32, .rc, 1⟩]⟩,
  ⟨.WRK_OVF, .worker, 0x38, 4, 1, 32,
    [⟨.WRK_OVF_OVF, 0, 1, .rov, 6⟩]⟩,
  ⟨.WRK_FAULT, .worker, 0x40, 8, 1, 64,
    [⟨.WRK_FAULT_CLASS, 56, 8, .rov, 1⟩, ⟨.WRK_FAULT_DETAIL, 48, 8, .rov, 1⟩, ⟨.WRK_FAULT_THREAD, 41, 7, .rov, 1⟩, ⟨.WRK_FAULT_SLOT, 32, 9, .rov, 1⟩, ⟨.WRK_FAULT_CYCLE, 0, 24, .rov, 1⟩]⟩,
  ⟨.WRK_DBG, .worker, 0x80, 4, 1, 32,
    [⟨.WRK_DBG_HALT, 31, 1, .rw, 1⟩, ⟨.WRK_DBG_STEP, 30, 1, .wo, 1⟩, ⟨.WRK_DBG_THREAD, 23, 7, .rw, 1⟩, ⟨.WRK_DBG_BREAK, 14, 9, .rw, 1⟩, ⟨.WRK_DBG_BREAK_EN, 13, 1, .rw, 1⟩]⟩]

/-- The registers with prefix `NET_` (R19). -/
def regRowsNET : List RegRow := [
  ⟨.NET_STATUS, .comb, 0x1000, 4, 1, 32,
    [⟨.NET_STATUS_VPHASE, 28, 4, .rov, 1⟩, ⟨.NET_STATUS_SPHASE, 24, 4, .rov, 1⟩, ⟨.NET_STATUS_CPHASE, 20, 4, .rov, 1⟩, ⟨.NET_STATUS_SHADOW_READY, 15, 1, .rov, 1⟩, ⟨.NET_STATUS_STALLED, 14, 1, .rov, 1⟩]⟩,
  ⟨.NET_CFG, .comb, 0x1004, 4, 1, 32,
    [⟨.NET_CFG_VPHASES, 28, 4, .ro, 1⟩, ⟨.NET_CFG_SPHASES, 24, 4, .ro, 1⟩, ⟨.NET_CFG_CPHASES, 20, 4, .ro, 1⟩, ⟨.NET_CFG_EDGE_OFF, 4, 4, .ro, 1⟩]⟩,
  ⟨.NET_EVT, .comb, 0x1010, 4, 6, 32,
    [⟨.NET_EVT_COUNT, 0, 32, .rc, 1⟩]⟩,
  ⟨.NET_OVF, .comb, 0x1030, 4, 1, 32,
    [⟨.NET_OVF_OVF, 0, 1, .rov, 6⟩]⟩,
  ⟨.NET_STALL, .comb, 0x1040, 8, 1, 64,
    [⟨.NET_STALL_NET, 62, 2, .rov, 1⟩, ⟨.NET_STALL_INPUT, 55, 7, .rov, 1⟩, ⟨.NET_STALL_PHASE, 51, 4, .rov, 1⟩, ⟨.NET_STALL_VALID, 50, 1, .w1c, 1⟩, ⟨.NET_STALL_CYCLE, 0, 24, .rov, 1⟩]⟩,
  ⟨.NET_XING, .region, 0x200, 4, 1, 32,
    [⟨.NET_XING_TRAINED, 31, 1, .rov, 1⟩, ⟨.NET_XING_SET_N, 20, 4, .rov, 1⟩, ⟨.NET_XING_SET_E, 16, 4, .rov, 1⟩, ⟨.NET_XING_SET_S, 12, 4, .rov, 1⟩, ⟨.NET_XING_SET_W, 8, 4, .rov, 1⟩, ⟨.NET_XING_WANDER, 0, 4, .w1c, 1⟩]⟩,
  ⟨.NET_XEVT, .region, 0x204, 4, 1, 32,
    [⟨.NET_XEVT_COUNT, 0, 32, .rc, 1⟩]⟩,
  ⟨.NET_XOVF, .region, 0x208, 4, 1, 32,
    [⟨.NET_XOVF_OVF, 0, 1, .rov, 1⟩]⟩]

/-- The registers with prefix `PWR_` (R19). -/
def regRowsPWR : List RegRow := [
  ⟨.PWR_RSTAT, .region, 0x300, 4, 1, 32,
    [⟨.PWR_RSTAT_CA_STATE, 29, 3, .rov, 1⟩, ⟨.PWR_RSTAT_SP_STATE, 27, 2, .rov, 1⟩, ⟨.PWR_RSTAT_SPLL_LOCK, 26, 1, .rov, 1⟩, ⟨.PWR_RSTAT_CPLL_LOCK, 25, 1, .rov, 1⟩, ⟨.PWR_RSTAT_MCLK_LOCK, 24, 1, .rov, 1⟩, ⟨.PWR_RSTAT_HOT, 23, 1, .rov, 1⟩, ⟨.PWR_RSTAT_HOT_TICKS, 18, 2, .rov, 1⟩, ⟨.PWR_RSTAT_TMAX, 8, 10, .rov, 1⟩]⟩,
  ⟨.PWR_RTEMP, .region, 0x308, 8, 1, 64,
    [⟨.PWR_RTEMP_TEMP, 0, 8, .rov, 8⟩]⟩,
  ⟨.PWR_RVOLT, .region, 0x310, 8, 1, 64,
    [⟨.PWR_RVOLT_VMON, 0, 16, .rov, 4⟩]⟩,
  ⟨.PWR_REVT, .region, 0x320, 4, 2, 32,
    [⟨.PWR_REVT_COUNT, 0, 32, .rc, 1⟩]⟩,
  ⟨.PWR_ROVF, .region, 0x328, 4, 1, 32,
    [⟨.PWR_ROVF_OVF, 0, 1, .rov, 2⟩]⟩,
  ⟨.PWR_CTRL, .keeper, 0x4000, 4, 1, 32,
    [⟨.PWR_CTRL_AUTO_SLEEP, 31, 1, .rw, 1⟩, ⟨.PWR_CTRL_IDLE_TICKS, 0, 8, .rw, 1⟩]⟩,
  ⟨.PWR_HEAT, .keeper, 0x4008, 4, 1, 32,
    [⟨.PWR_HEAT_TRIPPED, 31, 1, .rov, 1⟩, ⟨.PWR_HEAT_RATIO, 16, 5, .rov, 1⟩, ⟨.PWR_HEAT_HOTREG, 10, 6, .rov, 1⟩, ⟨.PWR_HEAT_TMAX, 0, 10, .rov, 1⟩]⟩,
  ⟨.PWR_PAUSED, .keeper, 0x4010, 8, 1, 64,
    [⟨.PWR_PAUSED_COUNT, 0, 64, .rov, 1⟩]⟩,
  ⟨.PWR_ENERGY, .keeper, 0x4018, 8, 1, 64,
    [⟨.PWR_ENERGY_UJ, 0, 64, .rov, 1⟩]⟩]

/-- The registers with prefix `CLK_` (R19). -/
def regRowsCLK : List RegRow := [
  ⟨.CLK_STATUS, .keeper, 0x4100, 4, 1, 32,
    [⟨.CLK_STATUS_REF_OK, 31, 1, .rov, 1⟩, ⟨.CLK_STATUS_RC_ACTIVE, 30, 1, .rov, 1⟩, ⟨.CLK_STATUS_KPLL_LOCK, 29, 1, .rov, 1⟩]⟩,
  ⟨.CLK_TICK, .keeper, 0x4108, 8, 1, 64,
    [⟨.CLK_TICK_COUNT, 0, 48, .rov, 1⟩]⟩,
  ⟨.CLK_CYCLE, .keeper, 0x4110, 8, 1, 64,
    [⟨.CLK_CYCLE_COUNT, 0, 64, .rov, 1⟩]⟩]

/-- The registers with prefix `EAV_` (R19). -/
def regRowsEAV : List RegRow := [
  ⟨.EAV_SEG, .eave, 0x0, 4, 1, 32,
    [⟨.EAV_SEG_STATE, 30, 2, .rov, 1⟩, ⟨.EAV_SEG_RATE, 28, 2, .rov, 1⟩, ⟨.EAV_SEG_TRANSIT, 27, 1, .rov, 1⟩, ⟨.EAV_SEG_DEGRADED, 26, 1, .rov, 1⟩, ⟨.EAV_SEG_IN_SERVICE, 0, 9, .rov, 1⟩]⟩,
  ⟨.EAV_EVT, .eave, 0x10, 4, 6, 32,
    [⟨.EAV_EVT_COUNT, 0, 32, .rc, 1⟩]⟩,
  ⟨.EAV_OVF, .eave, 0x30, 4, 1, 32,
    [⟨.EAV_OVF_OVF, 0, 1, .rov, 6⟩]⟩,
  ⟨.EAV_POISON, .eave, 0x40, 8, 1, 64,
    [⟨.EAV_POISON_VALID, 63, 1, .w1c, 1⟩, ⟨.EAV_POISON_CHANNEL, 52, 11, .rov, 1⟩, ⟨.EAV_POISON_GROUP, 31, 21, .rov, 1⟩, ⟨.EAV_POISON_BLOCK, 27, 4, .rov, 1⟩, ⟨.EAV_POISON_CTX, 23, 4, .rov, 1⟩]⟩,
  ⟨.EAV_CTX_CFG, .eave0, 0x8000, 8, 16, 64,
    [⟨.EAV_CTX_CFG_GRANULE, 62, 2, .rwl, 1⟩, ⟨.EAV_CTX_CFG_MIRROR_BASE, 41, 21, .rwl, 1⟩, ⟨.EAV_CTX_CFG_MIRROR_COUNT, 20, 21, .rwl, 1⟩]⟩]

/-- The registers with prefix `MEM_` (R19). -/
def regRowsMEM : List RegRow := [
  ⟨.MEM_SCRUB, .eave, 0x100, 8, 1, 64,
    [⟨.MEM_SCRUB_LAST_PASS, 0, 48, .rov, 1⟩]⟩,
  ⟨.MEM_CHSTAT, .eave, 0x1000, 16, 256, 64,
    [⟨.MEM_CHSTAT_STATE, 62, 2, .rov, 1⟩, ⟨.MEM_CHSTAT_MIRROR, 61, 1, .rov, 1⟩, ⟨.MEM_CHSTAT_OWNED, 60, 1, .rov, 1⟩, ⟨.MEM_CHSTAT_OWNER, 56, 4, .rov, 1⟩, ⟨.MEM_CHSTAT_PPR, 45, 11, .rov, 1⟩, ⟨.MEM_CHSTAT_REMAPPED, 34, 11, .rov, 1⟩, ⟨.MEM_CHSTAT_ERR_OVF, 33, 1, .rov, 1⟩]⟩,
  ⟨.MEM_CHERR, .eave, 0x1008, 16, 256, 32,
    [⟨.MEM_CHERR_COUNT, 0, 32, .rc, 1⟩]⟩]

/-- The registers with prefix `RFT_` (R19). -/
def regRowsRFT : List RegRow := [
  ⟨.RFT_STAT, .eave, 0x3000, 16, 14, 64,
    [⟨.RFT_STAT_FAILED, 60, 4, .rov, 1⟩, ⟨.RFT_STAT_EVT_OVF, 56, 1, .rov, 1⟩, ⟨.RFT_STAT_OWNER, 36, 5, .rov, 4⟩, ⟨.RFT_STAT_SPARES, 0, 6, .rov, 4⟩]⟩,
  ⟨.RFT_EVT, .eave, 0x3008, 16, 14, 32,
    [⟨.RFT_EVT_COUNT, 0, 32, .rc, 1⟩]⟩]

/-- The registers with prefix `MSH_` (R19). -/
def regRowsMSH : List RegRow := [
  ⟨.MSH_STATUS, .comb, 0x2000, 4, 1, 32,
    [⟨.MSH_STATUS_RXFLOWS, 22, 10, .rov, 1⟩, ⟨.MSH_STATUS_TXFLOWS, 15, 7, .rov, 1⟩]⟩,
  ⟨.MSH_EVT, .comb, 0x2010, 4, 6, 32,
    [⟨.MSH_EVT_COUNT, 0, 32, .rc, 1⟩]⟩,
  ⟨.MSH_OVF, .comb, 0x2030, 4, 1, 32,
    [⟨.MSH_OVF_OVF, 0, 1, .rov, 6⟩]⟩,
  ⟨.MSH_DROP, .comb, 0x2040, 8, 1, 64,
    [⟨.MSH_DROP_VALID, 63, 1, .w1c, 1⟩, ⟨.MSH_DROP_CAUSE, 61, 2, .rov, 1⟩, ⟨.MSH_DROP_SRC, 45, 16, .rov, 1⟩, ⟨.MSH_DROP_FLOW, 39, 6, .rov, 1⟩, ⟨.MSH_DROP_SEQ, 23, 16, .rov, 1⟩, ⟨.MSH_DROP_GEN, 15, 8, .rov, 1⟩, ⟨.MSH_DROP_CTX, 11, 4, .rov, 1⟩]⟩]

/-- The registers with prefix `MSG_` (R19). -/
def regRowsMSG : List RegRow := [
  ⟨.MSG_QBIND, .worker, 0x100, 8, 8, 64,
    [⟨.MSG_QBIND_CREDITS, 59, 5, .rov, 1⟩, ⟨.MSG_QBIND_MAX, 54, 5, .ro, 1⟩, ⟨.MSG_QBIND_GONE, 53, 1, .rov, 1⟩, ⟨.MSG_QBIND_X, 47, 5, .ro, 1⟩, ⟨.MSG_QBIND_Y, 42, 5, .ro, 1⟩, ⟨.MSG_QBIND_W, 36, 6, .ro, 1⟩, ⟨.MSG_QBIND_Q, 33, 3, .ro, 1⟩]⟩,
  ⟨.MSG_SBIND, .worker, 0x140, 8, 8, 64,
    [⟨.MSG_SBIND_UNACKED, 52, 12, .rov, 1⟩, ⟨.MSG_SBIND_X, 47, 5, .ro, 1⟩, ⟨.MSG_SBIND_Y, 42, 5, .ro, 1⟩, ⟨.MSG_SBIND_OBJ, 30, 12, .ro, 1⟩, ⟨.MSG_SBIND_USED, 0, 1, .ro, 1⟩]⟩,
  ⟨.MSG_QSTAT, .worker, 0x200, 32, 8, 32,
    [⟨.MSG_QSTAT_ENTRIES, 27, 5, .rov, 1⟩, ⟨.MSG_QSTAT_ACCEPT, 26, 1, .rov, 1⟩, ⟨.MSG_QSTAT_POPVALID, 3, 1, .rov, 1⟩, ⟨.MSG_QSTAT_POPLEN, 0, 2, .rov, 1⟩]⟩,
  ⟨.MSG_QPOP, .worker, 0x204, 32, 8, 32,
    [⟨.MSG_QPOP_WORD0, 0, 32, .rov, 1⟩]⟩,
  ⟨.MSG_QW1, .worker, 0x208, 32, 8, 32,
    [⟨.MSG_QW1_WORD, 0, 32, .rov, 1⟩]⟩,
  ⟨.MSG_QW2, .worker, 0x20C, 32, 8, 32,
    [⟨.MSG_QW2_WORD, 0, 32, .rov, 1⟩]⟩,
  ⟨.MSG_QW3, .worker, 0x210, 32, 8, 32,
    [⟨.MSG_QW3_WORD, 0, 32, .rov, 1⟩]⟩,
  ⟨.MSG_EVT, .worker, 0x300, 4, 3, 32,
    [⟨.MSG_EVT_COUNT, 0, 32, .rc, 1⟩]⟩,
  ⟨.MSG_OVF, .worker, 0x310, 4, 1, 32,
    [⟨.MSG_OVF_OVF, 0, 1, .rov, 3⟩]⟩]

/-- The registers with prefix `SYN_` (R19). -/
def regRowsSYN : List RegRow := [
  ⟨.SYN_OBJ, .so, 0x0, 16, 4096, 64,
    [⟨.SYN_OBJ_TYPE, 62, 2, .ro, 1⟩, ⟨.SYN_OBJ_WAITERS, 49, 13, .rov, 1⟩, ⟨.SYN_OBJ_PARAM, 32, 16, .ro, 1⟩, ⟨.SYN_OBJ_VALUE, 0, 32, .rw, 1⟩]⟩,
  ⟨.SYN_OBJPH, .so, 0x8, 16, 4096, 64,
    [⟨.SYN_OBJPH_PHASE, 48, 16, .rov, 1⟩]⟩,
  ⟨.SYN_EVT, .comb, 0x3010, 4, 4, 32,
    [⟨.SYN_EVT_COUNT, 0, 32, .rc, 1⟩]⟩,
  ⟨.SYN_OVF, .comb, 0x3030, 4, 1, 32,
    [⟨.SYN_OVF_OVF, 0, 1, .rov, 4⟩]⟩]

/-- The registers with prefix `DMA_` (R19). -/
def regRowsDMA : List RegRow := [
  ⟨.DMA_CTRL, .dma, 0x0, 4, 1, 32,
    [⟨.DMA_CTRL_GO, 31, 1, .wo, 1⟩, ⟨.DMA_CTRL_STOP, 30, 1, .wo, 1⟩, ⟨.DMA_CTRL_RESUME, 29, 1, .wo, 1⟩, ⟨.DMA_CTRL_SKIP, 28, 1, .wo, 1⟩, ⟨.DMA_CTRL_ABORT, 27, 1, .wo, 1⟩, ⟨.DMA_CTRL_PRESET, 26, 1, .wo, 1⟩]⟩,
  ⟨.DMA_DESC, .dma, 0x8, 8, 1, 64,
    [⟨.DMA_DESC_ADDR, 0, 64, .rw, 1⟩]⟩,
  ⟨.DMA_STATUS, .dma, 0x10, 4, 1, 32,
    [⟨.DMA_STATUS_STATE, 29, 3, .rov, 1⟩, ⟨.DMA_STATUS_STOP_PEND, 28, 1, .rov, 1⟩, ⟨.DMA_STATUS_CAUSE, 16, 8, .rov, 1⟩, ⟨.DMA_STATUS_OUT, 8, 8, .rov, 1⟩]⟩,
  ⟨.DMA_CUR, .dma, 0x18, 8, 1, 64,
    [⟨.DMA_CUR_ADDR, 0, 64, .rov, 1⟩]⟩,
  ⟨.DMA_DONE, .dma, 0x20, 4, 1, 32,
    [⟨.DMA_DONE_BYTES, 0, 32, .rov, 1⟩]⟩,
  ⟨.DMA_FAIL, .dma, 0x28, 8, 1, 64,
    [⟨.DMA_FAIL_ADDR, 0, 64, .rov, 1⟩]⟩,
  ⟨.DMA_FINFO, .dma, 0x30, 4, 1, 32,
    [⟨.DMA_FINFO_VALID, 31, 1, .w1c, 1⟩, ⟨.DMA_FINFO_DIR, 29, 2, .rov, 1⟩, ⟨.DMA_FINFO_CAUSE, 21, 8, .rov, 1⟩]⟩,
  ⟨.DMA_OWNER, .dma, 0x38, 4, 1, 32,
    [⟨.DMA_OWNER_BOUND, 31, 1, .rov, 1⟩, ⟨.DMA_OWNER_CTX, 27, 4, .rov, 1⟩, ⟨.DMA_OWNER_INDEX, 20, 7, .rov, 1⟩]⟩,
  ⟨.DMA_EVT, .dma, 0x40, 4, 2, 32,
    [⟨.DMA_EVT_COUNT, 0, 32, .rc, 1⟩]⟩,
  ⟨.DMA_OVF, .dma, 0x48, 4, 1, 32,
    [⟨.DMA_OVF_OVF, 0, 1, .rov, 2⟩]⟩]

/-- The registers with prefix `TND_` (R19). -/
def regRowsTND : List RegRow := [
  ⟨.TND_STATUS, .comb, 0x4000, 4, 1, 32,
    [⟨.TND_STATUS_MODE, 29, 3, .rov, 1⟩, ⟨.TND_STATUS_FW_OK, 28, 1, .rov, 1⟩, ⟨.TND_STATUS_BEAT, 0, 16, .rov, 1⟩]⟩,
  ⟨.TND_ROT, .comb, 0x4008, 8, 1, 64,
    [⟨.TND_ROT_SWAPS, 48, 16, .rov, 1⟩, ⟨.TND_ROT_LAST_SWAP, 0, 48, .rov, 1⟩]⟩,
  ⟨.TND_EVT, .comb, 0x4010, 4, 4, 32,
    [⟨.TND_EVT_COUNT, 0, 32, .rc, 1⟩]⟩,
  ⟨.TND_OVF, .comb, 0x4020, 4, 1, 32,
    [⟨.TND_OVF_OVF, 0, 1, .rov, 4⟩]⟩]

/-- The registers with prefix `ASY_` (R19). -/
def regRowsASY : List RegRow := [
  ⟨.ASY_STATUS, .comb, 0x4100, 4, 1, 32,
    [⟨.ASY_STATUS_STATE, 29, 3, .rov, 1⟩, ⟨.ASY_STATUS_POINT, 27, 2, .rov, 1⟩, ⟨.ASY_STATUS_WORKER, 21, 6, .rov, 1⟩, ⟨.ASY_STATUS_KERNEL, 16, 5, .rov, 1⟩]⟩,
  ⟨.ASY_EVT, .comb, 0x4110, 4, 2, 32,
    [⟨.ASY_EVT_COUNT, 0, 32, .rc, 1⟩]⟩,
  ⟨.ASY_OVF, .comb, 0x4118, 4, 1, 32,
    [⟨.ASY_OVF_OVF, 0, 1, .rov, 2⟩]⟩]

/-- The registers with prefix `BST_` (R19). -/
def regRowsBST : List RegRow := [
  ⟨.BST_CTRL, .keeper, 0x5000, 4, 1, 32,
    [⟨.BST_CTRL_SCOUTS, 31, 1, .rw, 1⟩, ⟨.BST_CTRL_ROTATION, 30, 1, .rw, 1⟩, ⟨.BST_CTRL_MARGIN, 29, 1, .rw, 1⟩, ⟨.BST_CTRL_HOT, 28, 1, .rw, 1⟩, ⟨.BST_CTRL_MONITORS, 27, 1, .rw, 1⟩]⟩,
  ⟨.BST_HEALTH, .keeper, 0x5008, 4, 1, 32,
    [⟨.BST_HEALTH_DEGRADED, 31, 1, .rov, 1⟩, ⟨.BST_HEALTH_STATES, 23, 8, .rov, 1⟩, ⟨.BST_HEALTH_PROMISE, 22, 1, .rov, 1⟩, ⟨.BST_HEALTH_REGIONS_OUT, 0, 6, .rov, 1⟩]⟩,
  ⟨.BST_SPARES, .keeper, 0x5010, 8, 1, 64,
    [⟨.BST_SPARES_SPARE_COMBS, 56, 8, .rov, 1⟩, ⟨.BST_SPARES_C34, 46, 10, .rov, 1⟩, ⟨.BST_SPARES_C33, 36, 10, .rov, 1⟩, ⟨.BST_SPARES_C32, 26, 10, .rov, 1⟩, ⟨.BST_SPARES_MARGINAL, 16, 10, .rov, 1⟩]⟩,
  ⟨.BST_LIFE, .keeper, 0x5018, 4, 1, 32,
    [⟨.BST_LIFE_DAYS, 16, 16, .rov, 1⟩, ⟨.BST_LIFE_REGION, 10, 6, .rov, 1⟩]⟩,
  ⟨.BST_EVT, .keeper, 0x5020, 4, 5, 32,
    [⟨.BST_EVT_COUNT, 0, 32, .rc, 1⟩]⟩,
  ⟨.BST_OVF, .keeper, 0x5038, 4, 1, 32,
    [⟨.BST_OVF_OVF, 0, 1, .rov, 5⟩]⟩]

/-- The registers with prefix `CTX_` (R19). -/
def regRowsCTX : List RegRow := [
  ⟨.CTX_STATE, .ctx, 0x0, 4, 1, 32,
    [⟨.CTX_STATE_STATE, 29, 3, .rov, 1⟩, ⟨.CTX_STATE_GEN, 21, 8, .rov, 1⟩, ⟨.CTX_STATE_FUNC, 16, 5, .rov, 1⟩, ⟨.CTX_STATE_HOLD_CLASS, 8, 8, .rov, 1⟩, ⟨.CTX_STATE_RESTART_BLOCKED, 7, 1, .rov, 1⟩]⟩,
  ⟨.CTX_CTRL, .ctx, 0x4, 4, 1, 32,
    [⟨.CTX_CTRL_RESET, 31, 1, .wo, 1⟩, ⟨.CTX_CTRL_GEN_EN, 30, 1, .wo, 1⟩, ⟨.CTX_CTRL_GEN_SET, 22, 8, .wo, 1⟩, ⟨.CTX_CTRL_HOLD_TICKS, 0, 8, .rw, 1⟩]⟩,
  ⟨.CTX_ALLOT, .ctx, 0x8, 8, 1, 64,
    [⟨.CTX_ALLOT_COL0, 61, 3, .rov, 1⟩, ⟨.CTX_ALLOT_COL1, 58, 3, .rov, 1⟩, ⟨.CTX_ALLOT_ROW0, 55, 3, .rov, 1⟩, ⟨.CTX_ALLOT_ROW1, 52, 3, .rov, 1⟩, ⟨.CTX_ALLOT_CHANNELS, 40, 12, .rov, 1⟩, ⟨.CTX_ALLOT_RING_DMA, 33, 7, .rov, 1⟩, ⟨.CTX_ALLOT_HOST_DMA, 28, 5, .rov, 1⟩, ⟨.CTX_ALLOT_SYNC, 15, 13, .rov, 1⟩]⟩,
  ⟨.CTX_STEP, .ctx, 0x10, 8, 1, 64,
    [⟨.CTX_STEP_COUNT, 0, 48, .rov, 1⟩]⟩,
  ⟨.CTX_STEPSTAT, .ctx, 0x18, 8, 1, 64,
    [⟨.CTX_STEPSTAT_SLIP, 32, 32, .rov, 1⟩, ⟨.CTX_STEPSTAT_LAST_WAIT, 0, 32, .rov, 1⟩]⟩,
  ⟨.CTX_EVT, .ctx, 0x20, 4, 4, 32,
    [⟨.CTX_EVT_COUNT, 0, 32, .rc, 1⟩]⟩,
  ⟨.CTX_OVF, .ctx, 0x30, 4, 1, 32,
    [⟨.CTX_OVF_OVF, 0, 1, .rov, 4⟩]⟩,
  ⟨.CTX_CAPCFG, .ctx, 0x38, 8, 1, 64,
    [⟨.CTX_CAPCFG_CAPTURE, 63, 1, .rw, 1⟩, ⟨.CTX_CAPCFG_SAMPLE, 62, 1, .rw, 1⟩, ⟨.CTX_CAPCFG_LS_PAGE, 55, 7, .rw, 1⟩, ⟨.CTX_CAPCFG_CM_PAGE, 40, 15, .rw, 1⟩, ⟨.CTX_CAPCFG_BASE_PAGE, 0, 31, .rw, 1⟩]⟩,
  ⟨.CTX_CAPSTAT, .ctx, 0x40, 8, 1, 64,
    [⟨.CTX_CAPSTAT_VALID, 63, 1, .w1c, 1⟩, ⟨.CTX_CAPSTAT_RESULT, 60, 3, .rov, 1⟩, ⟨.CTX_CAPSTAT_SLOT, 56, 4, .rov, 1⟩, ⟨.CTX_CAPSTAT_GEN, 48, 8, .rov, 1⟩, ⟨.CTX_CAPSTAT_BYTES, 0, 32, .rov, 1⟩]⟩]

/-- The registers with prefix `PRT_` (R19). -/
def regRowsPRT : List RegRow := [
  ⟨.PRT_STATUS, .port, 0x0, 4, 1, 32,
    [⟨.PRT_STATUS_STATE, 29, 3, .rov, 1⟩, ⟨.PRT_STATUS_TX_LANES, 24, 5, .rov, 1⟩, ⟨.PRT_STATUS_RX_LANES, 19, 5, .rov, 1⟩, ⟨.PRT_STATUS_CAUSE, 16, 3, .rov, 1⟩, ⟨.PRT_STATUS_PEER_VALID, 15, 1, .rov, 1⟩, ⟨.PRT_STATUS_PEER, 5, 10, .rov, 1⟩]⟩,
  ⟨.PRT_LANES, .port, 0x8, 8, 1, 64,
    [⟨.PRT_LANES_TX_FSP, 63, 1, .rov, 1⟩, ⟨.PRT_LANES_TX_FSP_FOR, 62, 1, .rov, 1⟩, ⟨.PRT_LANES_TX_W0SP, 58, 4, .rov, 1⟩, ⟨.PRT_LANES_TX_W1SP, 54, 4, .rov, 1⟩, ⟨.PRT_LANES_TX_OK, 32, 16, .rov, 1⟩, ⟨.PRT_LANES_RX_FSP, 31, 1, .rov, 1⟩, ⟨.PRT_LANES_RX_FSP_FOR, 30, 1, .rov, 1⟩, ⟨.PRT_LANES_RX_W0SP, 26, 4, .rov, 1⟩, ⟨.PRT_LANES_RX_W1SP, 22, 4, .rov, 1⟩, ⟨.PRT_LANES_RX_OK, 0, 16, .rov, 1⟩]⟩,
  ⟨.PRT_LAT, .port, 0x10, 4, 1, 32,
    [⟨.PRT_LAT_PINNED, 31, 1, .rov, 1⟩, ⟨.PRT_LAT_FIBRE, 16, 12, .rov, 1⟩, ⟨.PRT_LAT_LAT, 0, 16, .rov, 1⟩]⟩,
  ⟨.PRT_EVT, .port, 0x20, 4, 6, 32,
    [⟨.PRT_EVT_COUNT, 0, 32, .rc, 1⟩]⟩,
  ⟨.PRT_OVF, .port, 0x38, 4, 1, 32,
    [⟨.PRT_OVF_OVF, 0, 1, .rov, 6⟩]⟩,
  ⟨.PRT_TOPO, .port0, 0x8000, 4, 1, 32,
    [⟨.PRT_TOPO_VALID, 31, 1, .rw, 1⟩, ⟨.PRT_TOPO_P, 30, 1, .rw, 1⟩, ⟨.PRT_TOPO_NX1, 26, 4, .rw, 1⟩, ⟨.PRT_TOPO_NY1, 22, 4, .rw, 1⟩, ⟨.PRT_TOPO_X, 18, 4, .rw, 1⟩, ⟨.PRT_TOPO_Y, 14, 4, .rw, 1⟩, ⟨.PRT_TOPO_TWIN_EXP, 13, 1, .rw, 1⟩, ⟨.PRT_TOPO_ATT_EXP, 12, 1, .rw, 1⟩, ⟨.PRT_TOPO_MODULE, 2, 10, .rov, 1⟩]⟩,
  ⟨.PRT_TWIN, .port0, 0x8008, 4, 1, 32,
    [⟨.PRT_TWIN_PAIRED, 31, 1, .rov, 1⟩, ⟨.PRT_TWIN_ADMIT, 29, 2, .rov, 1⟩, ⟨.PRT_TWIN_ADMIT_OPEN, 28, 1, .rw, 1⟩, ⟨.PRT_TWIN_SH_K, 22, 6, .rw, 1⟩]⟩,
  ⟨.PRT_SPAN, .port0, 0x8100, 8, 16, 64,
    [⟨.PRT_SPAN_VALID, 63, 1, .rw, 1⟩, ⟨.PRT_SPAN_SPAN, 51, 12, .rw, 1⟩, ⟨.PRT_SPAN_X0, 47, 4, .rw, 1⟩, ⟨.PRT_SPAN_NXS1, 43, 4, .rw, 1⟩, ⟨.PRT_SPAN_Y0, 39, 4, .rw, 1⟩, ⟨.PRT_SPAN_NYS1, 35, 4, .rw, 1⟩]⟩,
  ⟨.PRT_MIRCFG, .port0, 0x8200, 32, 16, 64,
    [⟨.PRT_MIRCFG_RESUME, 63, 1, .wo, 1⟩, ⟨.PRT_MIRCFG_ENTRIES, 50, 13, .rw, 1⟩, ⟨.PRT_MIRCFG_WAIT, 26, 24, .rw, 1⟩]⟩,
  ⟨.PRT_MIRWIN, .port0, 0x8208, 32, 16, 64,
    [⟨.PRT_MIRWIN_BASE, 48, 16, .rw, 1⟩, ⟨.PRT_MIRWIN_SIZE, 32, 16, .rw, 1⟩]⟩,
  ⟨.PRT_MIRSTAT, .port0, 0x8210, 32, 16, 64,
    [⟨.PRT_MIRSTAT_SUSPENDED, 63, 1, .rov, 1⟩, ⟨.PRT_MIRSTAT_FULL, 62, 1, .rov, 1⟩, ⟨.PRT_MIRSTAT_CAUSE, 58, 4, .rov, 1⟩, ⟨.PRT_MIRSTAT_COVER, 0, 48, .rov, 1⟩]⟩,
  ⟨.PRT_MIRTAB, .port0, 0x8218, 32, 16, 64,
    [⟨.PRT_MIRTAB_TABLE, 0, 31, .rw, 1⟩]⟩]

/-- The registers with prefix `HST_` (R19). -/
def regRowsHST : List RegRow := [
  ⟨.HST_STATUS, .host, 0x1000, 4, 1, 32,
    [⟨.HST_STATUS_STAGE, 28, 4, .rov, 1⟩, ⟨.HST_STATUS_FAILED, 27, 1, .rov, 1⟩, ⟨.HST_STATUS_ATTEMPT, 25, 2, .rov, 1⟩, ⟨.HST_STATUS_HOLD, 24, 1, .rov, 1⟩, ⟨.HST_STATUS_LINK_SLOW, 23, 1, .rov, 1⟩, ⟨.HST_STATUS_SPEED, 20, 3, .rov, 1⟩, ⟨.HST_STATUS_WIDTH, 18, 2, .rov, 1⟩, ⟨.HST_STATUS_FLIT, 17, 1, .rov, 1⟩, ⟨.HST_STATUS_IDE, 16, 1, .rov, 1⟩, ⟨.HST_STATUS_BOUND, 4, 1, .rov, 1⟩, ⟨.HST_STATUS_CTX, 0, 4, .rov, 1⟩]⟩,
  ⟨.HST_INBOX, .host, 0x1004, 4, 1, 32,
    [⟨.HST_INBOX_ACCEPTED, 16, 16, .rov, 1⟩, ⟨.HST_INBOX_RETURNED, 0, 16, .rov, 1⟩]⟩,
  ⟨.HST_CQ_BASE, .host, 0x1008, 8, 1, 64,
    [⟨.HST_CQ_BASE_ADDR, 12, 52, .rw, 1⟩]⟩,
  ⟨.HST_FQ_BASE, .host, 0x1018, 8, 1, 64,
    [⟨.HST_FQ_BASE_ADDR, 12, 52, .rw, 1⟩]⟩,
  ⟨.HST_CQ_CFG, .host, 0x1010, 4, 1, 32,
    [⟨.HST_CQ_CFG_ENABLE, 31, 1, .rw, 1⟩, ⟨.HST_CQ_CFG_LOG2, 0, 5, .rw, 1⟩]⟩,
  ⟨.HST_FQ_CFG, .host, 0x1020, 4, 1, 32,
    [⟨.HST_FQ_CFG_ENABLE, 31, 1, .rw, 1⟩, ⟨.HST_FQ_CFG_LOG2, 0, 5, .rw, 1⟩]⟩,
  ⟨.HST_CQ_PTR, .host, 0x1014, 4, 1, 32,
    [⟨.HST_CQ_PTR_TAIL, 16, 16, .rov, 1⟩, ⟨.HST_CQ_PTR_HEAD, 0, 16, .rw, 1⟩]⟩,
  ⟨.HST_FQ_PTR, .host, 0x1024, 4, 1, 32,
    [⟨.HST_FQ_PTR_TAIL, 16, 16, .rov, 1⟩, ⟨.HST_FQ_PTR_HEAD, 0, 16, .rw, 1⟩]⟩,
  ⟨.HST_WIN_BASE, .host, 0x1028, 8, 1, 64,
    [⟨.HST_WIN_BASE_BASE, 36, 28, .rw, 1⟩]⟩,
  ⟨.HST_AFAULT, .host, 0x1030, 8, 1, 64,
    [⟨.HST_AFAULT_ADDR, 0, 64, .rov, 1⟩]⟩,
  ⟨.HST_AFINFO, .host, 0x1038, 4, 1, 32,
    [⟨.HST_AFINFO_VALID, 31, 1, .w1c, 1⟩, ⟨.HST_AFINFO_DIR, 30, 1, .rov, 1⟩]⟩,
  ⟨.HST_EVT, .host, 0x1040, 4, 4, 32,
    [⟨.HST_EVT_COUNT, 0, 32, .rc, 1⟩]⟩,
  ⟨.HST_OVF, .host, 0x1050, 4, 1, 32,
    [⟨.HST_OVF_OVF, 0, 1, .rov, 4⟩]⟩]

/-- The registers with prefix `FUS_` (R19). -/
def regRowsFUS : List RegRow := [
  ⟨.FUS_START, .fuse, 0x0, 8, 1, 64,
    [⟨.FUS_START_QUICK, 63, 1, .rov, 1⟩, ⟨.FUS_START_SEAL, 59, 4, .rov, 1⟩, ⟨.FUS_START_CAUSE, 57, 2, .rov, 1⟩, ⟨.FUS_START_ALT, 46, 11, .rov, 1⟩, ⟨.FUS_START_READY, 0, 32, .rov, 1⟩]⟩,
  ⟨.FUS_STATUS, .fuse, 0x8, 4, 1, 32,
    [⟨.FUS_STATUS_ROWS_FULL, 31, 1, .rov, 1⟩, ⟨.FUS_STATUS_COPY_OK, 30, 1, .rov, 1⟩, ⟨.FUS_STATUS_SHIP_OK, 29, 1, .rov, 1⟩, ⟨.FUS_STATUS_SHIP, 25, 4, .rov, 1⟩, ⟨.FUS_STATUS_ECC_FAIL, 24, 1, .rov, 1⟩, ⟨.FUS_STATUS_ROWS_USED, 13, 11, .rov, 1⟩]⟩,
  ⟨.FUS_RECORD, .fuse, 0xC, 4, 1, 32,
    [⟨.FUS_RECORD_ENTRIES, 16, 16, .rov, 1⟩, ⟨.FUS_RECORD_JCOUNT, 0, 9, .rov, 1⟩]⟩,
  ⟨.FUS_EVT, .fuse, 0x10, 4, 3, 32,
    [⟨.FUS_EVT_COUNT, 0, 32, .rc, 1⟩]⟩,
  ⟨.FUS_OVF, .fuse, 0x20, 4, 1, 32,
    [⟨.FUS_OVF_OVF, 0, 1, .rov, 3⟩]⟩,
  ⟨.FUS_CMAP, .fuse, 0x10000, 8, 840, 64,
    [⟨.FUS_CMAP_COMB_OK, 63, 1, .ro, 1⟩, ⟨.FUS_CMAP_WORKER_OK, 29, 34, .ro, 1⟩, ⟨.FUS_CMAP_MEMREP, 20, 9, .ro, 1⟩]⟩,
  ⟨.FUS_RMAP, .fuse, 0x12000, 8, 42, 64,
    [⟨.FUS_RMAP_SPINE_OK, 63, 1, .ro, 1⟩, ⟨.FUS_RMAP_CA_OK, 62, 1, .ro, 1⟩, ⟨.FUS_RMAP_VTRIM, 57, 5, .ro, 1⟩]⟩,
  ⟨.FUS_CHMAP, .fuse, 0x13000, 8, 32, 64,
    [⟨.FUS_CHMAP_CH_OK, 0, 64, .ro, 1⟩]⟩,
  ⟨.FUS_DEFECT, .fuse, 0x20000, 8, 65535, 64,
    [⟨.FUS_DEFECT_ENTRY, 0, 64, .rov, 1⟩]⟩]

/-- The registers with prefix `SEC_` (R19). -/
def regRowsSEC : List RegRow := [
  ⟨.SEC_STATE, .fuse, 0xC0000, 8, 1, 64,
    [⟨.SEC_STATE_STATE, 61, 3, .rov, 1⟩, ⟨.SEC_STATE_LIFE, 59, 2, .ro, 1⟩, ⟨.SEC_STATE_SCAN, 58, 1, .rov, 1⟩, ⟨.SEC_STATE_KEYLOCK, 57, 1, .rov, 1⟩, ⟨.SEC_STATE_KEY_OK, 56, 1, .rov, 1⟩, ⟨.SEC_STATE_CERT_OK, 55, 1, .rov, 1⟩, ⟨.SEC_STATE_VFUSED, 52, 3, .ro, 1⟩, ⟨.SEC_STATE_VREVOKED, 49, 3, .rov, 1⟩, ⟨.SEC_STATE_OFUSED, 46, 3, .rov, 1⟩, ⟨.SEC_STATE_OREVOKED, 43, 3, .rov, 1⟩, ⟨.SEC_STATE_OWNER_ACTIVE, 42, 1, .rov, 1⟩, ⟨.SEC_STATE_LC_ROW, 34, 8, .rov, 1⟩, ⟨.SEC_STATE_BUSY, 33, 1, .rov, 1⟩]⟩,
  ⟨.SEC_FW, .fuse, 0xC0008, 4, 1, 32,
    [⟨.SEC_FW_SVN_MIN, 25, 7, .rov, 1⟩, ⟨.SEC_FW_SVN, 18, 7, .ro, 1⟩]⟩,
  ⟨.SEC_EVT, .fuse, 0xC0010, 4, 4, 32,
    [⟨.SEC_EVT_COUNT, 0, 32, .rc, 1⟩]⟩,
  ⟨.SEC_OVF, .fuse, 0xC0020, 4, 1, 32,
    [⟨.SEC_OVF_OVF, 0, 1, .rov, 4⟩]⟩,
  ⟨.SEC_IDHASH, .fuse, 0xC0100, 8, 8, 64,
    [⟨.SEC_IDHASH_HASH, 0, 64, .rov, 1⟩]⟩,
  ⟨.SEC_VKEY, .fuse, 0xC0200, 8, 24, 64,
    [⟨.SEC_VKEY_HASH, 0, 64, .rov, 1⟩]⟩,
  ⟨.SEC_OKEY, .fuse, 0xC0300, 8, 24, 64,
    [⟨.SEC_OKEY_HASH, 0, 64, .rov, 1⟩]⟩]

/-- The registers with prefix `KPR_` (R19). -/
def regRowsKPR : List RegRow := [
  ⟨.KPR_STATUS, .keeper, 0x0, 4, 1, 32,
    [⟨.KPR_STATUS_KRESET, 31, 1, .rov, 1⟩, ⟨.KPR_STATUS_RECOVERY, 30, 1, .rov, 1⟩, ⟨.KPR_STATUS_AWAKE, 29, 1, .rov, 1⟩]⟩,
  ⟨.KPR_ALERT, .keeper, 0x8, 4, 1, 32,
    [⟨.KPR_ALERT_HEAT, 31, 1, .w1c, 1⟩, ⟨.KPR_ALERT_TRIP, 30, 1, .w1c, 1⟩, ⟨.KPR_ALERT_DEGRADED, 29, 1, .w1c, 1⟩, ⟨.KPR_ALERT_HOLD, 28, 1, .w1c, 1⟩, ⟨.KPR_ALERT_KRESET, 27, 1, .w1c, 1⟩, ⟨.KPR_ALERT_FWUPD, 26, 1, .w1c, 1⟩]⟩,
  ⟨.KPR_FLOG, .keeper, 0x10, 8, 1, 64,
    [⟨.KPR_FLOG_NEXT, 52, 12, .rov, 1⟩, ⟨.KPR_FLOG_WRAPPED, 51, 1, .rov, 1⟩, ⟨.KPR_FLOG_TOTAL, 0, 32, .rov, 1⟩]⟩,
  ⟨.KPR_FWUPD, .keeper, 0x18, 4, 1, 32,
    [⟨.KPR_FWUPD_PENDING, 31, 1, .rov, 1⟩, ⟨.KPR_FWUPD_ACTIVE, 30, 1, .rov, 1⟩, ⟨.KPR_FWUPD_NEW_SVN, 23, 7, .rov, 1⟩]⟩,
  ⟨.KPR_RECOV, .keeper, 0x100, 8, 1, 64,
    [⟨.KPR_RECOV_ADDR, 12, 52, .rw, 1⟩, ⟨.KPR_RECOV_RESULT, 9, 3, .rov, 1⟩, ⟨.KPR_RECOV_SIZE, 0, 9, .wo, 1⟩]⟩,
  ⟨.KPR_EVT, .keeper, 0x20, 4, 1, 32,
    [⟨.KPR_EVT_COUNT, 0, 32, .rc, 1⟩]⟩,
  ⟨.KPR_OVF, .keeper, 0x30, 4, 1, 32,
    [⟨.KPR_OVF_OVF, 0, 1, .rov, 1⟩]⟩]

/-- The registers with prefix `TLM_` (R19). -/
def regRowsTLM : List RegRow := [
  ⟨.TLM_SEQ, .keeper, 0x400000, 4, 1, 32,
    [⟨.TLM_SEQ_SEQ, 16, 16, .rov, 1⟩]⟩,
  ⟨.TLM_POWER, .keeper, 0x400008, 8, 1, 64,
    [⟨.TLM_POWER_MV, 48, 16, .rov, 1⟩, ⟨.TLM_POWER_DA, 32, 16, .rov, 1⟩, ⟨.TLM_POWER_W, 16, 16, .rov, 1⟩]⟩,
  ⟨.TLM_COOL, .keeper, 0x400010, 4, 1, 32,
    [⟨.TLM_COOL_INLET, 22, 10, .rov, 1⟩, ⟨.TLM_COOL_OUTLET, 12, 10, .rov, 1⟩]⟩,
  ⟨.TLM_LIFE, .keeper, 0x400018, 8, 1, 64,
    [⟨.TLM_LIFE_HOURS, 32, 32, .rov, 1⟩, ⟨.TLM_LIFE_HOT_HOURS, 16, 16, .rov, 1⟩, ⟨.TLM_LIFE_STARTS, 0, 16, .rov, 1⟩]⟩]

/-- Every register of the machine. -/
def regRows : List RegRow :=
  regRowsCMB ++ regRowsWRK ++ regRowsNET ++ regRowsPWR ++ regRowsCLK ++ regRowsEAV ++ regRowsMEM ++ regRowsRFT ++ regRowsMSH ++ regRowsMSG ++ regRowsSYN ++ regRowsDMA ++ regRowsTND ++ regRowsASY ++ regRowsBST ++ regRowsCTX ++ regRowsPRT ++ regRowsHST ++ regRowsFUS ++ regRowsSEC ++ regRowsKPR ++ regRowsTLM

/-- The Cold column: the value of a field after a cold reset. A field whose column reads fw is 0 until a stage of the start sets it
(assumption 5); the fuse fields of a perfect module and the states of its domains are given by `coldOf` (assumptions 6 and 8). -/
def coldNumber : F → Nat
  | .WRK_CFG_SUMTOL => 16
  | .WRK_CFG_THREADS => 0x7F
  | .NET_CFG_EDGE_OFF => 0xF
  | .PWR_CTRL_AUTO_SLEEP => 1
  | .PWR_CTRL_IDLE_TICKS => 8
  | .PWR_HEAT_HOTREG => 63
  | .ASY_STATUS_WORKER => 63
  | .BST_CTRL_SCOUTS => 1
  | .BST_CTRL_ROTATION => 1
  | .BST_CTRL_MARGIN => 1
  | .BST_CTRL_HOT => 1
  | .BST_CTRL_MONITORS => 1
  | .BST_LIFE_DAYS => 0xFFFF
  | .BST_LIFE_REGION => 63
  | .CTX_STATE_FUNC => 31
  | .CTX_CTRL_HOLD_TICKS => 8
  | .PRT_LANES_TX_W0SP => 15
  | .PRT_LANES_TX_W1SP => 15
  | .PRT_LANES_RX_W0SP => 15
  | .PRT_LANES_RX_W1SP => 15
  | .HST_CQ_CFG_LOG2 => 6
  | .HST_FQ_CFG_LOG2 => 6
  | _ => 0

/-- The Warm column: what a warm module reset does to a field. -/
inductive Warm where
  | number | kept | fw | fuse
  deriving DecidableEq, Repr

def warmOf : F → Warm
  | .CMB_STATUS_MEM_LOST => .number
  | .CMB_STATUS_MOVED => .number
  | .WRK_STATUS_STATE => .number
  | .WRK_STATUS_STEP_FAILED => .number
  | .WRK_STATUS_SHADOW_READY => .number
  | .WRK_STATUS_ENDED => .number
  | .WRK_STATUS_PARKED => .number
  | .WRK_CFG_SUMTOL => .number
  | .WRK_CFG_THREADS => .number
  | .WRK_EVT_COUNT => .number
  | .WRK_OVF_OVF => .number
  | .WRK_DBG_HALT => .number
  | .WRK_DBG_STEP => .number
  | .WRK_DBG_THREAD => .number
  | .WRK_DBG_BREAK => .number
  | .WRK_DBG_BREAK_EN => .number
  | .NET_STATUS_VPHASE => .number
  | .NET_STATUS_SPHASE => .number
  | .NET_STATUS_CPHASE => .number
  | .NET_STATUS_SHADOW_READY => .number
  | .NET_STATUS_STALLED => .number
  | .NET_CFG_VPHASES => .number
  | .NET_CFG_SPHASES => .number
  | .NET_CFG_CPHASES => .number
  | .NET_CFG_EDGE_OFF => .number
  | .NET_EVT_COUNT => .number
  | .NET_OVF_OVF => .number
  | .NET_STALL_VALID => .number
  | .NET_XING_WANDER => .number
  | .NET_XEVT_COUNT => .number
  | .NET_XOVF_OVF => .number
  | .PWR_RSTAT_CA_STATE => .fw
  | .PWR_RSTAT_SP_STATE => .fw
  | .PWR_RSTAT_SPLL_LOCK => .fw
  | .PWR_RSTAT_CPLL_LOCK => .fw
  | .PWR_RSTAT_MCLK_LOCK => .fw
  | .PWR_RSTAT_HOT => .number
  | .PWR_RSTAT_HOT_TICKS => .number
  | .PWR_REVT_COUNT => .number
  | .PWR_ROVF_OVF => .number
  | .PWR_HEAT_TRIPPED => .number
  | .PWR_HEAT_RATIO => .number
  | .PWR_HEAT_HOTREG => .number
  | .CLK_STATUS_REF_OK => .fw
  | .CLK_STATUS_KPLL_LOCK => .fw
  | .EAV_SEG_STATE => .fw
  | .EAV_EVT_COUNT => .number
  | .EAV_OVF_OVF => .number
  | .EAV_POISON_VALID => .number
  | .MEM_CHSTAT_MIRROR => .number
  | .MEM_CHSTAT_OWNED => .number
  | .MEM_CHSTAT_OWNER => .number
  | .MEM_CHSTAT_ERR_OVF => .number
  | .MEM_CHERR_COUNT => .number
  | .RFT_STAT_EVT_OVF => .number
  | .RFT_STAT_OWNER => .number
  | .RFT_EVT_COUNT => .number
  | .EAV_CTX_CFG_GRANULE => .number
  | .EAV_CTX_CFG_MIRROR_BASE => .number
  | .EAV_CTX_CFG_MIRROR_COUNT => .number
  | .MSH_STATUS_RXFLOWS => .number
  | .MSH_STATUS_TXFLOWS => .number
  | .MSH_EVT_COUNT => .number
  | .MSH_OVF_OVF => .number
  | .MSH_DROP_VALID => .number
  | .MSG_QBIND_CREDITS => .number
  | .MSG_QBIND_MAX => .number
  | .MSG_QBIND_GONE => .number
  | .MSG_QBIND_X => .number
  | .MSG_QBIND_Y => .number
  | .MSG_QBIND_W => .number
  | .MSG_QBIND_Q => .number
  | .MSG_SBIND_UNACKED => .number
  | .MSG_SBIND_X => .number
  | .MSG_SBIND_Y => .number
  | .MSG_SBIND_OBJ => .number
  | .MSG_SBIND_USED => .number
  | .MSG_QSTAT_ENTRIES => .number
  | .MSG_QSTAT_ACCEPT => .number
  | .MSG_QSTAT_POPVALID => .number
  | .MSG_QSTAT_POPLEN => .number
  | .MSG_QPOP_WORD0 => .number
  | .MSG_QW1_WORD => .number
  | .MSG_QW2_WORD => .number
  | .MSG_QW3_WORD => .number
  | .MSG_EVT_COUNT => .number
  | .MSG_OVF_OVF => .number
  | .SYN_OBJ_TYPE => .number
  | .SYN_OBJ_WAITERS => .number
  | .SYN_OBJ_PARAM => .number
  | .SYN_OBJ_VALUE => .number
  | .SYN_OBJPH_PHASE => .number
  | .SYN_EVT_COUNT => .number
  | .SYN_OVF_OVF => .number
  | .DMA_CTRL_GO => .number
  | .DMA_CTRL_STOP => .number
  | .DMA_CTRL_RESUME => .number
  | .DMA_CTRL_SKIP => .number
  | .DMA_CTRL_ABORT => .number
  | .DMA_CTRL_PRESET => .number
  | .DMA_DESC_ADDR => .number
  | .DMA_STATUS_STATE => .number
  | .DMA_STATUS_STOP_PEND => .number
  | .DMA_STATUS_CAUSE => .number
  | .DMA_STATUS_OUT => .number
  | .DMA_CUR_ADDR => .number
  | .DMA_DONE_BYTES => .number
  | .DMA_FINFO_VALID => .number
  | .DMA_OWNER_BOUND => .number
  | .DMA_OWNER_CTX => .number
  | .DMA_OWNER_INDEX => .number
  | .DMA_EVT_COUNT => .number
  | .DMA_OVF_OVF => .number
  | .TND_STATUS_MODE => .fw
  | .TND_STATUS_FW_OK => .fw
  | .TND_STATUS_BEAT => .number
  | .TND_EVT_COUNT => .number
  | .TND_OVF_OVF => .number
  | .ASY_STATUS_STATE => .number
  | .ASY_STATUS_POINT => .number
  | .ASY_STATUS_WORKER => .number
  | .ASY_STATUS_KERNEL => .number
  | .ASY_EVT_COUNT => .number
  | .ASY_OVF_OVF => .number
  | .BST_EVT_COUNT => .number
  | .BST_OVF_OVF => .number
  | .CTX_STATE_STATE => .fw
  | .CTX_STATE_GEN => .fw
  | .CTX_STATE_HOLD_CLASS => .number
  | .CTX_STATE_RESTART_BLOCKED => .fw
  | .CTX_CTRL_RESET => .number
  | .CTX_CTRL_GEN_EN => .number
  | .CTX_CTRL_GEN_SET => .number
  | .CTX_STEP_COUNT => .number
  | .CTX_STEPSTAT_SLIP => .number
  | .CTX_STEPSTAT_LAST_WAIT => .number
  | .CTX_EVT_COUNT => .number
  | .CTX_OVF_OVF => .number
  | .CTX_CAPSTAT_VALID => .number
  | .PRT_EVT_COUNT => .number
  | .PRT_OVF_OVF => .number
  | .PRT_TWIN_ADMIT_OPEN => .number
  | .PRT_MIRCFG_RESUME => .number
  | .HST_STATUS_STAGE => .fw
  | .HST_STATUS_FAILED => .fw
  | .HST_STATUS_ATTEMPT => .fw
  | .HST_STATUS_HOLD => .fw
  | .HST_AFINFO_VALID => .number
  | .HST_EVT_COUNT => .number
  | .HST_OVF_OVF => .number
  | .FUS_START_CAUSE => .fw
  | .FUS_START_ALT => .fw
  | .FUS_START_READY => .fw
  | .FUS_STATUS_SHIP_OK => .fw
  | .FUS_STATUS_SHIP => .fw
  | .FUS_RECORD_JCOUNT => .fw
  | .FUS_CMAP_COMB_OK => .fuse
  | .FUS_CMAP_WORKER_OK => .fuse
  | .FUS_CMAP_MEMREP => .fuse
  | .FUS_RMAP_SPINE_OK => .fuse
  | .FUS_RMAP_CA_OK => .fuse
  | .FUS_RMAP_VTRIM => .fuse
  | .FUS_CHMAP_CH_OK => .fuse
  | .SEC_STATE_BUSY => .number
  | .KPR_STATUS_KRESET => .number
  | .KPR_STATUS_RECOVERY => .number
  | .KPR_STATUS_AWAKE => .number
  | .KPR_FWUPD_ACTIVE => .number
  | .KPR_RECOV_ADDR => .number
  | .KPR_RECOV_RESULT => .number
  | .KPR_RECOV_SIZE => .number
  | _ => .kept

/-- The fields whose Cold column reads fuse. -/
def coldFuse : F → Bool
  | .FUS_CMAP_COMB_OK => true
  | .FUS_CMAP_WORKER_OK => true
  | .FUS_CMAP_MEMREP => true
  | .FUS_RMAP_SPINE_OK => true
  | .FUS_RMAP_CA_OK => true
  | .FUS_RMAP_VTRIM => true
  | .FUS_CHMAP_CH_OK => true
  | .SEC_STATE_STATE => true
  | .SEC_STATE_LIFE => true
  | .SEC_STATE_VFUSED => true
  | .SEC_STATE_VREVOKED => true
  | .SEC_STATE_OFUSED => true
  | .SEC_STATE_OREVOKED => true
  | .SEC_STATE_OWNER_ACTIVE => true
  | .SEC_STATE_LC_ROW => true
  | .SEC_FW_SVN_MIN => true
  | .SEC_IDHASH_HASH => true
  | .SEC_VKEY_HASH => true
  | .SEC_OKEY_HASH => true
  | _ => false

end Sys2Proof.Machine
end

