-- ==== Sys2Proof/Machine/State.lean ====
section
/-! DEFINITION. The state of the module: everything the manual gives it, as plain data, and its value right after a cold reset. -/

namespace Sys2Proof.Machine

/-- Why the block stops. Its commands never do: an access fault, an error or a refusal of the manual is an effect on the state, and
a command whose condition does not hold changes nothing (assumption 2). The one constructor is kept for a table row that would
name no command; nothing raises it, so it is safe. -/
inductive Fault where
  | noSuchCommand
  deriving DecidableEq, Repr

/-- Why a command has no meaning. -/
inductive Refusal where
  /-- The command of this name is not modelled yet; raised only by an arm of `exec` without a meaning. Safe: the block stops. -/
  | notModelled (mnemonic : String)
  deriving DecidableEq, Repr

/-- The key of a register field: the field, its unit (logical comb, worker, region, segment, port, context, channel or function), and
its index in an array of registers. -/
structure FKey where
  f : F
  i : Nat
  j : Nat
  deriving DecidableEq, Repr

structure State where
  /-- The commands that wait, first in first out. -/
  pending : List Instr
  /-- The counter of free values taken (assumption 10): the model's own. -/
  free : Nat
  /-- What the last read access returned (assumption 11). -/
  readData : Nat
  /-- The high halves latched by reads of low halves: requester, address, value (R8). -/
  latch : List (Requester × Nat × Nat)
  /-- Register fields that differ from their cold values. -/
  flds : List (FKey × Nat)
  /-- The cycle counter and the tick counter (`CLK_CYCLE`, `CLK_TICK`). -/
  cycle : Nat
  tick : Nat
  /-- Eave memory, comb memory, local stores and host memory, in one canonical list. -/
  mem : List Host.Cell
  /-- The blocks of eave and comb memory that carry a poison mark (R229, R316), by key. -/
  poison : List Nat
  workers : List (Nat × Worker)
  switches : List (Nat × Switch)
  objs : List (Nat × SyncObj)
  drops : List (Nat × (DropTab × DropTab))
  dropWaits : List DropWait
  /-- The tags of comb-memory transfers (R63). -/
  tags : List Tag
  chans : List (Nat × Channel)
  lane : List LaneBlk
  /-- Packets in flight on the mesh, and packets that wait at a segment's egress for their step's release (R184). -/
  flight : List Packet
  egress : List Packet
  tx : List (Nat × TxFlow)
  rx : List (Nat × RxFlow)
  /-- Flows that a destination has refused without an entry, by key: their later packets are dropped and counted (R264, R265). -/
  rxDead : List Nat
  ctxs : List (Nat × Ctx)
  /-- Fault records that wait for the keeper, by unit: region 0 to 41, 42 + segment, 50 the keeper itself (R331). -/
  faultBuf : List (Nat × List FaultRec)
  /-- The physical column that serves a logical comb, where it is not the one of a perfect grid (R23), and the physical combs. -/
  pcol : List (Nat × Nat)
  pcombs : List (Nat × PComb)
  hosts : List (Nat × HostFn)
  /-- The commands that the keeper has taken from the inboxes, in order (R396). -/
  taken : List HostCmd
  /-- Combs on which a shared-logic fault has been declared and that wait for the keeper's next tick (R307, R324). -/
  combFaults : List Nat
  /-- Crossings (region × 4 + side) to be re-pinned at the next ridge of a context whose routes use them (R117, R209). -/
  repins : List (Nat × Nat)
  /-- Links with failed checks (R119, R262): a static link by comb × 12 + network × 4 + side, a mesh link by 10,000 + comb × 4 + side. -/
  links : List (Nat × LinkSt)
  /-- Sideband failures of this tick by lane (segment × 64 + rafter × 4 + lane) and drop (× 672, plus the comb), and the lanes that wait for the test
  of R247. -/
  laneFails : List (Nat × Nat)
  laneTests : List Nat
  /-- Spare wires in use by lane and span: ((segment × 16 + rafter) × 4 + lane) × 8 + span (R238, R247). -/
  spares : List (Nat × Nat)
  /-- The scrub log of the reserve (channel, group), the refresh bins of comb-memory rows (0: 64 ms, 1: 128 ms, 2: 256 ms) by comb × 12,288 +
  row, and the rows logged for repair at the next cold start (R248, R317). -/
  scrubLog : List (Nat × Nat)
  rowBins : List (Nat × Nat)
  rowRepairs : List Nat
  /-- The number of the next block that a stream program reads. -/
  nextBlk : Nat
  /-- The DMA channels, the fabric ports, the ridge signals accepted for the step by context (chapters 7, 11, 14). -/
  dmas : List (Nat × DmaCh)
  ports : List (Nat × PortSt)
  /-- The MIRROR flow of each context (R380). -/
  mirror : List (Nat × MirFlow)
  /-- The start in progress, module flash, the security island, the keeper, the input switches, the answer to the last message. -/
  start : StartSt
  flash : Flash
  sec : Secure
  keeper : Keeper
  powerIn : PowerIn
  reply : Option Reply
  deriving DecidableEq, Repr

def start0 : StartSt :=
  { number := 0, from' := 0, warm := false, warmDue := false, warmTags := [], failed := [], before := [], shutdown := none
    shutTest := none, cold := false, testedAt := 0, rerun := false, binBase := 2, fuseFail := false }

def flash0 : Flash :=
  { image := [], pendingImage := none, chain := [], journal := [], sealed := none, standby := none, record := [], rows := [], crash := []
    crashNext := 0, life := (0, 0, 0), cache := [] }

def sec0 : Secure :=
  { nonce := none, sessions := [], pub := none, key := false, wipe := none, ideKeyed := false, measures := [] }

def keeper0 : Keeper :=
  { inReset := false, seq := 0, log := [], eids := [], i3c := 0, update := none, idle := [], cool := [], beats := []
    combFail := [], testing := [], flowLow := 0, flowHigh := 0, flowBad := false, promiseBad := false, fences := [], fenceDue := false
    pauseArm := [], waking := [], refPending := false, grid := 0, joining := false, slicing := [], island := 0, hotHours := (0, 0, 0), verdicts := []
    spineBad := [], fenceAsk := [], woke := [], scoutBad := false, coldAsk := false }

/-- The module right after a cold reset with input power good: stage 0x00 of the first start has begun, with its journal entry and its count in
`TLM_LIFE.STARTS` (assumption 8). -/
def State.reset : State where
  pending := []
  free := 0
  readData := 0
  latch := []
  flds := [(⟨.TLM_LIFE_STARTS, 0, 0⟩, 1)]
  cycle := 0
  tick := 0
  mem := []
  poison := []
  workers := []
  switches := []
  objs := []
  drops := []
  dropWaits := []
  tags := []
  chans := []
  lane := []
  flight := []
  egress := []
  tx := []
  rx := []
  rxDead := []
  ctxs := []
  faultBuf := []
  pcol := []
  pcombs := []
  hosts := []
  taken := []
  combFaults := []
  repins := []
  links := []
  laneFails := []
  laneTests := []
  spares := []
  scrubLog := []
  rowBins := []
  rowRepairs := []
  nextBlk := 0
  dmas := []
  ports := []
  mirror := []
  start := start0
  flash := { flash0 with journal := [⟨0, 0, 1, 0, 0, 0, 0, 0⟩] }
  sec := sec0
  keeper := keeper0
  powerIn := ⟨2, 0, false, true, false⟩
  reply := none

end Sys2Proof.Machine
end

