-- ==== Sys2Proof/Machine/Ops.lean ====
section
/-! DEFINITION. The named operations over the state: register fields, counters, memory, sites, fault records, contexts. -/

namespace Sys2Proof.Machine

/-! ### Register fields (R5, R9, R10) -/

/-- The value of a field that nothing has changed since the cold reset. A perfect module has every comb, worker, spine, comb array and
channel marked good in its fuses (assumption 6). -/
def coldOf (k : FKey) : Nat :=
  match k.f with
  | .FUS_CMAP_COMB_OK => 1
  | .FUS_CMAP_WORKER_OK => 2 ^ 34 - 1
  | .FUS_RMAP_SPINE_OK => 1
  | .FUS_RMAP_CA_OK => 1
  | .FUS_CHMAP_CH_OK => 2 ^ 64 - 1
  | .PWR_RSTAT_CA_STATE => 3
  | .PWR_RSTAT_SP_STATE => 2
  | .EAV_SEG_STATE => 2
  | f => coldNumber f

def findFld : List (FKey × Nat) → FKey → Option Nat
  | [], _ => none
  | (k, v) :: r, q => if k = q then some v else findFld r q

/-- A register field: unit `i`, array index `j`. -/
def rget (s : State) (f : F) (i : Nat := 0) (j : Nat := 0) : Nat := (findFld s.flds ⟨f, i, j⟩).getD (coldOf ⟨f, i, j⟩)

/-- Sets a register field. -/
def rset (f : F) (i j v : Nat) (s : State) : State :=
  { s with flds := (⟨f, i, j⟩, v) :: s.flds.filter (fun e => decide (e.1 ≠ ⟨f, i, j⟩)) }

/-- Adds `k` to error or event counter `n` of a unit: it saturates, and passing the limit sets the sticky flag (R9). -/
def bump (ev ovf : F) (i n k : Nat) (s : State) : State :=
  let v := rget s ev i n + k
  if v ≤ 0xFFFFFFFF then rset ev i n v s
  else rset ovf i 0 (setFld (rget s ovf i) n 1 1) (rset ev i n 0xFFFFFFFF s)

/-! ### Memory: one byte per address key (assumption 7) -/

/-- What the listed cells hold at a key; a byte that nothing has written reads as 0. -/
def mget : List Host.Cell → Nat → Byte
  | [], _ => 0
  | (k, v) :: r, a => if k = a then v else mget r a

/-- Writes one byte and keeps the canonical form: addresses rising, no zero byte listed. -/
def mput : List Host.Cell → Nat → Byte → List Host.Cell
  | [], a, v => if v = 0 then [] else [(a, v)]
  | (k, w) :: r, a, v =>
    if a < k then (if v = 0 then (k, w) :: r else (a, v) :: (k, w) :: r)
    else if a = k then (if v = 0 then r else (a, v) :: r)
    else (k, w) :: mput r a v

def mputs : List Host.Cell → Nat → List Byte → List Host.Cell
  | m, _, [] => m
  | m, a, b :: r => mputs (mput m a b) (a + 1) r

/-- `k` bytes from a key on. -/
def mread (s : State) (a k : Nat) : List Byte := (List.range k).map fun i => mget s.mem (a + i)

def mwrite (a : Nat) (b : List Byte) (s : State) : State := { s with mem := mputs s.mem a b }

/-- Sets every byte whose key satisfies `p` to 0. -/
def mwipe (p : Nat → Bool) (s : State) : State := { s with mem := s.mem.filter (fun c => !p c.1) }

/-- The canonical form: keys rising, from `lo` on, and no zero byte listed. -/
def wfFrom : Nat → List Host.Cell → Bool
  | _, [] => true
  | lo, (k, v) :: r => decide (lo ≤ k) && decide (v ≠ 0) && wfFrom (k + 1) r

def Memory.wf (m : List Host.Cell) : Bool := wfFrom 0 m

/-- The key of a byte of eave memory: channel and raw byte of the channel (data group × 2,112 + 64 for the group's check bytes). -/
def emKey (ch off : Nat) : Nat := ch * 2 ^ 32 + off

def cmKey (cb off : Nat) : Nat := 2 ^ 60 + cb * 2 ^ 27 + off

def lsKey (wk off : Nat) : Nat := 2 ^ 61 + wk * 2 ^ 19 + off

def hmKey (a : Nat) : Nat := 2 ^ 63 + a

/-- Sizes of a local store and of a comb's memory (R28). -/
def lsSize : Nat := 0x80000
def cmSize : Nat := 0x6000000

/-! ### Places (R20, R23, R255, R329) -/

/-- The logical comb X.Y as one index, and the logical worker X.Y.W. -/
def cbOf (x y : Nat) : Nat := y * 28 + x
def cbX (cb : Nat) : Nat := cb % 28
def cbY (cb : Nat) : Nat := cb / 28
def wkOf (x y w : Nat) : Nat := cbOf x y * 32 + w

/-- The region of a logical comb (R20). -/
def regionOf (cb : Nat) : Nat := (cbY cb / 4) * 7 + cbX cb / 4

/-- The physical column that serves a logical comb. -/
def pxOf (s : State) (cb : Nat) : Nat := tget (5 * (cbX cb / 4) + cbX cb % 4) s.pcol cb

/-- A physical comb's index, and the one behind a logical comb. -/
def pcIx (px py : Nat) : Nat := py * 35 + px
def pcOf (s : State) (cb : Nat) : Nat := pcIx (pxOf s cb) (cbY cb)

/-- A physical comb as start-up leaves it: every worker good, worker w serving logical worker w, worker 33 under test and worker 32
in reserve. -/
def pcomb0 : PComb := ⟨true, [], [], 33, 32, false, true, [], [], 0, [], [], false, 0, 0, 0, false⟩

/-- The physical worker behind a logical worker. -/
def pwOf (s : State) (wk : Nat) : Nat := tget (wk % 32) (tget pcomb0 s.pcombs (pcOf s (wk / 32))).wmap (wk % 32)

/-- `LSITE` and `PSITE` of a logical worker, of a logical comb, of a region and of a segment (R329). -/
def lsiteW (wk : Nat) : Nat := cbX (wk / 32) <<< 27 ||| cbY (wk / 32) <<< 22 ||| (wk % 32) <<< 16
def lsiteC (cb : Nat) : Nat := cbX cb <<< 27 ||| cbY cb <<< 22 ||| 63 <<< 16
def psiteOf (px py pw region seg : Nat) : Nat := px <<< 26 ||| py <<< 21 ||| pw <<< 15 ||| region <<< 9 ||| seg <<< 5
def psiteW (s : State) (wk : Nat) : Nat := psiteOf (pxOf s (wk / 32)) (cbY (wk / 32)) (pwOf s wk) (regionOf (wk / 32)) 15
def psiteC (s : State) (cb : Nat) : Nat := psiteOf (pxOf s cb) (cbY cb) 63 (regionOf cb) 15
def psiteR (r : Nat) : Nat := psiteOf 0 0 63 r 15
def psiteS (seg : Nat) : Nat := psiteOf 0 0 63 63 seg

/-! ### Contexts -/

def ctx0 : Ctx :=
  { allot := none, active := none, waiting := none, load := none, loadSeq := 0, arm := .none, cfgWritten := false, phase := .idle
    stepsRun := 0, start := 0, failed := false, schedFault := false, excess := false, overSent := [], stallSeen := []
    replayed := false, replayOf := none, hangs := 0
    firstFail := none, suspects := [], plausHist := [], residueHist := [], signalAt := 0, maskedDue := none, peers := [], ridgeDropped := 0, heldTicks := 0
    ridgeHold := false, pauseDue := 0, pauseAt := none, resetReq := none, releasing := false, grantTag := none, replyTags := [], entryObjs := []
    held := none, poisonRead := false, lapsed := false, mirrorSteps := 0, genTick := none, resetOwn := false }

def ctxGet (s : State) (c : Nat) : Ctx := tget ctx0 s.ctxs c

def ctxSet (c : Nat) (x : Ctx) (s : State) : State := { s with ctxs := tset s.ctxs c x }

def ctxMod (c : Nat) (f : Ctx → Ctx) (s : State) : State := ctxSet c (f (ctxGet s c)) s

/-- The allotment's rectangle holds the logical comb. -/
def Allot.hasComb (a : Allot) (cb : Nat) : Bool :=
  a.col0 ≤ cbX cb / 4 && cbX cb / 4 ≤ a.col1 && a.row0 ≤ cbY cb / 4 && cbY cb / 4 ≤ a.row1

def Allot.hasRegion (a : Allot) (r : Nat) : Bool :=
  a.col0 ≤ r % 7 && r % 7 ≤ a.col1 && a.row0 ≤ r / 7 && r / 7 ≤ a.row1

/-- The context's allotment holds the comb. -/
def ctxHas (s : State) (c cb : Nat) : Bool :=
  match (ctxGet s c).allot with
  | some a => a.hasComb cb
  | none => false

/-- The context that owns a logical comb (no two live allotments share one, R33). -/
def ctxOfComb (s : State) (cb : Nat) : Option Nat := (List.range 16).find? fun c => ctxHas s c cb

/-- The logical combs of an allotment in ascending order. -/
def Allot.combs (a : Allot) : List Nat := (List.range 672).filter a.hasComb

def ctxCombs (s : State) (c : Nat) : List Nat := match (ctxGet s c).allot with | some a => a.combs | none => []

def ctxWorkers (s : State) (c : Nat) : List Nat :=
  (ctxCombs s c).flatMap fun cb => (List.range 32).map fun w => cb * 32 + w

/-- The context's generation. -/
def genOf (s : State) (c : Nat) : Nat := rget s .CTX_STATE_GEN c

/-- The step-table entry of the step that runs or comes next (R141, R178). The course step of an overlapped course uses the course
fields of the image that arrives. -/
def stepEntry (x : Ctx) : StepEnt :=
  let base := match x.active with
    | some t => t.steps.getD (x.stepsRun % t.steps.length) ⟨0, 0, 0, 0⟩
    | none => ⟨0, 0, 0, 0⟩
  match x.arm, x.waiting with
  | .running true, some t => { base with budget := t.courseBudget, ridgeTo := t.courseRidgeTo }
  | _, _ => base

/-- The cycle within the context's step, counted from step start. -/
def stepCycle (s : State) (c : Nat) : Nat := s.cycle - (ctxGet s c).start

/-- A running attempt of a step: cycle 0 has passed and release has not. -/
def stepping (s : State) (c : Nat) : Bool := (ctxGet s c).phase == .work

/-- A logical comb that no physical comb serves (R27). -/
def absentComb (s : State) (cb : Nat) : Bool := rget s .CMB_STATUS_STATE cb == 3

/-- FIELD_DEBUG (R431). -/
def fieldDebug (s : State) : Bool := rget s .SEC_STATE_STATE == 3

/-- `WRK_DBG.HALT` acts, which it does only in FIELD_DEBUG (R80). -/
def dbgHalted (s : State) (wk : Nat) : Bool := fieldDebug s && rget s .WRK_DBG_HALT wk == 1

/-- A worker of the context is halted. -/
def anyHalted (s : State) (c : Nat) : Bool := fieldDebug s && s.flds.any fun e => e.1.f == .WRK_DBG_HALT && e.2 == 1 && ctxHas s c (e.1.i / 32)

/-- The step budget, the slip allowance and the determinism promise have lapsed for the context's current step (R80). -/
def lapsed (s : State) (c : Nat) : Bool := (ctxGet s c).lapsed || anyHalted s c

/-! ### Comb-memory tags (R63, R193, R194) -/

/-- A tag is held until its block completes. -/
def Tag.held (g : Tag) (cyc : Nat) : Bool := g.pending.isSome || decide (cyc < g.due)

def heldTags (s : State) : List Tag := s.tags.filter fun g => g.held s.cycle

/-- Tags held of a worker's 64, and of a comb's static share of 768. -/
def workerTags (s : State) (wk : Nat) : Nat := ((heldTags s).filter fun g => g.owner.any fun o => o.1 == wk).length
def staticTags (s : State) (cb : Nat) : Nat := ((heldTags s).filter fun g => g.comb == cb && g.isStatic).length
def dynamicTags (s : State) (cb : Nat) : Nat := ((heldTags s).filter fun g => g.comb == cb && !g.isStatic).length

/-- Tags are taken; those returned since are forgotten. -/
def takeTags (l : List Tag) (s : State) : State := { s with tags := heldTags s ++ l }

/-! ### Fault records (R329, R331) -/

/-- A unit makes a record and holds it for the keeper. A full buffer of 64 drops the newest and counts it in `BST_EVT4`; the keeper's
own records (unit 50) need no buffer place. -/
def raise (unit : Nat) (r : FaultRec) (s : State) : State :=
  let q := tget [] s.faultBuf unit
  if unit < 50 ∧ 64 ≤ q.length then bump .BST_EVT_COUNT .BST_OVF_OVF 0 4 1 s
  else { s with faultBuf := tset s.faultBuf unit (q ++ [{ r with tick := s.tick, cycle := s.cycle }]) }

/-! ### The field defect record (R414, R415) -/

/-- A defect entry: kind, source and the site's bits. -/
def defEntry (kind src site : Nat) : BitVec 64 := BitVec.ofNat 64 (kind <<< 60 ||| src <<< 56 ||| site)

/-- Sites of a physical worker, a physical comb, a region's spine, a segment, a channel, an eave group and a comb-memory row. -/
def siteW (px py pw : Nat) : Nat := px <<< 50 ||| py <<< 45 ||| pw <<< 39
def siteC (px py : Nat) : Nat := px <<< 50 ||| py <<< 45
def siteR (r : Nat) : Nat := r <<< 50
def siteS (seg : Nat) : Nat := seg <<< 53
def siteCh (ch : Nat) : Nat := ch <<< 45
def siteG (ch g : Nat) : Nat := ch <<< 45 ||| g <<< 24
def siteRow (px py bank row : Nat) : Nat := px <<< 50 ||| py <<< 45 ||| bank <<< 41 ||| row <<< 31

/-- The record in force: the flash copy, and the fuse rows that it does not hold (R415). -/
def inForce (s : State) : List (BitVec 64) := s.flash.record ++ s.flash.rows.filter fun e => !s.flash.record.contains e

/-- The record names a unit, whatever the source of its entry. -/
def recorded (s : State) (kind site : Nat) : Bool := (inForce s).any fun e => defEntry kind 0 site == (e &&& ~~~(0xF#64 <<< 56))

/-- An entry is appended to the flash copy, counted and reported; a copy of 65,535 entries takes no more (R415, R417). -/
def recordAdd (e : BitVec 64) (s : State) : State :=
  if 65535 ≤ s.flash.record.length then
    raise 50 { cls := 0x66, outcome := 2, lsite := 63 <<< 16, psite := psiteOf 0 0 63 63 15, detail := 1 } s
  else
    let s := { s with flash := { s.flash with record := s.flash.record ++ [e] } }
    let s := rset .FUS_RECORD_ENTRIES 0 0 (min 65535 (inForce s).length) (bump .FUS_EVT_COUNT .FUS_OVF_OVF 0 1 1 s)
    raise 50 { cls := 0x65, outcome := 2, lsite := 63 <<< 16, psite := psiteOf 0 0 63 63 15, detail := e.toNat } s

/-- Adds the naming of a context to a record: the context, its generation and step counter. -/
def withCtx (s : State) (c : Option Nat) (r : FaultRec) : FaultRec :=
  match c with
  | some c => { r with ctx := some c, gen := genOf s c, step := rget s .CTX_STEP_COUNT c }
  | none => r

/-- A record of a worker's comb unit. -/
def recW (s : State) (wk cls outcome detail addr : Nat) : FaultRec :=
  withCtx s (ctxOfComb s (wk / 32))
    { cls := cls, outcome := outcome, lsite := lsiteW wk, psite := psiteW s wk, detail := detail, addr := addr }

/-- A record of a comb. -/
def recC (s : State) (cb cls outcome detail addr : Nat) : FaultRec :=
  withCtx s (ctxOfComb s cb)
    { cls := cls, outcome := outcome, lsite := lsiteC cb, psite := psiteC s cb, detail := detail, addr := addr }

/-- A record about a context as a whole; its sites name none. -/
def recX (s : State) (c cls outcome detail : Nat) : FaultRec :=
  withCtx s (some c) { cls := cls, outcome := outcome, lsite := 63 <<< 16, psite := psiteOf 0 0 63 63 15, detail := detail }

/-- Class codes (R330). -/
def clsParity : Nat := 0x01
def clsCmemPoison : Nat := 0x04
def clsSumlane : Nat := 0x10
def clsPlaus : Nat := 0x11
def clsSlotEcc : Nat := 0x14
def clsResidue : Nat := 0x15
def clsTimeout : Nat := 0x20
def clsSchedule : Nat := 0x21
def clsTnByte : Nat := 0x13
def clsOverrun : Nat := 0x22
def clsGone : Nat := 0x24
def clsAddress : Nat := 0x25

/-- `WRK_FAULT` of a worker (R79). -/
def wrkFault (wk cls detail thread slot : Nat) (s : State) : State :=
  let cyc := match ctxOfComb s (wk / 32) with | some c => stepCycle s c | none => 0
  rset .WRK_FAULT_CYCLE wk 0 (cyc % 2 ^ 24) <| rset .WRK_FAULT_SLOT wk 0 slot <| rset .WRK_FAULT_THREAD wk 0 thread <|
    rset .WRK_FAULT_DETAIL wk 0 (detail % 256) <| rset .WRK_FAULT_CLASS wk 0 cls s

/-! ### Slip, failures and overruns (R180 to R197) -/

/-- Charges `n` cycles to the step of a context: the slip meter saturates, and the first time it passes `SLIP` the step counts one
excess-slip event (R180, R182), unless the slip allowance has lapsed (R80). -/
def charge (c n : Nat) (s : State) : State :=
  let v := min (rget s .CTX_STEPSTAT_SLIP c + n) 0xFFFFFFFF
  let x := ctxGet s c
  let late := (decide ((stepEntry x).slip < v) || v == 0xFFFFFFFF) && !x.excess && !lapsed s c
  let s := rset .CTX_STEPSTAT_SLIP c 0 v s
  if late then ctxSet c { x with excess := true } (bump .CTX_EVT_COUNT .CTX_OVF_OVF c 0 1 s) else s

def chargeComb (cb n : Nat) (s : State) : State :=
  match ctxOfComb s cb with
  | some c => if stepping s c then charge c n s else s
  | none => s

/-- A failure of the running attempt: it can no longer be released (R183), and the first record and the suspects are kept for the
replay (R318, R319). `who` names a suspect worker. -/
def failStep (c : Nat) (r : FaultRec) (who : Option Nat) (s : State) : State :=
  ctxMod c (fun x => { x with
    failed := true
    firstFail := match x.firstFail with | some f => some f | none => some r
    suspects := match who with
      | some wk => if x.suspects.any (fun e => e.1 == wk) then x.suspects else x.suspects ++ [(wk, r.cls)]
      | none => x.suspects }) s

def failComb (cb : Nat) (r : FaultRec) (who : Option Nat) (s : State) : State :=
  match ctxOfComb s cb with
  | some c => failStep c r who s
  | none => s

/-! ### Host completions (R395, R401 to R404) -/

def host0 : HostFn := ⟨[], [], true, [], [], [], false, true⟩

def hostGet (s : State) (f : Nat) : HostFn := tget host0 s.hosts f

def hostSet (f : Nat) (h : HostFn) (s : State) : State := { s with hosts := tset s.hosts f h }

/-- An MSI-X message of vector v: sent, or pending while the vector is masked or the function is in D3hot (R385, R404). A vector's mask bit
is bit 0 of the fourth dword of its table entry, 1 after reset. -/
def msix (f v : Nat) (s : State) : State :=
  let h := hostGet s f
  if h.d3 || bit (tget 1 h.msix (4 * v + 3)) 0 then
    hostSet f { h with mpend := if h.mpend.contains v then h.mpend else h.mpend ++ [v] } s
  else hostSet f { h with sent := h.sent ++ [v] } s

/-- The bytes of a completion record (R401). -/
def cplBytes (phase : Bool) (c : Cpl) : List Byte :=
  toLe 1 c.kind ++ toLe 1 c.status ++ toLe 1 (match c.ctx with | some n => 16 + n | none => 0) ++ toLe 1 (b2n phase) ++
    toLe 1 c.source ++ toLe 1 c.gen ++ toLe 2 0 ++ toLe 8 c.tag ++ toLe 8 c.detail ++ toLe 8 0

/-- The vector of a record (R404). -/
def cplVector (f : Nat) (c : Cpl) (k : Nat) : Nat :=
  if c.kind ≠ 2 then 0 else if f = 0 then 2 + c.source % 61 else 2 + k % 62

/-- The ring has room (R402). -/
def cqRoom (s : State) (f : Nat) : Bool :=
  rget s .HST_CQ_CFG_ENABLE f == 1 &&
    (rget s .HST_CQ_PTR_TAIL f + 65536 - rget s .HST_CQ_PTR_HEAD f) % 65536 < 2 ^ rget s .HST_CQ_CFG_LOG2 f

/-- Writes one record into a ring that has room, counts TAIL, returns a command's credit and raises the vector (R395, R402, R404). -/
def cqWrite (f : Nat) (c : Cpl) (s : State) : State :=
  let h := hostGet s f
  let n := 2 ^ rget s .HST_CQ_CFG_LOG2 f
  let t := rget s .HST_CQ_PTR_TAIL f
  let a := rget s .HST_CQ_BASE_ADDR f * 4096 + 32 * (t % n)
  let s := mwrite (hmKey (a % 2 ^ 57)) (cplBytes h.cqPhase c) s
  let s := rset .HST_CQ_PTR_TAIL f 0 (seqNext t) s
  let s := if seqNext t % n = 0 then hostSet f { h with cqPhase := !h.cqPhase } s else s
  let s := if c.kind = 1 then rset .HST_INBOX_RETURNED f 0 (seqNext (rget s .HST_INBOX_RETURNED f)) s else s
  msix f (cplVector f c (rget s .DMA_OWNER_INDEX c.source)) s

/-- Writes held records while the ring has room. -/
def cqDrain (f : Nat) : Nat → State → State
  | 0, s => s
  | k + 1, s =>
    let h := hostGet s f
    match h.held with
    | [] => s
    | c :: r => if cqRoom s f then cqDrain f k (cqWrite f c (hostSet f { h with held := r } s)) else s

/-- Posts a record: written at once, or held in order while the ring is full or disabled (R402). -/
def post (f : Nat) (c : Cpl) (s : State) : State :=
  let h := hostGet s f
  if h.held.isEmpty && cqRoom s f then cqWrite f c s else hostSet f { h with held := h.held ++ [c] } s

/-- A place for a DMA record among the 256 that a function may hold: 72 are kept for commands, holds and resets (R402). -/
def dmaPlace (s : State) (f : Nat) : Bool :=
  (hostGet s f).held.isEmpty && cqRoom s f || ((hostGet s f).held.filter (fun c => c.kind == 2)).length < 184

/-- The completion of a host command. -/
def cmdDone (h : HostCmd) (ctx : Option Nat) (status detail : Nat) (s : State) : State :=
  let gen := match ctx with | some c => genOf s c | none => 0
  post h.func ⟨1, status, ctx, h.opcode, gen, h.tag, detail⟩ s

/-- The function of a context (R336). -/
def ctxFunc (s : State) (c : Nat) : Nat := match (ctxGet s c).allot with | some a => a.func | none => 0

/-- The outstanding commands that name a context end with a status (R197, R343): LOAD, COURSE, RESET, RELEASE. `keep` spares some. -/
def endCmds (c status detail : Nat) (keep : HostCmd → Bool) (s : State) : State :=
  let mine (h : HostCmd) : Bool := 3 ≤ h.opcode && h.opcode ≤ 6 && h.ctx == c && !keep h
  let ended := s.taken.filter mine ++ s.hosts.flatMap (fun e => e.2.inbox.filter mine)
  let s := { s with taken := s.taken.filter (fun h => !mine h)
                    hosts := s.hosts.map (fun e => (e.1, { e.2 with inbox := e.2.inbox.filter (fun h => !mine h) })) }
  ended.foldl (fun s h => cmdDone h (some c) status detail s) s

/-- The context is held at the ridge (R338, R347): the class of the cause is recorded, the hold raised to the function, and the
context's outstanding commands end with HELD (R197). -/
def hold (c cls : Nat) (r : Option FaultRec) (s : State) : State :=
  if rget s .CTX_STATE_STATE c = 2 then
    let s := rset .CTX_STATE_HOLD_CLASS c 0 cls (rset .CTX_STATE_STATE c 0 3 s)
    let s := ctxMod c (fun x => { x with heldTicks := 0, held := r, load := none }) s
    let s := endCmds c 0x85 cls (fun _ => false) s
    post (ctxFunc s c) ⟨3, cls, some c, 0, genOf s c, 0, rget s .CTX_STEP_COUNT c⟩ s
  else s

/-- A schedule fault (R72, R96, R172, R196, R197): release and ridge signal are withheld and the context is held. -/
def schedFault (c : Nat) (r : FaultRec) (s : State) : State :=
  hold c r.cls (some r) (ctxMod c (fun x => { x with schedFault := true }) s)

def schedFaultComb (cb : Nat) (r : FaultRec) (s : State) : State :=
  match ctxOfComb s cb with
  | some c => schedFault c r s
  | none => s

/-- A shared-logic fault of a comb (R307): the running step has failed, and the keeper fences the comb at its next tick boundary (R324). -/
def combFault (cb : Nat) (s : State) : State :=
  let s := failComb cb (recC s cb 0x18 1 0 0) none s
  if s.combFaults.contains cb then s else { s with combFaults := s.combFaults ++ [cb] }

/-- A degraded state of `BST_HEALTH` sets, by its bit in the register; bits 25 to 30 degrade the module (R327). A change raises vector 63
(R404). -/
def degrade (b : Nat) (s : State) : State :=
  let v := rget s .BST_HEALTH_STATES
  if bit v (b - 23) then s
  else
    let s := rset .KPR_ALERT_DEGRADED 0 0 1 (rset .BST_HEALTH_STATES 0 0 (setFld v (b - 23) 1 1) s)
    msix 0 63 (if 25 ≤ b then rset .BST_HEALTH_DEGRADED 0 0 1 s else s)

/-- A field of `BST_HEALTH` takes a value; a change raises vector 63 of the physical function (R404). -/
def healthSet (f : F) (v : Nat) (s : State) : State := if rget s f = v then s else msix 0 63 (rset f 0 0 v s)

/-- A context reset is requested: it takes effect at the next tick boundary (R341, R343). A request joins one in progress; a context
in FREE or RELEASE ignores it (R344). `gen` names the new generation. -/
def askReset (c : Nat) (gen : Option Nat) (s : State) : State :=
  let st := rget s .CTX_STATE_STATE c
  if st = 0 ∨ st = 5 then s
  else ctxMod c (fun x => { x with resetReq := match x.resetReq with | some g => some g | none => some gen }) s

/-- A loss overrun of a context (R195, R196): a slip overrun when the meter has passed `SLIP`, and a schedule fault otherwise. While the slip
allowance has lapsed, every one is a slip overrun (R80; assumption 107). The record's outcome says which (assumption 16). -/
def lossOverrun (unit c : Nat) (r : FaultRec) (s : State) : State :=
  if (stepEntry (ctxGet s c)).slip < rget s .CTX_STEPSTAT_SLIP c ∨ rget s .CTX_STEPSTAT_SLIP c = 0xFFFFFFFF ∨ lapsed s c then
    failStep c { r with outcome := 1 } none (raise unit { r with outcome := 1 } s)
  else schedFault c { r with outcome := 5 } (raise unit { r with outcome := 5 } s)

/-- The records of one context's step that were sent already: one leftover overrun of each cause per step (R135, R195). -/
def leftover (unit c cause : Nat) (r : FaultRec) (s : State) : State :=
  if (ctxGet s c).overSent.contains cause then s
  else raise unit r (ctxMod c (fun x => { x with overSent := cause :: x.overSent }) s)

end Sys2Proof.Machine
end

