-- ==== Sys2Proof/Machine/Operands.lean ====
section
/-! DEFINITION. Workers, threads and their operands: ports, registers, local store, receive queues. -/

namespace Sys2Proof.Machine

/-- The configuration of a unit that no section reaches (R147). -/
def wcfg0 : WCfg := ⟨false, [], 127, 16, [], [], [], []⟩

def noLimits : MonLim := ⟨0, 0, 0, 0, 0⟩

/-- 32 lanes of zero. -/
def zeroVec : List Word := List.replicate 32 0

def carried0 : Carried := ⟨0, List.replicate 16 0, 0, List.replicate 4 0, List.replicate 4 0, rngSeed 0⟩

/-- A thread as a flip loads it from its initial frame (R149, R168). -/
def threadOf (f : Frame) : Thread :=
  { ptr := f.start, s := f.s, p := f.p, m := f.m, l := f.l, v := List.replicate 4 zeroVec, rng := rngSeed f.seed, ended := false
    park := .none, slot := 0, lastFire := 0 }

def frame0 : Frame := ⟨0, 0, List.replicate 4 0, List.replicate 4 0, List.replicate 16 0, 0⟩

def thread0 : Thread := threadOf frame0

/-- A tile cleared at step start (R40): every accumulator, S and M are +0, and it has no type. -/
def tile0 : Tile := ⟨List.replicate 256 0, .none, List.replicate 16 (.fin false 0 0), List.replicate 16 (.fin false 0 0), none⟩

def worker0 : Worker :=
  { act := wcfg0, sh := wcfg0, shReady := false, th := [], tiles := List.replicate 4 tile0, wbuf := List.replicate 16 0, mma := none
    fifo := List.replicate 6 [], tap := [], stream := [], streamOff := 0, queues := List.replicate 8 [], cred := List.replicate 8 0
    gone := List.replicate 8 false, unacked := List.replicate 8 0, lastFired := 127, stopped := false, saved := [], plaus := []
    sumEv := [], lastDrain := [], outq := [], upsets := [], mmaTill := (0, 0), drainTill := (0, 0)
    sfnFree := 0, cmFree := 0, nextFire := 0, marksOut := false, flipped := false }

def wGet (s : State) (wk : Nat) : Worker := tget worker0 s.workers wk

def wSet (wk : Nat) (w : Worker) (s : State) : State := { s with workers := tset s.workers wk w }

def wMod (wk : Nat) (f : Worker → Worker) (s : State) : State := wSet wk (f (wGet s wk)) s

def Worker.thr (w : Worker) (t : Nat) : Thread := tget thread0 w.th t

def Worker.setThr (w : Worker) (t : Nat) (th : Thread) : Worker := { w with th := tset w.th t th }

def thGet (s : State) (wk t : Nat) : Thread := (wGet s wk).thr t

def thSet (wk t : Nat) (th : Thread) (s : State) : State := wMod wk (fun w => w.setThr t th) s

def thMod (wk t : Nat) (f : Thread → Thread) (s : State) : State := wMod wk (fun w => w.setThr t (f (w.thr t))) s

/-- The slot at a pointer; the store is filled with zeros beyond the program (R148). -/
def WCfg.slotAt (c : WCfg) (p : Nat) : BitVec 256 := c.slots.getD p 0

/-- Active threads (R39). -/
def Worker.actives (w : Worker) : List Nat := if w.act.present then List.range (w.act.threads + 1) else []

/-- Every active thread has taken END; a worker without a program counts as done (R49, R147). -/
def Worker.done (w : Worker) : Bool := w.actives.all fun t => (w.thr t).ended

/-- The slot that a thread's pointer names is read from the store: the thread keeps the checked copy (R77). -/
def reread (w : Worker) (th : Thread) : Thread := { th with slot := w.act.slotAt th.ptr }

/-! ### Switch inputs fed by a worker, and words -/

def cfg0 : SwCfg := ⟨false, 0, [], []⟩

def switch0 : Switch := ⟨cfg0, cfg0, false, 0, [], [], false, [], none, []⟩

def netIx : Net → Nat
  | .vector => 0
  | .scalar => 1
  | .control => 2

/-- The key of a comb's switch on a network. -/
def swKey (cb net : Nat) : Nat := cb * 3 + net

def swGet (s : State) (cb net : Nat) : Switch := tget switch0 s.switches (swKey cb net)

def swSet (cb net : Nat) (x : Switch) (s : State) : State := { s with switches := tset s.switches (swKey cb net) x }

def Switch.q (x : Switch) (i : Nat) : List NWord := tget [] x.qs i

/-- The delay of an input, and the words that its credits cover (R127). -/
def Switch.delay (x : Switch) (i : Nat) : Nat := x.act.delays.getD i 0

def Switch.room (x : Switch) (i cap : Nat) : Bool := (x.q i).length < cap + x.delay i

def Switch.push (x : Switch) (i : Nat) (n : NWord) : Switch := { x with qs := tset x.qs i (x.q i ++ [n]) }

def Switch.pop (x : Switch) (i : Nat) : Switch := { x with qs := tset x.qs i ((x.q i).drop 1) }

/-- The switch input of a worker's output port: 0 VO0, 1 VO1, 2 SO0, 3 CO0 (R113). -/
def portIn (w port : Nat) : Nat × Nat :=
  match port with
  | 0 => (0, 4 + 2 * w)
  | 1 => (0, 5 + 2 * w)
  | 2 => (1, 4 + w)
  | _ => (2, 4 + w)

/-- A worker's output port holds a credit, and no DRAIN row waits before it on the port. -/
def portRoom (s : State) (wk port : Nat) : Bool :=
  let n := portIn (wk % 32) port
  (swGet s (wk / 32) n.1).room n.2 8 && !((wGet s wk).outq.any fun e => e.1 == port)

/-- A word enters the switch input that a port feeds. -/
def portSend (wk port : Nat) (data : List Word) (s : State) : State :=
  let n := portIn (wk % 32) port
  swSet (wk / 32) n.1 ((swGet s (wk / 32) n.1).push n.2 ⟨false, data, s.cycle⟩) s

/-- DRAIN rows that wait for a credit enter their switch input in order (R41, R127). -/
def flushOut (wk : Nat) : Nat → State → State
  | 0, s => s
  | k + 1, s =>
    match (wGet s wk).outq with
    | [] => s
    | (port, _, n) :: r =>
      let i := portIn (wk % 32) port
      if (swGet s (wk / 32) i.1).room i.2 8 then
        flushOut wk k (portSend wk port n.data (wMod wk (fun w => { w with outq := r }) s))
      else s

/-- The monitor of a vector output checks a word against the slot's limit set: each element outside it is an event still to be raised
(R69). `BST_CTRL.MONITORS` = 0 raises none. -/
def monitor (wk port : Nat) (sl : Slot) (t ptr : Nat) (lanes : List Word) (s : State) : State :=
  if rget s .BST_CTRL_MONITORS = 0 then s
  else
    let ev := (monFail ((wGet s wk).act.limits.getD sl.limit noLimits) lanes).map fun e => (⟨port, sl.limit, e, t, ptr⟩ : PlausEv)
    wMod wk (fun w => { w with plaus := w.plaus ++ ev }) s

/-- A slot sends a vector word on VO0 or VO1. -/
def sendVO (wk port : Nat) (sl : Slot) (t ptr : Nat) (lanes : List Word) (s : State) : State :=
  portSend wk port (lanes.take 16) (monitor wk port sl t ptr (lanes.take 16) s)

/-! ### Inputs -/

/-- A mark: a marked word, or a course mark token (R114). -/
def isMark (net : Nat) (n : NWord) : Bool := n.mark || (net == 2 && (wordAt n.data 0).toNat % 8 == 5)

/-- The network of an input port: 0, 1 vector; 2, 3 scalar; 4, 5 control. -/
def inNet (i : Nat) : Nat := i / 2

/-- The head of an input FIFO that is no mark. -/
def Worker.head (w : Worker) (i : Nat) : Option NWord :=
  match (w.fifo.getD i []) with
  | n :: _ => if isMark (inNet i) n then none else some n
  | [] => none

def Worker.popIn (w : Worker) (i : Nat) : Worker := { w with fifo := w.fifo.set i ((w.fifo.getD i []).drop 1) }

/-- The kind of the token at the head of CI0 or CI1, marks included. -/
def Worker.token (w : Worker) (sctl : Nat) : Option Nat := ((w.fifo.getD (4 + sctl) []).head?).map fun n => (wordAt n.data 0).toNat

/-- 32 lanes from a port word: lanes 16 to 31 read as 0 (R54). -/
def portLanes (w : Worker) (i : Nat) : List Word :=
  match w.head i with
  | some n => n.data.take 16 ++ List.replicate 16 0
  | none => zeroVec

/-! ### The local store (R57) -/

/-- An access of `size` bytes is aligned and inside the local store. -/
def lsOk (a size : Nat) : Bool := a % size == 0 && a + size ≤ lsSize

def lsRead (s : State) (wk a k : Nat) : List Byte := mread s (lsKey wk a) k

def lsWrite (wk a : Nat) (b : List Byte) (s : State) : State := mwrite (lsKey wk a) b s

/-- Lanes of a 128-byte access. -/
def lanesOf (b : List Byte) : List Word := toLanes 32 (ofLe b)

def bytesOf (l : List Word) : List Byte := l.flatMap fun w => toLe 4 w.toNat

/-- The hive address of a byte of a worker's local store, and of its comb's memory (R28). -/
def lsAddr (wk off : Nat) : Nat := 2 <<< 60 ||| cbX (wk / 32) <<< 47 ||| cbY (wk / 32) <<< 42 ||| (wk % 32) <<< 36 ||| off % 2 ^ 36
def cmAddr (cb off : Nat) : Nat := 1 <<< 60 ||| cbX cb <<< 47 ||| cbY cb <<< 42 ||| 63 <<< 36 ||| off % 2 ^ 36

/-- An address fault of a worker (R29, R57): the access is not sent, and the record goes to its context. -/
def addrFault (wk t ptr addr : Nat) (s : State) : State :=
  raise (regionOf (wk / 32)) (recW s wk clsAddress 2 0 addr) (wrkFault wk clsAddress 0 t ptr s)

/-! ### Threads waking up -/

/-- What the check of the slot that a thread's pointer names finds: the error that strikes now, or one that waits in the store (R77). -/
def eccNow (w : Worker) (t : Nat) (e : SlotEcc) : SlotEcc :=
  match e, w.upsets.find? (fun u => u.1 == (w.thr t).ptr) with
  | .good, some u => if u.2 then .double else .single
  | e, _ => e

/-- The slot that the thread's pointer names next is read and checked (R77): a single-bit error is corrected, written back and counted; a
double-bit error stops the worker before the slot can fire, and the step has failed. -/
def slotCheck (wk t : Nat) (e : SlotEcc) (s : State) : State :=
  let w := wGet s wk
  match eccNow w t e with
  | .good => s
  | .single =>
    bump .WRK_EVT_COUNT .WRK_OVF_OVF wk 4 1 (wSet wk { w with upsets := w.upsets.filter fun u => u.1 != (w.thr t).ptr } s)
  | .double =>
    let p := (w.thr t).ptr
    let r := recW s wk clsSlotEcc 1 p 0
    let s := wrkFault wk clsSlotEcc 0 t p (rset .WRK_STATUS_STEP_FAILED wk 0 1 s)
    let s := failComb (wk / 32) r (some wk) (wSet wk { w with stopped := true } s)
    raise (regionOf (wk / 32)) r s

/-- Every active thread's slot is read at a step start, a replay start or a flip (R77). -/
def checkAll (wk : Nat) (s : State) : State :=
  if (wGet s wk).upsets.isEmpty then s
  else (wGet s wk).actives.foldl (fun s t => if (wGet s wk).stopped then s else slotCheck wk t .good s) s

/-- Errors that struck active slot stores: worker, slot, and whether two bits of a quarter are wrong (R77). -/
def strike (u : List Upset) (s : State) : State :=
  u.foldl (fun s e => wMod (wkOf e.x.val e.y.val e.w.val) (fun w => { w with upsets := (e.slot.val, e.double) :: w.upsets.filter fun k => k.1 != e.slot.val }) s) s

/-- A parked WAIT or SEND ends: p3 tells how, the thread takes its next-slot control, and its next slot is read (R60, R77). -/
def wake (wk t : Nat) (ok : Bool) (s : State) : State :=
  slotCheck wk t .good (wMod wk (fun w =>
    let th := { setPred (w.thr t) 3 ok with park := .none }
    w.setThr t (reread w (nextSlot (slotOf th.slot) th))) s)

end Sys2Proof.Machine
end

