-- ==== Sys2Proof/Machine/Sync.lean ====
section
/-! DEFINITION. Sync objects, and the messages by which workers signal and send (R274 to R284). -/

namespace Sys2Proof.Machine

/-! ### Endpoints and packets (R255, R258) -/

def epW (wk : Nat) : Nat := cbX (wk / 32) <<< 11 ||| cbY (wk / 32) <<< 6 ||| (wk % 32)
def epC (cb : Nat) : Nat := cbX cb <<< 11 ||| cbY cb <<< 6 ||| 63

/-- Fields of an endpoint identifier. -/
def epX (e : Nat) : Nat := fld e 11 5
def epY (e : Nat) : Nat := fld e 6 5
def epN (e : Nat) : Nat := fld e 0 6

/-- The endpoint is on a logical comb of the grid. -/
def epOnGrid (e : Nat) : Bool := epX e ≤ 27 && epY e ≤ 23

def epComb (e : Nat) : Nat := cbOf (epX e) (epY e)
def epWorker (e : Nat) : Nat := epComb e * 32 + epN e

/-- The slow-cycle count: the reference divided by 125, one in 1,000 data cycles (R204, R267). -/
def slowCount (s : State) : Nat := s.cycle / 1000

/-- Hive addresses of a queue and of a sync object (R28, R279). -/
def quAddr (x y w q : Nat) : Nat := 5 <<< 60 ||| x <<< 47 ||| y <<< 42 ||| w <<< 36 ||| 16 * q
def soAddr (x y n : Nat) : Nat := 4 <<< 60 ||| x <<< 47 ||| y <<< 42 ||| 63 <<< 36 ||| 16 * n

/-- A packet made for a context, or for the physical function and the keeper. -/
def mkPacket (s : State) (op src dest : Nat) (ctx : Option Nat) : Packet :=
  { op := BitVec.ofNat 5 op, src := BitVec.ofNat 16 src, dest := BitVec.ofNat 16 dest
    born := BitVec.ofNat 12 (slowCount s), ctxv := ctx.isSome, ctx := BitVec.ofNat 4 (ctx.getD 0)
    gen := BitVec.ofNat 8 (match ctx with | some c => genOf s c | none => 0) }

/-- A packet leaves its source and is in flight until it arrives. -/
def launch (p : Packet) (s : State) : State := { s with flight := s.flight ++ [p] }

/-! ### Sync objects (R280, R281) -/

def obj0 : SyncObj := ⟨0, 0, 0, 0, []⟩

def objKey (cb n : Nat) : Nat := cb * 4096 + n

def objGet (s : State) (cb n : Nat) : SyncObj := tget obj0 s.objs (objKey cb n)

def objSet (cb n : Nat) (o : SyncObj) (s : State) : State := { s with objs := tset s.objs (objKey cb n) o }

/-- Threads released in order. -/
def wakeAll (ws : List Waiter) (ok : Bool) (s : State) : State := ws.foldl (fun s w => wake w.worker w.thread ok s) s

/-- A counter's value satisfies a threshold (R280). -/
def counterOk (v : Nat) (t : Word) : Bool := (v + 2 ^ 32 - t.toNat) % 2 ^ 32 < 2 ^ 31

/-- What an object's value releases: the waiters that go, and the object afterwards (R280). -/
def settle (o : SyncObj) : List Waiter × SyncObj :=
  match o.ty with
  | 0 => (o.waiters.filter (fun w => counterOk o.value w.threshold), { o with waiters := o.waiters.filter (fun w => !counterOk o.value w.threshold) })
  | 1 =>
    let k := min o.value o.waiters.length
    (o.waiters.take k, { o with value := o.value - k, waiters := o.waiters.drop k })
  | 2 =>
    if o.param ≤ o.value ∧ o.param ≠ 0 then
      (o.waiters, { o with value := o.value % o.param, phase := (o.phase + o.value / o.param) % 65536, waiters := [] })
    else ([], o)
  | _ => if o.value = 1 then (o.waiters, { o with waiters := [] }) else ([], o)

/-- The value after a signal, and whether an event-with-count saturated. -/
def signalled (o : SyncObj) (v : Nat) : SyncObj × Bool :=
  match o.ty with
  | 0 => ({ o with value := (o.value + v) % 2 ^ 32 }, false)
  | 1 => ({ o with value := min (o.value + v) 0xFFFFFFFF }, decide (0xFFFFFFFF < o.value + v))
  | 2 => ({ o with value := o.value + v }, false)
  | _ => ({ o with value := b2n (v != 0) }, false)

/-- One signal of value `v` at an object. -/
def signal (cb n v : Nat) (s : State) : State :=
  let r := signalled (objGet s cb n) v
  let q := settle r.1
  let s := objSet cb n q.2 s
  let s := if r.2 then bump .SYN_EVT_COUNT .SYN_OVF_OVF cb 2 1 s else s
  wakeAll q.1 true s

/-- A WAIT reaches an object (R280): either it succeeds at once or its thread waits. A barrier WAIT is an arrival. -/
def objWait (o : SyncObj) (w : Waiter) : Bool × List Waiter × SyncObj :=
  match o.ty with
  | 0 => if counterOk o.value w.threshold then (true, [], o) else (false, [], { o with waiters := o.waiters ++ [w] })
  | 1 => if 0 < o.value then (true, [], { o with value := o.value - 1 }) else (false, [], { o with waiters := o.waiters ++ [w] })
  | 2 =>
    let q := settle { o with value := o.value + 1 }
    if o.param ≤ o.value + 1 ∧ o.param ≠ 0 then (true, q) else (false, [], { q.2 with waiters := q.2.waiters ++ [w] })
  | _ => if o.value = 1 then (true, [], o) else (false, [], { o with waiters := o.waiters ++ [w] })

/-! ### Bindings -/

/-- The queue binding of a worker, when the thatch defines it (R274). -/
def qbind (w : Worker) (b : Nat) : Option QTarget := (w.act.qb.find? (fun e => e.1 == b)).map (·.2)

def sbind (w : Worker) (b : Nat) : Option STarget := (w.act.sb.find? (fun e => e.1 == b)).map (·.2)

/-- The SEND packet of a tuple: one payload flit whose low 128 bits hold it (R258). -/
def sendPacket (s : State) (wk b : Nat) (t : QTarget) (tuple : List Word) : Packet :=
  { mkPacket s 6 (epW wk) (epW (wkOf t.x t.y t.w)) (ctxOfComb s (wk / 32)) with
    tlen := BitVec.ofNat 2 (tuple.length - 1), flow := BitVec.ofNat 6 b, addr := BitVec.ofNat 64 (quAddr t.x t.y t.w t.q)
    payload := padTo 32 (bytesOf tuple) }

/-- A SEND that finds a credit takes it and leaves (R274). -/
def sendNow (wk b : Nat) (t : QTarget) (tuple : List Word) (s : State) : State :=
  launch (sendPacket s wk b t tuple) (wMod wk (fun w => { w with cred := w.cred.set b (w.cred.getD b 0 - 1) }) s)

/-- A SEND fails on a GONE binding (R278): the record names the target queue, the worker and the thread. -/
def goneFail (wk t : Nat) (q : QTarget) (s : State) : State :=
  raise (regionOf (wk / 32)) (recW s wk clsGone 2 (q.q + t <<< 16) (quAddr q.x q.y q.w q.q))
    (wrkFault wk clsGone q.q t (thGet s wk t).ptr (bump .MSG_EVT_COUNT .MSG_OVF_OVF wk 1 1 s))

/-- A wait or send ends by timeout (R60): p3 is 0, `WRK_EVT5` counts, and the record names the object or queue, the worker and the
thread; a wait at an object counts in `SYN_EVT1` too. `addr` is the object's or queue's address. -/
def timeoutEnd (wk t what addr : Nat) (atObj : Bool) (s : State) : State :=
  let s := bump .WRK_EVT_COUNT .WRK_OVF_OVF wk 5 1 s
  let s := if atObj then bump .SYN_EVT_COUNT .SYN_OVF_OVF (wk / 32) 1 1 s else s
  let s := wrkFault wk clsTimeout (what % 256) t (thGet s wk t).ptr s
  raise (regionOf (wk / 32)) (recW s wk clsTimeout 2 (what + t <<< 16) addr) s

/-- Words s[r] to s[r + k] of a thread, indices modulo 16 (R59). -/
def tupleOf (th : Thread) (r k : Nat) : List Word := (List.range (k + 1)).map fun i => wordAt th.s ((r + i) % 16)

/-- A WAIT of a thread (R59, R60, R280): it succeeds at once, parks, or, with a timeout of 0, fails at once (R13). The answer tells
whether the thread goes on. -/
def opWait (wk t obj : Nat) (threshold : Word) (tmo : Nat) (s : State) : Option Bool × State :=
  let cb := wk / 32
  let r := objWait (objGet s cb obj) ⟨wk, t, threshold⟩
  if r.1 then (some true, wakeAll r.2.1 true (objSet cb obj r.2.2 s))
  else if tmo = 0 then
    let o := { r.2.2 with waiters := r.2.2.waiters.filter (fun w => !(w.worker == wk && w.thread == t)) }
    (some false, timeoutEnd wk t obj (soAddr (cbX cb) (cbY cb) obj) true (objSet cb obj o s))
  else (none, thMod wk t (fun th => { th with park := .wait obj threshold }) (objSet cb obj r.2.2 s))

/-- A SEND of a thread (R60, R274, R278). One to a logical comb that is absent is an address fault: nothing is sent, and p3 is 0 (R29). -/
def opSend (wk t b : Nat) (tuple : List Word) (tmo : Nat) (s : State) : Option Bool × State :=
  let w := wGet s wk
  match qbind w b with
  | none => (some true, s)
  | some q =>
    if absentComb s (cbOf q.x q.y) then (some false, addrFault wk t (thGet s wk t).ptr (quAddr q.x q.y q.w q.q) s)
    else if w.gone.getD b false then (some false, goneFail wk t q s)
    else if 0 < w.cred.getD b 0 then (some true, sendNow wk b q tuple s)
    else if tmo = 0 then (some false, timeoutEnd wk t q.q (quAddr q.x q.y q.w q.q) false s)
    else (none, thMod wk t (fun th => { th with park := .credit b tuple }) s)

/-- An RSIG of a thread: a SIG packet through a sync binding; the binding counts it until its SIGACK comes (R283). One to a logical comb that is
absent is an address fault and is not sent (R29). -/
def opRsig (wk t b v : Nat) (s : State) : State :=
  let w := wGet s wk
  match sbind w b with
  | none => s
  | some q =>
    if absentComb s (cbOf q.x q.y) then addrFault wk t (thGet s wk t).ptr (soAddr q.x q.y q.obj) s else
    let p : Packet := { mkPacket s 8 (epW wk) (epC (cbOf q.x q.y)) (ctxOfComb s (wk / 32)) with
      value := BitVec.ofNat 32 (v % 65536), flow := BitVec.ofNat 6 b, addr := BitVec.ofNat 64 (soAddr q.x q.y q.obj) }
    launch p (wMod wk (fun w => { w with unacked := w.unacked.set b (w.unacked.getD b 0 + 1) }) s)

/-- A popped entry owes one credit to the binding that sent it (R276): the refresh is sent at once with one credit (assumption 14). -/
def creditBack (wk : Nat) (e : QEntry) (s : State) : State :=
  let p : Packet := { mkPacket s 7 (epC (wk / 32)) e.src (ctxOfComb s (wk / 32)) with
    aux := 1, flow := BitVec.ofNat 6 e.bind }
  launch p s

end Sys2Proof.Machine
end

