-- ==== Sys2Proof/Machine/EaveMem.lean ====
section
/-! DEFINITION. Eave memory as its requesters see it: apertures, granules, mirrored stripes and poison marks (R225 to R229, R251, R252). -/

namespace Sys2Proof.Machine

/-- Data bytes of a channel (R228). -/
def chanBytes : Nat := 4160618496

/-- A channel is in service (R226, R253). -/
def chInService (s : State) (ch : Nat) : Bool := rget s .MEM_CHSTAT_STATE (ch / 256) (ch % 256) == 0

/-- Whose view of eave memory: a context's, or that of the physical function and the keeper (R251). -/
inductive View where
  | pf
  | ctx (c : Nat)
  deriving DecidableEq, Repr

/-- The channels of a view that are in service, ascending. -/
def viewChans (s : State) : View → List Nat
  | .pf => (List.range 2048).filter fun ch => chInService s ch
  | .ctx c => match (ctxGet s c).allot with
    | some a => a.chans.filter fun ch => chInService s ch
    | none => []

/-- The granule of a view in bytes. -/
def viewGran (s : State) : View → Nat
  | .pf => 4096
  | .ctx c => 4096 * 4 ^ rget s .EAV_CTX_CFG_GRANULE 0 c

/-- The size of a view's aperture. -/
def aperture (s : State) (v : View) : Nat := (viewChans s v).length * chanBytes

/-- The channel and data offset of a byte of a view (R251). -/
def emPlace (chs : List Nat) (g a : Nat) : Nat × Nat :=
  let n := chs.length
  (chs.getD (a / g % n) 0, a / g / n * g + a % g)

/-- The raw byte of a channel that holds a data offset: check groups of 2,112 bytes, 64 of them the metadata burst (R227). -/
def rawOf (off : Nat) : Nat := off / 2048 * 2112 + 64 + off % 2048

def emByteKey (p : Nat × Nat) : Nat := emKey p.1 (rawOf p.2)

/-- The key of a data block's poison mark: the first byte of the block. -/
def emBlockKey (ch group block : Nat) : Nat := emKey ch (group * 2112 + 64 + 128 * block)

def emBlockOf (p : Nat × Nat) : Nat := emBlockKey p.1 (p.2 / 2048) (p.2 / 128 % 16)

/-- The stripe of an address of a context lies among its mirrored stripes (R252). -/
def mirrored (s : State) (v : View) (a : Nat) : Bool :=
  match v with
  | .pf => false
  | .ctx c =>
    let n := (viewChans s v).length
    let st := a / viewGran s v / n
    rget s .EAV_CTX_CFG_MIRROR_BASE 0 c ≤ st && st < rget s .EAV_CTX_CFG_MIRROR_BASE 0 c + rget s .EAV_CTX_CFG_MIRROR_COUNT 0 c

/-- The other copy's address in a mirrored stripe: the granule n / 2 further, or back. -/
def partner (s : State) (v : View) (a : Nat) : Nat :=
  let n := (viewChans s v).length
  let g := viewGran s v
  if a / g % n < n / 2 then a + n / 2 * g else a - n / 2 * g

/-- The copy that a read of a byte takes: the partner's, where the block itself bears the poison code and its partner copy does not (R245, R252). -/
def emSource (s : State) (v : View) (a : Nat) : Nat × Nat :=
  let own := emPlace (viewChans s v) (viewGran s v) a
  if s.poison.contains (emBlockOf own) && mirrored s v a then
    let other := emPlace (viewChans s v) (viewGran s v) (partner s v a)
    if s.poison.contains (emBlockOf other) then own else other
  else own

/-- Bytes of a view. -/
def emRead (s : State) (v : View) (a k : Nat) : List Byte := (List.range k).map fun i => mget s.mem (emByteKey (emSource s v (a + i)))

/-- A write aimed at the second half of a mirrored stripe (R252). -/
def mirrorHalf (s : State) (v : View) (a : Nat) : Bool :=
  mirrored s v a && decide ((viewChans s v).length / 2 ≤ a / viewGran s v % (viewChans s v).length)

/-- The lowest address of a write range that is aimed at the second half of a mirrored stripe (R252). -/
def mirrorFault (s : State) (v : View) (a k : Nat) : Option Nat :=
  match v with
  | .pf => none
  | .ctx c =>
    let n := (viewChans s v).length
    let g := viewGran s v
    let base := rget s .EAV_CTX_CFG_MIRROR_BASE 0 c
    let half (st : Nat) : Nat := (st * n + n / 2) * g
    let st := max base (if a ≤ half (a / g / n) then a / g / n else a / g / n + 1)
    if k = 0 then none
    else if mirrorHalf s v a then some a
    else if st < base + rget s .EAV_CTX_CFG_MIRROR_COUNT 0 c ∧ half st < a + k then some (half st)
    else none

/-- The whole 128-byte blocks of a range, by first address. -/
def wholeBlocks (a k : Nat) : List Nat :=
  (List.range ((a + k) / 128 - (a + 127) / 128)).map fun i => ((a + 127) / 128 + i) * 128

/-- Writes bytes of a view: each byte to its place and, in a mirrored stripe, to its partner; a full-block write clears the poison mark,
a shorter one leaves it (R229, R252). -/
def emWrite (v : View) (a : Nat) (b : List Byte) (s : State) : State :=
  let chs := viewChans s v
  let g := viewGran s v
  let put (m : List Host.Cell) (e : Nat × Byte) : List Host.Cell :=
    let m := mput m (emByteKey (emPlace chs g e.1)) e.2
    if mirrored s v e.1 then mput m (emByteKey (emPlace chs g (partner s v e.1))) e.2 else m
  let full := wholeBlocks a b.length
  let keys := full.flatMap fun x =>
    emBlockOf (emPlace chs g x) :: (if mirrored s v x then [emBlockOf (emPlace chs g (partner s v x))] else [])
  { s with mem := (b.mapIdx fun i x => (a + i, x)).foldl put s.mem
           poison := s.poison.filter fun k => !keys.contains k }

/-- The ranges that contexts hold for their thatches: writes into them are refused (R160). -/
def heldRanges (s : State) (c : Nat) : List (Nat × Nat) :=
  let x := ctxGet s c
  (match x.load with | some j => [(j.addr, j.bytes)] | none => []) ++
    (match x.waiting with | some t => [(t.base, t.bytes)] | none => []) ++
    (match x.active with | some t => [(t.base, t.bytes)] | none => [])

def overlaps (a k : Nat) (r : Nat × Nat) : Bool := a < r.1 + r.2 && r.1 < a + k

/-- The context that holds a channel. -/
def chanOwner (s : State) (ch : Nat) : Option Nat :=
  (List.range 16).find? fun c => match (ctxGet s c).allot with
    | some a => a.chans.contains ch
    | none => false

/-- The context address of a channel's data offset: the inverse of `emPlace` (R251). -/
def ctxAddr (s : State) (c ch off : Nat) : Nat :=
  let chs := viewChans s (.ctx c)
  let g := viewGran s (.ctx c)
  (off / g * chs.length + chs.idxOf ch) * g + off % g

/-- A byte of a channel lies in a range that its owner holds. -/
def heldByte (s : State) (p : Nat × Nat) : Bool :=
  match chanOwner s p.1 with
  | none => false
  | some c => let x := ctxAddr s c p.1 p.2
    (heldRanges s c).any fun r => decide (r.1 ≤ x) && decide (x < r.1 + r.2)

/-- A write of a view that is allowed: inside the aperture, not into a held range, whoever writes, not into the second half of a mirrored stripe (R160,
R252). -/
def emWriteOk (s : State) (v : View) (a k : Nat) : Bool :=
  a + k ≤ aperture s v && (mirrorFault s v a k).isNone &&
  match v with
  | .ctx c => !(heldRanges s c).any (overlaps a k)
  | .pf => let chs := viewChans s v
    (List.range k).all fun i => !heldByte s (emPlace chs 4096 (a + i))

/-- A block of a channel as a number, and its partner copy's place when its stripe is mirrored (R243, R248). -/
def blockData (s : State) (ch group block : Nat) : List Byte := mread s (emBlockKey ch group block) 128

def partnerPlace (s : State) (c ch group block : Nat) : Option (Nat × Nat) :=
  let a := ctxAddr s c ch (group * 2048 + 128 * block)
  if mirrored s (.ctx c) a then some (emPlace (viewChans s (.ctx c)) (viewGran s (.ctx c)) (partner s (.ctx c) a)) else none

/-- The CRC-32C that the metadata burst holds for a block: that of its data, or the poison code, its complement, for a marked block (R227, R229, R245). The
module keeps it so at every write, and `State.poison` lists the blocks whose code is the complement. -/
def storedCrc (s : State) (ch group block : Nat) : BitVec 32 :=
  let c := crc32c (blockData s ch group block)
  if s.poison.contains (emBlockKey ch group block) then ~~~c else c

/-- The metadata burst of a group: 16 little-endian words (R227). -/
def metaBurst (s : State) (ch group : Nat) : List Byte := (List.range 16).flatMap fun b => toLe 4 (storedCrc s ch group b).toNat

/-- A check failure on a read of a channel (R253). -/
def chErr (ch n : Nat) (s : State) : State :=
  let seg := ch / 256
  let i := ch % 256
  let v := rget s .MEM_CHERR_COUNT seg i + n
  if v ≤ 0xFFFFFFFF then rset .MEM_CHERR_COUNT seg i v s
  else rset .MEM_CHSTAT_ERR_OVF seg i 1 (rset .MEM_CHERR_COUNT seg i 0xFFFFFFFF s)

/-- A block is poisoned (R245): its mark is written, the first poisoning of the segment latched, and the record sent; its detail word
has the layout of `EAV_POISON`. -/
def poisonBlock (ch group block : Nat) (s : State) : State :=
  let seg := ch / 256
  let c := chanOwner s ch
  let k := emBlockKey ch group block
  let s := { s with poison := if s.poison.contains k then s.poison else k :: s.poison }
  let s := bump .EAV_EVT_COUNT .EAV_OVF_OVF seg 2 1 s
  let s := if rget s .EAV_POISON_VALID seg = 1 then s
    else rset .EAV_POISON_CTX seg 0 (c.getD 0) <| rset .EAV_POISON_BLOCK seg 0 block <| rset .EAV_POISON_GROUP seg 0 group <|
      rset .EAV_POISON_CHANNEL seg 0 ch <| rset .EAV_POISON_VALID seg 0 1 s
  let s := match c with
    | some c => ctxMod c (fun x => { x with poisonRead := true }) s
    | none => s
  raise (42 + seg) (withCtx s c { cls := 0x02, outcome := 2, lsite := 63 <<< 16, psite := psiteS seg
                                  detail := ch <<< 52 ||| group <<< 31 ||| block <<< 27 ||| (c.getD 0) <<< 23 }) s

end Sys2Proof.Machine
end

