-- ==== Sys2Proof/Machine/Issue.lean ====
section
/-! DEFINITION. Readiness and firing of a slot (R41 to R48) and what each of its groups does (R50 to R60, R65 to R74). -/

namespace Sys2Proof.Machine

/-! ### Readiness -/

/-- What a thread's slot can do in this cycle: wait, fire, or be refused: by the token at `SCTL` (R72) or by the tile's type (R96). -/
inductive Ready where
  | no | fire | tokenRefused | tileRefused
  deriving DecidableEq, Repr

/-- The data input of `SIA` or `SIB`: ports 0 to 3. -/
def steerIn (i : Nat) : Nat := i % 4

/-- Readiness of the steering unit (R71, R72). -/
def steerReady (w : Worker) (sl : Slot) : Ready :=
  match sl.steer with
  | 0 => .fire
  | 5 => .fire
  | 3 => if (w.head (steerIn sl.sia)).isSome || (w.head (steerIn sl.sib)).isSome then .fire else .no
  | 6 => match w.token sl.sctl with
    | some k => if k % 8 = 5 then .no else .fire
    | none => .no
  | st => match w.token sl.sctl with
    | none => .no
    | some k =>
      if k % 8 = 1 ∨ k % 8 = 2 then .tokenRefused
      else if k % 8 = 3 ∨ k % 8 = 4 then
        let i := if st = 1 ∧ k % 8 = 4 then sl.sib else sl.sia
        if (w.head (steerIn i)).isSome then .fire else .no
      else .no

/-- The tile type of a pair (R92). -/
def pairTy (sl : Slot) : TileTy := if pairInt sl.bfmt then .int else .fp

/-- The inputs named in NEED hold an entry (R46); an RTB or RTLS waits for a beat. -/
def needOk (w : Worker) (sl : Slot) : Bool :=
  (List.range 6).all (fun i => !needs sl i || (w.head i).isSome) &&
  (!(needsRT sl || sl.memop == 7 || sl.memop == 8) || !w.tap.isEmpty) &&
  (!(needsMQ sl) || !(w.queues.getD sl.qsel []).isEmpty)

/-- The tile of the MMA that runs, and of the DRAIN whose rows are still leaving (R61, R62). -/
def mmaOn (cyc : Nat) (w : Worker) : Option Nat :=
  match w.mma with
  | some r => some (slotOf r.slot).tile
  | none => if cyc < w.mmaTill.2 then some w.mmaTill.1 else none

def drainOn (cyc : Nat) (w : Worker) : Option Nat :=
  match w.outq with
  | e :: _ => some e.2.1
  | [] => if cyc < w.drainTill.2 then some w.drainTill.1 else none

/-- The matrix unit can accept the slot's operation: at most one MMA and one DRAIN at once, and never on the same tile (R62). -/
def matrixFree (cyc : Nat) (w : Worker) (sl : Slot) : Bool :=
  match sl.mop with
  | 0 => true
  | 3 => (drainOn cyc w).isNone && mmaOn cyc w != some sl.tile
  | 4 => drainOn cyc w != some sl.tile && mmaOn cyc w != some sl.tile
  | _ => (mmaOn cyc w).isNone && drainOn cyc w != some sl.tile

/-- The SFN unit and the crossbar port are free of the operation before (R62). -/
def unitsFree (cyc : Nat) (w : Worker) (sl : Slot) : Bool :=
  (sl.vop != 0x28 || w.sfnFree ≤ cyc) && ((sl.memop != 5 && sl.memop != 6) || w.cmFree ≤ cyc)

/-- The thread has a comb-memory read outstanding: a tag of one of its CMRDs is not returned (R46, R63). -/
def cmrdOut (s : State) (wk t : Nat) : Bool := s.tags.any fun g => g.owner == some (wk, t) && g.read && (g.pending.isSome || decide (s.cycle < g.due))

/-- Every output port that the slot writes has a credit (R41). -/
def outputsOk (s : State) (wk : Nat) (sl : Slot) : Bool :=
  (!writesVO sl 0 || portRoom s wk 0) && (!writesVO sl 1 || portRoom s wk 1) &&
  (!writesSO sl || portRoom s wk 2) && (!writesCO sl || portRoom s wk 3)

/-- Readiness of a thread's slot (R41, R46, R47). A refusal, of a token or of a tile, comes only once the slot's other conditions hold; the spec
does not say whether it waits for them (assumption 100). -/
def readyOf (s : State) (wk : Nat) (w : Worker) (t : Nat) : Ready :=
  let th := w.thr t
  let sl := slotOf th.slot
  if th.ended || th.park != .none then .no
  else if !predOk sl th then .fire
  else if needOk w sl && matrixFree s.cycle w sl && unitsFree s.cycle w sl && !(sl.cmdone == 1 && cmrdOut s wk t) && outputsOk s wk sl then
    match steerReady w sl with
    | .fire =>
      if sl.mop = 1 ∧ (w.tiles.getD sl.tile tile0).ty ≠ .none ∧ (w.tiles.getD sl.tile tile0).ty ≠ pairTy sl then .tileRefused
      else .fire
    | r => r
  else .no

/-- The thread that fires in this cycle (R42): the lowest ready thread above the last one fired, wrapping from 127 to 0. -/
def pick (s : State) (wk : Nat) (w : Worker) : Option Nat :=
  ((List.range 128).map fun i => (w.lastFired + 1 + i) % 128).find? fun t => w.actives.contains t && readyOf s wk w t != .no

/-- The worker can fire in this cycle: it has a program, its context's attempt is in its work phase, it is neither halted (R80) nor stopped
(R77), and it has not fired in this cycle already (R42). -/
def workerRuns (s : State) (wk : Nat) (w : Worker) : Bool :=
  w.act.present && !w.stopped && !dbgHalted s wk && w.nextFire ≤ s.cycle &&
  match ctxOfComb s (wk / 32) with
  | some c => stepping s c
  | none => false

/-! ### What a firing slot consumes (R46, R58) -/

/-- Pops the inputs named in NEED that are not kept, the beat and the queue entry. The words of a multi-step MMA are taken as it runs. -/
def consume (sl : Slot) (w : Worker) : Worker :=
  let w := (List.range 6).foldl (fun w i => if needs sl i && !keeps sl i then w.popIn i else w) w
  let w := if needsRT sl || sl.memop == 7 || sl.memop == 8 then { w with tap := w.tap.drop 1 } else w
  if needsMQ sl then { w with queues := w.queues.set sl.qsel ((w.queues.getD sl.qsel []).drop 1) } else w

/-! ### Matrix (R50, R65, R66, R91 to R97, R106) -/

/-- Tile `m`'s groups: (element of A, entry, element in the entry, length) of each partial group of an MMA that starts at element `pos0` of
entry `ent0` and covers `total` elements (R94). -/
def groups (bf : Nat) : Nat → Nat → Nat → Nat → Nat → List (Nat × Nat × Nat × Nat)
  | 0, _, _, _, _ => []
  | fuel + 1, off, ent, pos, left =>
    if left = 0 then []
    else
      let g := min left (kEntry bf - pos)
      (off, ent, pos, g) :: groups bf fuel (off + g) ((ent + 1) % 16) 0 (left - g)

/-- The check column: the sum of b, or of |b|, over the 16 columns with their scales, for one element of an entry (R66). -/
def checkCol (bf entry j : Nat) (abs : Bool) : FVal :=
  laneSum (pairInt bf) ((List.range 16).map fun n =>
    let blk := column bf entry n
    let v := fvScale ((scaleByte bf blk : Int) - 127) (blockElem bf blk j)
    if abs then fvAbs v else v)

/-- The entry that element `i` of a group reads: the weight buffer as its K-step found it (R65). -/
def entryAt (bf : Nat) (wb : Nat → List Nat) (g : Nat × Nat × Nat × Nat) (i : Nat) : Nat := (wb ((g.1 + i) / kStep bf)).getD g.2.1 0

/-- One group of an MMA on a tile: the accumulators, and S and M of each row (R66, R93). -/
def mmaGroup (sl : Slot) (aw : List Nat) (wb : Nat → List Nat) (tl : Tile) (g : Nat × Nat × Nat × Nat) : Tile :=
  let ent := entryAt sl.bfmt wb g
  let int := pairInt sl.bfmt
  let acc := (List.range 256).map fun i =>
    accAdd int (wordAt tl.acc i) (groupSum sl.afmt sl.bfmt aw ent (i / 16) (i % 16) g.1 g.2.2.1 g.2.2.2)
  let row (abs : Bool) (from' : FVal) (m : Nat) : FVal := (List.range g.2.2.2).foldl (fun t i =>
    let a := aAt sl.afmt sl.bfmt aw m (g.1 + i)
    let p := laneVal int (fvMul (if abs then fvAbs a else a) (checkCol sl.bfmt (ent i) (g.2.2.1 + i) abs))
    laneVal int (fvAdd t p)) from'
  { tl with acc := acc
            sumS := (List.range 16).map fun m => row false (tl.sumS.getD m (.fin false 0 0)) m
            sumM := (List.range 16).map fun m => row true (tl.sumM.getD m (.fin false 0 0)) m }

/-- The formats whose scale blocks the sum lane checks exactly: TN, MXFP4, INT4B, MXFP6 and INT8 (R67). -/
def blockChecked (bf : Nat) : Bool := scaled bf || bf == 5

/-- The block check of one row of a group: the integer inner product across the 16 columns equals the block checksum, the row's product
with the check column before scales (R66, R67). A block that holds a NaN has no integer inner product. -/
def blockRowOk (sl : Slot) (aw : List Nat) (wb : Nat → List Nat) (g : Nat × Nat × Nat × Nat) (m : Nat) : Bool :=
  let ent := entryAt sl.bfmt wb g
  let across := fvSum ((List.range 16).map fun n => groupProduct sl.afmt sl.bfmt aw ent m n g.1 g.2.2.1 g.2.2.2)
  let check := fvSum ((List.range g.2.2.2).map fun i => fvMul (aAt sl.afmt sl.bfmt aw m (g.1 + i))
    (fvSum ((List.range 16).map fun n => blockElem sl.bfmt (column sl.bfmt (ent i) n) (g.2.2.1 + i))))
  !(fvIsFin across && fvIsFin check) || fvCmp across check == 0

/-- Where an MMA starts reading the weight buffer: entry and element (R94). -/
def mmaStart (sl : Slot) (tl : Tile) : Nat × Nat :=
  match tl.kept with
  | some (e, p) => if sl.mop = 1 ∧ e = sl.bent then (e, p) else (sl.bent, 0)
  | none => (sl.bent, 0)

/-- The groups of an MMA or MMAZ on a tile (R94). -/
def mmaGroups (sl : Slot) (tl : Tile) : List (Nat × Nat × Nat × Nat) :=
  let st := mmaStart sl tl
  let total := (sl.ksteps + 1) * kStep sl.bfmt
  groups sl.bfmt (total + 1) 0 st.1 st.2 total

/-- The tile after an MMA or MMAZ on the words of A, with the weight buffer as each K-step found it. -/
def mmaTileOn (sl : Slot) (aw : List Nat) (wb : Nat → List Nat) (tl : Tile) : Tile :=
  let st := mmaStart sl tl
  let total := (sl.ksteps + 1) * kStep sl.bfmt
  let gs := mmaGroups sl tl
  let tl := if sl.mop = 2 then tile0 else tl
  let tl := gs.foldl (mmaGroup sl aw wb) tl
  let stop := (st.2 + total) % kEntry sl.bfmt
  { tl with ty := pairTy sl
            kept := if stop = 0 then none else some ((st.1 + (st.2 + total) / kEntry sl.bfmt) % 16, stop) }

/-- The same with one weight buffer for all its K-steps. -/
def mmaTile (sl : Slot) (aw : List Nat) (wbuf : List Nat) (tl : Tile) : Tile := mmaTileOn sl aw (fun _ => wbuf) tl

/-- The invalid TN bytes that an MMA decodes, those that hold one of its elements (R89): (byte, column, entry). -/
def badTnOn (sl : Slot) (wb : Nat → List Nat) (tl : Tile) : List (Nat × Nat × Nat) :=
  if sl.bfmt ≠ 0xA then []
  else
    (mmaGroups sl tl).flatMap fun g =>
      let lo := g.2.2.1 / 5
      let hi := (g.2.2.1 + g.2.2.2 - 1) / 5
      (List.range 256).filterMap fun i =>
        let b := i % 16
        if lo ≤ b ∧ b ≤ hi ∧ 243 ≤ fld (column 0xA (entryAt 0xA wb g (5 * b - g.2.2.1)) (i / 16)) (8 * b) 8 then some (b, i / 16, g.2.1) else none

def badTn (sl : Slot) (wbuf : List Nat) (tl : Tile) : List (Nat × Nat × Nat) := badTnOn sl (fun _ => wbuf) tl

/-- The rows whose block check fails in an MMA (R67). -/
def blockFails (sl : Slot) (aw : List Nat) (wb : Nat → List Nat) (tl : Tile) : List Nat :=
  if blockChecked sl.bfmt then (List.range 16).filter fun m => (mmaGroups sl tl).any fun g => !blockRowOk sl aw wb g m else []

/-- Cycles for which an MMA holds the matrix unit (R61). -/
def mmaCycles (sl : Slot) : Nat := (sl.ksteps + 1) * (if sl.bfmt = 1 ∨ sl.bfmt = 2 then 2 else 1)

/-- Each invalid TN byte is reported in `WRK_FAULT` and a record, and counted as a numeric anomaly, without a replay (R79, R89, R330;
assumption 94). -/
def tnReports (wk t ptr tile : Nat) (bad : List (Nat × Nat × Nat)) (s : State) : State :=
  bad.foldl (fun s b => wrkFault wk clsTnByte tile t ptr (bump .BST_EVT_COUNT .BST_OVF_OVF 0 3 1
    (raise (regionOf (wk / 32)) (recW s wk clsTnByte 2 (tile + b.1 <<< 8 + b.2.1 <<< 16 + b.2.2 <<< 24) 0) s))) s

/-- The MMA runs on its tile, with the weight buffer as each K-step found it; its block checks are made and its invalid TN bytes reported. -/
def mmaRun (wk t ptr : Nat) (sl : Slot) (aw : List Nat) (wb : Nat → List Nat) (s : State) : State :=
  let w := wGet s wk
  let tl := w.tiles.getD sl.tile tile0
  let fails := (blockFails sl aw wb tl).map fun r => (⟨true, sl.tile, r, t, ptr⟩ : SumEv)
  tnReports wk t ptr sl.tile (badTnOn sl wb tl)
    (wSet wk { w with tiles := w.tiles.set sl.tile (mmaTileOn sl aw wb tl), mma := none, sumEv := w.sumEv ++ fails } s)

/-- The A words of an MMA from the local store: one per K-step, advancing by its bytes (R91). -/
def aWords (s : State) (wk a k bytes : Nat) : List Nat := (List.range k).map fun i => ofLe (lsRead s wk (a + i * bytes) bytes)

/-- The words of an MMA that runs from a vector input arrive: the run ends when all its K-steps have theirs (assumption 1). -/
def feedMma (wk : Nat) : Nat → State → State
  | 0, s => s
  | k + 1, s =>
    let w := wGet s wk
    match w.mma with
    | none => s
    | some r =>
      let sl := slotOf r.slot
      if sl.ksteps < r.words.length then mmaRun wk r.thread r.ptr sl r.words (fun i => r.wbufs.getD i w.wbuf) s
      else
        match w.head (sl.asrc - 1) with
        | none => s
        | some n => feedMma wk k (wSet wk { w.popIn (sl.asrc - 1) with mma := some { r with words := r.words ++ [ofLanes n.data], wbufs := r.wbufs ++ [w.wbuf] } } s)

/-- The row of a DRAIN in `OFMT`, packed from byte 0 (R106), with the draws of its 16 elements. -/
def drainRow (sl : Slot) (tl : Tile) (draws : List Nat) (r : Nat) : Nat :=
  packEls (packBits sl.ofmt) ((List.range 16).map fun n =>
    drainElem (tl.ty == .int) sl.ofmt (roundOf sl.mround) (draws.getD (16 * r + n) 0) (wordAt tl.acc (16 * r + n)))

/-- DRAIN (R50, R67, R96, R106): its 16 rows, converted, go to a vector output or the local store at `s[DREG]`; the sum lane checks each
row. The rows take credits one by one. A local-store address beyond the store is an address fault and nothing is drained. In the local store
the rows lie 64 bytes apart, whatever `OFMT` (assumption 101). -/
def opDrain (wk t ptr : Nat) (sl : Slot) (th : Thread) (s : State) : State :=
  let w := wGet s wk
  let tl := w.tiles.getD sl.tile tile0
  let dr := drawsFor (roundOf sl.mround) 256 th.rng
  let rows := (List.range 16).map fun r => drainRow sl tl dr.1 r
  let a := (wordAt th.s sl.dreg).toNat
  let bad := (List.range 16).filter fun r =>
    tl.ty != .none && !rowOk tl.ty w.act.sumtol ((tl.acc.drop (16 * r)).take 16) (tl.sumS.getD r (.fin false 0 0)) (tl.sumM.getD r (.fin false 0 0))
  if sl.mdst = 2 ∧ lsSize < a + 1024 then addrFault wk t ptr (lsAddr wk a) s
  else
    let s := wMod wk (fun w => { w with lastDrain := rows, sumEv := w.sumEv ++ bad.map (fun r => ⟨false, sl.tile, r, t, ptr⟩)
                                        drainTill := (sl.tile, s.cycle + 16) }) s
    let s := thMod wk t (fun th => { th with rng := dr.2 }) s
    if sl.mdst = 2 then
      lsWrite wk a (rows.flatMap fun r => toLe 64 r) s
    else
      let s := rows.foldl (fun s r => monitor wk sl.mdst sl t ptr (toLanes 16 r) s) s
      let s := wMod wk (fun w => { w with outq := w.outq ++ rows.map fun r => (sl.mdst, sl.tile, ⟨false, toLanes 16 r, s.cycle⟩) }) s
      flushOut wk 16 s

/-- The matrix group. `w0` is the worker before the slot consumed anything. The local-store addresses of A and of a DRAIN are checked for
their range; R57 names no size to which they are aligned (assumption 102). -/
def matrixGroup (wk t ptr : Nat) (sl : Slot) (w0 : Worker) (th : Thread) (s : State) : State :=
  match sl.mop with
  | 0 => s
  | 3 => opDrain wk t ptr sl th s
  | 4 => wMod wk (fun w => { w with tiles := w.tiles.set sl.tile tile0 }) s
  | _ =>
    let bytes := 16 * kStep sl.bfmt * aBytes sl.afmt
    let k := sl.ksteps + 1
    if sl.asrc = 0 then
      let a := (wordAt th.s sl.areg).toNat
      if lsSize < a + k * bytes then addrFault wk t ptr (lsAddr wk a) s
      else mmaRun wk t ptr sl (aWords s wk a k bytes) (fun _ => w0.wbuf)
        (wMod wk (fun w => { w with mmaTill := (sl.tile, s.cycle + mmaCycles sl) }) s)
    else
      let first := match w0.head (sl.asrc - 1) with | some n => ofLanes n.data | none => 0
      let r : MmaRun := { slot := th.slot, thread := t, ptr := ptr, words := [first], wbufs := [w0.wbuf] }
      feedMma wk k (wMod wk (fun w => { w with mma := some r, mmaTill := (sl.tile, s.cycle + mmaCycles sl) }) s)

/-! ### Vector (R51 to R54, R99 to R110) -/

/-- The value of `SRCA`, `SRCB` or `SRCC` (`which` 0, 1, 2). -/
def vecSrc (s : State) (wk : Nat) (w0 : Worker) (sl : Slot) (th : Thread) (which code row : Nat) : List Word :=
  let a := wordAt th.s sl.vareg
  if code < 4 then th.v.getD code zeroVec
  else if code < 6 then portLanes w0 (code - 4)
  else if which = 2 then
    if code = 6 then zeroVec
    else List.replicate 32 (match vfOf sl.vfmt with
      | .f32 => 0x3F800000#32
      | .i32 => 1#32
      | .pbf => 0x3F803F80#32
      | .pfp => 0x3C003C00#32)
  else if code = 6 then lanesOf (lsRead s wk a.toNat 128)
  else if which = 1 then List.replicate 32 a
  else toLanes 16 (w0.lastDrain.getD row 0) ++ List.replicate 16 0

/-- Draws that a vector operation takes (R101). -/
def vecDraws (sl : Slot) : Nat :=
  let vf := vfOf sl.vfmt
  let els := if vfPacked vf then 64 else 32
  if (1 ≤ sl.vop ∧ sl.vop ≤ 5) then (if vf = .i32 then 0 else els)
  else if sl.vop = 0x30 then (if vf = .i32 then 0 else if vfPacked vf then 62 else 31)
  else if sl.vop = 0x28 ∨ sl.vop = 0x38 then 32
  else 0

/-- The 32 lanes of a vector operation that is no compare. -/
def vecResult (sl : Slot) (sel : Word) (a b c : List Word) (draws : List Nat) : List Word :=
  let vf := vfOf sl.vfmt
  let mode := roundOf sl.vround
  let d (i : Nat) : Nat := draws.getD i 0
  let op := sl.vop
  if op ≤ 9 then
    (List.range 32).map fun i => match vf with
      | .i32 => intOp op (wordAt a i) (wordAt b i) (wordAt c i)
      | _ => laneMap vf i (fun j x y z => floatOp op (vfFmt vf) mode (d j) x y z) (wordAt a i) (wordAt b i) (wordAt c i)
  else if op ≤ 0x1A then (List.range 32).map fun i => intOp op (wordAt a i) (wordAt b i) 0
  else if op = 0x28 then
    (List.range 32).map fun i => BitVec.ofNat 32 (roundF fp32 mode false (d i) (sfnVal sl.sfn (f32 (wordAt a i))))
  else if op ≤ 0x32 then reduceOp op vf mode draws a :: List.replicate 31 0
  else if op = 0x33 then (List.range 32).map fun i => wordAt a ((i + sl.ctrl % 32) % 32)
  else if op = 0x34 then List.replicate 32 (wordAt a (sl.ctrl % 32))
  else if op = 0x35 then (List.range 32).map fun i => if bit sel.toNat i then wordAt a i else wordAt b i
  else cvt (fld sl.ctrl 0 4) (fld sl.ctrl 4 4) mode draws a

/-- A compare's lane mask: one bit for each lane of FP32 or INT32; lanes that are masked off write 0 (R52, R53). -/
def cmpMask (sl : Slot) (sel : Word) (a b : List Word) : Word :=
  BitVec.ofNat 32 (packEls 1 ((List.range 32).map fun i =>
    b2n (bit sel.toNat i && match vfOf sl.vfmt with
      | .i32 => cmpInt sl.vop (wordAt a i) (wordAt b i)
      | _ => cmpFloat sl.vop fp32 (wordAt a i).toNat (wordAt b i).toNat)))

/-- The vector group (R51 to R54): operands are read before anything is written. A compare of packed elements writes a mask that
the manual does not state (64 elements, 32 bits): a free value of its operation and operands, under the select mask (R202). Its draws follow
those of a DRAIN in the same slot; the spec does not order the two (assumption 103). -/
def vectorGroup (s0 : State) (wk t ptr row : Nat) (sl : Slot) (w0 : Worker) (th : Thread) (s : State) : State :=
  if sl.vop = 0 then s
  else
    let isCmp := 0x20 ≤ sl.vop && sl.vop ≤ 0x25
    let a := (wordAt th.s sl.vareg).toNat
    let usesLs := sl.vsrca == 6 || (vReadsB sl.vop && sl.vsrcb == 6) || (!isCmp && sl.vdst == 6)
    if usesLs && !lsOk a 128 then addrFault wk t ptr (lsAddr wk a) s
    else
      let sel : Word := if sl.msel = 0 then 0xFFFFFFFF#32 else wordAt th.m (sl.msel - 1)
      let va := vecSrc s0 wk w0 sl th 0 sl.vsrca row
      let vb := vecSrc s0 wk w0 sl th 1 sl.vsrcb row
      let vc := vecSrc s0 wk w0 sl th 2 sl.vsrcc row
      let dr := drawsFor (roundOf sl.vround) (vecDraws sl) (thGet s wk t).rng
      let s := if vecDraws sl = 0 then s else thMod wk t (fun th => { th with rng := dr.2 }) s
      let s := if sl.vop = 0x28 then wMod wk (fun w => { w with sfnFree := s.cycle + 4 }) s else s
      if isCmp then
        if vfPacked (vfOf sl.vfmt) then
          thMod wk t (fun th => { th with m := th.m.set (sl.vdst % 4) (Config.packedCompare sl.vop sl.vfmt va vb &&& sel) }) s
        else thMod wk t (fun th => { th with m := th.m.set (sl.vdst % 4) (cmpMask sl sel va vb) }) s
      else
        let res := vecResult sl sel va vb vc dr.1
        let wm : Word := if sl.vop = 0x35 then 0xFFFFFFFF#32 else sel
        let zeroed := (List.range 32).map fun i => if bit wm.toNat i then wordAt res i else 0
        if sl.vdst < 4 then
          thMod wk t (fun th =>
            let old := th.v.getD sl.vdst zeroVec
            { th with v := th.v.set sl.vdst ((List.range 32).map fun i => if bit wm.toNat i then wordAt res i else wordAt old i) }) s
        else if sl.vdst = 6 then lsWrite wk a (bytesOf zeroed) s
        else sendVO wk (sl.vdst - 4) sl t ptr zeroed s

/-! ### Scalar (R55) -/

/-- The scalar group. A move to a loop counter takes a from the port that `SIN` names, as every scalar operation does (assumption 104). -/
def scalarGroup (wk t : Nat) (sl : Slot) (w0 : Worker) (th : Thread) (s : State) : State :=
  if sl.sop = 0 then s
  else
    let a : Word := if sl.sin = 0 then wordAt th.s sl.ssrca
      else match w0.head (1 + sl.sin) with | some n => wordAt n.data 0 | none => 0
    let b : Word := if sl.imm = 1 then BitVec.ofNat 32 sl.immw else wordAt th.s sl.ssrcb
    let out (r : Word) (s : State) : State := if sl.sout = 1 then portSend wk 2 [r] s else s
    if 0x10 ≤ sl.sop ∧ sl.sop ≤ 0x15 then
      let r := scalarCmp sl.sop a b
      out (BitVec.ofNat 32 (b2n r)) (thMod wk t (fun th => setPred th sl.pdst r) s)
    else if sl.sop = 0x28 then
      out (a &&& 0xFFFF#32) (thMod wk t (fun th => { th with l := th.l.set (sl.ssrcb % 4) (a.toNat % 65536) }) s)
    else
      let r := if sl.sop = 0x18 then (if sl.imm = 1 then b else a)
        else if sl.sop = 0x29 then BitVec.ofNat 32 (th.l.getD (sl.ssrca % 4) 0)
        else scalarOp sl.sop a b
      out r (thMod wk t (fun th => { th with s := th.s.set sl.sdst r }) s)

/-! ### Memory (R56, R57, R63, R316) -/

/-- The block index of a comb-memory key, for its poison mark. -/
def cmBlock (cb off : Nat) : Nat := cmKey cb off / 128

/-- One block of comb memory as its reader gets it: a poisoned block reads as 128 bytes of 0 (R316). -/
def cmReadBlock (s : State) (cb off : Nat) : List Byte :=
  if s.poison.contains (cmBlock cb off) then List.replicate 128 0 else mread s (cmKey cb off) 128

/-- The reads of poisoned blocks are counted and reported, and the step has read a poisoned block (R316, R202). -/
def poisonSeen (cb off : Nat) (s : State) : State :=
  if s.poison.contains (cmBlock cb off) then
    let s := bump .TND_EVT_COUNT .TND_OVF_OVF cb 1 1 s
    let s := match ctxOfComb s cb with
      | some c => ctxMod c (fun x => { x with poisonRead := true }) s
      | none => s
    raise (regionOf cb) (recC s cb clsCmemPoison 2 0 (1 <<< 60 ||| cbX cb <<< 47 ||| cbY cb <<< 42 ||| 63 <<< 36 ||| off)) s
  else s

/-- Gives a block of comb memory the poison mark (R316). -/
def markBlock (cb off : Nat) (s : State) : State := { s with poison := cmBlock cb off :: s.poison }

/-- The CRC check of a block as CMRD reads it, before the block reaches its reader: a failure is re-read once and the delay charged; a re-read
that passes is counted, and one that fails leaves the mark. A block that bears the mark is not re-read (R316, R180). -/
def rereadBlock (cb off : Nat) (v : BlockCrc) (s : State) : State :=
  if s.poison.contains (cmBlock cb off) then s
  else
    match v with
    | .good => s
    | .reread late => bump .TND_EVT_COUNT .TND_OVF_OVF cb 0 1 (chargeComb cb late.val s)
    | .failed late => markBlock cb off (chargeComb cb late.val s)

/-- A full-block write clears the block's mark (R316). -/
def cmWriteBlock (cb off : Nat) (b : List Byte) (s : State) : State :=
  { mwrite (cmKey cb off) b s with poison := s.poison.filter (· != cmBlock cb off) }

/-- One block from comb memory into the local store, checked on the way (R56, R316). -/
def cmToLs (wk cb off ls : Nat) (v : BlockCrc) (s : State) : State :=
  let s := rereadBlock cb off v s
  poisonSeen cb off (lsWrite wk ls (cmReadBlock s cb off) s)

/-- A CMRD or CMWR of `n` blocks finds its tags: `n` free ones of the worker's 64 and of the comb's static share (R63, R193). -/
def tagsOk (s : State) (wk n : Nat) : Bool := n + workerTags s wk ≤ 64 && n + staticTags s (wk / 32) ≤ 768

/-- Block `i` of a transfer completes: 24 cycles after the firing and one for each block before it, and later by its deferral and
its re-read (R61, R64, R316). -/
def blockDue (s : State) (f : Fire) (i : Nat) : Nat :=
  s.cycle + 24 + i + f.deferred + match f.crc.getD i .good with | .good => 0 | .reread l => l.val | .failed l => l.val

/-- The drop that still waits for a block of comb memory: the block is PENDING (R244). -/
def pendingBlock (s : State) (cb off : Nat) : Option Nat :=
  (s.dropWaits.find? fun d => d.comb == cb && d.worker.isNone && 128 * d.cmem == off).map (·.id)

/-- The post-increment of `s[AREG]`: the bytes moved are added after the access (R56). -/
def postAdd (wk t : Nat) (sl : Slot) (bytes : Nat) (s : State) : State :=
  if sl.post = 1 then
    thMod wk t (fun th => { th with s := th.s.set sl.mareg (wordAt th.s sl.mareg + BitVec.ofNat 32 bytes) }) s
  else s

/-- CMRD and CMWR (R56, R57, R63, R64). -/
def opCm (s0 : State) (wk t ptr : Nat) (f : Fire) (sl : Slot) (th : Thread) (s : State) : State :=
  let cb := wk / 32
  let a := (wordAt th.s sl.mareg).toNat
  let n := sl.blocks + 1
  let ls := 128 * sl.offset
  if a % 128 ≠ 0 ∨ cmSize < a + 128 * n ∨ absentComb s cb then addrFault wk t ptr (cmAddr cb a) s
  else if lsSize < ls + 128 * n then addrFault wk t ptr (lsAddr wk ls) s
  else if !tagsOk s wk n then
    match ctxOfComb s cb with
    | some c => lossOverrun (regionOf cb) c (recW s wk clsOverrun 2 1 0) (wrkFault wk clsOverrun 1 t ptr s)
    | none => s
  else
    let tags := (List.range n).map fun i =>
      (⟨cb, some (wk, t), sl.memop == 5, true, blockDue s f i, if sl.memop = 5 then pendingBlock s cb (a + 128 * i) else none, ls + 128 * i⟩ : Tag)
    let s := takeTags tags (wMod wk (fun w => { w with cmFree := s.cycle + n }) (chargeComb cb f.deferred s))
    let s := if sl.memop = 5 then
        (List.range n).foldl (fun s i => match pendingBlock s cb (a + 128 * i) with
          | some _ => s
          | none => cmToLs wk cb (a + 128 * i) (ls + 128 * i) (f.crc.getD i .good) s) s
      else (List.range n).foldl (fun s i => cmWriteBlock cb (a + 128 * i) (lsRead s0 wk (ls + 128 * i) 128) s) s
    postAdd wk t sl (128 * n) s

/-- The memory group; `s0` is the state before the slot, from which every group reads. `beat` is the tap beat that stood at the head before the slot
consumed it. -/
def memoryGroup (s0 : State) (wk t ptr : Nat) (f : Fire) (sl : Slot) (beat : Nat) (th : Thread) (s : State) : State :=
  let base := (wordAt th.s sl.mareg).toNat
  let fault (a : Nat) : State := addrFault wk t ptr (lsAddr wk a) s
  match sl.memop with
  | 0 => s
  | 1 =>
    let a := base + 128 * sl.offset
    if !lsOk a 128 then fault a
    else
      let v := lanesOf (lsRead s0 wk a 128)
      postAdd wk t sl 128 (thMod wk t (fun th => { th with v := th.v.set (sl.reg % 4) v }) s)
  | 2 =>
    let a := base + 128 * sl.offset
    if !lsOk a 128 then fault a
    else postAdd wk t sl 128 (lsWrite wk a (bytesOf (th.v.getD (sl.reg % 4) zeroVec)) s)
  | 3 =>
    let a := base + 4 * sl.offset
    if !lsOk a 4 then fault a
    else
      let v := BitVec.ofNat 32 (ofLe (lsRead s0 wk a 4))
      postAdd wk t sl 4 (thMod wk t (fun th => { th with s := th.s.set sl.reg v }) s)
  | 4 =>
    let a := base + 4 * sl.offset
    if !lsOk a 4 then fault a else postAdd wk t sl 4 (lsWrite wk a (toLe 4 (wordAt th.s sl.reg).toNat) s)
  | 5 => opCm s0 wk t ptr f sl th s
  | 6 => opCm s0 wk t ptr f sl th s
  | 7 =>
    let a := 128 * sl.offset
    if !lsOk a 512 then fault a else postAdd wk t sl 512 (lsWrite wk a (toLe 512 beat) s)
  | 8 => postAdd wk t sl 512 (wMod wk (fun w => { w with wbuf := w.wbuf.set sl.reg beat }) s)
  | _ =>
    let a := base + 128 * sl.offset
    if !lsOk a 512 then fault a
    else
      let v := ofLe (lsRead s0 wk a 512)
      postAdd wk t sl 512 (wMod wk (fun w => { w with wbuf := w.wbuf.set sl.reg v }) s)

/-! ### Steering (R58, R71, R72) -/

/-- An entry as the vector or the scalar network carries it (R71). -/
def steerConv (n : NWord) (toVector : Bool) : List Word :=
  if toVector then (if n.data.length = 16 then n.data else wordAt n.data 0 :: List.replicate 15 0) else [wordAt n.data 0]

/-- Moves the head entry of data input `i` to an output: 0 VO0, 1 VO1, 2 SO0. -/
def steerMove (wk t ptr : Nat) (sl : Slot) (i out : Nat) (s : State) : State :=
  match (wGet s wk).head (steerIn i) with
  | none => s
  | some n =>
    let s := wMod wk (fun w => w.popIn (steerIn i)) s
    if out = 2 then portSend wk 2 (steerConv n false) s else sendVO wk out sl t ptr (steerConv n true) s

/-- The steering group and the slot's own token (R58). -/
def steerGroup (wk t ptr : Nat) (sl : Slot) (s : State) : State :=
  let w := wGet s wk
  let k := (w.token sl.sctl).getD 0
  let popTok (s : State) : State := wMod wk (fun w => w.popIn (4 + sl.sctl)) s
  let s := match sl.steer with
    | 1 => steerMove wk t ptr sl (if k % 8 = 3 then sl.sia else sl.sib) sl.stout (popTok s)
    | 2 => steerMove wk t ptr sl sl.sia (if (k % 8 = 3) = (sl.stout = 0) then 0 else 1) (popTok s)
    | 3 =>
      let a := w.head (steerIn sl.sia)
      let b := w.head (steerIn sl.sib)
      let takeB := match a, b with
        | some x, some y => decide (y.cyc < x.cyc)
        | some _, none => false
        | none, _ => true
      steerMove wk t ptr sl (if takeB then sl.sib else sl.sia) sl.stout s
    | 4 =>
      if k % 8 = 3 then steerMove wk t ptr sl sl.sia sl.stout (popTok s)
      else wMod wk (fun w => w.popIn (steerIn sl.sia)) (popTok s)
    | 6 => portSend wk 3 [BitVec.ofNat 32 k] (popTok s)
    | _ => s
  if sl.token ≠ 0 then portSend wk 3 [BitVec.ofNat 32 sl.token] s else s

/-! ### Sync and message operations (R59, R60) -/

/-- The sync group. `entry` is the queue entry that the slot popped. The answer is `none` while the thread parks, and otherwise how p3 is
set, if at all. -/
def syncGroup (wk t : Nat) (sl : Slot) (entry : Option QEntry) (th : Thread) (s : State) : Option (Option Bool) × State :=
  let cb := wk / 32
  let tmo := (wordAt th.s sl.ytreg).toNat % 2 ^ 24
  match syncOp sl with
  | 1 => (some none, signal cb sl.yobj ((wordAt th.s sl.yreg).toNat % 65536) s)
  | 2 =>
    let r := opWait wk t sl.yobj (wordAt th.s sl.yreg) tmo s
    (r.1.map some, r.2)
  | 3 => (some none, opRsig wk t sl.ybind ((wordAt th.s sl.yreg).toNat % 65536) s)
  | 4 =>
    let r := opSend wk t sl.ybind (tupleOf th sl.yreg sl.ylen) tmo s
    (r.1.map some, r.2)
  | 5 =>
    match entry with
    | none => (some none, s)
    | some e =>
      (some none, thMod wk t (fun th => { th with s := (List.range 4).foldl (fun l i => l.set ((sl.yreg + i) % 16) (wordAt e.words i)) th.s }) s)
  | _ => (some none, s)

/-! ### Firing -/

/-- The thread takes its next-slot control and reads the next slot (R48, R77). A move of the pointer counts, and END ends it. A branch or LOOP
tests what the slot's own groups have written (assumption 105). -/
def advance (wk t : Nat) (sl : Slot) (e : SlotEcc) (s : State) : State :=
  slotCheck wk t e (wMod wk (fun w => w.setThr t (reread w (nextSlot sl (w.thr t)))) s)

/-- The breakpoint of `WRK_DBG` (R79): HALT is set when its thread fires its slot. -/
def breakpoint (wk t ptr : Nat) (s : State) : State :=
  if fieldDebug s ∧ rget s .WRK_DBG_BREAK_EN wk = 1 ∧ rget s .WRK_DBG_THREAD wk = t ∧ rget s .WRK_DBG_BREAK wk = ptr then
    rset .WRK_DBG_HALT wk 0 1 s
  else s

/-- The firing is counted, empty slots included, and the search of R42 continues above the thread (R79). -/
def countFire (wk t : Nat) (s : State) : State :=
  let s := wMod wk (fun w => { w.setThr t { w.thr t with lastFire := s.cycle } with lastFired := t, nextFire := s.cycle + 1 }) s
  rset .WRK_ISSUED_COUNT wk 0 ((rget s .WRK_ISSUED_COUNT wk + 1) % 2 ^ 64) s

/-- The groups of a slot whose fire rule is met: all of them issue, in the order matrix, vector, scalar, memory, steering, sync, each on the
registers and inputs that stood before the slot (R42; assumption 1). The answer tells whether the thread goes on. -/
def fireGroups (wk t : Nat) (f : Fire) (sl : Slot) (w0 : Worker) (th : Thread) (s : State) : Option (Option Bool) × State :=
  let s0 := s
  let s := wMod wk (consume sl) s
  let s := matrixGroup wk t th.ptr sl w0 th s
  let s := vectorGroup s0 wk t th.ptr f.drainRow.val sl w0 th s
  let s := scalarGroup wk t sl w0 th s
  let s := memoryGroup s0 wk t th.ptr f sl (w0.tap.headD 0) th s
  let s := steerGroup wk t th.ptr sl s
  let e := if needsMQ sl then (w0.queues.getD sl.qsel []).head? else none
  let s := match e with | some e => creditBack wk e s | none => s
  syncGroup wk t sl e th s

/-- The refusals of R72 and R96: the thread parks until the step ends, the firing of the cycle is used, and a schedule fault is
reported; a refused token is consumed. `WRK_FAULT.DETAIL` names the input port, 4 or 5 for CI0 or CI1, or the tile (R79; assumption 106). -/
def refuse (wk t : Nat) (sl : Slot) (why : Nat) (s : State) : State :=
  let p := (thGet s wk t).ptr
  let s := wMod wk (fun w =>
    let w := if why = 1 then w.popIn (4 + sl.sctl) else w
    { w.setThr t { w.thr t with park := .fault } with lastFired := t, nextFire := s.cycle + 1 }) s
  let r := recW s wk clsSchedule 5 why 0
  schedFaultComb (wk / 32) r (raise (regionOf (wk / 32)) r (wrkFault wk clsSchedule (if why = 1 then 4 + sl.sctl else sl.tile) t p s))

/-- A slot of the thread fires, or is refused. -/
def doFire (wk t : Nat) (f : Fire) (s : State) : State :=
  let w0 := wGet s wk
  let th := w0.thr t
  let sl := slotOf th.slot
  match readyOf s wk w0 t with
  | .no => s
  | .tokenRefused => refuse wk t sl 1 s
  | .tileRefused => refuse wk t sl 2 s
  | .fire =>
    let s := breakpoint wk t th.ptr (countFire wk t s)
    if !predOk sl th then advance wk t sl f.ecc s
    else
      let r := fireGroups wk t f sl w0 th s
      match r.1 with
      | none => r.2
      | some p3 =>
        let s := match p3 with
          | some b => thMod wk t (fun th => setPred th 3 b) r.2
          | none => r.2
        advance wk t sl f.ecc s

/-- The worker and thread that a firing names. -/
def fireWk (f : Fire) : Nat := wkOf f.x.val f.y.val f.w.val

/-- A slot row of the table: the named worker fires in this cycle, R42 picks the named thread, and its slot performs the row's operation:
`sel` with the slot's predicate condition met. Otherwise nothing happens (assumptions 1 and 2). -/
def fireOp (f : Fire) (sel : Slot → Bool) (s : State) : State :=
  let w := wGet s (fireWk f)
  let th := w.thr f.thread.val
  let sl := slotOf th.slot
  if workerRuns s (fireWk f) w && pick s (fireWk f) w == some f.thread.val && predOk sl th && sel sl then doFire (fireWk f) f.thread.val f s
  else s

/-- A row of next-slot control: an empty slot takes it in full, too (R47). -/
def fireNext (f : Fire) (code : Nat) (s : State) : State :=
  let w := wGet s (fireWk f)
  let sl := slotOf (w.thr f.thread.val).slot
  if workerRuns s (fireWk f) w && pick s (fireWk f) w == some f.thread.val && sl.next == code then doFire (fireWk f) f.thread.val f s
  else s

end Sys2Proof.Machine
end

