-- ==== Sys2Proof/Machine/Access.lean ====
section
/-! DEFINITION. Hive addresses: the space, place and reach of an address for a requester, and reads and writes by address (R28 to R31). -/

namespace Sys2Proof.Machine

/-- The context a requester acts for: none for the physical function and the keeper. A virtual function bound to no context acts for a
context number that holds nothing. -/
def actsFor (s : State) : Requester → Option Nat
  | .pf => none
  | .keeper => none
  | .vf f => if f.val = 0 then none else some (if rget s .HST_STATUS_BOUND f.val = 1 then rget s .HST_STATUS_CTX f.val else 16)
  | .ctx c => some c.val
  | .bar0 f => if f.val = 0 then none else some (if rget s .HST_STATUS_BOUND f.val = 1 then rget s .HST_STATUS_CTX f.val else 16)

/-- The physical function or the keeper. -/
def isPf : Requester → Bool
  | .pf => true
  | .keeper => true
  | .vf f => f.val == 0
  | .ctx _ => false
  | .bar0 f => f.val == 0

def viewOf : Option Nat → View
  | none => .pf
  | some c => .ctx c

/-- What a hive address names. -/
inductive Loc where
  | em (a : Nat)
  | cm (cb off : Nat)
  | ls (wk off : Nat)
  | rg (a : Nat)
  | so (cb off : Nat)
  | qu (wk off : Nat)
  | sh (off : Nat)
  | hm (a : Nat)
  deriving DecidableEq, Repr

/-- A requester reaches a comb (R31). -/
def reaches (s : State) (who : Option Nat) (cb : Nat) : Bool :=
  match who with
  | none => true
  | some c => ctxHas s c cb

/-- The shelter's channels, ascending (R379). -/
def shelterChans (s : State) : List Nat :=
  let k := rget s .PRT_TWIN_SH_K
  (List.range 8).flatMap fun seg => (List.range k).map fun i => seg * 256 + 256 - k + i

def shelterSize (s : State) : Nat := 8 * rget s .PRT_TWIN_SH_K * chanBytes

/-- What a hive address names for a requester; none is an address fault (R28, R29, R31). Spaces 0x3 and 0x6 are checked by those who admit them. -/
def locate (s : State) (who : Option Nat) (a : Nat) : Option Loc :=
  let x := fld a 47 5
  let y := fld a 42 5
  let w := fld a 36 6
  let off := fld a 0 36
  let combOk := fld a 52 8 == 0 && decide (x ≤ 27) && decide (y ≤ 23) && !absentComb s (cbOf x y) && reaches s who (cbOf x y)
  match fld a 60 4 with
  | 0 => if a < aperture s (viewOf who) then some (.em a) else none
  | 1 => if combOk && w == 63 && decide (off < cmSize) then some (.cm (cbOf x y) off) else none
  | 2 => if combOk && decide (w ≤ 31) && decide (off < lsSize) then some (.ls (wkOf x y w) off) else none
  | 3 => some (.rg a)
  | 4 => if combOk && w == 63 && decide (off < 0x10000) then some (.so (cbOf x y) off) else none
  | 5 => if combOk && decide (w ≤ 31) && decide (off < 0x80) then some (.qu (wkOf x y w) off) else none
  | 6 => if fld a 0 60 < shelterSize s then some (.sh (fld a 0 60)) else none
  | 8 => if fld a 57 3 = 0 then some (.hm (fld a 0 57)) else none
  | _ => none

/-- The first address past the unit that holds an address. -/
def unitEnd (s : State) (who : Option Nat) (a : Nat) : Nat :=
  match locate s who a with
  | some (.em _) => aperture s (viewOf who)
  | some (.cm _ off) => a - off + cmSize
  | some (.ls _ off) => a - off + lsSize
  | some (.sh off) => a - off + shelterSize s
  | some (.hm x) => a - x + 2 ^ 57
  | _ => a

/-- The lowest address of a range that is an address fault or that carries out of its unit (R295). -/
def rangeFault (s : State) (who : Option Nat) (a k : Nat) : Option Nat :=
  if a + k ≤ unitEnd s who a then none else some (unitEnd s who a)

/-- Bytes by address: eave memory through the requester's view; a poisoned block reads as 0, in eave memory as at a drop (R245, R316). -/
def locRead (s : State) (who : Option Nat) (a k : Nat) : List Byte :=
  match locate s who a with
  | some (.em x) => (List.range k).map fun i =>
      let p := emSource s (viewOf who) (x + i)
      if s.poison.contains (emBlockOf p) then 0 else mget s.mem (emByteKey p)
  | some (.cm cb off) => (List.range k).map fun i =>
      if s.poison.contains (cmBlock cb (off + i)) then 0 else mget s.mem (cmKey cb (off + i))
  | some (.ls wk off) => lsRead s wk off k
  | some (.sh off) => (List.range k).map fun i => mget s.mem (emByteKey (emPlace (shelterChans s) 4096 (off + i)))
  | some (.hm x) => mread s (hmKey x) k
  | _ => List.replicate k 0

/-- A write into a comb's memory: whole blocks clear their poison marks, shorter ones leave them (R316). -/
def cmWrite (cb off : Nat) (b : List Byte) (s : State) : State :=
  let full := (wholeBlocks off b.length).map fun x => cmBlock cb x
  let s := mwrite (cmKey cb off) b s
  { s with poison := s.poison.filter fun k => !full.contains k }

/-- A write into the shelter: whole blocks clear their poison marks (R229, R379). -/
def shWrite (off : Nat) (b : List Byte) (s : State) : State :=
  let chs := shelterChans s
  let put (m : List Host.Cell) (e : Nat × Byte) : List Host.Cell := mput m (emByteKey (emPlace chs 4096 e.1)) e.2
  let full := (wholeBlocks off b.length).map fun x => emBlockOf (emPlace chs 4096 x)
  { s with mem := (b.mapIdx fun i x => (off + i, x)).foldl put s.mem
           poison := s.poison.filter fun k => !full.contains k }

/-- The poison mark of the block that holds a byte, as a key of `State.poison`: a block of eave memory, the shelter or comb memory. -/
def markAt (s : State) (who : Option Nat) (a : Nat) : Option Nat :=
  match locate s who a with
  | some (.em x) => some (emBlockOf (emSource s (viewOf who) x))
  | some (.cm cb off) => some (cmBlock cb off)
  | some (.sh off) => some (emBlockOf (emPlace (shelterChans s) 4096 off))
  | _ => none

/-- A write by address that the module does not refuse. -/
def locWrite (who : Option Nat) (a : Nat) (b : List Byte) (s : State) : State :=
  match locate s who a with
  | some (.em x) => if emWriteOk s (viewOf who) x b.length then emWrite (viewOf who) x b s else s
  | some (.cm cb off) => cmWrite cb off b s
  | some (.ls wk off) => lsWrite wk off b s
  | some (.sh off) => shWrite off b s
  | some (.hm x) => mwrite (hmKey x) b s
  | _ => s

/-- A write range into eave memory that the module accepts: no held range, no second half of a mirrored stripe (R160, R252). -/
def writeOk (s : State) (who : Option Nat) (a k : Nat) : Bool :=
  match locate s who a with
  | some (.em x) => emWriteOk s (viewOf who) x k
  | some _ => true
  | none => false

/-- The blocks that a range touches, each by the first byte of the range in it. -/
def blockStarts (a k : Nat) : List Nat := (List.range ((a + k + 127) / 128 - a / 128)).map fun i => max a ((a / 128 + i) * 128)

/-- A source range holds a poisoned block (R245, R299). -/
def locPoisoned (s : State) (who : Option Nat) (a k : Nat) : Bool :=
  (blockStarts a k).any fun b => match markAt s who b with
    | some m => s.poison.contains m
    | none => false

/-- What a read of poisoned blocks leaves behind: they are poisoned at once again (R245, R316). -/
def poisonReads (who : Option Nat) (a k : Nat) (s : State) : State :=
  (blockStarts a k).foldl (fun s b => match locate s who b with
    | some (.em x) =>
      let p := emSource s (viewOf who) x
      if s.poison.contains (emBlockOf p) then poisonBlock p.1 (p.2 / 2048) (p.2 / 128 % 16) s else s
    | some (.cm cb off) => poisonSeen cb (off / 128 * 128) s
    | _ => s) s

/-- The check of a block of eave memory or the shelter that a dynamic requester reads: a re-read that passes masks the failure, and a block whose
re-reads fail is poisoned (R243, R245, R253, R305). -/
def checkEave (p : Nat × Nat) (v : BlockCrc) (s : State) : State :=
  if s.poison.contains (emBlockOf p) then s
  else
    match v with
    | .good => s
    | .reread _ => chErr p.1 1 s
    | .failed _ => poisonBlock p.1 (p.2 / 2048) (p.2 / 128 % 16) (chErr p.1 2 s)

/-- The checks of the blocks that a dynamic requester reads, one verdict a block (R305, R316). -/
def checkRead (who : Option Nat) (a k : Nat) (crc : List BlockCrc) (s : State) : State :=
  ((blockStarts a k).zip crc).foldl (fun s b => match locate s who b.1 with
    | some (.em x) => checkEave (emSource s (viewOf who) x) b.2 s
    | some (.sh off) => checkEave (emPlace (shelterChans s) 4096 off) b.2 s
    | some (.cm cb off) => rereadBlock cb (off / 128 * 128) b.2 s
    | _ => s) s

/-- The mesh endpoint behind an address (R255): the comb controller, or the stream engine of the segment that holds the channel. -/
def homeEp (s : State) (who : Option Nat) (a : Nat) : Nat :=
  match locate s who a with
  | some (.em x) =>
    let ch := (emPlace (viewChans s (viewOf who)) (viewGran s (viewOf who)) x).1
    31 <<< 11 ||| (ch / 256) <<< 6 ||| 16
  | some (.cm cb _) => epC cb
  | some (.ls wk _) => epC (wk / 32)
  | _ => 31 <<< 11 ||| 31 <<< 6 ||| 63

end Sys2Proof.Machine
end

