-- ==== Sys2Proof/Machine/Crypto.lean ====
section
/-! DEFINITION. SHA-512 and the verification of an ECDSA signature over P-521, as FIPS 180-4, FIPS 186-4 and SP 800-186 define them, which
R159 and R429 name. -/

namespace Sys2Proof.Machine

/-! ### SHA-512 -/

/-- The greatest r below 2^b whose k-th power is at most n, bit by bit. -/
def rootOf (k n : Nat) : Nat → Nat → Nat
  | 0, r => r
  | b + 1, r => rootOf k n b (if (r + 2 ^ b) ^ k ≤ n then r + 2 ^ b else r)

/-- The first 80 primes. -/
def primes80 : List Nat :=
  [2, 3, 5, 7, 11, 13, 17, 19, 23, 29, 31, 37, 41, 43, 47, 53, 59, 61, 67, 71, 73, 79, 83, 89, 97, 101, 103, 107, 109, 113, 127,
   131, 137, 139, 149, 151, 157, 163, 167, 173, 179, 181, 191, 193, 197, 199, 211, 223, 227, 229, 233, 239, 241, 251, 257, 263,
   269, 271, 277, 281, 283, 293, 307, 311, 313, 317, 331, 337, 347, 349, 353, 359, 367, 373, 379, 383, 389, 397, 401, 409]

/-- The round constants: the first 64 fraction bits of the cube roots of the primes. -/
def shaK : List Nat := primes80.map fun p => rootOf 3 (p * 2 ^ 192) 68 0 % 2 ^ 64

/-- The initial hash value: the first 64 fraction bits of the square roots of the first 8 primes. -/
def shaH0 : List Nat := (primes80.take 8).map fun p => rootOf 2 (p * 2 ^ 128) 68 0 % 2 ^ 64

def rotr (x : BitVec 64) (n : Nat) : BitVec 64 := x >>> n ||| x <<< (64 - n)

/-- The message schedule, newest word first. -/
def shaSched : Nat → List (BitVec 64) → List (BitVec 64)
  | 0, w => w
  | k + 1, w =>
    let a (i : Nat) : BitVec 64 := w.getD (i - 1) 0
    let s1 := rotr (a 2) 19 ^^^ rotr (a 2) 61 ^^^ a 2 >>> 6
    let s0 := rotr (a 15) 1 ^^^ rotr (a 15) 8 ^^^ a 15 >>> 7
    shaSched k ((s1 + a 7 + s0 + a 16) :: w)

/-- One round on the eight working variables. -/
def shaRound (v : List (BitVec 64)) (kw : Nat × BitVec 64) : List (BitVec 64) :=
  match v with
  | [a, b, c, d, e, f, g, h] =>
    let t1 := h + (rotr e 14 ^^^ rotr e 18 ^^^ rotr e 41) + (e &&& f ^^^ ~~~e &&& g) + BitVec.ofNat 64 kw.1 + kw.2
    let t2 := (rotr a 28 ^^^ rotr a 34 ^^^ rotr a 39) + (a &&& b ^^^ a &&& c ^^^ b &&& c)
    [t1 + t2, a, b, c, d + t1, e, f, g]
  | v => v

/-- One block of 128 bytes. -/
def shaBlock (h : List (BitVec 64)) (b : List Byte) : List (BitVec 64) :=
  let w := (List.range 16).map fun i => BitVec.ofNat 64 (ofBe (slice b (8 * i) 8))
  let ws := (shaSched 64 w.reverse).reverse
  List.zipWith (· + ·) h ((shaK.zip ws).foldl shaRound h)

def shaBlocks : Nat → List (BitVec 64) → List Byte → List (BitVec 64)
  | 0, h, _ => h
  | k + 1, h, m => shaBlocks k (shaBlock h (m.take 128)) (m.drop 128)

/-- SHA-512 of a byte string, 64 bytes. -/
def sha512 (m : List Byte) : List Byte :=
  let n := m.length
  let p := m ++ 0x80 :: List.replicate ((128 - (n + 17) % 128) % 128) 0 ++ toBe 16 (8 * n)
  (shaBlocks (p.length / 128) (shaH0.map (BitVec.ofNat 64)) p).flatMap fun w => toBe 8 w.toNat

/-! ### P-521 -/

def p521 : Nat := 2 ^ 521 - 1

def n521 : Nat := 0x1FFFFFFFFFFFFFFFFFFFFFFFFFFFFFFFFFFFFFFFFFFFFFFFFFFFFFFFFFFFFFFFFFA51868783BF2F966B7FCC0148F709A5D03BB5C9B8899C47AEBB6FB71E91386409

def b521 : Nat := 0x51953EB9618E1C9A1F929A21A0B68540EEA2DA725B99B315F3B8B489918EF109E156193951EC7E937B1652C0BD3BB1BF073573DF883D2C34F1EF451FD46B503F00

def g521 : Nat × Nat :=
  (0xC6858E06B70404E9CD9E3ECB662395B4429C648139053FB521F828AF606B4D3DBAA14B5E77EFE75928FE1DC127A2FFA8DE3348B3C1856A429BF97E7E31C2E5BD66,
   0x11839296A789A3BC0045C8A5FB42C7D1BD998F54449579B446817AFBD17273E662C97EE72995EF42640C550B9013FAD0761353C7086A272C24088BE94769FD16650)

/-- x ^ e mod m over the low `k` bits of e. -/
def powMod (m x e : Nat) : Nat → Nat → Nat
  | 0, r => r
  | k + 1, r => powMod m (x * x % m) (e / 2) k (if e % 2 = 1 then r * x % m else r)

/-- The inverse modulo a prime of 521 bits. -/
def invMod (m x : Nat) : Nat := powMod m (x % m) (m - 2) 521 1

/-- Subtraction modulo p521. -/
def fSub (a b : Nat) : Nat := (a + p521 - b) % p521

/-- Twice a point of the curve, in Jacobian coordinates (X, Y, Z) for (X/Z², Y/Z³); Z = 0 is the point at infinity. -/
def ecDouble (a : Nat × Nat × Nat) : Nat × Nat × Nat :=
  let y2 := a.2.1 * a.2.1 % p521
  let z2 := a.2.2 * a.2.2 % p521
  let u := 4 * a.1 * y2 % p521
  let m := 3 * (a.1 + z2) * fSub a.1 z2 % p521
  let x := fSub (m * m % p521) (2 * u % p521)
  (x, fSub (m * fSub u x % p521) (8 * y2 * y2 % p521), 2 * a.2.1 * a.2.2 % p521)

/-- Addition of two points of the curve in Jacobian coordinates. -/
def ecAdd (a b : Nat × Nat × Nat) : Nat × Nat × Nat :=
  if a.2.2 = 0 then b
  else if b.2.2 = 0 then a
  else
    let az := a.2.2 * a.2.2 % p521
    let bz := b.2.2 * b.2.2 % p521
    let u := a.1 * bz % p521
    let v := a.2.1 * (b.2.2 * bz % p521) % p521
    let h := fSub (b.1 * az % p521) u
    let r := fSub (b.2.1 * (a.2.2 * az % p521) % p521) v
    if h = 0 then if r = 0 then ecDouble a else (1, 1, 0)
    else
      let h2 := h * h % p521
      let h3 := h * h2 % p521
      let w := u * h2 % p521
      let x := fSub (fSub (r * r % p521) h3) (2 * w % p521)
      (x, fSub (r * fSub w x % p521) (v * h3 % p521), h * a.2.2 * b.2.2 % p521)

/-- k times a point, over the low `j` bits of k. -/
def ecMul (k : Nat) (p : Nat × Nat × Nat) : Nat → Nat × Nat × Nat → Nat × Nat × Nat
  | 0, r => r
  | j + 1, r => ecMul (k / 2) (ecDouble p) j (if k % 2 = 1 then ecAdd r p else r)

def onCurve (x y : Nat) : Bool := x < p521 && y < p521 && y * y % p521 == (x * x * x + (p521 - 3) * x + b521) % p521

/-- ECDSA over P-521 with SHA-512: the uncompressed public key, the message, r and s (R159). -/
def ecdsaOk (pub msg : List Byte) (r s : Nat) : Bool :=
  let x := ofBe (slice pub 1 66)
  let y := ofBe (slice pub 67 66)
  let e := ofBe (sha512 msg)
  let w := invMod n521 s
  pub.length == 133 && pub.getD 0 0 == 4 && onCurve x y && decide (0 < r ∧ r < n521 ∧ 0 < s ∧ s < n521) &&
    let v := ecAdd (ecMul (e * w % n521) (g521.1, g521.2, 1) 521 (1, 1, 0)) (ecMul (r * w % n521) (x, y, 1) 521 (1, 1, 0))
    v.2.2 != 0 && v.1 * invMod p521 (v.2.2 * v.2.2) % p521 % n521 == r

end Sys2Proof.Machine
end

