-- ==== Sys2Proof/Machine/Network.lean ====
section
/-! DEFINITION. The static networks: routes, phases, reductions, link checks and crossings (chapter 5). -/

namespace Sys2Proof.Machine

/-- The comb that an output toward N, E, S or W leads to, and its input from that side. None at the edge of the grid. -/
def neighbour (cb dir : Nat) : Option (Nat × Nat) :=
  let x := cbX cb
  let y := cbY cb
  match dir with
  | 0 => if y = 0 then none else some (cbOf x (y - 1), 2)
  | 1 => if 27 ≤ x then none else some (cbOf (x + 1) y, 3)
  | 2 => if 23 ≤ y then none else some (cbOf x (y + 1), 0)
  | _ => if x = 0 then none else some (cbOf (x - 1) y, 1)

/-- `NET_CFG.EDGE_OFF`, from bit 3 down N, E, S, W (R126). -/
def edgeOff (s : State) (cb dir : Nat) : Bool := bit (rget s .NET_CFG_EDGE_OFF cb) (3 - dir)

/-- Words that the credits of a link cover beside the input's delay: 8, and 16 more in a region crossing (R116, R127). -/
def linkCap (cb nb : Nat) : Nat := if regionOf cb = regionOf nb then 8 else 24

/-- The FIFO of a worker that an output feeds: worker and input port (R113). -/
def outFifo (net out : Nat) : Nat × Nat := ((out - 4) / 2, 2 * net + (out - 4) % 2)

/-- An output holds a credit. A disabled output never sends. -/
def outRoom (s : State) (cb net out : Nat) : Bool :=
  if out < 4 then
    !edgeOff s cb out && match neighbour cb out with
      | some (nb, i) => (swGet s nb net).room i (linkCap cb nb)
      | none => false
  else
    let f := outFifo net out
    decide (((wGet s (cb * 32 + f.1)).fifo.getD f.2 []).length < 4)

/-- The static link into a comb from a side, and one that has stopped (R119). -/
def linkKey (cb net dir : Nat) : Nat := cb * 12 + net * 4 + dir
def link0 : LinkSt := ⟨0, false⟩
def linkStopped (s : State) (cb net dir : Nat) : Bool := (tget link0 s.links (linkKey cb net dir)).stopped

/-- The cycle that no word reaches: what a stopped link has sent is never there. -/
def never : Nat := 2 ^ 64

/-- A word leaves on an output: to the neighbour's input, or to the worker's FIFO, which counts reaching 4 entries (R73) and lets a
running MMA take its words. -/
def outSend (cb net out : Nat) (n : NWord) (s : State) : State :=
  if out < 4 then
    match neighbour cb out with
    | some (nb, i) => swSet nb net ((swGet s nb net).push i (if linkStopped s nb net i then { n with cyc := never } else n)) s
    | none => s
  else
    let f := outFifo net out
    let wk := cb * 32 + f.1
    let w := wGet s wk
    let q := w.fifo.getD f.2 [] ++ [n]
    let s := wSet wk { w with fifo := w.fifo.set f.2 q } s
    let s := if q.length = 4 then bump .WRK_EVT_COUNT .WRK_OVF_OVF wk 3 1 s else s
    feedMma wk 65 s

/-! ### Routes, groups and phases (R121 to R123) -/

/-- The routes of the current phase with their index in the configuration. -/
def Switch.live (x : Switch) : List (Nat × Route) :=
  (x.act.routes.mapIdx fun i r => (i, r)).filter fun e => e.2.phase == x.phase

/-- One step of closing a set of inputs under the routes that name one of them. -/
def closeOnce (rs : List (Nat × Route)) (ins : List Nat) : List Nat :=
  rs.foldl (fun acc r => if r.2.ins.any (fun i => acc.contains i) then acc ++ r.2.ins.filter (fun i => !acc.contains i) else acc) ins

/-- The group of an input: every route of the phase joined to it by the inputs that they name. -/
def groupOf (x : Switch) (inp : Nat) : List (Nat × Route) :=
  let rs := x.live
  let ins := (List.range rs.length).foldl (fun acc _ => closeOnce rs acc) [inp]
  rs.filter fun r => r.2.ins.any fun i => ins.contains i

/-- The inputs of a group. -/
def groupIns (g : List (Nat × Route)) : List Nat := (g.flatMap fun r => r.2.ins).eraseDups

/-- A route has not yet sent its COUNT. -/
def Switch.open (x : Switch) (r : Nat × Route) : Bool := r.2.count == 0 || tget 0 x.sent r.1 < r.2.count

/-- Every input of a group has a word at its head that is there and is no mark (R122, R125): a word under re-send is not there yet (R118). -/
def groupWords (x : Switch) (net cyc : Nat) (g : List (Nat × Route)) : Bool :=
  (groupIns g).all fun i => match (x.q i).head? with
    | some n => !isMark net n && decide (n.cyc ≤ cyc)
    | none => false

/-- The word that a route sends: the head of its input, or the sum of its inputs from left to right (R130). -/
def routeWord (x : Switch) (r : Route) : List Word :=
  let el (i : Nat) : List Word := match (x.q i).head? with | some n => n.data | none => []
  match r.ins with
  | [] => []
  | i :: rest =>
    if r.op = 1 then el i
    else (List.range 16).map fun l =>
      rest.foldl (fun a j =>
        if r.op = 2 then toF32 (fvAdd (f32 a) (f32 (wordAt (el j) l))) else a + wordAt (el j) l) (wordAt (el i) l)

/-- A mark on a network: a course mark token, or a marked word with data bits 0 (R114). -/
def markWord (s : State) (net tag : Nat) : NWord :=
  if net = 2 then ⟨false, [BitVec.ofNat 32 (tag * 8 + 5)], s.cycle⟩
  else ⟨true, List.replicate (if net = 0 then 16 else 1) 0, s.cycle⟩

/-- Each mark that a flipped switch still owes goes out once its output holds a credit, before any word of the new configuration on it (R169). -/
def sendMarks (cb net tag : Nat) (s : State) : State :=
  (swGet s cb net).marks.foldl (fun s o =>
    if outRoom s cb net o then
      outSend cb net o (markWord s net tag) (swSet cb net { swGet s cb net with marks := (swGet s cb net).marks.filter (· != o) } s)
    else s) s

/-- The phase after a fire: it ends when every route with a COUNT has sent its words (R123). -/
def Switch.advance (x : Switch) : Switch :=
  let bounded := x.live.filter fun r => r.2.count != 0
  if !bounded.isEmpty && bounded.all (fun r => tget 0 x.sent r.1 == r.2.count) then
    let p := if x.act.phases ≤ x.phase + 1 then 0 else x.phase + 1
    { x with phase := p, sent := [] }
  else x

/-- The worker and port whose words enter a switch input (R113). -/
def inWorker (net inp : Nat) : Option Nat :=
  if inp < 4 then none else if net = 0 then some ((inp - 4) / 2) else if inp < 36 then some (inp - 4) else none

/-- A balance stall (R128, R180): counted and charged once for a switch and cycle, whatever the number of its groups that stall, and latched at the first
one of a step. -/
def balanceStall (cb net inp : Nat) (s : State) : State :=
  if (swGet s cb net).stallAt = some s.cycle then s else
  let s := swSet cb net { swGet s cb net with stallAt := some s.cycle } (bump .NET_EVT_COUNT .NET_OVF_OVF cb net 1 s)
  match ctxOfComb s cb with
  | none => s
  | some c =>
    let x := ctxGet s c
    let s := charge c 1 s
    if x.stallSeen.contains cb then s
    else
      let s := ctxMod c (fun x => { x with stallSeen := cb :: x.stallSeen }) s
      rset .NET_STALL_CYCLE cb 0 (stepCycle s c % 2 ^ 24) <| rset .NET_STALL_VALID cb 0 1 <|
        rset .NET_STALL_PHASE cb 0 (swGet s cb net).phase <| rset .NET_STALL_INPUT cb 0 inp <| rset .NET_STALL_NET cb 0 net s

/-- A group fires: every output gets its word, each input gives up its head once, and the counts rise (R122). -/
def fireGroup (cb net : Nat) (g : List (Nat × Route)) (s : State) : State :=
  let x := swGet s cb net
  let words := g.map fun r => (r.2.out, routeWord x r.2)
  let x1 := (groupIns g).foldl (fun x i => x.pop i) x
  let x2 := g.foldl (fun x r => { x with sent := tset x.sent r.1 (tget 0 x.sent r.1 + 1), sentIn := tset x.sentIn r.2.out x.phase }) x1
  let s := swSet cb net x2.advance s
  let s := words.foldl (fun s w => outSend cb net w.1 ⟨false, w.2, s.cycle⟩ s) s
  (groupIns g).foldl (fun s i => match inWorker net i with
    | some w => flushOut (cb * 32 + w) 16 s
    | none => s) s

/-- `ROUTE_GROUP_FIRE` (R122): the group of an input of the comb's switch fires when it is ready; with words on all its inputs but an output
without a credit it is a balance stall. -/
def routeGroupFire (cb net inp : Nat) (s : State) : State :=
  let x := swGet s cb net
  let g := groupOf x inp
  if g.isEmpty || !(g.all fun r => x.open r) || !groupWords x net s.cycle g then s
  else if g.all (fun r => outRoom s cb net r.2.out && !x.marks.contains r.2.out) then fireGroup cb net g s
  else balanceStall cb net inp s

/-- `ROUTE_GROUP_FIRE` (R122). Marks that the switch still owes go first (R169). -/
def execRouteGroupFire (x : Fin 28) (y : Fin 24) (net : Net) (inp : Fin 68) (s : State) : Host.Outcome State Fault Refusal :=
  let cb := cbOf x.val y.val
  let running := match ctxOfComb s cb with | some c => stepping s c | none => false
  if running then
    let tag := match ctxOfComb s cb with
      | some c => match (ctxGet s c).waiting with | some t => t.loadSeq % 32 | none => 0
      | none => 0
    .next (routeGroupFire cb (netIx net) inp.val (sendMarks cb (netIx net) tag s))
  else .next s

/-- The last words of a list come in a later cycle. -/
def delayLast (k cyc : Nat) (l : List NWord) : List NWord := l.mapIdx fun i n => if l.length < i + 1 + k then { n with cyc := max n.cyc cyc } else n

/-- The failed word of a link and the words after it, the last `back` + 1, are there again in a later cycle (R118). -/
def holdBack (cb net dir back cyc : Nat) (s : State) : State :=
  let x := swGet s cb net
  swSet cb net { x with qs := tset x.qs dir (delayLast (back + 1) cyc (x.q dir)) } s

/-- `STATIC_LINK_CHECK_FAIL` (R118, R119, R180): a word on the link into the comb from side `dir`, `back` words before the last one, failed its check.
It and the words after it are discarded and sent again from the sender's retry buffer of 16, which costs `slip` cycles, at most 400; `again` tells
that it is the word that failed last; with its fourth failure the link stops, and the receiving comb has a shared-logic fault. -/
def execStaticLinkCheckFail (x : Fin 28) (y : Fin 24) (net : Net) (dir : Fin 4) (back : Fin 16) (sent : LinkResend) (s : State) : Host.Outcome State Fault Refusal :=
  let cb := cbOf x.val y.val
  let n := netIx net
  let k := linkKey cb n dir.val
  if (neighbour cb dir.val).isNone || linkStopped s cb n dir.val then .next s
  else
    let s := bump .NET_EVT_COUNT .NET_OVF_OVF cb 3 1 s
    let f := if sent.again then (tget link0 s.links k).fails + 1 else 1
    if f < 4 then .next (chargeComb cb (min sent.slip 400) (holdBack cb n dir.val back.val (s.cycle + min sent.slip 400) { s with links := tset s.links k ⟨f, false⟩ }))
    else .next (combFault cb (holdBack cb n dir.val back.val never { s with links := tset s.links k ⟨f, true⟩ }))

/-- A side of a region that faces another region: 0 N, 1 E, 2 S, 3 W. -/
def innerSide (r side : Nat) : Bool :=
  match side with
  | 0 => decide (7 ≤ r)
  | 1 => r % 7 != 6
  | 2 => decide (r < 35)
  | _ => r % 7 != 0

/-- The region beyond a side. -/
def besides (r side : Nat) : Nat :=
  match side with | 0 => r - 7 | 1 => r + 1 | 2 => r + 7 | _ => r - 1

/-- Some route of a switch of region `r` sends toward a side across the region's border. -/
def routesOver (s : State) (r side : Nat) : Bool :=
  s.switches.any fun e => regionOf (e.1 / 3) == r && (e.2.act.routes.any fun q => q.out == side) &&
    match neighbour (e.1 / 3) side with | some (nb, _) => regionOf nb == besides r side | none => false

/-- The context whose routes use a crossing: it holds both regions, and one of its switches sends over it, in either direction. -/
def crossingUser (s : State) (r side c : Nat) : Bool :=
  (match (ctxGet s c).allot with | some a => a.hasRegion r && a.hasRegion (besides r side) | none => false) &&
    (routesOver s r side || routesOver s (besides r side) ((side + 2) % 4))

/-- `CROSSING_WANDER` (R117, R180): the side's WANDER bit sets, `NET_XEVT` counts, the words delivered off their cycle are charged to the
context, and the crossing is re-pinned at the next ridge of every context whose routes use it. -/
def execCrossingWander (r : Fin 42) (side : Fin 4) (words : Nat) (c : Fin 16) (s : State) : Host.Outcome State Fault Refusal :=
  if innerSide r.val side.val then
    let s := rset .NET_XING_WANDER r.val 0 (setFld (rget s .NET_XING_WANDER r.val) (3 - side.val) 1 1) s
    let s := bump .NET_XEVT_COUNT .NET_XOVF_OVF r.val 0 1 s
    let s := if stepping s c.val then charge c.val words s else s
    let users := ((List.range 16).filter fun k => crossingUser s r.val side.val k).map fun k => (r.val * 4 + side.val, k)
    .next { s with repins := s.repins ++ users.filter fun e => !s.repins.contains e }
  else .next s

/-- `PORT_PARITY_ERROR` (R120): the step of the comb's context has failed, and the record names the worker and port. -/
def execPortParityError (x : Fin 28) (y : Fin 24) (w : Fin 32) (port : Nat) (s : State) : Host.Outcome State Fault Refusal :=
  let wk := wkOf x.val y.val w.val
  let r := recW s wk clsParity 1 port 0
  let s := wrkFault wk clsParity port 0 0 (rset .WRK_STATUS_STEP_FAILED wk 0 1 s)
  .next (raise (regionOf (wk / 32)) r (failComb (wk / 32) r (some wk) s))

/-- The reduction tree of the reduce route that sent an output's last word, 0xFFFF for a route in none (R156). -/
def treeOf (s : State) (cb out : Nat) : Nat :=
  match ctxOfComb s cb with
  | none => 0xFFFF
  | some c =>
    match (if (swGet s cb 0).flipped then (ctxGet s c).waiting else (ctxGet s c).active) with
    | none => 0xFFFF
    | some t => match t.trees.find? (fun e => e.1 == cb && e.2.1 == tget (swGet s cb 0).phase (swGet s cb 0).sentIn out && e.2.2.1 == out) with
      | some e => e.2.2.2
      | none => 0xFFFF

/-- `RESIDUE_MISMATCH` (R132, R307): counted, the step has failed, and the record carries the tree. A residue failure that repeats in a
replay is a shared-logic fault of the comb. -/
def execResidueMismatch (x : Fin 28) (y : Fin 24) (out : Fin 68) (s : State) : Host.Outcome State Fault Refusal :=
  let cb := cbOf x.val y.val
  let r := recC s cb clsResidue 1 (treeOf s cb out.val) 0
  let s := bump .NET_EVT_COUNT .NET_OVF_OVF cb 5 1 s
  let again := match ctxOfComb s cb with
    | some c => (ctxGet s c).replayed && (ctxGet s c).residueHist.contains cb
    | none => false
  let s := match ctxOfComb s cb with
    | some c => ctxMod c (fun x => { x with residueHist := cb :: x.residueHist }) s
    | none => s
  let s := raise (regionOf cb) r (failComb cb r none s)
  .next (if again then combFault cb s else s)

end Sys2Proof.Machine
end

