-- ==== Sys2Proof/Machine/Course.lean ====
section
/-! DEFINITION. Coursing: marks, flips and the change of configuration (R166 to R175). -/

namespace Sys2Proof.Machine

/-! ### Old input and output sets (R167) -/

/-- The steering inputs that a slot uses: `SCTL`, `SIA`, `SIB`, as its operation reads them. -/
def steerUses (sl : Slot) (i : Nat) : Bool :=
  let ctl := i == 4 + sl.sctl
  let a := i == steerIn sl.sia
  let b := i == steerIn sl.sib
  match sl.steer with
  | 1 => ctl || a || b
  | 2 => ctl || a
  | 3 => a || b
  | 4 => ctl || a
  | 6 => ctl
  | _ => false

def WCfg.slotList (c : WCfg) : List Slot := if c.present then c.slots.map slotOf else []

/-- The input ports that a worker's program uses. -/
def WCfg.ins (c : WCfg) : List Nat := (List.range 6).filter fun i => c.slotList.any fun sl => needs sl i || steerUses sl i

/-- The output ports that it uses: 0 VO0, 1 VO1, 2 SO0, 3 CO0. -/
def WCfg.outs (c : WCfg) : List Nat :=
  (List.range 4).filter fun o => c.slotList.any fun sl => match o with
    | 0 => writesVO sl 0
    | 1 => writesVO sl 1
    | 2 => writesSO sl
    | _ => writesCO sl

/-- The inputs and outputs that a switch's routes name. -/
def SwCfg.ins (c : SwCfg) : List Nat := (c.routes.flatMap fun r => r.ins).eraseDups
def SwCfg.outs (c : SwCfg) : List Nat := (c.routes.map fun r => r.out).eraseDups

/-- The TAG of the marks of the thatch that waits (R163). -/
def markTag (s : State) (c : Nat) : Nat := match (ctxGet s c).waiting with | some t => t.loadSeq % 32 | none => 0

/-- The armed step of a course is running. -/
def coursing (s : State) (c : Nat) : Bool :=
  match (ctxGet s c).arm with
  | .running _ => stepping s c
  | _ => false

def overlappedRunning (s : State) (c : Nat) : Bool :=
  match (ctxGet s c).arm with
  | .running true => stepping s c
  | _ => false

/-- A mark enters the switch input that a worker's output port feeds. -/
def portMark (wk port tag : Nat) (s : State) : State :=
  let n := portIn (wk % 32) port
  swSet (wk / 32) n.1 ((swGet s (wk / 32) n.1).push n.2 (markWord s n.1 tag)) s

/-- `COURSE_MARK_EMIT` (R168): when every thread of the old program has taken END in the armed step, the worker emits one mark on each output
of its old output set, each taking a credit. -/
def execCourseMarkEmit (x : Fin 28) (y : Fin 24) (w : Fin 32) (s : State) : Host.Outcome State Fault Refusal :=
  let wk := wkOf x.val y.val w.val
  let k := wGet s wk
  match ctxOfComb s (wk / 32) with
  | none => .next s
  | some c =>
    if coursing s c && k.done && !k.marksOut && !k.flipped && k.act.outs.all (fun o => portRoom s wk o) then
      .next (wMod wk (fun w => { w with marksOut := true })
        (k.act.outs.foldl (fun s o => portMark wk o (markTag s c) s) s))
    else .next s

/-- A mark stands at the head of an input, or would once the entries that no slot consumed are discarded: the entries before the first
mark (R173). -/
def beforeMark (net : Nat) (q : List NWord) : List NWord := q.takeWhile fun n => !isMark net n

def hasMark (net : Nat) (q : List NWord) : Bool := q.any fun n => isMark net n

/-- Bindings at a flip: the credits of the new configuration; GONE ends (R274, R278). -/
def credits0 (c : WCfg) : List Nat :=
  (List.range 8).map fun b => match (c.qb.find? (fun e => e.1 == b)) with | some e => e.2.max | none => 0

/-- The worker with its active and shadow configurations swapped, its frames loaded from the new WFRAME, and vector registers, tiles and
weight buffer cleared (R168). -/
def flipWorker (w : Worker) : Worker :=
  let c := w.sh
  let th := (List.range 128).filterMap fun t =>
    if c.present && t ≤ c.threads then
      let x := threadOf (c.frames.getD t frame0)
      some (t, { x with slot := c.slotAt x.ptr })
    else none
  { w with act := c, sh := w.act, th := th, tiles := List.replicate 4 tile0, wbuf := List.replicate 16 0, mma := none
           cred := credits0 c, gone := List.replicate 8 false, flipped := true, marksOut := false, upsets := [], shReady := false }

/-- `WORKER_FLIP` (R168, R173): the marks are out and one stands at every old input, behind entries that are discarded and counted. The
new program's first slots are read and checked (R77). -/
def execWorkerFlip (x : Fin 28) (y : Fin 24) (w : FlipOf) (s : State) : Host.Outcome State Fault Refusal :=
  let wk := wkOf x.val y.val w.worker.val
  let k := wGet s wk
  match ctxOfComb s (wk / 32) with
  | none => .next s
  | some c =>
    let ins := k.act.ins
    let q (i : Nat) := k.fifo.getD i []
    if overlappedRunning s c && k.done && (k.marksOut || k.act.outs.isEmpty) && !k.flipped &&
        ins.all (fun i => hasMark (inNet i) (q i)) then
      let lost := (ins.map fun i => (beforeMark (inNet i) (q i)).length).foldl (· + ·) 0
      let k1 := ins.foldl (fun k i => { k with fifo := k.fifo.set i ((q i).drop ((beforeMark (inNet i) (q i)).length + 1)) }) k
      let s := checkAll wk (wSet wk { flipWorker k1 with upsets := w.upsets.map fun u => (u.1.val, u.2) } s)
      let s := if lost = 0 then s
        else leftover (regionOf (wk / 32)) c 6 (recW s wk clsOverrun 2 6 0) (bump .NET_EVT_COUNT .NET_OVF_OVF (wk / 32) 4 lost s)
      .next s
    else .next s

/-- The switch with its configurations swapped, in phase 0 with counts at 0; a mark is owed on every old output (R169). -/
def flipSwitch (x : Switch) : Switch :=
  { x with act := x.sh, sh := x.act, phase := 0, sent := [], sentIn := [], flipped := true, marks := x.act.outs, shReady := false
           qs := x.act.ins.foldl (fun q i => tset q i ((tget [] q i).drop 1)) x.qs }

/-- `SWITCH_FLIP` (R169): marks stand at the heads of all inputs of the old input set; then the switch sends its own. -/
def execSwitchFlip (x : Fin 28) (y : Fin 24) (net : Net) (s : State) : Host.Outcome State Fault Refusal :=
  let cb := cbOf x.val y.val
  let n := netIx net
  let k := swGet s cb n
  match ctxOfComb s cb with
  | none => .next s
  | some c =>
    if overlappedRunning s c && !k.flipped &&
        k.act.ins.all (fun i => match (k.q i).head? with | some w => isMark n w | none => false) then
      .next (sendMarks cb n (markTag s c) (swSet cb n (flipSwitch k) s))
    else .next s

/-- The head of a switch input, or from 68 on of an input FIFO of the comb's workers: worker (inp − 68) div 2, its input port of the network. -/
def markInput (s : State) (cb n inp : Nat) : Option NWord :=
  if inp < 68 then ((swGet s cb n).q inp).head?
  else ((wGet s (cb * 32 + (inp - 68) / 2)).fifo.getD (2 * n + (inp - 68) % 2) []).head?

/-- `COURSE_MARK_MISMATCH` (R172): a mark stands at an input of a switch or a worker without an armed course, or a token carries another TAG than the
shadow thatch's. It is a schedule fault, the step is not replayed, and the context is reset. -/
def execCourseMarkMismatch (x : Fin 28) (y : Fin 24) (net : Net) (inp : Fin 132) (s : State) : Host.Outcome State Fault Refusal :=
  let cb := cbOf x.val y.val
  let n := netIx net
  match ctxOfComb s cb, markInput s cb n inp.val with
  | some c, some w =>
    let armed := match (ctxGet s c).arm with | .running _ => true | _ => false
    let badTag := n == 2 && (wordAt w.data 0).toNat / 8 != markTag s c
    if isMark n w && (!armed || badTag) then
      let r := recC s cb clsSchedule 5 3 0
      .next (ctxMod c (fun x => { x with resetReq := some none }) (schedFault c r (raise (regionOf cb) r s)))
    else .next s
  | _, _ => .next s

/-! ### The comb controller and the flips at a ridge -/

/-- The control switch's active configuration names input 36 (R179). -/
def names36 (s : State) (cb : Nat) : Bool := (swGet s cb 2).act.ins.contains 36

/-- A token of the comb controller on control input 36: the course mark or the step end. -/
def ctlToken (cb kind tag : Nat) (s : State) : State :=
  if names36 s cb then swSet cb 2 ((swGet s cb 2).push 36 ⟨false, [BitVec.ofNat 32 (tag * 8 + kind)], s.cycle⟩) s else s

/-- The initial states of the SYNC sections that reach a comb: `inits` of the thatch's directory, read from the image (R152, R171). -/
def writeObjs (os : List (Nat × SyncObj)) (s : State) : State := { s with objs := os.foldl (fun t e => tset t e.1 e.2) s.objs }

/-- Every unit of a context flips at once: the course of a context without an active thatch, and a boundary course at its ridge (R166, R171). -/
def flipAll (c : Nat) (s : State) : State :=
  let s := (ctxWorkers s c).foldl (fun s wk => wMod wk (fun w => { flipWorker w with fifo := List.replicate 6 [] }) s) s
  (ctxCombs s c).foldl (fun s cb => [0, 1, 2].foldl (fun s n =>
    let x := swGet s cb n
    swSet cb n { x with act := x.sh, sh := x.act, phase := 0, sent := [], sentIn := [], flipped := true, marks := [], qs := [], shReady := false } s) s) s

/-- The worker restored to the configuration it had before its flip (R175). -/
def unflipWorker (w : Worker) : Worker := if w.flipped then { w with act := w.sh, sh := w.act, flipped := false, shReady := true, upsets := [] } else w

def unflipSwitch (x : Switch) : Switch := if x.flipped then { x with act := x.sh, sh := x.act, flipped := false, shReady := true } else x

end Sys2Proof.Machine
end

