-- ==== Sys2Proof/Machine/Eave.lean ====
section
/-! DEFINITION. Stream programs, rafters, drops, repairs and scrub (chapter 9). -/

namespace Sys2Proof.Machine

def prog0 : StreamProg := ⟨false, 0, [], 0, 0⟩
def chan0 : Channel := ⟨prog0, prog0, false, [], [], 0, 0, 0⟩
def drop0 : DropTab := ⟨false, [], [], 0, 0⟩

def chGet (s : State) (ch : Nat) : Channel := tget chan0 s.chans ch
def chSet (ch : Nat) (x : Channel) (s : State) : State := { s with chans := tset s.chans ch x }
def chMod (ch : Nat) (f : Channel → Channel) (s : State) : State := chSet ch (f (chGet s ch)) s
def dropGet (s : State) (cb : Nat) : DropTab × DropTab := tget (drop0, drop0) s.drops cb
def dropSet (cb : Nat) (d : DropTab × DropTab) (s : State) : State := { s with drops := tset s.drops cb d }

/-! ### Slots (R230, R231, R235) -/

/-- The cycle of a step in which slot k of a channel begins. -/
def slotCycle (rate ch k : Nat) : Nat :=
  ch % 12 + (match rate with
    | 0 => k * 12 / 5
    | 1 => k * 8 / 3
    | _ => k * 3)

/-- The usable index of a slot that is no maintenance slot. -/
def usableIx (k : Nat) : Nat := k - k / 16

/-- What a run does in the usable slot with index u: the repeat, and the slot's place in it (0 the metadata burst, 2i + 1 and 2i + 2 block i). -/
def runAt (r : Run) (u : Nat) : Option (Nat × Nat) :=
  let u0 := usableIx r.slot
  let period := 2 * r.count + 1 + r.skip
  if u < u0 then none
  else
    let d := u - u0
    if d / period < r.rep ∧ d % period ≤ 2 * r.count then some (d / period, d % period) else none

/-- Under an overlapped course the old program runs through its LAST and the new one, where there is one, from its COURSE_START (R171). -/
def pickProg (s : State) (c : Nat) (act sh : StreamProg) (cyc : Nat) : StreamProg :=
  match (ctxGet s c).arm with
  | .running true => if sh.present && decide (sh.courseStart ≤ cyc) then sh else act
  | _ => act

/-- `STREAM_SLOT` (R235, R236): the program of a channel owns usable slot k of the running step. A block takes a read entry in its first data slot
(lane state 0); the second one hands it to the rafter feed, to be injected 160 cycles after the slot. A channel whose 32 reads are outstanding is
the loss overrun EAVE (R195). -/
def execStreamSlot (ch : Fin 2048) (k : Nat) (s : State) : Host.Outcome State Fault Refusal :=
  let x := chGet s ch.val
  match chanOwner s ch.val with
  | none => .next s
  | some c =>
    if !stepping s c || k % 16 == 15 || decide (k < x.nextSlot) || !chInService s ch.val then .next s
    else
      let cyc := slotCycle (rget s .EAV_SEG_RATE (ch.val / 256)) ch.val k
      let p := pickProg s c x.act x.sh cyc
      let s := chSet ch.val { x with nextSlot := k + 1 } s
      match p.runs.findSome? (fun r => (runAt r (usableIx k)).map fun e => (r, e)) with
      | none => .next s
      | some (r, rep, e) =>
        let group := r.group + rep
        let block := r.first + (e - 1) / 2
        if e = 0 then .next s
        else if e % 2 = 0 then
          let whole (b : LaneBlk) : LaneBlk := { b with st := 1, inject := cyc + 160, data := ofLe (blockData s ch.val group block) }
          .next (chMod ch.val (fun x => { x with feed := replFirst (fun b => b.st == 0 && b.group == group && b.block == block) whole x.feed }) s)
        else if 32 ≤ x.feed.length then
          .next (lossOverrun (42 + ch.val / 256) c (withCtx s (some c)
            { cls := clsOverrun, outcome := 1, lsite := 63 <<< 16, psite := psiteS (ch.val / 256), detail := 4 }) s)
        else
          let b : LaneBlk :=
            { id := s.nextBlk, chan := ch.val, group := group, block := block, rafter := r.rafter, lane := r.lane
              inject := 0, st := 0, data := 0, ctx := c, seen := [], verdict := none }
          .next { chMod ch.val (fun x => { x with feed := x.feed ++ [b] }) s with nextBlk := s.nextBlk + 1 }

/-- `MAINTENANCE_SLOT` (R231): slot k with k mod 16 = 15 passes to the stream engine. What it issues there, refresh, calibration or a scrub read,
changes no data by itself; the verdicts of scrub reads and re-reads are rows of their own (assumptions 74 and 129). -/
def execMaintenanceSlot (ch : Fin 2048) (k : Nat) (_use : Maint) (s : State) : Host.Outcome State Fault Refusal :=
  let x := chGet s ch.val
  if k % 16 = 15 ∧ x.nextSlot ≤ k then .next (chSet ch.val { x with nextSlot := k + 1 } s) else .next s

/-! ### The feed (R235, R243, R245) -/

/-- `RAFTER_INJECT` (R235, R243): the feed checks the channel's oldest block and injects it in its compiled cycle: DATA when the check passes,
PENDING with a repair entry when it fails, POISON when it carries the poison code and no partner copy, or when both repair entries are held. A block
whose second data slot is still to come is not injected. -/
def execRafterInject (ch : Fin 2048) (good : Bool) (s : State) : Host.Outcome State Fault Refusal :=
  let x := chGet s ch.val
  match x.feed with
  | [] => .next s
  | b :: rest =>
    let seg := ch.val / 256
    let marked := s.poison.contains (emBlockKey ch.val b.group b.block)
    let x1 := { x with feed := rest }
    if b.st = 0 then .next s
    else if good && !marked then .next { chSet ch.val x1 s with lane := s.lane ++ [b] }
    else
      let s := chErr ch.val 1 (bump .EAV_EVT_COUNT .EAV_OVF_OVF seg 0 1 s)
      let dead := { b with st := 3, data := 0 }
      if marked && (partnerPlace s b.ctx ch.val b.group b.block).isNone then
        .next (poisonBlock ch.val b.group b.block { chSet ch.val x1 s with lane := s.lane ++ [dead] })
      else if x.repairs.length < 2 then
        .next { chSet ch.val { x1 with repairs := x.repairs ++ [⟨b, 0⟩] } s with lane := s.lane ++ [{ b with st := 2 }] }
      else
        .next (poisonBlock ch.val b.group b.block
          { chSet ch.val x1 (bump .EAV_EVT_COUNT .EAV_OVF_OVF seg 5 1 s) with lane := s.lane ++ [dead] })

/-- The verdict of a block reaches its lane record, so that the feed can answer drops that ask (R244). -/
def setVerdict (id v data : Nat) (s : State) : State :=
  { s with lane := s.lane.map fun b => if b.id = id then { b with verdict := some v, data := data } else b }

/-- `REREAD_VERDICT` (R243, R245): a re-read of a repair entry, or the read of the partner copy as the second one, passes or fails; a copy that bears the
poison code never passes. A pass repairs the block and masks the failure; a second failure poisons it. -/
def execRereadVerdict (ch : Fin 2048) (entry : Fin 2) (good : Bool) (s : State) : Host.Outcome State Fault Refusal :=
  let x := chGet s ch.val
  match x.repairs[entry.val]? with
  | none => .next s
  | some r =>
    let seg := ch.val / 256
    let other := if r.tries = 1 then partnerPlace s r.blk.ctx ch.val r.blk.group r.blk.block else none
    let place := match other with
      | some p => emBlockOf p
      | none => emBlockKey ch.val r.blk.group r.blk.block
    if good && !s.poison.contains place then
      let data := ofLe (mread s place 128)
      .next (setVerdict r.blk.id 1 data (bump .EAV_EVT_COUNT .EAV_OVF_OVF seg 1 1
        (chSet ch.val { x with repairs := x.repairs.eraseIdx entry.val } s)))
    else
      let s := chErr (match other with | some p => p.1 | none => ch.val) 1 s
      if r.tries = 0 then
        .next (chSet ch.val { x with repairs := x.repairs.set entry.val { r with tries := 1 } } s)
      else
        .next (setVerdict r.blk.id 3 0 (poisonBlock ch.val r.blk.group r.blk.block
          (chSet ch.val { x with repairs := x.repairs.eraseIdx entry.val } s)))

/-! ### Drops (R237 to R242, R244, R246) -/

/-- The segment, the rafter and the distance from its entering edge behind an `RSEL` of a comb (R237, R238). -/
def rafterOf (cb rsel : Nat) : Nat × Nat × Nat :=
  let x := cbX cb
  let y := cbY cb
  match rsel with
  | 0 => (if y < 12 then 2 else 3, y % 12, 27 - x)
  | 1 => (if y < 12 then 7 else 6, y % 12, x)
  | 2 => (if x < 14 then 0 else 1, x % 14, y)
  | _ => (if x < 14 then 5 else 4, x % 14, 23 - y)

/-- The arrival cycle at distance d of a lane injected in cycle i. -/
def arrivalAt (i d : Nat) : Nat := i + 8 + 2 * d + 6 * (d / 4)

/-- The leading bytes of a tap stream that are there: blocks up to the first that waits for a repair. -/
def readyBytes (st : List TapBlk) : List Byte := (st.takeWhile fun b => b.pending.isNone).flatMap fun b => toLe 128 b.data

/-- Cuts complete beats from a worker's tap stream into its tap, in order; a beat at a full tap of 16 is discarded with the loss
overrun TAP_FULL (R75, R241; assumption 129). -/
def cutBeats (wk size : Nat) : Nat → State → State
  | 0, s => s
  | k + 1, s =>
    let w := wGet s wk
    let b := (readyBytes w.stream).drop w.streamOff
    if b.length < size ∨ size = 0 then s
    else
      let off := w.streamOff + size
      let w1 := { w with stream := w.stream.drop (off / 128), streamOff := off % 128 }
      if w.tap.length < 16 then cutBeats wk size k (wSet wk { w1 with tap := w.tap ++ [ofLe (b.take size)] } s)
      else
        let s := wSet wk w1 s
        let s := match ctxOfComb s (wk / 32) with
          | some c => lossOverrun (regionOf (wk / 32)) c (recW s wk clsOverrun 1 2 0) (wrkFault wk clsOverrun 2 0 0 s)
          | none => s
        cutBeats wk size k s

def beatSize (d : DropTab) (w : Nat) : Nat := tget 512 d.beats w

/-- A drop's write of a comb-memory block takes a tag of the comb's static share until 24 cycles after the arrival; with all 768 held, the write is
lost and is the loss overrun DROP (R193, R195, R241). -/
def dropTag (cb : Nat) (s : State) : Option State :=
  if staticTags s cb < 768 then some (takeTags [⟨cb, none, false, true, s.cycle + 24, none, 0⟩] s) else none

def dropOverrun (cb c : Nat) (s : State) : State := lossOverrun (regionOf cb) c (recC s cb clsOverrun 1 3 0) s

/-- A block is written to comb memory, with the poison mark where it is poisoned (R245, R316). -/
def dropWrite (cb off st data : Nat) (s : State) : State :=
  let s := cmWriteBlock cb off (toLe 128 data) s
  if st = 3 then markBlock cb off s else s

/-- A block reaches its place: the tap stream of a worker, or a comb-memory block, poisoned or not (R241, R245). -/
def dropBlock (cb c : Nat) (d : DropTab) (r : DropRec) (st data : Nat) (s : State) : State :=
  match r.cmem with
  | none =>
    let wk := cb * 32 + r.worker
    cutBeats wk (beatSize d r.worker) 8 (wMod wk (fun w => { w with stream := w.stream ++ [⟨data, none⟩] }) s)
  | some b => match dropTag cb s with
    | some s => dropWrite cb (128 * (b + r.taken)) st data s
    | none => dropOverrun cb c s

/-- A drop holds the place of a block that is still to come: it asks the feed for it (R244). -/
def dropPending (cb : Nat) (r : DropRec) (b : LaneBlk) (resend : Bool) (s : State) : State :=
  match r.cmem with
  | none =>
    let wk := cb * 32 + r.worker
    let s := wMod wk (fun w => { w with stream := w.stream ++ [⟨0, some b.id⟩] }) s
    { s with dropWaits := s.dropWaits ++ [⟨b.id, cb, some r.worker, 0, resend⟩] }
  | some k => match dropTag cb s with
    | some s => { s with dropWaits := s.dropWaits ++ [⟨b.id, cb, none, k + r.taken, resend⟩] }
    | none => dropOverrun cb b.ctx s

/-- A drop record takes a lane in an arrival cycle (R240). -/
def DropRec.takes (r : DropRec) (rsel lane cyc : Nat) : Bool := r.rsel == rsel && r.lane == lane && r.start ≤ cyc && cyc ≤ r.stop

/-- The drop table that acts in an arrival cycle: under an overlapped course the new one from its COURSE_START on (R171). -/
def dropNewer (s : State) (c cb cyc : Nat) : Bool :=
  match (ctxGet s c).arm with
  | .running true => decide ((dropGet s cb).2.courseStart ≤ cyc) && (dropGet s cb).2.present
  | _ => false

/-- A comb's drop takes a block that arrives from a side: the record of its table, where there is one (R240). -/
def dropTakes (s : State) (cb rsel : Nat) (b : LaneBlk) : Option DropRec :=
  let cyc := arrivalAt b.inject (rafterOf cb rsel).2.2
  let tab := if dropNewer s b.ctx cb cyc then (dropGet s cb).2 else (dropGet s cb).1
  tab.recs.find? fun r => r.takes rsel b.lane cyc

/-- A block is on the lane that a comb has on a side, and has not reached the comb. -/
def LaneBlk.comes (b : LaneBlk) (cb rsel : Nat) : Bool :=
  let g := rafterOf cb rsel
  b.chan / 256 == g.1 && b.rafter == g.2.1 && !b.seen.contains cb

/-- `DROP_ARRIVAL` (R241, R244 to R246): the oldest block on the lane that has not reached the comb's drop does so; the drop of the lane's owner
takes it when a record's window holds its arrival cycle. A sideband check that fails makes it pending, is counted, and four at one drop in one
tick ask for the lane's test (R247). A write to comb memory that a busy bank defers is charged its `deferred` cycles (R64, R180). -/
def execDropArrival (x : Fin 28) (y : Fin 24) (rsel : Fin 4) (lane : Fin 4) (got : DropCheck) (s : State) : Host.Outcome State Fault Refusal :=
  let cb := cbOf x.val y.val
  let g := rafterOf cb rsel.val
  let mine (b : LaneBlk) : Bool := b.lane == lane.val && b.comes cb rsel.val
  match s.lane.find? mine with
  | none => .next s
  | some b =>
    let s := { s with lane := replFirst mine (fun b => { b with seen := cb :: b.seen }) s.lane }
    if !(ctxHas s b.ctx cb) || !stepping s b.ctx then .next s
    else
      let cyc := arrivalAt b.inject g.2.2
      let d := dropGet s cb
      let newer := dropNewer s b.ctx cb cyc
      let tab := if newer then d.2 else d.1
      match dropTakes s cb rsel.val b with
      | none => .next s
      | some r =>
        let tab1 := { tab with recs := replFirst (fun r => r.takes rsel.val lane.val cyc) (fun r => { r with taken := r.taken + 1 }) tab.recs }
        let s := dropSet cb (if newer then (d.1, tab1) else (tab1, d.2)) s
        if !got.good then
          let i := g.1 * 64 + g.2.1 * 4 + lane.val
          let n := tget 0 s.laneFails (i * 672 + cb) + 1
          let v := rget s .RFT_EVT_COUNT g.1 g.2.1 + 1
          let s := if v ≤ 0xFFFFFFFF then rset .RFT_EVT_COUNT g.1 g.2.1 v s else rset .RFT_STAT_EVT_OVF g.1 g.2.1 1 s
          let s := { s with laneFails := tset s.laneFails (i * 672 + cb) n
                            laneTests := if n = 4 ∧ !s.laneTests.contains i then s.laneTests ++ [i] else s.laneTests }
          .next (dropPending cb r b true s)
        else if b.st = 2 then .next (dropPending cb r b false s)
        else .next (dropBlock cb b.ctx tab r b.st b.data (if r.cmem.isSome then chargeComb cb got.deferred s else s))

/-- The bytes of a block fill the place that a tap stream held for it. -/
def fillTap (id data : Nat) (w : Worker) : Worker :=
  { w with stream := replFirst (fun t => t.pending == some id) (fun _ => ⟨data, none⟩) w.stream }

/-- The CMRDs that waited for a PENDING block go on, each with its tag, which is returned 24 cycles later (R61, R244). -/
def wakeReads (id cb off : Nat) (s : State) : State :=
  let s := (s.tags.filter fun g => g.pending == some id).foldl (fun s g => match g.owner with
    | some o => cmToLs o.1 cb off g.ls .good s
    | none => s) s
  { s with tags := s.tags.map fun g => if g.pending == some id then { g with pending := none, due := s.cycle + 24 } else g }

/-- `REPAIR_ANSWER` (R244 to R246, R180): the feed's answer for the comb's first waiting block whose verdict is held arrives; the beat or the
write completes, and `late` cycles are charged: at most 800 for a repair, 400 for a re-send from the retry buffer. -/
def execRepairAnswer (x : Fin 28) (y : Fin 24) (late : Nat) (s : State) : Host.Outcome State Fault Refusal :=
  let cb := cbOf x.val y.val
  let blkOf (w : DropWait) : Option LaneBlk := s.lane.find? fun b => b.id == w.id
  let known (w : DropWait) : Bool := w.comb == cb && match blkOf w with
    | some b => b.st != 2 || b.verdict.isSome
    | none => false
  match s.dropWaits.find? known with
  | none => .next s
  | some w =>
    match blkOf w with
    | none => .next s
    | some b =>
      let st := b.verdict.getD b.st
      let data := if st = 3 then 0 else b.data
      let s := { s with dropWaits := dropFirst known s.dropWaits }
      let s := if w.resend then bump .EAV_EVT_COUNT .EAV_OVF_OVF (b.chan / 256) 3 1 s else s
      let s := chargeComb cb (min late (if w.resend then 400 else 800)) s
      match w.worker with
      | some k =>
        let wk := cb * 32 + k
        .next (cutBeats wk (beatSize (dropGet s cb).1 k) 32 (wMod wk (fillTap b.id data) s))
      | none =>
        let off := 128 * w.cmem
        .next (wakeReads b.id cb off (dropWrite cb off st data s))

/-! ### Lanes, scrub and refresh (R247 to R250, R317) -/

/-- The contexts that hold a rafter lane: by column lanes of their allotment, or as owners of a row (R239). -/
def laneHolder (s : State) (seg rafter lane : Nat) : Option Nat :=
  let v := fld (rget s .RFT_STAT_OWNER seg rafter) (5 * lane) 5
  if 16 ≤ v then some (v % 16) else none

/-- The contexts that hold lanes of a rafter. -/
def rafterHolders (s : State) (seg rafter : Nat) : List Nat := ((List.range 4).filterMap fun l => laneHolder s seg rafter l).eraseDups

/-- Faulty wires of a lane take spares in their spans; `RFT_STAT.SPARES` shows the most in use in any span of the lane. A lane has 32 in each span
(R238, R247; assumption 125). -/
def takeSpares (seg rafter : Nat) (l : List WireFault) (s : State) : State :=
  l.foldl (fun s f =>
    let k := ((seg * 16 + rafter) * 4 + f.lane.val) * 8 + f.span.val
    let n := tget 0 s.spares k + f.wires
    let v := rget s .RFT_STAT_SPARES seg rafter
    let s := { s with spares := tset s.spares k n }
    rset .RFT_STAT_SPARES seg rafter (setFld v (6 * f.lane.val) 6 (max (fld v (6 * f.lane.val) 6) (min 32 n))) s) s

/-- The lanes of a rafter whose faulty wires outnumber the spares of a span. -/
def lanesSpent (s : State) (seg rafter : Nat) : List Nat :=
  (List.range 4).filter fun l => (List.range 8).any fun sp => decide (32 < tget 0 s.spares (((seg * 16 + rafter) * 4 + l) * 8 + sp))

/-- A lane fails: the module is degraded, and the context that holds it is reset (R247). -/
def laneOut (seg rafter l : Nat) (s : State) : State :=
  let h := laneHolder s seg rafter l
  let s := rset .RFT_STAT_FAILED seg rafter (setFld (rget s .RFT_STAT_FAILED seg rafter) l 1 1) s
  let s := degrade 26 (rset .EAV_SEG_DEGRADED seg 0 1 s)
  let s := match h with
    | some c => askReset c none s
    | none => s
  raise (42 + seg) (withCtx s h { cls := 0x06, outcome := 6, lsite := 63 <<< 16, psite := psiteS seg, detail := rafter * 4 + l }) s

/-- `RAFTER_LANE_TEST` (R247): at the request of a lane, the wires of its rafter are tested at the ridge of the contexts that hold lanes of it: each
of the `faulty` wires takes a spare of its lane and span, or the lane fails. The test costs each of those contexts 256 pause cycles. -/
def execRafterLaneTest (seg : Fin 8) (rafter : Fin 14) (lane : Fin 4) (faulty : List WireFault) (s : State) : Host.Outcome State Fault Refusal :=
  let i := seg.val * 16 + rafter.val
  let hs := rafterHolders s seg.val rafter.val
  if !s.laneTests.contains (4 * i + lane.val) || hs.any (fun c => stepping s c) then .next s
  else
    let s := { s with laneTests := s.laneTests.filter fun l => l / 4 != i }
    let s := hs.foldl (fun s c => ctxMod c (fun x => { x with pauseDue := x.pauseDue + 256 }) s) s
    let before := lanesSpent s seg.val rafter.val
    let s := takeSpares seg.val rafter.val faulty s
    .next (((lanesSpent s seg.val rafter.val).filter fun l => !before.contains l).foldl (fun s l => laneOut seg.val rafter.val l s) s)

/-- A persistent error that the scrub found in a block (R248): rewritten from the partner copy in a mirrored stripe, with the partner's poison code if
it bears one (assumption 116), and given the poison code otherwise. -/
def scrubBlock (ch group block : Nat) (s : State) : State :=
  let k := emBlockKey ch group block
  let p := match chanOwner s ch with
    | some c => partnerPlace s c ch group block
    | none => none
  match p with
  | some p =>
    let marks := s.poison.filter (· != k)
    { mwrite k (mread s (emBlockOf p) 128) s with poison := if s.poison.contains (emBlockOf p) then k :: marks else marks }
  | none => { s with poison := if s.poison.contains k then s.poison else k :: s.poison }

/-- `PATROL_SCRUB_READ` (R248): the scrub reads the channel's next group; `bad` are the blocks whose error two re-reads confirmed. The group is
logged, counted and reported. The pass wraps after group 2,033,599. -/
def execPatrolScrubRead (ch : Fin 2048) (bad : List (Fin 16)) (s : State) : Host.Outcome State Fault Refusal :=
  let x := chGet s ch.val
  let seg := ch.val / 256
  let g := x.scrubAt
  let s := bad.foldl (fun s b => scrubBlock ch.val g b.val (chErr ch.val 3 s)) s
  let s := if bad.isEmpty then s
    else
      let c := chanOwner s ch.val
      raise (42 + seg) (withCtx s c { cls := 0x03, outcome := 2, lsite := 63 <<< 16, psite := psiteS seg
                                      detail := ch.val <<< 52 ||| g <<< 31 ||| (c.getD 0) <<< 23 })
        (recordAdd (defEntry 6 5 (siteG ch.val g)) { bump .EAV_EVT_COUNT .EAV_OVF_OVF seg 4 1 s with scrubLog := s.scrubLog ++ [(ch.val, g)] })
  if g + 1 < 2033600 then .next (chSet ch.val { x with scrubAt := g + 1 } s)
  else
    let s := chSet ch.val { x with scrubAt := 0, passes := x.passes + 1 } s
    let all := (List.range 256).all fun i => !chInService s (seg * 256 + i) || x.passes + 1 ≤ (chGet s (seg * 256 + i)).passes
    .next (if all then rset .MEM_SCRUB_LAST_PASS seg 0 s.tick s else s)

/-- `CMEM_REFRESH` (R317): the refresh of a row of 64 blocks checks each; failing blocks are poisoned and reported, and the row moves to the next
shorter bin; a 64 ms row is logged for repair at the next cold start. The `deferred` cycles that it takes from service are charged (R180). -/
def execCmemRefresh (x : Fin 28) (y : Fin 24) (bank : Fin 16) (row : Fin 768) (found : RowRefresh) (s : State) : Host.Outcome State Fault Refusal :=
  let cb := cbOf x.val y.val
  let bad := found.bad
  let s := chargeComb cb found.deferred s
  if bad.isEmpty then .next s
  else
    let off (b : Fin 64) : Nat := (row.val * 64 + b.val) * 2048 + bank.val * 128
    let i := cb * 12288 + bank.val * 768 + row.val
    let bin := tget s.start.binBase s.rowBins i
    let s := { s with poison := bad.foldl (fun p b => if p.contains (cmKey cb (off b) / 128) then p else (cmKey cb (off b) / 128) :: p) s.poison
                      rowBins := tset s.rowBins i (bin - 1)
                      rowRepairs := if bin = 0 ∧ !s.rowRepairs.contains i then s.rowRepairs ++ [i] else s.rowRepairs }
    let s := bump .TND_EVT_COUNT .TND_OVF_OVF cb 2 bad.length s
    let s := if bin = 0 then recordAdd (defEntry 7 5 (siteRow (pxOf s cb) (cbY cb) bank.val row.val)) s
      else bump .TND_EVT_COUNT .TND_OVF_OVF cb 3 1 s
    .next (bad.foldl (fun s b => raise (regionOf cb)
      (recC s cb 0x05 2 0 (1 <<< 60 ||| cbX cb <<< 47 ||| cbY cb <<< 42 ||| 63 <<< 36 ||| off b)) s) s)

/-- `EAV_CTX_CFG_WRITE` (R252 to R254): the physical function or the keeper writes the register of a granted context once until the next unlock. A
granule of 3 stores 0; mirroring needs an allotment closed under exclusive-or with 0x400 and stripes inside the aperture. -/
def execEavCtxCfgWrite (who : Requester) (c : Fin 16) (v : BitVec 64) (s : State) : Host.Outcome State Fault Refusal :=
  let st := rget s .CTX_STATE_STATE c.val
  let x := ctxGet s c.val
  let may := match who with | .pf => true | .keeper => true | _ => false
  if !may || st == 0 || st == 5 || x.cfgWritten then .next s
  else
    let g0 := fld v.toNat 62 2
    let g := if g0 = 3 then 0 else g0
    let base := fld v.toNat 41 21
    let cnt := fld v.toNat 20 21
    let chs := viewChans s (.ctx c.val)
    let closed := chs.all fun ch => chs.contains (ch ^^^ 0x400)
    let fits := (base + cnt) * (4096 * 4 ^ g) ≤ chanBytes
    let cnt := if closed && fits then cnt else 0
    let s := rset .EAV_CTX_CFG_MIRROR_COUNT 0 c.val cnt <| rset .EAV_CTX_CFG_MIRROR_BASE 0 c.val base <| rset .EAV_CTX_CFG_GRANULE 0 c.val g s
    .next (ctxMod c.val (fun x => { x with cfgWritten := true }) s)

end Sys2Proof.Machine
end

