-- ==== Sys2Proof/Machine/Image.lean ====
section
/-! DEFINITION. Thatch images: the layout of their sections, and what the parts of a section mean (R138 to R157, R234, R240). -/

namespace Sys2Proof.Machine

/-! ### Header and directory (R140 to R143) -/

def imgEntry (img : List Byte) (i : Nat) : Sect :=
  let o := 512 + 32 * i
  { ty := leAt img o 2, target := leAt img (o + 4) 4, item := leAt img (o + 8) 4, offset := leAt img (o + 16) 8
    length := leAt img (o + 24) 4, crc := leAt img (o + 28) 4 }

def imgDir (img : List Byte) : List Sect := (List.range (leAt img 0x3C 4)).map (imgEntry img)

/-- A step-table entry (R141). -/
def imgStep (img : List Byte) (i : Nat) : StepEnt :=
  let f (k : Nat) : Nat := leAt img (0x50 + 16 * i + 4 * k) 3
  ⟨f 0, f 1, f 2, f 3⟩

def imgSteps (img : List Byte) : List StepEnt := (List.range (leAt img 0x0E 1)).map (imgStep img)

/-- The header's region rectangle as an allotment has it. -/
def imgRect (img : List Byte) : Allot :=
  ⟨leAt img 0x28 1, leAt img 0x29 1, leAt img 0x2A 1, leAt img 0x2B 1, [], [], [], 0, 0⟩

def payload (img : List Byte) (e : Sect) : List Byte := slice img e.offset e.length

/-- Fields of `TARGET` (R144). -/
def Sect.kind (e : Sect) : Nat := fld e.target 30 2
def Sect.worker (e : Sect) : Nat := fld e.target 24 6

/-! ### Stamps and targets (R144, R155) -/

/-- The combs of a stamp record, inside the rectangle. -/
def stampRec (rect : Allot) (p : List Byte) (k : Nat) : List Nat :=
  let f (i : Nat) : Nat := leAt p (16 + 8 * k + i) 1
  if f 1 < f 0 ∨ f 3 < f 2 ∨ f 4 = 0 ∨ f 5 = 0 then []
  else rect.combs.filter fun cb => f 0 ≤ cbX cb && cbX cb ≤ f 1 && f 2 ≤ cbY cb && cbY cb ≤ f 3 &&
    (cbX cb - f 0) % f 4 == 0 && (cbY cb - f 2) % f 5 == 0

def stampCombs (rect : Allot) (p : List Byte) : List Nat :=
  ((List.range (leAt p 0 2)).flatMap (stampRec rect p)).eraseDups

/-- The combs that a section reaches. -/
def sectCombs (img : List Byte) (e : Sect) : List Nat :=
  match e.kind with
  | 1 => [cbOf (fld e.target 0 5) (fld e.target 8 5)]
  | 2 => stampCombs (imgRect img) (payload img (imgEntry img (fld e.target 0 20)))
  | _ => []

/-- The section types whose units are workers, and those whose units are combs (R146). -/
def workerTy (t : Nat) : Bool := t == 1 || t == 2 || t == 9 || t == 0xA
def combTy (t : Nat) : Bool := [3, 4, 5, 6, 8].contains t

/-- The units that a section reaches: workers, combs or a channel (R146). -/
def sectUnits (img : List Byte) (e : Sect) : List Nat :=
  if workerTy e.ty then
    (sectCombs img e).flatMap fun cb => if e.worker = 63 then (List.range 32).map fun w => cb * 32 + w else [cb * 32 + e.worker]
  else if combTy e.ty then sectCombs img e
  else if e.ty = 7 ∨ e.ty = 0xD then [e.item]
  else []

/-- The directory with its indices. -/
def numbered (l : List Sect) : List (Nat × Sect) := l.mapIdx fun i e => (i, e)

/-- The payload of the section of a type that reaches a unit. -/
def unitPayload (img : List Byte) (dir : List Sect) (ty unit : Nat) : Option (List Byte) :=
  (dir.find? fun e => e.ty == ty && (sectUnits img e).contains unit).map (payload img)

/-! ### Workers (R148, R149, R153, R154) -/

def slotsOf (p : List Byte) : List (BitVec 256) := (List.range (leAt p 2 2)).map fun i => BitVec.ofNat 256 (leAt p (64 + 32 * i) 32)

def wordsAt (p : List Byte) (o k : Nat) : List Word := (List.range k).map fun i => BitVec.ofNat 32 (leAt p (o + 4 * i) 4)

def frameOf (p : List Byte) (t : Nat) : Frame :=
  let b := slice p (128 * t) 128
  { start := fld (leAt b 0 2) 0 9, p := leAt b 2 1 % 16, l := (List.range 4).map fun i => leAt b (4 + 2 * i) 2
    m := wordsAt b 0x10 4, s := wordsAt b 0x20 16, seed := leAt b 0x60 16 }

def limitOf (p : List Byte) (i : Nat) : MonLim :=
  let o := 16 * i
  ⟨leAt p o 1, leAt p (o + 1) 1, leAt p (o + 2) 1, leAt p (o + 4) 4, leAt p (o + 8) 4⟩

def limitsOf (p : List Byte) : List MonLim := (List.range 16).map (limitOf p)

/-- The 16-byte records of a payload that starts at byte `o`. -/
def recs16 (p : List Byte) (o : Nat) : List (List Byte) := (List.range ((p.length - o) / 16)).map fun i => slice p (o + 16 * i) 16

def qbindsOf (p : List Byte) : List (Nat × QTarget) :=
  (recs16 p 0).filterMap fun r =>
    let a := leAt r 8 8
    if leAt r 0 1 = 0 then some (leAt r 1 1, ⟨fld a 47 5, fld a 42 5, fld a 36 6, fld a 4 3, leAt r 4 1⟩) else none

def sbindsOf (p : List Byte) : List (Nat × STarget) :=
  (recs16 p 0).filterMap fun r =>
    let a := leAt r 8 8
    if leAt r 0 1 = 1 then some (leAt r 1 1, ⟨fld a 47 5, fld a 42 5, fld a 4 12⟩) else none

/-! ### Switches (R121, R150) -/

def routeOf (r : List Byte) : Route :=
  let n := leAt r 0 16
  { phase := fld n 124 4, op := fld n 120 4, out := fld n 113 7, ins := (List.range (fld n 110 3 + 1)).map fun k => fld n (8 * k) 7
    count := fld n 94 16 }

def swcfgOf (p : List Byte) : SwCfg :=
  ⟨true, leAt p 0 1 + 1, (List.range 68).map fun i => leAt p (64 + i) 1 % 32, (List.range (leAt p 2 2)).map fun i => routeOf (slice p (192 + 16 * i) 16)⟩

/-! ### Drops and streams (R151, R234, R240) -/

def dropRecOf (r : List Byte) : Option DropRec :=
  let op := leAt r 0 1
  if op = 2 ∨ op = 3 then
    some { rsel := fld (leAt r 1 1) 6 2, lane := fld (leAt r 1 1) 4 2, worker := leAt r 2 1 % 32, start := leAt r 4 3, stop := leAt r 8 3
           cmem := if op = 3 then some (fld (leAt r 12 4) 0 20) else none, taken := 0 }
  else none

def dropTabOf (p : List Byte) : DropTab :=
  let rs := recs16 p 64
  { present := true
    beats := rs.filterMap fun r => if leAt r 0 1 = 1 then some (leAt r 2 1 % 32, 16 * (leAt r 3 1 % 32 + 1)) else none
    recs := rs.filterMap dropRecOf, courseStart := leAt p 0 3, last := leAt p 4 3 }

def runOf (r : List Byte) : Run :=
  let b := leAt r 1 1
  let c := leAt r 2 1
  { first := fld b 4 4, count := fld b 0 4 + 1, rafter := fld c 4 4, lane := fld c 2 2, slot := leAt r 4 3, group := fld (leAt r 8 4) 0 21
    rep := leAt r 12 2 + 1, skip := leAt r 14 2 }

def streamOf (p : List Byte) : StreamProg :=
  { present := true, rate := leAt p 65 1, runs := ((recs16 p 64).drop 1).map runOf, courseStart := leAt p 0 3, last := leAt p 4 3 }

/-! ### Comb tables, trees, presets (R152, R156, R157) -/

def objsOf (cb : Nat) (p : List Byte) : List (Nat × SyncObj) :=
  (recs16 p 0).map fun r => (objKey cb (leAt r 0 2), ⟨leAt r 2 1, leAt r 4 4, 0, leAt r 8 4, []⟩)

/-- The trees of a REDTREE payload: (offset, identifier, nodes, operation), from byte `o` on. -/
def treeHeads (p : List Byte) : Nat → Nat → List (Nat × Nat × Nat × Nat)
  | 0, _ => []
  | k + 1, o => (o, leAt p o 2, leAt p (o + 2) 2, leAt p (o + 4) 1) :: treeHeads p k (o + 16 + 8 * leAt p (o + 2) 2)

/-- The nodes of the trees: comb, phase, output, tree (R156). -/
def treesOf (p : List Byte) : List (Nat × Nat × Nat × Nat) :=
  (treeHeads p (leAt p 0 4) 16).flatMap fun h =>
    (List.range h.2.2.1).map fun i =>
      let o := h.1 + 16 + 8 * i
      (cbOf (leAt p o 1) (leAt p (o + 1) 1), leAt p (o + 2) 1, leAt p (o + 3) 1, h.2.1)

def presetsOf (p : List Byte) : List (List Byte) := (List.range (p.length / 64)).map fun i => slice p (64 * i) 64

/-! ### The thatch that an image holds -/

/-- The parts of an accepted image that the module keeps beside the shadow stores. -/
def thatchOf (img : List Byte) (seq base : Nat) : Thatch :=
  let dir := imgDir img
  { id := leAt img 0x18 8, pred := leAt img 0x20 8, loadSeq := seq, steps := imgSteps img, courseBudget := leAt img 0x40 3
    courseRidgeTo := leAt img 0x44 3, nondet := leAt img 0x0D 1 % 2 == 1, syncObjects := leAt img 0x38 2, dir := dir
    syncInit := (dir.filter fun e => e.ty == 8).flatMap fun e => (sectCombs img e).flatMap fun cb => objsOf cb (payload img e)
    presets := (dir.filter fun e => e.ty == 0xD).map fun e => (e.item, payload img e)
    trees := (dir.filter fun e => e.ty == 0xC).flatMap fun e => treesOf (payload img e), base := base, bytes := img.length }

/-! ### What a section puts into a shadow store (R164) -/

/-- A payload written into a worker's shadow. -/
def shadowWorker (ty : Nat) (p : List Byte) (w : Worker) : Worker :=
  let c := w.sh
  let c := match ty with
    | 1 => { c with present := true, slots := slotsOf p, threads := leAt p 0 1, sumtol := leAt p 1 1 }
    | 2 => { c with frames := (List.range (p.length / 128)).map (frameOf p) }
    | 9 => { c with qb := qbindsOf p, sb := sbindsOf p }
    | _ => { c with limits := limitsOf p }
  { w with sh := c }

/-- A payload written into the shadows of one unit. -/
def shadowWrite (ty unit : Nat) (p : List Byte) (s : State) : State :=
  if workerTy ty then wMod unit (shadowWorker ty p) s
  else match ty with
    | 3 | 4 | 5 => swSet unit (ty - 3) { swGet s unit (ty - 3) with sh := swcfgOf p } s
    | 6 => dropSet unit ((dropGet s unit).1, dropTabOf p) s
    | 7 => chSet unit { chGet s unit with sh := streamOf p } s
    | _ => s

/-- Every shadow store of a context emptied: the configurations of R147. -/
def clearShadows (c : Nat) (s : State) : State :=
  let s := (ctxWorkers s c).foldl (fun s wk => wMod wk (fun w => { w with sh := wcfg0, shReady := false }) s) s
  let s := (ctxCombs s c).foldl (fun s cb =>
    let s := [0, 1, 2].foldl (fun s n => swSet cb n { swGet s cb n with sh := cfg0, shReady := false } s) s
    dropSet cb ((dropGet s cb).1, drop0) s) s
  (match (ctxGet s c).allot with | some a => a.chans | none => []).foldl
    (fun s ch => chSet ch { chGet s ch with sh := prog0, shReady := false } s) s

/-- Every shadow of a context holds its new configuration (R164). -/
def readyShadows (c : Nat) (s : State) : State :=
  let s := (ctxWorkers s c).foldl (fun s wk => wMod wk (fun w => { w with shReady := true }) s) s
  let s := (ctxCombs s c).foldl (fun s cb => [0, 1, 2].foldl (fun s n => swSet cb n { swGet s cb n with shReady := true } s) s) s
  (match (ctxGet s c).allot with | some a => a.chans | none => []).foldl (fun s ch => chSet ch { chGet s ch with shReady := true } s) s

end Sys2Proof.Machine
end

