-- ==== Sys2Proof/Machine/Check.lean ====
section
/-! DEFINITION. The keeper's check of a staged image: every load rule, in the order of the code table (R139 to R162, R192, R236, R242, R275, R479). -/

namespace Sys2Proof.Machine

/-- Why an image is rejected: code, directory index, byte offset in the image (R162; assumption 20 gives the reading of the offset). -/
structure Rej where
  code : Nat
  idx : Nat
  off : Nat
  deriving DecidableEq, Repr

def noIdx : Nat := 0xFFFFFFFF

/-- A rejection by a header field. -/
def rejHdr (code off : Nat) : Option Rej := some ⟨code, noIdx, off⟩

def needHdr (ok : Bool) (code off : Nat) : Option Rej := if ok then none else rejHdr code off

/-- The first rejection of a list of checks. -/
def firstRej : List (Option Rej) → Option Rej
  | [] => none
  | some r :: _ => some r
  | none :: l => firstRej l

/-- The first section of a type that a check refuses; the check names a byte of the payload. -/
def checkSects (img : List Byte) (dir : List Sect) (ty code : Nat) (f : Sect → List Byte → Option Nat) : Option Rej :=
  (numbered dir).findSome? fun e =>
    if e.2.ty = ty then (f e.2 (payload img e.2)).map fun o => ⟨code, e.1, e.2.offset + o⟩ else none

/-! ### Header, directory, signature (R139, R140, R142, R158, R159, R192) -/

def budgetOk (budget ridgeTo : Nat) : Bool := 10000 ≤ budget && 3 * budget ≤ ridgeTo * 256

def stepOk (e : StepEnt) : Bool :=
  budgetOk e.budget e.ridgeTo && 1024 ≤ e.slip && 880 + (e.budget + 9999) / 10000 ≤ e.drift && e.slip + e.drift ≤ e.budget / 2

/-- RANGE to DIRECTORY. `addr` and `len` are the staged range. -/
def checkHead (s : State) (c addr len : Nat) (img : List Byte) : Option Rej :=
  let n := leAt img 0x10 8
  let cnt := leAt img 0x3C 4
  firstRej [
    needHdr (addr % 4096 == 0 && addr + len ≤ aperture s (.ctx c)) 1 noIdx,
    needHdr (n == len && decide (n ≤ 0x100000000) && decide (512 + 64 + 288 ≤ n)) 2 0x10,
    needHdr (leAt img 0 4 == 0x48434854) 3 0, needHdr (leAt img 6 2 == 0x200) 3 6,
    needHdr (leAt img 0x1FC 4 == (crc32c (img.take 0x1FC)).toNat) 4 0x1FC,
    needHdr (leAt img 4 2 == 0x0100) 5 4, needHdr (leAt img 8 4 == 0x5A42) 6 8, needHdr (decide (leAt img 0x0C 1 ≤ 0xB0)) 6 0x0C,
    needHdr (leAt img 0x18 8 != 0) 0x17 0x18,
    needHdr (decide (2 ≤ cnt ∧ cnt ≤ 262144 ∧ 512 + 32 * cnt ≤ n)) 7 0x3C,
    needHdr (leAt img 0x48 4 == (crc32c (slice img 512 (32 * cnt))).toNat) 7 0x48]

/-- SIG_PLACE (R139, R158). -/
def checkSigPlace (img : List Byte) (dir : List Sect) : Option Rej :=
  let li := dir.length - 1
  let e := imgEntry img li
  let p := payload img e
  let signer := leAt p 0 1
  let slot := leAt p 1 1
  let at' (i o : Nat) : Rej := ⟨8, i, o⟩
  if e.ty ≠ 0xE then some (at' li (512 + 32 * li))
  else match (numbered (dir.take li)).find? fun x => x.2.ty == 0xE with
    | some x => some (at' x.1 (512 + 32 * x.1))
    | none =>
      if e.offset % 64 ≠ 0 ∨ e.offset < 512 + 32 * dir.length ∨ e.length ≠ 288 ∨ e.offset + 288 ≠ img.length then some (at' li (512 + 32 * li + 16))
      else if (signer = 1 ∧ slot ≤ 2) ∨ (signer = 2 ∧ slot = 0) then none
      else some (at' li e.offset)

/-- The 64 bytes of a key slot's hash as a number: vendor slots 0 to 2 and owner slots 0 to 2 (R428). -/
def slotHash (s : State) (f : F) (k : Nat) : Nat :=
  ((List.range 8).map fun j => rget s f 0 (8 * k + j) * 2 ^ (64 * j)).foldl (· + ·) 0

/-- The owner key in force: the slot of the current life, fused and not revoked (R159, R428). -/
def ownerInForce (s : State) : Option Nat :=
  let n := rget s .SEC_STATE_LIFE
  if n ≠ 0 ∧ bit (rget s .SEC_STATE_OFUSED) (n - 1) ∧ ¬ bit (rget s .SEC_STATE_OREVOKED) (n - 1) then some (slotHash s .SEC_OKEY_HASH (n - 1)) else none

/-- A vendor slot accepts a key: fused, not revoked, and its hash. -/
def vendorKey (s : State) (slot : Nat) (pub : List Byte) : Bool :=
  bit (rget s .SEC_STATE_VFUSED) slot && !bit (rget s .SEC_STATE_VREVOKED) slot && slotHash s .SEC_VKEY_HASH slot == ofLe (sha512 pub)

/-- A public key that R159 accepts for a thatch. -/
def keyOk (s : State) (signer slot : Nat) (pub : List Byte) : Bool :=
  if signer = 1 then (ownerInForce s).isNone && vendorKey s slot pub
  else match ownerInForce s with
    | some h => h == ofLe (sha512 pub)
    | none => false

/-- SIG_KEY and SIG_BAD (R159). -/
def checkSig (s : State) (img : List Byte) (dir : List Sect) : Option Rej :=
  let li := dir.length - 1
  let e := imgEntry img li
  let p := payload img e
  let pub := slice p 8 133
  if !keyOk s (leAt p 0 1) (leAt p 1 1) pub then some ⟨9, li, e.offset + 8⟩
  else if !ecdsaOk pub (img.take (e.offset + 0x90)) (ofBe (slice p 0x90 66)) (ofBe (slice p 0xD2 66)) then some ⟨0xA, li, e.offset + 0x90⟩
  else none

/-- BOUNDS: the payloads in order, from the end `prev` of the one before (R139). -/
def checkBounds (img : List Byte) : Nat → List (Nat × Sect) → Option Rej
  | _, [] => none
  | prev, (i, e) :: r =>
    if e.length = 0 then some ⟨0xB, i, 512 + 32 * i + 24⟩
    else if e.offset % 64 ≠ 0 ∨ e.offset < prev ∨ img.length < e.offset + e.length then some ⟨0xB, i, 512 + 32 * i + 16⟩
    else match (List.range (e.offset - prev)).find? fun k => img.getD (prev + k) 0 != 0 with
      | some k => some ⟨0xB, i, prev + k⟩
      | none => checkBounds img (e.offset + e.length) r

def checkCrc (img : List Byte) (e : Nat × Sect) : Option Rej :=
  let p := payload img e.2
  let body := if e.2.ty = 0xE then p.take 0x90 else p
  if e.2.crc = (crc32c body).toNat then none else some ⟨0xC, e.1, 512 + 32 * e.1 + 28⟩

/-! ### Targets (R144 to R146) -/

/-- Kinds, `WORKER` values and `ITEM` of a section type (R145). -/
def targetOk (img : List Byte) (dir : List Sect) (e : Sect) : Bool :=
  let low := fld e.target 0 20
  let rect := imgRect img
  let place := match e.kind with
    | 1 => decide (low = low % 32 ||| (low / 256 % 32) * 256) && decide (low % 32 ≤ 27) && decide (low / 256 % 32 ≤ 23) &&
        rect.hasComb (cbOf (low % 32) (low / 256 % 32))
    | 2 => decide (low < dir.length) && (imgEntry img low).ty == 0xB
    | _ => false
  if workerTy e.ty then place && (decide (e.worker ≤ 31) || e.worker == 63)
  else if combTy e.ty then place && e.worker == 62
  else e.kind == 0 && e.worker == 0 && low == 0

def itemOk (img : List Byte) (e : Sect) : Bool :=
  if e.ty = 7 then decide (e.item ≤ 2047) else if e.ty = 0xD then decide (e.item < leAt img 0x2E 1) else e.item == 0

/-- The units of a section as keys with its type (R146). -/
def unitKeys (img : List Byte) (e : Sect) : List Nat :=
  if e.ty = 0xC then [0xC * 2 ^ 20] else (sectUnits img e).map fun u => e.ty * 2 ^ 20 + u

def checkTargets (img : List Byte) (dir : List Sect) : List Nat → List (Nat × Sect) → Option Rej
  | _, [] => none
  | seen, (i, e) :: r =>
    if !targetOk img dir e then some ⟨0xE, i, 512 + 32 * i + 4⟩
    else if !itemOk img e then some ⟨0xE, i, 512 + 32 * i + 8⟩
    else
      let ks := unitKeys img e
      if ks.any fun k => seen.contains k then some ⟨0xE, i, 512 + 32 * i + 4⟩ else checkTargets img dir (ks ++ seen) r

/-! ### Allotment (R162 ALLOT, R236, R239, R242, R247, R254) -/

/-- A context holds a rafter lane in service. -/
def holdsLane (s : State) (c seg rafter lane : Nat) : Bool :=
  laneHolder s seg rafter lane == some c && !bit (rget s .RFT_STAT_FAILED seg rafter) lane

/-- A drop record names a rafter that reaches the comb within the allotment, on a lane that the context holds. -/
def dropLaneOk (s : State) (c cb : Nat) (r : DropRec) : Bool :=
  let f := rafterOf cb r.rsel
  holdsLane s c f.1 f.2.1 r.lane

def checkAllot (s : State) (c : Nat) (img : List Byte) (dir : List Sect) : Option Rej :=
  match (ctxGet s c).allot with
  | none => rejHdr 0xF 0x28
  | some a =>
    let r := imgRect img
    let v := View.ctx c
    firstRej [
      needHdr (ctxGet s c).cfgWritten 0xF noIdx,
      needHdr (r.col0 == a.col0 && r.col1 == a.col1 && r.row0 == a.row0 && r.row1 == a.row1) 0xF 0x28,
      needHdr (decide (1 ≤ leAt img 0x2C 2) && decide (leAt img 0x2C 2 ≤ (viewChans s v).length)) 0xF 0x2C,
      needHdr (decide (leAt img 0x2E 1 ≤ a.dma.length)) 0xF 0x2E, needHdr (decide (leAt img 0x30 8 ≤ aperture s v)) 0xF 0x30,
      needHdr (decide (leAt img 0x38 2 ≤ a.sync)) 0xF 0x38,
      (numbered dir).findSome? fun e =>
        let p := payload img e.2
        if e.2.ty = 7 ∧ ((streamOf p).runs.any fun q => !holdsLane s c (e.2.item / 256) q.rafter q.lane) then some ⟨0xF, e.1, e.2.offset + 64⟩
        else if e.2.ty = 6 ∧ ((sectCombs img e.2).any fun cb => (dropTabOf p).recs.any fun q => !dropLaneOk s c cb q) then
          some ⟨0xF, e.1, e.2.offset + 64⟩
        else none]

/-! ### Steps (R140 to R142) -/

def checkSteps (img : List Byte) : Option Rej :=
  let n := leAt img 0x0E 1
  let cb := leAt img 0x40 3
  let cr := leAt img 0x44 3
  firstRej [
    needHdr (decide (1 ≤ n ∧ n ≤ 8)) 0x10 0x0E,
    (List.range n).findSome? fun i => needHdr (stepOk (imgStep img i)) 0x10 (0x50 + 16 * i),
    ((List.range 128).find? fun k => decide (16 * n ≤ k) && img.getD (0x50 + k) 0 != 0).bind fun k => rejHdr 0x10 (0x50 + k),
    if leAt img 0x20 8 = 0 then (if cb ≠ 0 then rejHdr 0x10 0x40 else if cr ≠ 0 then rejHdr 0x10 0x44 else none)
    else needHdr (budgetOk cb cr) 0x10 0x40]

/-! ### Slots (R45, R67, R82, R92, R103, R110, R148) -/

/-- A reserved field or encoding of a slot. -/
def slotReserved (sl : Slot) : Bool :=
  sl.pcond == 3 || decide (6 ≤ sl.next) || decide (5 ≤ sl.mop) || decide (0xC ≤ sl.afmt) || decide (0xC ≤ sl.bfmt) || decide (0xC ≤ sl.ofmt) ||
  decide (3 ≤ sl.asrc) || sl.mround == 3 || decide (3 ≤ sl.mdst) || sl.mres != 0 ||
  !(decide (sl.vop ≤ 9) || (decide (0x10 ≤ sl.vop) && decide (sl.vop ≤ 0x1A)) || (decide (0x20 ≤ sl.vop) && decide (sl.vop ≤ 0x25)) || sl.vop == 0x28 ||
    (decide (0x30 ≤ sl.vop) && decide (sl.vop ≤ 0x35)) || sl.vop == 0x38) ||
  sl.vdst == 7 || decide (5 ≤ sl.msel) || sl.vround == 3 || decide (8 ≤ sl.sfn) || sl.vres0 != 0 || sl.vres1 != 0 ||
  !(decide (sl.sop ≤ 0xB) || (decide (0x10 ≤ sl.sop) && decide (sl.sop ≤ 0x15)) || sl.sop == 0x18 || (decide (0x20 ≤ sl.sop) && decide (sl.sop ≤ 0x23)) ||
    sl.sop == 0x28 || sl.sop == 0x29) ||
  sl.sin == 3 || sl.sres != 0 || decide (0xA ≤ sl.memop) || sl.memres != 0 || sl.steer == 7 || sl.stout == 3 || decide (5 ≤ sl.token) || sl.stres != 0 ||
  (sl.syncf == 1 && (decide (6 ≤ sl.yop) || sl.yres != 0))

/-- Local-store accesses of a slot. -/
def slotAccesses (sl : Slot) : Nat :=
  b2n ((sl.mop == 1 || sl.mop == 2) && sl.asrc == 0) + b2n (sl.mop == 3 && sl.mdst == 2) + b2n (vReadsA sl.vop && sl.vsrca == 6) +
    b2n (vReadsB sl.vop && sl.vsrcb == 6) + b2n (sl.vop != 0 && sl.vdst == 6) + b2n (sl.memop != 0)

/-- The scalar operation writes s[DST], or reads a. -/
def sWrites (sl : Slot) : Bool := sl.sop != 0 && !(decide (0x10 ≤ sl.sop) && decide (sl.sop ≤ 0x15)) && sl.sop != 0x28
def sReadsA (sl : Slot) : Bool := sl.sop != 0 && sl.sop != 0x29 && !(sl.sop == 0x18 && sl.imm == 1)

/-- The scalar registers that a slot writes. -/
def slotWrites (sl : Slot) : List Nat :=
  (if sWrites sl then [sl.sdst] else []) ++ (if sl.memop = 3 then [sl.reg] else []) ++ (if sl.memop ≠ 0 ∧ sl.post = 1 then [sl.mareg] else []) ++
    (if syncOp sl = 5 then (List.range 4).map fun i => (sl.yreg + i) % 16 else [])

/-- Every input port that the slot reads as an operand is named in `NEED`. -/
def slotPortsOk (sl : Slot) : Bool :=
  let v (reads : Bool) (src : Nat) : Bool := !(reads && (src == 4 || src == 5)) || needs sl (src - 4)
  v (vReadsA sl.vop) sl.vsrca && v (vReadsB sl.vop) sl.vsrcb && v (vReadsC sl.vop) sl.vsrcc &&
    (!((sl.mop == 1 || sl.mop == 2) && sl.asrc != 0) || needs sl (sl.asrc - 1)) && (!(sReadsA sl && sl.sin != 0) || needs sl (1 + sl.sin))

/-- The format codes of a slot's operations are accepted. -/
def slotFormatsOk (sl : Slot) : Bool :=
  (!(sl.mop == 1 || sl.mop == 2) || pairOk sl.bfmt sl.afmt) && (!(sl.mop == 3) || decide (sl.ofmt ≤ 5) || sl.ofmt == 0xB) &&
    (!(decide (0x10 ≤ sl.vop) && decide (sl.vop ≤ 0x1A)) || sl.vfmt == 1) && (!(sl.vop == 0x28) || sl.vfmt == 0) &&
    (!(sl.vop == 0x38) || (sl.vfmt == 0 && sl.msel == 0 && cvtOk (sl.ctrl % 16) (sl.ctrl / 16)))

/-- A slot keeps every rule of R45 that concerns it alone. `IMM` = 1 with `SYNCF` = 1 is refused where the scalar group has an operation, since with `SOP` = 0
there is no immediate (assumption 109). -/
def slotOk (sl : Slot) : Bool :=
  !slotReserved sl && decide (slotAccesses sl ≤ 4) && ((List.range 6).all fun i => !(needs sl i && steerUses sl i)) && slotPortsOk sl &&
    (!(syncOp sl == 5) || (needsMQ sl && sl.qsel == sl.ybind)) && decide (slotWrites sl).Nodup && !(sl.steer == 6 && sl.token != 0) &&
    !(sl.vop == 0x35 && sl.msel == 0) && !(decide (0x20 ≤ sl.vop) && decide (sl.vop ≤ 0x25) && decide (3 < sl.vdst)) &&
    !(sl.steer == 2 && (decide (2 ≤ sl.sia) || sl.stout == 2)) && !(sl.sop != 0 && sl.imm == 1 && sl.syncf == 1) && slotFormatsOk sl

/-- A slot keeps the rules that concern its program and its image: next-slot control (R148), objects, bindings, MERGE. -/
def slotFits (n k objects : Nat) (nondet : Bool) (qb sb : List Nat) (sl : Slot) : Bool :=
  !(decide (1 ≤ sl.next) && decide (sl.next ≤ 5) && decide (n ≤ sl.target)) &&
    !(k + 1 == n && (sl.next == 0 || sl.next == 2 || sl.next == 3 || sl.next == 4)) &&
    !((syncOp sl == 1 || syncOp sl == 2) && decide (objects ≤ sl.yobj)) && !(sl.steer == 3 && !nondet) &&
    !(syncOp sl == 3 && !sb.contains sl.ybind) && !(syncOp sl == 4 && !qb.contains sl.ybind)

/-- The bindings that every worker of a section has: queue and sync. -/
def bindsOf (img : List Byte) (dir : List Sect) (wk : Nat) : List Nat × List Nat :=
  match unitPayload img dir 9 wk with
  | some p => ((qbindsOf p).map (·.1), (sbindsOf p).map (·.1))
  | none => ([], [])

/-- An address of a comb of the image's rectangle, aligned to the base of a queue or an object; and one that is an object's base address (R153). -/
def inRectAddr (img : List Byte) (a : Nat) : Bool :=
  decide (fld a 47 5 ≤ 27) && decide (fld a 42 5 ≤ 23) && (imgRect img).hasComb (cbOf (fld a 47 5) (fld a 42 5)) && fld a 52 8 == 0 && a % 16 == 0
def syncTarget (img : List Byte) (a : Nat) : Bool := inRectAddr img a && fld a 60 4 == 4 && fld a 36 6 == 63 && decide (fld a 0 36 < 0x10000)

def checkSlots (img : List Byte) (dir : List Sect) : Option Rej :=
  let objects := leAt img 0x38 2
  let nondet := leAt img 0x0D 1 % 2 == 1
  firstRej [
    checkSects img dir 1 0x11 fun e p =>
      let n := leAt p 2 2
      if 127 < leAt p 0 1 then some 0
      else if leAt p 1 1 < 8 ∨ 24 < leAt p 1 1 then some 1
      else if n = 0 ∨ 512 < n ∨ p.length ≠ 64 + 32 * n then some 2
      else
        let bs := ((sectUnits img e).map (bindsOf img dir)).eraseDups
        ((List.range n).find? fun k =>
          let sl := slotOf (BitVec.ofNat 256 (leAt p (64 + 32 * k) 32))
          !slotOk sl || bs.any fun b => !slotFits n k objects nondet b.1 b.2 sl).map fun k => 64 + 32 * k,
    checkSects img dir 2 0x11 fun e p =>
      (List.range (p.length / 128)).findSome? fun t =>
        if (sectUnits img e).any fun wk => match unitPayload img dir 1 wk with
          | some q => decide (leAt q 2 2 ≤ (frameOf p t).start)
          | none => false then some (128 * t) else none,
    checkSects img dir 9 0x11 fun _ p =>
      ((List.range (p.length / 16)).find? fun i =>
        let r := slice p (16 * i) 16
        leAt r 0 1 == 1 && syncTarget img (leAt r 8 8) && decide (objects ≤ fld (leAt r 8 8) 4 12)).map fun i => 16 * i + 8]

/-! ### Switches (R124, R150) -/

/-- An index that R113 gives on a network: input or output. -/
def inIx (net i : Nat) : Bool := if net = 0 then decide (i ≤ 67) else if net = 1 then decide (i ≤ 35) else decide (i ≤ 36)
def outIx (i : Nat) : Bool := decide (i ≤ 67)

def routeOk (rect : Allot) (cb net phases : Nat) (b : List Byte) : Bool :=
  let n := leAt b 0 16
  let r := routeOf b
  fld n 64 30 == 0 && ((List.range 8).all fun k => !bit n (8 * k + 7) && (decide (k < r.ins.length) || fld n (8 * k) 7 == 0)) &&
    decide (1 ≤ r.op ∧ r.op ≤ 3) && decide (r.phase < phases) && outIx r.out && r.ins.all (inIx net) && decide r.ins.Nodup &&
    (if r.op = 1 then r.ins.length == 1 else decide (2 ≤ r.ins.length) && net == 0) && (r.count != 0 || r.phase + 1 == phases) &&
    (decide (4 ≤ r.out) || match neighbour cb r.out with | some nb => rect.hasComb nb.1 | none => false)

def switchOk (img : List Byte) (e : Sect) (p : List Byte) : Option Nat :=
  let net := e.ty - 3
  let n := leAt p 2 2
  let phases := leAt p 0 1 + 1
  if leAt p 1 1 ≠ 0 ∨ leAt p 4 60 ≠ 0 ∨ 16 < phases then some 0
  else if n = 0 ∨ 1024 < n ∨ p.length ≠ 192 + 16 * n then some 2
  else match (List.range 128).find? fun i => decide (if inIx net i then 32 ≤ leAt p (64 + i) 1 else leAt p (64 + i) 1 ≠ 0) with
    | some i => some (64 + i)
    | none =>
      let rs := (swcfgOf p).routes
      match (List.range n).find? fun k => (sectCombs img e).any fun cb => !routeOk (imgRect img) cb net phases (slice p (192 + 16 * k) 16) with
      | some k => some (192 + 16 * k)
      | none => match (List.range n).find? fun k => match rs[k]? with
          | some r =>
            let q := (rs.take k).filter fun x => x.phase == r.phase
            (q.any fun x => x.out == r.out) || (r.op != 1 && decide (4 ≤ (q.filter fun x => x.op != 1).length))
          | none => false with
        | some k => some (192 + 16 * k)
        | none => if (List.range phases).all fun f => rs.any fun r => r.phase == f then none else some 0

/-- The link edges of a switch section: from the link into a comb to the link out of it, along a route. A link is (network, comb, side it
enters from). -/
def linkEdges (img : List Byte) (e : Sect) : List (Nat × Nat) :=
  if 3 ≤ e.ty ∧ e.ty ≤ 5 then
    (sectCombs img e).flatMap fun cb => (swcfgOf (payload img e)).routes.flatMap fun r =>
      match (if r.out < 4 then neighbour cb r.out else none) with
      | some nb => (r.ins.filter fun i => decide (i < 4)).map fun i =>
          (((e.ty - 3) * 672 + cb) * 4 + i, ((e.ty - 3) * 672 + nb.1) * 4 + nb.2)
      | none => []
  else []

/-- Removes, round by round, the edges whose end leads nowhere or whose start is never reached; what stays lies between cycles (R150). -/
def pruneEdges : Nat → List (Nat × Nat) → List (Nat × Nat)
  | 0, l => l
  | k + 1, l => pruneEdges k (l.filter fun e => (l.any fun x => x.1 == e.2) && l.any fun x => x.2 == e.1)

/-- A cycle of links is reported at the first section with a route on it. -/
def checkSwitches (img : List Byte) (dir : List Sect) : Option Rej :=
  let es := dir.flatMap (linkEdges img)
  let ring := pruneEdges es.length es
  firstRej [
    (numbered dir).findSome? fun e => if 3 ≤ e.2.ty ∧ e.2.ty ≤ 5 then
      (switchOk img e.2 (payload img e.2)).map fun o => ⟨0x12, e.1, e.2.offset + o⟩ else none,
    if ring.isEmpty then none
    else (numbered dir).findSome? fun e => if (linkEdges img e.2).any ring.contains then some ⟨0x12, e.1, e.2.offset⟩ else none]

/-! ### Contents (R149 to R157, R236, R242, R275, R280, R303) -/

def frameLenOk (img : List Byte) (dir : List Sect) (e : Sect) (p : List Byte) : Bool :=
  (sectUnits img e).all fun wk => match unitPayload img dir 1 wk with
    | some q => p.length == 128 * (leAt q 0 1 + 1)
    | none => false

/-- The preamble of a RAFTER or EAVE payload (R151). -/
def preambleOk (img : List Byte) (p : List Byte) : Bool :=
  p.length == 64 + 16 * leAt p 8 4 && (imgSteps img).all (fun t => decide (leAt p 4 3 < t.budget)) && (leAt img 0x20 8 != 0 || leAt p 0 3 == 0)

/-- A block of a stream program: first read cycle, injection cycle, rafter, lane, group. -/
structure SBlk where
  start : Nat
  inject : Nat
  rafter : Nat
  lane : Nat
  group : Nat
  deriving DecidableEq, Repr

def usableSlot (u : Nat) : Nat := u + u / 15

/-- The usable indices that a run takes. -/
def runSlots (r : Run) : List Nat :=
  (List.range r.rep).flatMap fun k => (List.range (2 * r.count + 1)).map fun i => usableIx r.slot + k * (2 * r.count + 1 + r.skip) + i

def runBlocks (rate ch : Nat) (r : Run) : List SBlk :=
  (List.range r.rep).flatMap fun k => (List.range r.count).map fun i =>
    let u := usableIx r.slot + k * (2 * r.count + 1 + r.skip) + 2 * i + 1
    ⟨slotCycle rate ch (usableSlot u), slotCycle rate ch (usableSlot (u + 1)) + 160, r.rafter, r.lane, r.group + k⟩

/-- The reads of a run: cycle and bank of each slot (R227, R233). -/
def runReads (rate ch : Nat) (r : Run) : List (Nat × Nat) :=
  (List.range r.rep).flatMap fun k => (List.range (2 * r.count + 1)).map fun i =>
    (slotCycle rate ch (usableSlot (usableIx r.slot + k * (2 * r.count + 1 + r.skip) + i)), (r.group + k) % 16)

def risingRuns : List Run → Bool
  | a :: b :: r => decide (a.slot < b.slot) && risingRuns (b :: r)
  | _ => true

def eaveOk (s : State) (c : Nat) (img : List Byte) (e : Sect) (p : List Byte) : Bool :=
  let q := streamOf p
  let ch := e.item
  let bs := q.runs.flatMap (runBlocks q.rate ch)
  let rd := q.runs.flatMap (runReads q.rate ch)
  preambleOk img p && leAt p 64 1 == 1 && (((recs16 p 64).drop 1).all fun r => leAt r 0 1 == 2) && q.rate == rget s .EAV_SEG_RATE (ch / 256) &&
    (q.runs.all fun r => r.slot % 16 != 15 && decide (r.first + r.count ≤ 16) && decide (r.group + r.rep - 1 ≤ 2031551) &&
      decide (r.rafter < if [2, 3, 6, 7].contains (ch / 256) then 12 else 14)) &&
    risingRuns q.runs && decide (q.runs.flatMap runSlots).Nodup &&
    (bs.all fun b => decide ((bs.filter fun x => x.start ≤ b.start && b.start < x.inject).length ≤ 32) && decide (b.inject ≤ q.last)) &&
    (rd.all fun r => decide (((rd.filter fun x => r.1 ≤ x.1 && x.1 < r.1 + 320).map (·.2)).eraseDups.length ≤ 12)) &&
    (match (ctxGet s c).allot with | some a => a.chans.contains ch | none => false)

/-- No two blocks of one segment claim one lane of one rafter in one cycle (R236). -/
def lanesOk (img : List Byte) (dir : List Sect) (seg : Nat) : Bool :=
  let es := dir.filter fun e => e.ty == 7 && e.item / 256 == seg
  decide ((es.flatMap fun e => let q := streamOf (payload img e)
    q.runs.flatMap fun r => (runBlocks q.rate e.item r).map fun b => (b.rafter * 4 + b.lane, b.inject)).Nodup)

/-- The blocks that a record of a comb's drop takes from the image's stream programs (R238, R242). -/
def recTakes (img : List Byte) (dir : List Sect) (cb : Nat) (r : DropRec) : Nat :=
  let f := rafterOf cb r.rsel
  ((dir.filter fun e => e.ty == 7 && e.item / 256 == f.1).map fun e =>
    let q := streamOf (payload img e)
    ((q.runs.flatMap (runBlocks q.rate e.item)).filter fun b => b.rafter == f.2.1 && b.lane == r.lane &&
      decide (r.start ≤ arrivalAt b.inject f.2.2) && decide (arrivalAt b.inject f.2.2 ≤ r.stop)).length).foldl (· + ·) 0

def clashes (a b : DropRec) : Bool := a.rsel == b.rsel && a.lane == b.lane && decide (a.start ≤ b.stop) && decide (b.start ≤ a.stop)

def pairwiseOk : List DropRec → Bool
  | [] => true
  | a :: r => !(r.any (clashes a)) && pairwiseOk r

def rafterOk (img : List Byte) (dir : List Sect) (e : Sect) (p : List Byte) : Bool :=
  let d := dropTabOf p
  let named := d.beats.map (·.1) ++ (d.recs.filter fun r => r.cmem.isNone).map fun r => r.worker
  preambleOk img p && ((recs16 p 64).all fun r => decide (1 ≤ leAt r 0 1 ∧ leAt r 0 1 ≤ 3)) && pairwiseOk d.recs &&
    (d.recs.all fun r => decide (r.start ≤ r.stop ∧ r.stop ≤ d.last)) && decide (d.beats.map (·.1)).Nodup &&
    ((sectCombs img e).all fun cb => (named.all fun w => (unitPayload img dir 1 (cb * 32 + w)).isSome) &&
      d.recs.all fun r => match r.cmem with
        | some b => decide (b + recTakes img dir cb r ≤ 786432)
        | none => true)

def objOk (objects : Nat) (r : List Byte) : Bool :=
  let init := leAt r 4 4
  let par := leAt r 8 4
  decide (leAt r 0 2 < objects) &&
    match leAt r 2 1 with
    | 0 | 1 => par == 0
    | 2 => decide (1 ≤ par ∧ par ≤ 65535 ∧ init < par)
    | 3 => par == 0 && decide (init ≤ 1)
    | _ => false

/-- A binding record (R153): its kind, number, credits and target. -/
def bindOk (img : List Byte) (r : List Byte) : Bool :=
  let a := leAt r 8 8
  decide (leAt r 1 1 ≤ 7) &&
    match leAt r 0 1 with
    | 0 => decide (1 ≤ leAt r 4 1 ∧ leAt r 4 1 ≤ 16) && inRectAddr img a && fld a 60 4 == 5 && decide (fld a 36 6 ≤ 31) && decide (fld a 0 36 < 0x80)
    | 1 => leAt r 4 1 == 0 && syncTarget img a
    | _ => false

/-- The queues and credits that the first `n` records of a QBIND section give, once per worker (R275). -/
def creditUses (img : List Byte) (e : Sect) (n : Nat) : List (Nat × Nat) :=
  (sectUnits img e).flatMap fun _ => (qbindsOf ((payload img e).take (16 * n))).map fun b => (quAddr b.2.x b.2.y b.2.w b.2.q, b.2.max)

/-- No queue has more than 16 credits in all (R275). -/
def creditsOk (all : List (Nat × Nat)) : Bool :=
  all.all fun q => decide (((all.filter fun x => x.1 == q.1).map (·.2)).foldl (· + ·) 0 ≤ 16)

/-- Record `i` repeats the key of an earlier record of its payload. -/
def repeats {α : Type} [BEq α] (key : List Byte → α) (p : List Byte) (i : Nat) : Bool :=
  ((recs16 p 0).take i).any fun r => key r == key (slice p (16 * i) 16)

def limitOk (p : List Byte) (i : Nat) : Bool :=
  let m := limitOf p i
  if m.flags < 128 then leAt p (16 * i) 16 == 0
  else if m.fmt = 3 then decide (sext 32 m.lower ≤ sext 32 m.upper)
  else
    let lo := decodeF fp32 m.lower
    let up := decodeF fp32 m.upper
    decide (m.fmt ≤ 2) && !fvIsNan lo && !fvIsNan up && decide (fvCmp lo up ≤ 0)

/-- A STAMP payload: the byte that breaks R154. -/
def stampBad (img : List Byte) (p : List Byte) : Option Nat :=
  let n := leAt p 0 2
  if n < 1 ∨ 672 < n ∨ p.length ≠ 16 + 8 * n then some 0
  else ((List.range n).find? fun k =>
      let f (i : Nat) : Nat := leAt p (16 + 8 * k + i) 1
      !(decide (f 0 ≤ f 1 ∧ f 2 ≤ f 3 ∧ f 4 ≠ 0 ∧ f 5 ≠ 0) &&
        ((List.range 28).all fun x => (List.range 24).all fun y =>
          !(decide (f 0 ≤ x ∧ x ≤ f 1 ∧ f 2 ≤ y ∧ y ≤ f 3) && (x - f 0) % f 4 == 0 && (y - f 2) % f 5 == 0) || (imgRect img).hasComb (cbOf x y)) &&
        decide (f 0 + (f 1 - f 0) / f 4 * f 4 ≤ 27 ∧ f 2 + (f 3 - f 2) / f 5 * f 5 ≤ 23))).map fun k => 16 + 8 * k

/-- A node of a tree names a reduce route with the tree's operation (R156). -/
def nodeOk (img : List Byte) (dir : List Sect) (p : List Byte) (op o : Nat) : Bool :=
  decide (leAt p o 1 ≤ 27 ∧ leAt p (o + 1) 1 ≤ 23) &&
    match unitPayload img dir 3 (cbOf (leAt p o 1) (leAt p (o + 1) 1)) with
    | some q => (swcfgOf q).routes.any fun r => r.phase == leAt p (o + 2) 1 && r.out == leAt p (o + 3) 1 && r.op == op
    | none => false

/-- A REDTREE payload: the byte that breaks R156. The trees fill their payload. -/
def treesBad (img : List Byte) (dir : List Sect) (p : List Byte) : Option Nat :=
  let hs := treeHeads p (leAt p 0 4) 16
  let stop := match hs.getLast? with | some h => h.1 + 16 + 8 * h.2.2.1 | none => 16
  if p.length ≠ stop then some 0
  else hs.findSome? fun h =>
    if h.2.2.2 ≠ 2 ∧ h.2.2.2 ≠ 3 then some h.1
    else ((List.range h.2.2.1).find? fun i => !nodeOk img dir p h.2.2.2 (h.1 + 16 + 8 * i)).map fun i => h.1 + 16 + 8 * i

def checkContent (s : State) (c : Nat) (img : List Byte) (dir : List Sect) : Option Rej :=
  let objects := leAt img 0x38 2
  let bad (b : Bool) : Option Nat := if b then none else some 0
  let one (e : Nat × Sect) : Option Nat :=
    let p := payload img e.2
    match e.2.ty with
    | 2 => bad (frameLenOk img dir e.2 p)
    | 6 => bad (rafterOk img dir e.2 p)
    | 7 => bad (eaveOk s c img e.2 p && lanesOk img dir (e.2.item / 256))
    | 8 =>
      if p.length % 16 ≠ 0 then some 0
      else ((List.range (p.length / 16)).find? fun i =>
        !objOk objects (slice p (16 * i) 16) || repeats (fun r => leAt r 0 2) p i).map fun i => 16 * i
    | 9 =>
      if p.length % 16 ≠ 0 then some 0
      else
        let before := ((dir.take e.1).filter fun x => x.ty == 9).flatMap fun x => creditUses img x (x.length / 16)
        ((List.range (p.length / 16)).find? fun i => !bindOk img (slice p (16 * i) 16) || repeats (fun r => (leAt r 0 1, leAt r 1 1)) p i ||
          !creditsOk (before ++ creditUses img e.2 (i + 1))).map fun i => 16 * i
    | 0xA => if p.length ≠ 256 then some 0 else ((List.range 16).find? fun i => !limitOk p i).map fun i => 16 * i
    | 0xB => stampBad img p
    | 0xC => treesBad img dir p
    | 0xD => bad (p.length % 64 == 0 && decide (p.length ≤ 4096))
    | _ => none
  (numbered dir).findSome? fun e => (one e).map fun o => ⟨0x13, e.1, e.2.offset + o⟩

/-! ### Reserved fields (R479) -/

/-- The reserved bits of a layout: byte offset and mask. -/
def bytesFrom (o k : Nat) : List (Nat × Nat) := (List.range k).map fun i => (o + i, 0xFF)

def hdrReserved (n : Nat) : List (Nat × Nat) :=
  (0x0D, 0xFE) :: (0x0F, 0xFF) :: (0x2F, 0xFF) :: bytesFrom 0x3A 2 ++ [(0x43, 0xFF), (0x47, 0xFF)] ++ bytesFrom 0x4C 4 ++
    ((List.range n).flatMap fun i => (List.range 4).map fun k => (0x50 + 16 * i + 4 * k + 3, 0xFF)) ++ bytesFrom 0xD0 300

def entryReserved : List (Nat × Nat) := bytesFrom 2 2 ++ [(6, 0xF0)] ++ bytesFrom 0x0C 4

def each (k n base : Nat) (l : List (Nat × Nat)) : List (Nat × Nat) := (List.range n).flatMap fun i => l.map fun e => (base + k * i + e.1, e.2)

def runReserved (op : Nat) : List (Nat × Nat) :=
  if op = 1 then bytesFrom 2 14 else [(2, 3), (3, 0xFF), (7, 0xFF), (10, 0xE0), (11, 0xFF)]

def dropReserved (op : Nat) : List (Nat × Nat) :=
  match op with
  | 1 => [(1, 0xFF), (2, 0xE0), (3, 0xE0)] ++ bytesFrom 4 12
  | 2 => [(1, 0x0F), (2, 0xE0), (3, 0xFF), (7, 0xFF), (11, 0xFF)] ++ bytesFrom 12 4
  | _ => [(1, 0x0F), (2, 0xFF), (3, 0xFF), (7, 0xFF), (11, 0xFF), (14, 0xF0), (15, 0xFF)]

def sectReserved (ty : Nat) (p : List Byte) : List (Nat × Nat) :=
  let n := p.length
  match ty with
  | 1 => bytesFrom 4 60
  | 2 => each 128 (n / 128) 0 ([(1, 0xFE), (2, 0xF0), (3, 0xFF)] ++ bytesFrom 0x0C 4 ++ bytesFrom 0x70 16)
  | 6 => [(3, 0xFF), (7, 0xFF)] ++ bytesFrom 12 52 ++
      (List.range ((n - 64) / 16)).flatMap fun i => (dropReserved (leAt p (64 + 16 * i) 1)).map fun e => (64 + 16 * i + e.1, e.2)
  | 7 => [(3, 0xFF), (7, 0xFF)] ++ bytesFrom 12 52 ++
      (List.range ((n - 64) / 16)).flatMap fun i => (runReserved (leAt p (64 + 16 * i) 1)).map fun e => (64 + 16 * i + e.1, e.2)
  | 8 => each 16 (n / 16) 0 ((3, 0xFF) :: bytesFrom 12 4)
  | 9 => each 16 (n / 16) 0 (bytesFrom 2 2 ++ bytesFrom 5 3)
  | 0xA => each 16 16 0 ((1, 0x7C) :: (3, 0xFF) :: bytesFrom 12 4)
  | 0xB => bytesFrom 2 14 ++ each 8 (leAt p 0 2) 16 (bytesFrom 6 2)
  | 0xC => bytesFrom 4 12 ++ (treeHeads p (leAt p 0 4) 16).flatMap fun h =>
      bytesFrom (h.1 + 5) 11 ++ each 8 h.2.2.1 (h.1 + 16) (bytesFrom 5 3)
  | 0xE => bytesFrom 2 6 ++ bytesFrom 0x8D 3 ++ bytesFrom 0x114 12
  | _ => []

def maskHit (img : List Byte) (base : Nat) (l : List (Nat × Nat)) : Option Nat :=
  (l.find? fun e => (img.getD (base + e.1) 0).toNat &&& e.2 != 0).map fun e => base + e.1

def checkReserved (img : List Byte) (dir : List Sect) : Option Rej :=
  firstRej [
    (maskHit img 0 (hdrReserved (leAt img 0x0E 1))).bind fun o => rejHdr 0x16 o,
    (numbered dir).findSome? fun e => (maskHit img (512 + 32 * e.1) entryReserved).map fun o => ⟨0x16, e.1, o⟩,
    (numbered dir).findSome? fun e => (maskHit img e.2.offset (sectReserved e.2.ty (payload img e.2))).map fun o => ⟨0x16, e.1, o⟩]

/-- The first failing code of an image staged at `addr` for a context, in the order of R162; none accepts it. -/
def checkImage (s : State) (c addr len : Nat) (img : List Byte) : Option Rej :=
  match checkHead s c addr len img with
  | some r => some r
  | none =>
    let dir := imgDir img
    let ns := numbered dir
    firstRej [
      checkSigPlace img dir, checkSig s img dir, checkBounds img (512 + 32 * dir.length) ns, ns.findSome? (checkCrc img),
      ns.findSome? fun e => if 1 ≤ e.2.ty ∧ e.2.ty ≤ 0xE then none else some ⟨0xD, e.1, 512 + 32 * e.1⟩,
      checkTargets img dir [] ns, checkAllot s c img dir, checkSteps img, checkSlots img dir, checkSwitches img dir, checkContent s c img dir,
      checkReserved img dir]

end Sys2Proof.Machine
end

