-- ==== Sys2Proof/Machine/Ports.lean ====
section
/-! DEFINITION. Fabric ports: routing, blocks, port flows, re-send and link state (R356 to R382). -/

namespace Sys2Proof.Machine

def port0 : PortSt :=
  { txSeq := 0, rxSeq := 0, retry := [], waiting := [], early := [], lastCls := 0, lastOut := [], used := [], returned := [], taken := [], discard := false, fails := 0
    resends := (0, 0), ctl := [], inFlows := [], outFlows := [], trainFails := 0, peerPort := 0, stall := [] }

def portGet (s : State) (p : Nat) : PortSt := tget port0 s.ports p

def portSet (p : Nat) (x : PortSt) (s : State) : State := { s with ports := tset s.ports p x }

def portMod (p : Nat) (f : PortSt → PortSt) (s : State) : State := portSet p (f (portGet s p)) s

/-- The segment of a port, and the port of a segment (R356). -/
def portSeg (p : Nat) : Nat := [2, 7, 0, 5, 3, 6].getD p 0
def segPort (seg : Nat) : Option Nat := (List.range 6).find? fun p => portSeg p == seg

/-- The endpoint of a port's egress and ingress (R255). -/
def portEp (p : Nat) : Nat := 31 <<< 11 ||| portSeg p <<< 6 ||| 34

/-- The mirroring engine's endpoint (R255). -/
def mirrorEp : Nat := 31 <<< 11 ||| 3 <<< 6 ||| 33

/-- The keeper's endpoint (R255). -/
def keeperEp : Nat := 31 <<< 11 ||| 31 <<< 6 ||| 63

/-- The module's identifier (R370). -/
def moduleId (s : State) : Nat := 256 * rget s .PRT_TOPO_P + 16 * rget s .PRT_TOPO_Y + rget s .PRT_TOPO_X

/-- A port that carries its classes: UP or DEGRADED, a TWIN too (R379; assumption 132), with the topology set and the peer's IDENT there (R365, R369). -/
def portLive (s : State) (p : Nat) : Bool :=
  (rget s .PRT_STATUS_STATE p == 2 || rget s .PRT_STATUS_STATE p == 3) && rget s .PRT_TOPO_VALID == 1 && rget s .PRT_STATUS_PEER_VALID p == 1

/-- The egress port for a destination identifier; none is unroutable (R371). -/
def routeTo (s : State) (d : Nat) : Option Nat :=
  let nx := rget s .PRT_TOPO_NX1 + 1
  let ny := rget s .PRT_TOPO_NY1 + 1
  let dx := (d % 16 + nx - rget s .PRT_TOPO_X % nx) % nx
  let dy := (d / 16 % 16 + ny - rget s .PRT_TOPO_Y % ny) % ny
  if rget s .PRT_TOPO_VALID = 0 then none
  else if 512 ≤ d then (if rget s .PRT_STATUS_PEER_VALID 5 = 1 ∧ rget s .PRT_STATUS_PEER 5 = d then some 5 else none)
  else if d / 256 ≠ rget s .PRT_TOPO_P ∨ nx ≤ d % 16 ∨ ny ≤ d / 16 % 16 then none
  else if dx ≠ 0 then some (if dx ≤ nx - dx then 0 else 1)
  else if dy ≠ 0 then some (if dy ≤ ny - dy then 2 else 3)
  else none

/-- A fault record of a port (R383). -/
def portRec (s : State) (p cls detail addr : Nat) (c : Option Nat) : FaultRec :=
  withCtx s c { cls := cls, outcome := 2, lsite := 63 <<< 16, psite := psiteS (portSeg p), detail := p ||| detail, addr := addr }

def portRaise (p cls detail addr : Nat) (c : Option Nat) (s : State) : State :=
  raise (42 + portSeg p) (portRec s p cls detail addr c) s

def portEvt (p n : Nat) (s : State) : State := bump .PRT_EVT_COUNT .PRT_OVF_OVF p n 1 s

/-- The peer's buffer of a class, in blocks (R362). -/
def classBuf (cls : Nat) : Nat :=
  match cls with
  | 1 => 64
  | 2 => 1024
  | 3 => 256
  | 4 => 2048
  | 5 => 2048
  | _ => 0

/-- The classes a port carries besides LINK (R356). -/
def carries (p cls : Nat) : Bool :=
  if p ≤ 3 then cls == 1 || cls == 2 || cls == 3 else if p = 4 then cls == 4 || cls == 5 else cls == 2 || cls == 3

def credKey (b : Block) : Nat := b.cls.toNat * 2 + b2n b.dl

/-- The egress holds a credit for the block's class and `DL`. -/
def hasCredit (x : PortSt) (b : Block) : Bool :=
  (tget 0 x.used (credKey b) + 65536 - tget 0 x.returned (credKey b)) % 65536 < classBuf b.cls.toNat

/-- Two blocks of one port flow: the STREAM blocks of a packet follow its PACKET block without a break (R363). -/
def sameFlow (a b : Block) : Bool := a.smod == b.smod && a.pflow == b.pflow && a.dl == b.dl

/-- The next block of a class: the rest of the packet that went last, then local and transit traffic in turn, each in order (R363). Local blocks are
those of this module, `me`. -/
def classNext (me : Nat) (x : PortSt) (cls : Nat) : Option (Nat × (Bool × Block)) :=
  let mine := x.waiting.filter fun e => e.2.2.cls.toNat == cls
  let free := mine.filter fun e => hasCredit x e.2.2
  match x.lastOut.find? fun e => e.1 == cls with
  | none => free.head?
  | some (_, l) =>
    let like (e : Nat × (Bool × Block)) : Bool := (e.2.2.smod.toNat == me) == (l.smod.toNat == me)
    match mine.find? fun e => like e && e.2.1 && sameFlow e.2.2 l with
    | some e => if hasCredit x e.2.2 then some e else none
    | none => match free.find? fun e => !like e with
      | some e => some e
      | none => free.head?

/-- REQ, MIRROR and ADMIT in turn, from the class after the one that sent last (R363). -/
def turnOrder (last : Nat) : List Nat := if last = 2 then [4, 5, 2] else if last = 4 then [5, 2, 4] else [2, 4, 5]

/-- The next waiting block that may leave: REPLY first, then RIDGE, then the others in turn (R363). -/
def nextOut (me : Nat) (x : PortSt) : Option (Nat × (Bool × Block)) := (3 :: 1 :: turnOrder x.lastCls).findSome? (classNext me x)

/-- The age of a waiting block at a slow cycle: the one it came with and its wait at the egress (R376). -/
def waitAge (now : Nat) (e : Nat × (Bool × Block)) : Nat := e.2.2.age.toNat + (now - e.1)

/-- Waiting blocks leave while credits and the retry buffer of 4,096 blocks allow it (R364). -/
def pumpOut (me now : Nat) : Nat → PortSt → PortSt
  | 0, x => x
  | k + 1, x =>
    if 4096 ≤ x.retry.length then x
    else match nextOut me x with
      | none => x
      | some e =>
        let b := { e.2.2 with seq := BitVec.ofNat 16 x.txSeq, ack := BitVec.ofNat 16 x.rxSeq, age := BitVec.ofNat 10 (waitAge now e) }
        let c := b.cls.toNat
        pumpOut me now k { x with
          txSeq := seqNext x.txSeq, retry := x.retry ++ [(e.2.1, b)], waiting := dropFirst (fun w => w == e) x.waiting
          used := tset x.used (credKey b) ((tget 0 x.used (credKey b) + 1) % 65536)
          lastCls := if c = 1 ∨ c = 3 then x.lastCls else c
          lastOut := tset x.lastOut c b }

/-- Blocks that have grown too old at the egress are dropped and counted; the others leave as credits allow (R363, R376). -/
def pump (p : Nat) (s : State) : State :=
  if portLive s p then
    let now := slowCount s
    let old := (portGet s p).waiting.filter fun e => decide (1000 < waitAge now e)
    let s := old.foldl (fun s _ => portEvt p 3 s) s
    portMod p (fun x => pumpOut (moduleId s) now (x.waiting.length + 1) { x with waiting := x.waiting.filter fun e => !old.contains e }) s
  else s

/-- Blocks handed to an egress, in order. -/
def sendBlocks (p : Nat) (bs : List (Bool × Block)) (s : State) : State :=
  pump p (portMod p (fun x => { x with waiting := x.waiting ++ bs.map fun b => (slowCount s, b) }) s)

/-- The age of a packet in slow cycles (R267). -/
def pktAge (s : State) (p : Packet) : Nat := (slowCount s % 4096 + 4096 - p.born.toNat) % 4096

/-- The comb whose counters show what an endpoint counts: a ring endpoint counts at comb 0.0 (R266). -/
def mshAt (e : Nat) : Nat := if epOnGrid e then epComb e else 0

/-- A drop at an endpoint: `n` 0 age, 1 generation, 2 sequence. It is counted, and the first is latched (R265, R267, R268, R287). -/
def mshDrop (e n : Nat) (p : Packet) (s : State) : State :=
  let cb := mshAt e
  let s := bump .MSH_EVT_COUNT .MSH_OVF_OVF cb n 1 s
  if rget s .MSH_DROP_VALID cb = 1 then s
  else
    rset .MSH_DROP_CAUSE cb 0 n <| rset .MSH_DROP_SRC cb 0 p.src.toNat <| rset .MSH_DROP_FLOW cb 0 p.flow.toNat <|
      rset .MSH_DROP_SEQ cb 0 p.seq.toNat <| rset .MSH_DROP_GEN cb 0 p.gen.toNat <| rset .MSH_DROP_CTX cb 0 p.ctx.toNat <|
      rset .MSH_DROP_VALID cb 0 1 s

/-- A packet older than 1 tick (R267). -/
def tooOld (s : State) (p : Packet) : Bool := decide (1000 < pktAge s p)

/-- The blocks of one packet: a PACKET block with the header and up to 7 flits, and STREAM blocks of 8 flits (R374). -/
def packetBlocks (h : Block) (q : Packet) : List (Bool × Block) :=
  let rest := q.payload.drop 224
  (false, { h with packet := some { q with payload := q.payload.take 224 }, flitCount := BitVec.ofNat 5 ((q.payload.length + 31) / 32) }) ::
    (List.range ((rest.length + 255) / 256)).map fun i => (true, { h with data := padTo 256 (slice rest (256 * i) 256) })

/-- The header of a block that carries a packet of this module. -/
def blockHead (s : State) (cls d span pflow : Nat) (q : Packet) : Block :=
  { cls := BitVec.ofNat 3 cls, age := BitVec.ofNat 10 (pktAge s q), dmod := BitVec.ofNat 10 d, smod := BitVec.ofNat 10 (moduleId s)
    span := BitVec.ofNat 12 span, pflow := BitVec.ofNat 12 pflow }

/-- A NACK REMOTE with a subcause (R375). -/
def nackPkt (s : State) (cause src dest : Nat) (c : Option Nat) (flow addr : Nat) : Packet :=
  { mkPacket s 5 src dest c with aux := BitVec.ofNat 32 cause, flow := BitVec.ofNat 6 flow, addr := BitVec.ofNat 64 addr }

/-- The context whose span a block carries (R373). -/
def ctxOfSpan (s : State) (span : Nat) : Option Nat :=
  (List.range 16).find? fun c => rget s .PRT_SPAN_VALID 0 c == 1 && rget s .PRT_SPAN_SPAN 0 c == span

/-- The ingress refuses a request: counted, recorded, and answered with NACK to the source module (R375). -/
def refuseBlock (p sub addr : Nat) (b : Block) (s : State) : State :=
  let c := ctxOfSpan s b.span.toNat
  let s := portRaise p 0x56 (sub <<< 8) addr c (portEvt p 5 s)
  let cls := if p = 4 then b.cls.toNat else 3
  let q := nackPkt s (4 ||| sub <<< 8) (portEp p) 0 c 0 addr
  let out := if p = 4 then some 4 else routeTo s b.smod.toNat
  match out with
  | some o => sendBlocks o (packetBlocks (blockHead s cls b.smod.toNat b.span.toNat b.pflow.toNat q) q) s
  | none => s

/-- The egress refuses a request of this module: the NACK goes to its endpoint (R375). -/
def refuseLocal (p sub : Nat) (q : Packet) (s : State) : State :=
  let c := if q.ctxv then some q.ctx.toNat else none
  let s := portRaise p 0x56 (sub <<< 8) q.addr.toNat c (portEvt p 5 s)
  launch (nackPkt s (4 ||| sub <<< 8) (portEp p) q.src.toNat c q.flow.toNat q.addr.toNat) s

/-- `OPEN` and `CLOSE` of a WR. -/
def isOpen (q : Packet) : Bool := bit q.aux.toNat 31
def isClose (q : Packet) : Bool := bit q.aux.toNat 30

/-- The blocks a packet takes in its flow, at least 1 (R263). -/
def pktBlocks (q : Packet) : Nat := max 1 ((q.payload.length + 127) / 128)

def lowestFree (n : Nat) (used : List Nat) : Option Nat := (List.range n).find? fun i => !used.contains i

/-- The port flow of an outbound WR: the one that its mesh flow maps to, or a free one for an OPEN (R374). On TWIN the first 16 are those of the
contexts' MIRROR flows (assumption 131). -/
def outFlowOf (p : Nat) (x : PortSt) (q : Packet) : Option Nat :=
  if isOpen q then lowestFree 4096 ((if p = 4 then List.range 16 else []) ++
    (x.outFlows.filter fun e => !(e.2.src == q.src.toNat && e.2.flow == q.flow.toNat)).map (·.1))
  else (x.outFlows.find? fun e => e.2.src == q.src.toNat && e.2.flow == q.flow.toNat).map (·.1)

/-- A continuation of the port flow travels as STREAM blocks (R374). -/
def continues (x : PortSt) (k : Nat) (q : Packet) : Bool :=
  !isOpen q && !isClose q && (q.payload.length == 256 || q.payload.length == 512) &&
    (tget (⟨0, 0, none, 0, none⟩ : OutFlow) x.outFlows k).next == q.addr.toNat

/-- An outbound WR leaves its egress (R374). An OPEN that finds every port flow in use stays at the egress; a packet that has grown too old is
dropped (R267). -/
def egressSend (p d : Nat) (q : Packet) (s : State) : State :=
  let c := if q.ctxv then some q.ctx.toNat else none
  let cls := if p = 4 then 5 else 2
  let span := match c with | some c => rget s .PRT_SPAN_SPAN 0 c | none => 0
  let x := portGet s p
  if tooOld s q then mshDrop (portEp p) 0 q s else
  match outFlowOf p x q with
  | none => { s with egress := s.egress ++ [q] }
  | some k =>
    let h := blockHead s cls d span k q
    let bs := if continues x k q then (List.range (q.payload.length / 256)).map fun i => (true, { h with data := slice q.payload (256 * i) 256 })
      else packetBlocks h q
    let o : OutFlow := ⟨q.src.toNat, q.flow.toNat, c, q.addr.toNat + q.payload.length,
      if isClose q then some ((q.seq.toNat + pktBlocks q) % 65536) else none⟩
    sendBlocks p bs (portMod p (fun x => { x with outFlows := tset (x.outFlows.filter fun e => !(e.2.src == o.src && e.2.flow == o.flow)) k o }) s)

/-- A context's step stands before its release: its writes wait at the egress (R184). -/
def beforeRelease (s : State) (c : Nat) : Bool :=
  let ph := (ctxGet s c).phase
  ph == .work || ph == .abandoned || ph == .ended

/-- A WR or RDREQ that reaches a port egress endpoint (R184, R371, R374, R375, R382). -/
def egressTake (p : Nat) (q : Packet) (s : State) : State :=
  let d := fld q.aux.toNat 16 10
  let twin := moduleId s ^^^ 256
  if q.op = 1 then refuseLocal p 5 q s
  else if p = 4 ∨ d = twin then
    (if !q.ctxv && p == 4 && d == twin && rget s .PRT_TWIN_ADMIT_OPEN == 1 && rget s .PRT_TWIN_PAIRED == 1 then egressSend p d q s
     else refuseLocal p 4 q s)
  else if routeTo s d ≠ some p then refuseLocal p 3 q s
  else if !q.ctxv || rget s .PRT_SPAN_VALID 0 q.ctx.toNat != 1 then refuseLocal p 1 q s
  else if beforeRelease s q.ctx.toNat then { s with egress := s.egress ++ [q] }
  else egressSend p d q s

/-- Packets that waited for their step's release leave in the order offered (R184). -/
def releaseEgress (c : Nat) (s : State) : State :=
  let mine := s.egress.filter fun q => q.ctxv && q.ctx.toNat == c
  let s := { s with egress := s.egress.filter fun q => !(q.ctxv && q.ctx.toNat == c) }
  mine.foldl (fun s q => match segPort (epY q.dest.toNat) with
    | some p => egressSend p (fld q.aux.toNat 16 10) q s
    | none => s) s

/-! ### Link state (R365, R366, R369, R379) -/

/-- `PRT_TWIN.ADMIT` changes, with its record (R382). -/
def setAdmit (v : Nat) (s : State) : State :=
  if rget s .PRT_TWIN_ADMIT = v then s else portRaise 4 0x57 (v <<< 8) 0 none (rset .PRT_TWIN_ADMIT 0 0 v s)

/-- Pairing holds while TWIN is up and its peer is the twin (R379); the admission state follows (R382). -/
def repair (s : State) : State :=
  let st := rget s .PRT_STATUS_STATE 4
  let ok := portLive s 4 && rget s .PRT_STATUS_PEER_VALID 4 == 1 && rget s .PRT_STATUS_PEER 4 == moduleId s ^^^ 256
  let s := rset .PRT_TWIN_PAIRED 0 0 (b2n ok) s
  let a := rget s .PRT_TWIN_ADMIT
  if ok then (if a = 0 then setAdmit (if rget s .PRT_TWIN_ADMIT_OPEN = 1 then 2 else 1) s else s)
  else if a = 3 ∧ st = 0 then setAdmit 1 s
  else if a = 3 then s
  else setAdmit 0 s

/-- The ports that the topology expects to be connected (R369). -/
def portExpected (s : State) (p : Nat) : Bool :=
  rget s .PRT_TOPO_VALID == 1 &&
  (if p ≤ 1 then decide (1 ≤ rget s .PRT_TOPO_NX1) else if p ≤ 3 then decide (1 ≤ rget s .PRT_TOPO_NY1)
   else if p = 4 then rget s .PRT_TOPO_TWIN_EXP == 1 else rget s .PRT_TOPO_ATT_EXP == 1)

def portHealth (s : State) : State :=
  if (List.range 6).any fun p => portExpected s p && [0, 3, 4].contains (rget s .PRT_STATUS_STATE p) then degrade 25 s else s

/-- A port goes DOWN (R366): its buffers are discarded, and with them what waits at the egress, its port flows and the peer's IDENT; numbering and credits
begin anew when the link comes up (assumption 131). A port that is DOWN stays so. -/
def portDown (p cause : Nat) (s : State) : State :=
  if rget s .PRT_STATUS_STATE p = 0 then s
  else
    let s := rset .PRT_STATUS_STATE p 0 0 (rset .PRT_STATUS_CAUSE p 0 cause (rset .PRT_STATUS_PEER_VALID p 0 0 s))
    let s := portMod p (fun x => { x with
      retry := [], waiting := [], early := [], lastCls := 0, lastOut := [], discard := false, fails := 0, resends := (0, 0)
      ctl := [0x06 <<< 56 ||| cause], txSeq := 0, rxSeq := 0
      used := [], returned := [], taken := [], inFlows := [], outFlows := [], stall := [] }) s
    portHealth (repair (portRaise p 0x50 (cause <<< 8) 0 none s))

/-- The identifier that the topology gives for a port's peer (R356, R365); none accepts 512 to 1,023. -/
def wantedPeer (s : State) (p : Nat) : Option Nat :=
  let nx := rget s .PRT_TOPO_NX1 + 1
  let ny := rget s .PRT_TOPO_NY1 + 1
  let x := rget s .PRT_TOPO_X
  let y := rget s .PRT_TOPO_Y
  let at' (x y : Nat) : Nat := 256 * rget s .PRT_TOPO_P + 16 * y + x
  match p with
  | 0 => some (at' ((x + 1) % nx) y)
  | 1 => some (at' ((x + nx - 1) % nx) y)
  | 2 => some (at' x ((y + 1) % ny))
  | 3 => some (at' x ((y + ny - 1) % ny))
  | 4 => some (moduleId s ^^^ 256)
  | _ => none

def peerOk (s : State) (p : Nat) : Bool :=
  let q := rget s .PRT_STATUS_PEER p
  match wantedPeer s p with
  | some w => q == w
  | none => decide (512 ≤ q)

/-- The wiring check of a trained port (R365): UP, DEGRADED with a lane removed, or MISWIRED. While the topology is not set a port stays as trained. -/
def wiring (p : Nat) (s : State) : State :=
  let st := rget s .PRT_STATUS_STATE p
  if st ≤ 1 then s
  else
    let full := rget s .PRT_STATUS_TX_LANES p == 16 && rget s .PRT_STATUS_RX_LANES p == 16
    let good := if full then 2 else 3
    if rget s .PRT_TOPO_VALID = 0 ∨ rget s .PRT_STATUS_PEER_VALID p = 0 ∨ peerOk s p then pump p (portHealth (repair (rset .PRT_STATUS_STATE p 0 good s)))
    else
      let s' := rset .PRT_STATUS_STATE p 0 4 s
      let s' := if st = 4 then s' else portRaise p 0x53 (rget s .PRT_STATUS_PEER p <<< 16) 0 none s'
      portHealth (repair s')

/-- The IDENT record of a port (R361). -/
def identRec (s : State) (p : Nat) : Nat := 0x05 <<< 56 ||| moduleId s <<< 38 ||| rget s .PRT_TOPO_VALID <<< 37 ||| p

def sendCtl (p v : Nat) (s : State) : State := portMod p (fun x => { x with ctl := x.ctl ++ [v] }) s

/-! ### Arrivals -/

/-- An `ACK` frees every retry entry below it (R364). -/
def ackRetry (p ack : Nat) (s : State) : State :=
  pump p (portMod p (fun x => { x with retry := x.retry.dropWhile fun e => seqLater ack e.2.seq.toNat }) s)

/-- The ingress frees a buffer entry and returns its credit (R363). The count is cumulative, so the new CREDIT record takes the place of an older one
of its class and `DL`. -/
def giveCredit (p : Nat) (b : Block) (s : State) : State :=
  let n := (tget 0 (portGet s p).taken (credKey b) + 1) % 65536
  sendCtl p (0x01 <<< 56 ||| b.cls.toNat <<< 48 ||| b2n b.dl <<< 47 ||| n) (portMod p (fun x => { x with
    taken := tset x.taken (credKey b) n
    ctl := x.ctl.filter fun v => !(fld v 56 8 == 1 && fld v 48 3 == b.cls.toNat && fld v 47 1 == b2n b.dl) }) s)

/-- A packet rebased on arrival: `BORN` from the block's age (R376). -/
def rebase (s : State) (b : Block) (q : Packet) : Packet :=
  { q with born := BitVec.ofNat 12 ((slowCount s + 8192 - b.age.toNat - 1) % 4096) }

def mir0 : MirFlow := ⟨0, 0, false, []⟩

def mirGet (s : State) (c : Nat) : MirFlow := tget mir0 s.mirror c

def mirSet (c : Nat) (m : MirFlow) (s : State) : State := { s with mirror := tset s.mirror c m }

/-- Every append of the release has been sent and acknowledged (R185, R380). -/
def mirrorClear (s : State) (c : Nat) : Bool := (mirGet s c).todo.isEmpty && (mirGet s c).next == (mirGet s c).acked

/-- The appends of a context leave the mirroring engine as WR packets of up to 512 bytes, while the flow's window of 1,024 blocks has room
(R11, R263, R380; assumption 122). -/
def mirPump (c : Nat) : Nat → State → State
  | 0, s => s
  | fuel + 1, s =>
    let m := mirGet s c
    match m.todo with
    | [] => s
    | (a, src, len) :: rest =>
      let k := min 512 len
      let n := (k + 127) / 128
      if 1024 < (m.next + 65536 - m.acked) % 65536 + n then s
      else
        let q : Packet := { mkPacket s 2 mirrorEp (portEp 4) none with
          addr := BitVec.ofNat 64 (6 <<< 60 ||| a), seq := BitVec.ofNat 16 m.next, payload := locRead s (some c) src k
          aux := if m.opened then 0 else 1 <<< 31, last := decide (len ≤ 512) }
        let s := mirSet c { m with next := (m.next + n) % 65536, opened := true
                                   todo := if len ≤ 512 then rest else (a + k, src + k, len - k) :: rest } s
        mirPump c fuel (sendBlocks 4 (packetBlocks (blockHead s 4 (moduleId s ^^^ 256) 0 c q) q) s)

/-- Suspension of mirroring: the step's remaining appends are discarded, and a later append opens a new flow (R381). -/
def mirrorSuspend (c cause : Nat) (s : State) : State :=
  if rget s .PRT_MIRSTAT_SUSPENDED 0 c = 1 then s
  else
    let s := rset .PRT_MIRSTAT_SUSPENDED 0 c 1 (rset .PRT_MIRSTAT_FULL 0 c 0 (rset .PRT_MIRSTAT_CAUSE 0 c cause s))
    let s := mirSet c mir0 s
    let s := portMod 4 (fun x => { x with waiting := x.waiting.filter fun e => !(e.2.2.cls == 4 && e.2.2.pflow.toNat == c) }) s
    portRaise 4 0x55 (cause <<< 8) 0 (some c) s

/-- A whole WR of an inbound port flow. REQ: checked as acting for the span's context and forwarded in the ingress's own mesh flow; MIRROR:
written to the shelter; ADMIT: written to eave memory in the physical function's view (R374, R379, R382). -/
def deliverWr (p : Nat) (b : Block) (q : Packet) (s : State) : State :=
  let x := portGet s p
  let f := tget (⟨none, 0, 0, 0, none, false, 0, 0, none⟩ : PortFlow) x.inFlows b.pflow.toNat
  let reply (r : Packet) (s : State) : State := sendBlocks p (packetBlocks (blockHead s b.cls.toNat b.smod.toNat 0 b.pflow.toNat r) r) s
  let next := (q.seq.toNat + pktBlocks q) % 65536
  let ackOf (s : State) : Packet := { mkPacket s 4 (portEp p) q.src.toNat none with aux := BitVec.ofNat 32 next, flow := q.flow }
  match b.cls.toNat with
  | 2 => match f.ctx with
    | none => refuseBlock p 1 q.addr.toNat b s
    | some c =>
      if q.gen.toNat ≠ genOf s c then
        let n := nackPkt s 3 (portEp p) 0 (some c) 0 q.addr.toNat
        match routeTo s b.smod.toNat with
        | some o => sendBlocks o (packetBlocks (blockHead s 3 b.smod.toNat b.span.toNat b.pflow.toNat n) n) s
        | none => s
      else if (rangeFault s (some c) q.addr.toNat (max 1 q.payload.length)).isSome || !writeOk s (some c) q.addr.toNat q.payload.length then
        refuseBlock p 2 q.addr.toNat b s
      else launch { rebase s b q with src := BitVec.ofNat 16 (portEp p), dest := BitVec.ofNat 16 (homeEp s (some c) q.addr.toNat)
                                      flow := BitVec.ofNat 6 f.mesh, ctx := BitVec.ofNat 4 c, ctxv := true } s
  | 4 =>
    if fld q.addr.toNat 60 4 = 6 ∧ fld q.addr.toNat 0 60 + q.payload.length ≤ shelterSize s then
      let s := shWrite (fld q.addr.toNat 0 60) q.payload s
      reply (ackOf s) s
    else refuseBlock p 2 q.addr.toNat b s
  | _ =>
    if rget s .PRT_TWIN_ADMIT_OPEN ≠ 1 then refuseBlock p 4 q.addr.toNat b s
    else if fld q.addr.toNat 60 4 ≠ 0 ∨ (rangeFault s none q.addr.toNat (max 1 q.payload.length)).isSome then refuseBlock p 2 q.addr.toNat b s
    else
      let s := locWrite none q.addr.toNat q.payload s
      reply (ackOf s) s

/-- An inbound WR begins: its port flow opens on an OPEN, and it is delivered or assembled (R374). -/
def beginWr (p : Nat) (b : Block) (q : Packet) (s : State) : State :=
  let x := portGet s p
  let k := b.pflow.toNat
  let old := x.inFlows.find? fun e => e.1 == k
  let mesh := match old with
    | some e => e.2.mesh
    | none => (lowestFree 64 (x.inFlows.map fun e => e.2.mesh)).getD 63
  let closed := match old with | some e => e.2.closed && !isOpen q | none => false
  let len := b.flitCount.toNat * 32
  let f : PortFlow := { asm := none, missing := 0, next := q.addr.toNat + len, seq := (q.seq.toNat + max 1 ((len + 127) / 128)) % 65536
                        ctx := ctxOfSpan s b.span.toNat, closed := closed, smod := b.smod.toNat, mesh := mesh
                        close := if isClose q then some ((q.seq.toNat + max 1 ((len + 127) / 128)) % 65536) else none }
  if closed then
    let n := nackPkt s 3 (portEp p) 0 f.ctx 0 q.addr.toNat
    match routeTo s b.smod.toNat with
    | some o => sendBlocks o (packetBlocks (blockHead s 3 b.smod.toNat b.span.toNat k n) n) s
    | none => s
  else if b.flitCount.toNat ≤ 7 then deliverWr p b q (portMod p (fun x => { x with inFlows := tset x.inFlows k f }) s)
  else portMod p (fun x => { x with inFlows := tset x.inFlows k { f with asm := some q, missing := b.flitCount.toNat - 7 } }) s

/-- STREAM bytes of a port flow: the rest of a WR in assembly, or a continuation of 8 flits (R374). -/
def streamBytes (p : Nat) (b : Block) (s : State) : State :=
  let k := b.pflow.toNat
  match (portGet s p).inFlows.find? fun e => e.1 == k with
  | none => s
  | some e =>
    let f := e.2
    if f.closed then
      let n := nackPkt s 3 (portEp p) 0 f.ctx 0 f.next
      match routeTo s f.smod with
      | some o => sendBlocks o (packetBlocks (blockHead s 3 f.smod b.span.toNat k n) n) s
      | none => s
    else match f.asm with
      | some q =>
        let n := min f.missing 8
        let q := { q with payload := q.payload ++ b.data.take (32 * n) }
        if f.missing ≤ 8 then deliverWr p b q (portMod p (fun x => { x with inFlows := tset x.inFlows k { f with asm := none, missing := 0 } }) s)
        else portMod p (fun x => { x with inFlows := tset x.inFlows k { f with asm := some q, missing := f.missing - 8 } }) s
      | none =>
        let c := f.ctx
        let q : Packet := { mkPacket s 2 (portEp p) 0 c with addr := BitVec.ofNat 64 f.next, seq := BitVec.ofNat 16 f.seq, payload := b.data.take 256 }
        deliverWr p b q (portMod p (fun x => { x with inFlows := tset x.inFlows k { f with next := f.next + 256, seq := (f.seq + 2) % 65536 } }) s)

/-- A mirror acknowledgement or refusal of the twin (R380, R381). -/
def mirrorReply (q : Packet) (b : Block) (s : State) : State :=
  let c := b.pflow.toNat % 16
  if q.op = 4 then
    let m := mirGet s c
    if m.opened && seqLater (q.aux.toNat % 65536) m.acked then mirPump c 1025 (mirSet c { m with acked := q.aux.toNat % 65536 } s) else s
  else mirrorSuspend c 4 s

/-- Packets that waited at a port's egress for a free port flow are offered again, in order (R374). -/
def egressAgain (p : Nat) (s : State) : State :=
  let mine (q : Packet) : Bool := segPort (epY q.dest.toNat) == some p && !(q.ctxv && beforeRelease s q.ctx.toNat)
  let l := s.egress.filter mine
  l.foldl (fun s q => egressSend p (fld q.aux.toNat 16 10) q s) { s with egress := s.egress.filter fun q => !mine q }

/-- An acknowledgement that ends a port flow frees it, and packets that waited for one go on (R264, R374). -/
def outFlowEnd (p k : Nat) (q : Packet) (s : State) : State :=
  let ends (e : Nat × OutFlow) : Bool := q.op == 4 && e.1 == k && e.2.close == some (q.aux.toNat % 65536)
  if (portGet s p).outFlows.any ends then
    egressAgain p (portMod p (fun x => { x with outFlows := x.outFlows.filter fun e => !ends e }) s)
  else s

/-- A data block for this module, by class. -/
def deliverBlock (p : Nat) (stream : Bool) (b : Block) (s : State) : State :=
  match b.cls.toNat with
  | 1 => match ctxOfSpan s b.span.toNat, b.packet with
    | some c, some q => launch { rebase s b q with ctx := BitVec.ofNat 4 c, ctxv := true, dest := BitVec.ofNat 16 keeperEp, aux := BitVec.ofNat 32 b.smod.toNat } s
    | _, _ => portEvt p 5 s
  | 3 => match b.packet, (portGet s p).outFlows.find? (fun e => e.1 == b.pflow.toNat) with
    | some q, some e =>
      if (ctxOfSpan s b.span.toNat).isSome then
        launch { rebase s b q with dest := BitVec.ofNat 16 e.2.src, flow := BitVec.ofNat 6 e.2.flow, ctxv := e.2.ctx.isSome
                                   ctx := BitVec.ofNat 4 (e.2.ctx.getD 0) } (outFlowEnd p e.1 q s)
      else portEvt p 5 s
    | _, _ => portEvt p 5 s
  | 2 =>
    if (ctxOfSpan s b.span.toNat).isNone then refuseBlock p 1 (match b.packet with | some q => q.addr.toNat | none => 0) b s
    else if stream then streamBytes p b s
    else match b.packet with
      | some q => if q.op = 1 then refuseBlock p 5 q.addr.toNat b s else beginWr p b q s
      | none => s
  | 4 =>
    if stream then streamBytes p b s
    else match b.packet with
      | some q => if q.op = 2 then beginWr p b q s else mirrorReply q b s
      | none => s
  | _ =>
    if stream then streamBytes p b s
    else match b.packet with
      | some q =>
        if q.op = 2 then (if rget s .PRT_TWIN_ADMIT_OPEN = 1 then beginWr p b q s else refuseBlock p 4 q.addr.toNat b s)
        else match (portGet s p).outFlows.find? (fun e => e.1 == b.pflow.toNat) with
          | some e => launch { rebase s b q with dest := BitVec.ofNat 16 e.2.src, flow := BitVec.ofNat 6 e.2.flow } (outFlowEnd p e.1 q s)
          | none => s
      | none => s

/-- The `DL` of a block that crosses to another module: 1 once it has crossed the wrap link of its dimension, 0 again at the turn into Y (R371;
assumption 132). -/
def transitDl (s : State) (p out : Nat) (b : Block) : Bool :=
  let wrapped := match p with
    | 0 => rget s .PRT_TOPO_X == rget s .PRT_TOPO_NX1
    | 1 => rget s .PRT_TOPO_X == 0
    | 2 => rget s .PRT_TOPO_Y == rget s .PRT_TOPO_NY1
    | _ => rget s .PRT_TOPO_Y == 0
  if p ≤ 1 && 2 ≤ out then false else b.dl || wrapped

/-- A good data block in sequence (R371, R372, R376, R378). -/
def takeBlock (p : Nat) (stream : Bool) (b : Block) (s : State) : State :=
  if 1000 < b.age.toNat then portEvt p 3 s
  else if !carries p b.cls.toNat then
    let s := portEvt p 4 s
    if p = 4 then portRaise 4 0x54 (b.cls.toNat <<< 4) 0 none s else s
  else if b.dmod.toNat = moduleId s then deliverBlock p stream b s
  else if 4 ≤ p then portEvt p 4 s
  else match routeTo s b.dmod.toNat with
    | some o =>
      let age := b.age.toNat + 1
      if 1000 < age then portEvt o 3 s
      else if carries o b.cls.toNat then sendBlocks o [(stream, { b with age := BitVec.ofNat 10 age, dl := transitDl s p o b })] s
      else portEvt p 4 s
    | none =>
      if b.cls = 2 && !stream then refuseBlock p 3 (match b.packet with | some q => q.addr.toNat | none => 0) b s else portEvt p 4 s

/-- A REQ block for this module waits in the ingress: its port flow needs a mesh flow and all 64 are open, or an earlier block waits (R263). -/
def waitsFlow (s : State) (p : Nat) (stream : Bool) (b : Block) : Bool :=
  let x := portGet s p
  b.cls == 2 && b.dmod.toNat == moduleId s && carries p 2 && (ctxOfSpan s b.span.toNat).isSome &&
    (!x.stall.isEmpty || (!stream && (match b.packet with | some q => q.op == 2 | none => false) &&
      !(x.inFlows.any fun e => e.1 == b.pflow.toNat) && decide (64 ≤ x.inFlows.length)))

/-- Blocks that waited go on, in order, while mesh flows are free. -/
def unstall (p : Nat) : Nat → State → State
  | 0, s => s
  | k + 1, s =>
    match (portGet s p).stall with
    | [] => s
    | e :: r =>
      let s' := portMod p (fun x => { x with stall := [] }) s
      if waitsFlow s' p e.1 e.2 then s
      else
        let t := giveCredit p e.2 (takeBlock p e.1 e.2 s')
        unstall p k (portMod p (fun x => { x with stall := r }) t)

/-- The mesh acknowledges an inbound flow: one whose CLOSE is acknowledged is freed, and blocks that waited for a flow go on (R263, R264). -/
def inFlowAck (p flow next : Nat) (s : State) : State :=
  let x := portGet s p
  if x.inFlows.any fun e => e.2.mesh == flow && e.2.close == some next then
    unstall p x.stall.length (portMod p (fun x => { x with inFlows := x.inFlows.filter fun e => !(e.2.mesh == flow && e.2.close == some next) }) s)
  else s

/-- The block of the next `SEQ` is taken, or waits in the ingress buffer for a mesh flow (R263, R363, R364). An answered RESEND is not repeated (R361). -/
def inSeq (p : Nat) (stream : Bool) (b : Block) (s : State) : State :=
  let s := portMod p (fun x => { x with discard := false, fails := 0, rxSeq := seqNext x.rxSeq, ctl := x.ctl.filter fun v => fld v 56 8 != 2 }) s
  if waitsFlow s p stream b then portMod p (fun x => { x with stall := x.stall ++ [(stream, b)] }) s
  else giveCredit p b (takeBlock p stream b s)

/-- Blocks that came early follow as their turn comes (R361). -/
def takeEarly (p : Nat) : Nat → State → State
  | 0, s => s
  | k + 1, s =>
    let x := portGet s p
    match x.early.find? fun e => e.2.seq.toNat == x.rxSeq with
    | none => s
    | some e => takeEarly p k (inSeq p e.1 e.2 (portMod p (fun x => { x with early := x.early.filter fun v => v != e }) s))

/-- A data block arrives (R360, R361, R364): checked, taken in `SEQ` order, kept until its turn, or, after a failure, discarded until the failed `SEQ` comes
again. -/
def dataBlock (p : Nat) (stream : Bool) (b : Block) (good : Bool) (s : State) : State :=
  if !portLive s p then s
  else
    let s := ackRetry p b.ack.toNat s
    let x := portGet s p
    if !good then
      let s := sendCtl p (0x02 <<< 56 ||| x.rxSeq) (portEvt p 0 (portMod p (fun x => { x with discard := true, fails := x.fails + 1, early := [] }) s))
      if 16 ≤ x.fails + 1 then portDown p 3 s else s
    else if b.seq.toNat = x.rxSeq then takeEarly p x.early.length (inSeq p stream b s)
    else if x.discard || !seqLater b.seq.toNat x.rxSeq || x.early.contains (stream, b) then s
    else portMod p (fun x => { x with early := x.early ++ [(stream, b)] }) s

/-- `IDLE_BLOCK` (R360, R364). -/
def execIdleBlock (p : Fin 6) (b : Block) (s : State) : Host.Outcome State Fault Refusal :=
  .next (if rget s .PRT_STATUS_STATE p.val ≤ 1 then s else ackRetry p.val b.ack.toNat s)

/-- `PACKET_BLOCK` (R359 to R378). -/
def execPacketBlock (p : Fin 6) (b : Block) (good : Bool) (s : State) : Host.Outcome State Fault Refusal :=
  .next (dataBlock p.val false b good s)

/-- `STREAM_BLOCK` (R374). -/
def execStreamBlock (p : Fin 6) (b : Block) (good : Bool) (s : State) : Host.Outcome State Fault Refusal :=
  .next (dataBlock p.val true b good s)

/-- `CREDIT_RECORD` (R361, R363): the cumulative count of credits returned for a class and `DL`. -/
def execCreditRecord (p : Fin 6) (v : BitVec 64) (s : State) : Host.Outcome State Fault Refusal :=
  let k := fld v.toNat 48 3 * 2 + fld v.toNat 47 1
  .next (if rget s .PRT_STATUS_STATE p.val ≤ 1 then s
    else pump p.val (portMod p.val (fun x => { x with returned := tset x.returned k (fld v.toNat 0 16) }) s))

/-- `RESEND_RECORD` (R364): the egress sends again from the `SEQ` named; `late` is the delay that its re-sent blocks suffer, at most 1,600
cycles, charged to every context of theirs in the ridge phase (R180). The sixteenth RESEND of one `SEQ` takes the port down. -/
def execResendRecord (p : Fin 6) (v : BitVec 64) (late : Nat) (s : State) : Host.Outcome State Fault Refusal :=
  let x := portGet s p.val
  let q := fld v.toNat 0 16
  if rget s .PRT_STATUS_STATE p.val ≤ 1 || !(x.retry.any fun e => e.2.seq.toNat == q) then .next s
  else
    let n := if x.resends.1 = q then x.resends.2 + 1 else 1
    let s := portEvt p.val 1 (portMod p.val (fun x => { x with resends := (q, n) }) s)
    let again := (x.retry.filter fun e => !seqLater q e.2.seq.toNat).map (·.2)
    let cs := (List.range 16).filter fun c => (ctxGet s c).phase == .released && again.any fun b =>
      if b.cls == 4 then b.pflow.toNat == c else rget s .PRT_SPAN_VALID 0 c == 1 && b.span.toNat == rget s .PRT_SPAN_SPAN 0 c
    let s := cs.foldl (fun s c => charge c (min late 1600) s) s
    .next (if 16 ≤ n then portDown p.val 3 s else s)

/-- Lanes in service of a direction. -/
def laneCount (m : Nat) : Nat := ones m 16

/-- The lanes that a training brings up: a lane once removed stays out until the next cold reset (R369). -/
def lanesUp (s : State) (p old new : Nat) : Nat := if rget s .PRT_LAT_PINNED p = 1 then old &&& new else new

/-- A sparing action on one direction (R368): 0 spare wavelength, 1 spare fibre, 2 remove the lane. -/
def spareLane (tx : Bool) (p lane action : Nat) (s : State) : State :=
  let w := (if lane < 8 then (if tx then F.PRT_LANES_TX_W0SP else F.PRT_LANES_RX_W0SP)
            else (if tx then F.PRT_LANES_TX_W1SP else F.PRT_LANES_RX_W1SP))
  let ok := if tx then F.PRT_LANES_TX_OK else F.PRT_LANES_RX_OK
  let fsp := if tx then F.PRT_LANES_TX_FSP else F.PRT_LANES_RX_FSP
  let fspFor := if tx then F.PRT_LANES_TX_FSP_FOR else F.PRT_LANES_RX_FSP_FOR
  let cnt := if tx then F.PRT_STATUS_TX_LANES else F.PRT_STATUS_RX_LANES
  match action with
  | 0 => rset w p 0 (lane % 8) s
  | 1 => rset fsp p 0 1 (rset fspFor p 0 (lane / 8) (rset w p 0 15 s))
  | _ =>
    let m := setFld (rget s ok p) lane 1 0
    rset cnt p 0 (laneCount m) (rset ok p 0 m s)

/-- What follows a lane removal: DEGRADED, or DOWN at no lane (R369), with cause LOS (assumption 131). -/
def afterRemoval (p n : Nat) (s : State) : State :=
  let s := portRaise p 0x52 (n <<< 4) 0 none s
  if n = 0 then portDown p 1 s
  else portHealth (if rget s .PRT_STATUS_STATE p = 2 then rset .PRT_STATUS_STATE p 0 3 s else s)

/-- `SPARE_RECORD` (R361, R368): the egress moves to the new lane set and answers with SPAREACK. -/
def execSpareRecord (p : Fin 6) (v : BitVec 64) (s : State) : Host.Outcome State Fault Refusal :=
  let lane := fld v.toNat 48 5 % 16
  let act := fld v.toNat 46 2
  if rget s .PRT_STATUS_STATE p.val ≤ 1 ∨ act = 3 then .next s
  else
    let s := sendCtl p.val (0x04 <<< 56 ||| fld v.toNat 0 56) (spareLane true p.val lane act s)
    let s := portRaise p.val 0x51 (lane <<< 4 ||| act <<< 9) 0 none (portEvt p.val 2 s)
    .next (if act = 2 then afterRemoval p.val (rget s .PRT_STATUS_TX_LANES p.val) s else s)

/-- `SPAREACK_RECORD` (R368): the announced action is confirmed, and its SPARE is no longer repeated. -/
def execSpareackRecord (p : Fin 6) (v : BitVec 64) (s : State) : Host.Outcome State Fault Refusal :=
  .next (portMod p.val (fun x => { x with ctl := x.ctl.filter fun r => !(fld r 56 8 == 3 && fld r 0 56 == fld v.toNat 0 56) }) s)

/-- `LANE_FAULT` (R368): the first available action; every wavelength of a fibre dark goes to the spare fibre at once. -/
def execLaneFault (p : Fin 6) (lane : Fin 16) (fibre : Bool) (s : State) : Host.Outcome State Fault Refusal :=
  let p := p.val
  let l := lane.val
  if rget s .PRT_STATUS_STATE p ≤ 1 || !bit (rget s .PRT_LANES_RX_OK p) l then .next s
  else
    let onSpare := rget s .PRT_LANES_RX_FSP p == 1 && rget s .PRT_LANES_RX_FSP_FOR p == l / 8
    let wFree := (if l < 8 then rget s .PRT_LANES_RX_W0SP p else rget s .PRT_LANES_RX_W1SP p) == 15
    let fFree := rget s .PRT_LANES_RX_FSP p == 0
    let act := if fibre && fFree then 1 else if !fibre && wFree then 0 else if fFree && !onSpare then 1 else 2
    let lanes := if fibre && act == 2 then (List.range 8).map fun i => l / 8 * 8 + i else [l]
    let s := lanes.foldl (fun s l => spareLane false p l act s) s
    let s := sendCtl p (0x03 <<< 56 ||| l <<< 48 ||| act <<< 46 ||| (portGet s p).rxSeq) s
    let s := portRaise p 0x51 (1 <<< 3 ||| l <<< 4 ||| act <<< 9) 0 none (portEvt p 2 s)
    .next (if act = 2 then afterRemoval p (rget s .PRT_STATUS_RX_LANES p) s else s)

/-- `IDENT_RECORD` (R361, R365, R379): the peer's identifier, for the wiring and pairing checks. -/
def execIdentRecord (p : Fin 6) (v : BitVec 64) (s : State) : Host.Outcome State Fault Refusal :=
  if rget s .PRT_STATUS_STATE p.val = 0 then .next s
  else
    let s := rset .PRT_STATUS_PEER p.val 0 (fld v.toNat 38 10) (rset .PRT_STATUS_PEER_VALID p.val 0 1 s)
    .next (wiring p.val (portMod p.val (fun x => { x with peerPort := fld v.toNat 0 3 }) s))

/-- `DOWN_RECORD` (R366). -/
def execDownRecord (p : Fin 6) (_ : BitVec 64) (s : State) : Host.Outcome State Fault Refusal := .next (portDown p.val 4 s)

/-- `LOSS_OF_LIGHT` (R366). -/
def execLossOfLight (p : Fin 6) (s : State) : Host.Outcome State Fault Refusal := .next (portDown p.val 1 s)

/-- `PORT_SILENT` (R366). -/
def execPortSilent (p : Fin 6) (s : State) : Host.Outcome State Fault Refusal := .next (portDown p.val 2 s)

/-- The segment of a port is on and not faulty. -/
def portPowered (s : State) (p : Nat) : Bool := rget s .EAV_SEG_STATE (portSeg p) == 0

/-- `PORT_RETRAIN` (R366): a DOWN port tries to train again. -/
def execPortRetrain (p : Fin 6) (s : State) : Host.Outcome State Fault Refusal :=
  .next (if rget s .PRT_STATUS_STATE p.val = 0 ∧ portPowered s p.val then rset .PRT_STATUS_STATE p.val 0 1 s else s)

/-- `PORT_TRAINING` (R357, R365): the wavelengths lock, IDENT goes out, the fibre is measured and the link latency pinned at
160 + 4 × ⌈metres⌉ cycles; a fibre of more than 30 m, or the third failure, takes the port down. -/
def execPortTraining (p : Fin 6) (r : TrainResult) (s : State) : Host.Outcome State Fault Refusal :=
  let p := p.val
  if 2 ≤ rget s .PRT_STATUS_STATE p || !portPowered s p then .next s
  else if !r.ok then
    let n := (portGet s p).trainFails + 1
    let s := portMod p (fun x => { x with trainFails := if 3 ≤ n then 0 else n }) (rset .PRT_STATUS_STATE p 0 1 s)
    .next (if 3 ≤ n then portDown p 5 s else s)
  else if 300 < r.fibre.toNat then .next (portDown p 6 (rset .PRT_STATUS_STATE p 0 1 s))
  else
    let txm := lanesUp s p (rget s .PRT_LANES_TX_OK p) r.tx.toNat
    let rxm := lanesUp s p (rget s .PRT_LANES_RX_OK p) r.rx.toNat
    let tx := laneCount txm
    let rx := laneCount rxm
    let s := rset .PRT_LAT_PINNED p 0 1 (rset .PRT_LAT_FIBRE p 0 r.fibre.toNat (rset .PRT_LAT_LAT p 0 (160 + 4 * ((r.fibre.toNat + 9) / 10)) s))
    let s := rset .PRT_LANES_TX_OK p 0 txm (rset .PRT_LANES_RX_OK p 0 rxm s)
    let s := rset .PRT_STATUS_TX_LANES p 0 tx (rset .PRT_STATUS_RX_LANES p 0 rx s)
    let s := rset .PRT_STATUS_STATE p 0 (if tx = 16 ∧ rx = 16 then 2 else 3) (portMod p (fun x => { x with trainFails := 0 }) s)
    .next (if tx = 0 ∨ rx = 0 then portDown p 1 s else wiring p (sendCtl p (identRec s p) s))

/-- `MIRROR_WAIT_TIMEOUT` (R381): an append is still unacknowledged `WAIT` × 256 cycles after release. With a `WAIT` of 0 the release itself is the
test (R13), and no wait is left to end. -/
def execMirrorWaitTimeout (c : Fin 16) (s : State) : Host.Outcome State Fault Refusal :=
  .next (if mirrorClear s c.val then s else mirrorSuspend c.val 3 s)

/-- `MIRROR_RESUME` (R381): appends restart at the next release, and `COVER` is 0. Only the physical function writes `PRT_` registers (R384). -/
def execMirrorResume (who : Requester) (c : Fin 16) (s : State) : Host.Outcome State Fault Refusal :=
  .next (if isPf who then
      rset .PRT_MIRSTAT_SUSPENDED 0 c.val 0 (rset .PRT_MIRSTAT_CAUSE 0 c.val 0 (rset .PRT_MIRSTAT_COVER 0 c.val 0 (rset .PRT_MIRSTAT_FULL 0 c.val 0 s)))
    else s)

/-- `ADMIT_OPEN` (R382). -/
def execAdmitOpen (who : Requester) (v : Bool) (s : State) : Host.Outcome State Fault Refusal :=
  if !isPf who then .next s
  else
    let s := rset .PRT_TWIN_ADMIT_OPEN 0 0 (b2n v) s
    let a := rget s .PRT_TWIN_ADMIT
    .next (if v && (a == 1 || a == 3) then setAdmit 2 s else if !v && a == 2 then setAdmit 1 { s with keeper := { s.keeper with joining := true } } else s)

/-- A live context: RUN or HELD. -/
def runOrHeld (s : State) (c : Nat) : Bool := rget s .CTX_STATE_STATE c == 2 || rget s .CTX_STATE_STATE c == 3

/-- `PRT_TOPO_WRITE` (R365, R370): ignored and counted while a context runs or is held; otherwise the topology is set, and every live port
sends a fresh IDENT and repeats its checks. A write with X ≥ NX or Y ≥ NY stores `VALID` = 0. -/
def execPrtTopoWrite (who : Requester) (v : BitVec 32) (s : State) : Host.Outcome State Fault Refusal :=
  let n := v.toNat
  if !isPf who then .next s
  else if (List.range 16).any (runOrHeld s) then .next (portEvt 0 5 s)
  else
    let ok := fld n 18 4 ≤ fld n 26 4 ∧ fld n 14 4 ≤ fld n 22 4
    let s := rset .PRT_TOPO_VALID 0 0 (if ok then fld n 31 1 else 0) <| rset .PRT_TOPO_P 0 0 (fld n 30 1) <| rset .PRT_TOPO_NX1 0 0 (fld n 26 4) <|
      rset .PRT_TOPO_NY1 0 0 (fld n 22 4) <| rset .PRT_TOPO_X 0 0 (fld n 18 4) <| rset .PRT_TOPO_Y 0 0 (fld n 14 4) <|
      rset .PRT_TOPO_TWIN_EXP 0 0 (fld n 13 1) <| rset .PRT_TOPO_ATT_EXP 0 0 (fld n 12 1) s
    let s := rset .PRT_TOPO_MODULE 0 0 (moduleId s) s
    .next (portHealth ((List.range 6).foldl (fun s p => if 2 ≤ rget s .PRT_STATUS_STATE p then wiring p (sendCtl p (identRec s p) s) else s) s))

end Sys2Proof.Machine
end

