-- ==== Sys2Proof/Machine/Dma.lean ====
section
/-! DEFINITION. DMA channels: descriptors, reshuffles, transfers, halts and presets (R289 to R304). -/

namespace Sys2Proof.Machine

def dma0 : DmaCh :=
  { fetch := false, checkFail := false, desc := [], sent := 0, opened := [], out := [], presets := [], presetAt := none, last := none, ridge := false
    ridgeDue := false, record := none }

def dmGet (s : State) (c : Nat) : DmaCh := tget dma0 s.dmas c

def dmSet (c : Nat) (x : DmaCh) (s : State) : State := { s with dmas := tset s.dmas c x }

def dmMod (c : Nat) (f : DmaCh → DmaCh) (s : State) : State := dmSet c (f (dmGet s c)) s

/-- The mesh endpoint of a channel (R289), and the channel at an endpoint. -/
def dmaEp (c : Nat) : Nat := if c < 64 then 31 <<< 11 ||| (c / 8) <<< 6 ||| c % 8 else 31 <<< 11 ||| 1 <<< 6 ||| (c - 16)

def epDma (e : Nat) : Option Nat := (List.range 80).find? fun c => dmaEp c == e

/-- The context a channel acts for, and the function that its records go to (R290). -/
def dmaCtx (s : State) (c : Nat) : Option Nat := if rget s .DMA_OWNER_BOUND c = 1 then some (rget s .DMA_OWNER_CTX c) else none

def dmaFunc (s : State) (c : Nat) : Nat := match dmaCtx s c with | some x => ctxFunc s x | none => 0

/-- A channel is out of service with its segment (R250; assumption 117). -/
def dmaOut (s : State) (c : Nat) : Bool := rget s .EAV_SEG_STATE (epY (dmaEp c)) == 3

/-- A requester reaches a channel's registers (R290). -/
def dmaOwned (s : State) (who : Requester) (c : Nat) : Bool :=
  match actsFor s who with
  | none => true
  | some x => dmaCtx s c == some x

/-! ### Descriptor fields (R291) -/

def dMode (d : List Byte) : Nat := leAt d 0 1
def dParam (d : List Byte) : Nat := leAt d 1 1
def dNotify (d : List Byte) : Bool := bit (leAt d 2 1) 0
def dRidge (d : List Byte) : Bool := bit (leAt d 2 1) 1
def dRemote (d : List Byte) : Bool := bit (leAt d 2 1) 2
def dLen (d : List Byte) : Nat := leAt d 4 4
def dSrc (d : List Byte) : Nat := leAt d 8 8
def dDst (d : List Byte) : Nat := leAt d 16 8
def dNext (d : List Byte) : Nat := leAt d 24 8
def dRmod (d : List Byte) : Nat := leAt d 0x24 2
def dTag (d : List Byte) : Nat := leAt d 0x28 8

/-- The chunk of a descriptor in bytes: `CHUNK`, the whole length, or 128 × b in the plane modes (R293, R294). -/
def dChunk (d : List Byte) : Nat :=
  if 3 ≤ dMode d then 128 * (dParam d % 16 + 1) else if leAt d 0x20 4 = 0 then dLen d else leAt d 0x20 4

/-- R291: a field that is reserved is not 0, or `MODE` is reserved. -/
def dBadFormat (d : List Byte) : Bool :=
  leAt d 3 1 != 0 || leAt d 0x26 2 != 0 || leAt d 0x30 12 != 0 || decide (8 ≤ leAt d 2 1) || decide (1024 ≤ dRmod d) || decide (5 ≤ dMode d)

/-- `PARAM` and `CHUNK` follow R292, R293 and R294. -/
def dShufOk (d : List Byte) : Bool :=
  let p := dParam d
  match dMode d with
  | 0 => p == 0 && leAt d 0x20 4 == 0
  | 1 | 2 => fld p 4 2 == 0 && dChunk d % (2 ^ fld p 6 2 * (p % 16 + 1)) == 0 && dLen d % dChunk d == 0
  | _ => decide (p < 16) && leAt d 0x20 4 == 0 && dLen d % dChunk d == 0

/-- Source and destination spaces are among those that the channel reaches (R289): the direction and address that break the rule first. -/
def dSpaceFail (s : State) (c : Nat) (d : List Byte) : Option (Nat × Nat) :=
  let a := fld (dSrc d) 60 4
  let b := fld (dDst d) 60 4
  let near (x : Nat) : Bool := decide (x ≤ 2)
  if c < 64 then
    if !(near a || a == 6) then some (1, dSrc d)
    else if !(near b || b == 6) || (dRemote d && dRmod d == moduleId s) then some (2, dDst d)
    else none
  else if !(near a || a == 8) then some (1, dSrc d)
  else if dRemote d || !(if a = 8 then near b else b == 8) then some (2, dDst d)
  else none

/-- The lowest address fault of a range that a channel reads or writes. Space 0x6 is read by the physical function's channels during admission, and
written by none of them (R30, R382); the second half of a mirrored stripe is not written (R252). -/
def dmaFault (s : State) (who : Option Nat) (wr : Bool) (a k : Nat) : Option Nat :=
  if fld a 60 4 = 6 ∧ (wr = true ∨ who.isSome = true ∨ rget s .PRT_TWIN_ADMIT_OPEN ≠ 1) then some a
  else match wr, locate s who a with
    | true, some (.em x) => match mirrorFault s (viewOf who) x k with
      | some y => some y
      | none => rangeFault s who a k
    | _, _ => rangeFault s who a k

/-- The carry of a remote destination: its space, comb and worker stay the same (R295). -/
def carryFault (a k : Nat) : Option Nat :=
  let top := if 1 ≤ fld a 60 4 ∧ fld a 60 4 ≤ 5 then 36 else 60
  let endOf := (a / 2 ^ top + 1) * 2 ^ top
  if a + k ≤ endOf then none else some endOf

/-- The checks of R295 in their order: cause, direction (0 FETCH, 1 READ, 2 WRITE) and address of the first that fails. -/
def dCheck (s : State) (c at' : Nat) (d : List Byte) : Option (Nat × Nat × Nat) :=
  let who := dmaCtx s c
  let n := dLen d
  if dBadFormat d then some (1, 0, at')
  else if leAt d 0x3C 4 ≠ (crc32c (d.take 0x3C)).toNat then some (2, 0, at')
  else if n = 0 then some (3, 0, at')
  else if !dShufOk d then some (4, 0, at')
  else match dSpaceFail s c d with
    | some (dir, a) => some (5, dir, a)
    | none => match dmaFault s who false (dSrc d) n with
      | some a => some (6, 1, a)
      | none => match (if dRemote d then carryFault (dDst d) n else dmaFault s who true (dDst d) n) with
        | some a => some (7, 2, a)
        | none =>
          if !dRemote d && fld (dSrc d) 60 4 == fld (dDst d) 60 4 && decide (dSrc d < dDst d + n) && decide (dDst d < dSrc d + n) then
            some (8, 2, dDst d)
          else none

/-! ### Reshuffles (R293, R294) -/

/-- The source element behind destination element `i` of a chunk of `m` elements in `w` planes. -/
def interleaveFrom (mode m w i : Nat) : Nat :=
  if mode = 1 then i % (m / w) * w + i / (m / w) else i % w * (m / w) + i / w

/-- A destination byte of a chunk, from the chunk's source bytes. -/
def reshuffle (d : List Byte) (src : List Byte) (i : Nat) : Byte :=
  let p := dParam d
  match dMode d with
  | 0 => src.getD i 0
  | 1 | 2 =>
    let e := 2 ^ fld p 6 2
    src.getD (interleaveFrom (dMode d) (src.length / e) (p % 16 + 1) (i / e) * e + i % e) 0
  | m =>
    let b := p % 16 + 1
    let srcBit (j : Nat) : Bool := ((src.getD (j / 8) 0).getLsbD (j % 8))
    let from' (j : Nat) : Nat := if m = 3 then b * (j % 1024) + j / 1024 else j % b * 1024 + j / b
    BitVec.ofNat 8 ((List.range 8).foldl (fun v t => v + b2n (srcBit (from' (8 * i + t))) * 2 ^ t) 0)

/-- Destination bytes [off, off + k) of a descriptor. -/
def dmaBytes (s : State) (who : Option Nat) (d : List Byte) (off k : Nat) : List Byte :=
  if dMode d = 0 then locRead s who (dSrc d + off) k
  else
    let ch := dChunk d
    (List.range k).map fun i =>
      reshuffle d (locRead s who (dSrc d + (off + i) / ch * ch) ch) ((off + i) % ch)

/-- The source range that destination bytes [off, off + k) need. -/
def dmaSrcRange (d : List Byte) (off k : Nat) : Nat × Nat :=
  if dMode d = 0 then (off, k)
  else
    let ch := dChunk d
    (off / ch * ch, (off + k + ch - 1) / ch * ch - off / ch * ch)

/-! ### Transfers (R296, R297) -/

def txKey (ep flow : Nat) : Nat := ep * 64 + flow
def rxKey (dest src flow : Nat) : Nat := dest * 2 ^ 22 + src * 64 + flow

/-- Endpoint and flow of the WR at an address: by segment in eave memory, one flow for any other destination. -/
def dmaRoute (s : State) (who : Option Nat) (d : List Byte) (a : Nat) : Nat × Nat :=
  if dRemote d then
    let p := if dRmod d = moduleId s ^^^ 256 then 4 else (routeTo s (dRmod d)).getD 0
    (portEp p, 9)
  else
    let e := homeEp s who a
    (e, if fld a 60 4 = 0 then epY e else 8)

/-- A later packet of the descriptor uses the same flow: the next granules of the destination, one round of the view's channels at most. -/
def dmaMore (s : State) (who : Option Nat) (d : List Byte) (off flow : Nat) : Bool :=
  if dLen d ≤ off then false
  else if dRemote d || fld (dDst d) 60 4 != 0 then true
  else
    let g := viewGran s (viewOf who)
    let a := dDst d + off
    let n := min ((dDst d + dLen d - 1) / g - a / g + 1) (viewChans s (viewOf who)).length
    (List.range n).any fun i => (dmaRoute s who d (max a ((a / g + i) * g))).2 == flow

/-- Bytes of the next WR: up to 512, not past a multiple of 512 of the destination. -/
def dmaCut (d : List Byte) (off : Nat) : Nat := min (512 - (dDst d + off) % 512) (dLen d - off)

/-- The WR packet for destination bytes [off, off + k) in a flow. -/
def dmaPacket (s : State) (c off k seq : Nat) (opening : Bool) : Packet :=
  let d := (dmGet s c).desc
  let who := dmaCtx s c
  let r := dmaRoute s who d (dDst d + off)
  let close := !dmaMore s who d (off + k) r.2
  { mkPacket s 2 (dmaEp c) r.1 who with
    flow := BitVec.ofNat 6 r.2, seq := BitVec.ofNat 16 seq, addr := BitVec.ofNat 64 (dDst d + off), last := decide (off + k = dLen d)
    aux := BitVec.ofNat 32 (b2n opening <<< 31 ||| b2n close <<< 30 ||| (if dRemote d then dRmod d <<< 16 else 0))
    payload := dmaBytes s who d off k }

def tx0 : TxFlow := ⟨0, 0, 0, 0, false, none⟩

/-- How many of the destination bytes [off, off + k) come before the first poisoned source block, or before the first chunk that holds one (R299). -/
def dmaClean (s : State) (who : Option Nat) (d : List Byte) (off k : Nat) : Nat :=
  if dMode d = 0 then
    match (blockStarts (dSrc d + off) k).find? fun b => locPoisoned s who b 1 with
    | some b => b - (dSrc d + off)
    | none => k
  else
    let ch := dChunk d
    match ((List.range ((off + k + ch - 1) / ch - off / ch)).map fun i => (off / ch + i) * ch).find? fun b => locPoisoned s who (dSrc d + b) ch with
    | some b => b - off
    | none => k

/-- A window of a flow, in blocks: at least 1, and 1,024 for a larger request (R263; assumption 119). -/
def clampWindow (n : Nat) : Nat := max 1 (min 1024 n)

/-- An access to a comb's memory is held up: dynamic requesters would hold more than 256 of the comb's tags (R193, R194). -/
def tagStall (s : State) (who : Option Nat) (a k : Nat) : Bool :=
  match locate s who a with
  | some (.cm cb _) => decide (256 < dynamicTags s cb + (blockStarts a k).length)
  | _ => false

/-- An access to a comb's memory holds a tag of the pool for each block, until the block completes 24 cycles later (R61, R193). -/
def dynTags (who : Option Nat) (a k : Nat) (s : State) : State :=
  match locate s who a with
  | some (.cm cb _) => takeTags ((blockStarts a k).map fun _ => (⟨cb, none, false, false, s.cycle + 24, none, 0⟩ : Tag)) s
  | _ => s

/-- A channel that a range reads has its 32 reads outstanding, so that ring DMA stalls (R193, R296). -/
def readStall (s : State) (who : Option Nat) (a k : Nat) : Bool :=
  (blockStarts a k).any fun b => match locate s who b with
    | some (.em x) => decide (32 ≤ (chGet s (emSource s (viewOf who) x).1).feed.length)
    | _ => false

/-- Hands the next packets of a descriptor to the mesh, or to host memory as posted writes, while at most 128 blocks are outstanding, tags and reads
are to be had and the flow holds the credits (R193, R263, R296). A poisoned source block stops it; the bytes below go (R299). A flow is opened
again only when its earlier packets are acknowledged. -/
def dmaIssue (c : Nat) : Nat → State → State
  | 0, s => s
  | fuel + 1, s =>
    let x := dmGet s c
    let d := x.desc
    let who := dmaCtx s c
    let k := dmaClean s who d x.sent (dmaCut d x.sent)
    let blocks := (k + 127) / 128
    let src := dmaSrcRange d x.sent k
    let busy := (x.out.map fun o => o.blocks).foldl (· + ·) 0
    if dLen d ≤ x.sent || k == 0 || decide (128 < busy + blocks) || tagStall s who (dSrc d + src.1) src.2 || readStall s who (dSrc d + src.1) src.2 then s
    else if fld (dDst d) 60 4 = 8 ∧ !dRemote d then
      let s := locWrite who (dDst d + x.sent) (dmaBytes s who d x.sent k) (dynTags who (dSrc d + src.1) src.2 s)
      let s := rset .DMA_DONE_BYTES c 0 (rget s .DMA_DONE_BYTES c + k) s
      dmaIssue c fuel (dmMod c (fun x => { x with sent := x.sent + k }) s)
    else
      let r := dmaRoute s who d (dDst d + x.sent)
      let first := !x.opened.contains r.2
      let t := if first then ⟨r.1, clampWindow 1024, clampWindow 1024, 0, false, none⟩ else tget tx0 s.tx (txKey (dmaEp c) r.2)
      if t.credits < blocks || first && (x.out.any fun o => o.flow == r.2) then s
      else
        let q := dmaPacket s c x.sent k t.next first
        let s := dynTags who (dSrc d + src.1) src.2 s
        let s := { s with tx := tset s.tx (txKey (dmaEp c) r.2) { t with next := (t.next + blocks) % 65536, credits := t.credits - blocks } }
        let s := dmMod c (fun x => { x with opened := if first then r.2 :: x.opened else x.opened
                                            out := x.out ++ [⟨r.2, t.next, blocks, x.sent, k, first⟩], sent := x.sent + k }) s
        dmaIssue c fuel (launch q s)

/-- A channel waits for window credits of a flow: its next packet takes more than the flow holds (R263, R266). -/
def creditWait (s : State) (c flow : Nat) : Bool :=
  let x := dmGet s c
  let who := dmaCtx s c
  let k := dmaClean s who x.desc x.sent (dmaCut x.desc x.sent)
  rget s .DMA_STATUS_STATE c == 1 && !x.fetch && decide (x.sent < dLen x.desc) && x.opened.contains flow &&
    (dmaRoute s who x.desc (dDst x.desc + x.sent)).2 == flow && decide ((tget tx0 s.tx (txKey (dmaEp c) flow)).credits < (k + 127) / 128)

/-- Issues until the bound; a packet carries at least one byte. -/
def dmaPump (c : Nat) (s : State) : State :=
  if rget s .DMA_STATUS_STATE c = 1 ∧ !(dmGet s c).fetch then dmaIssue c (dLen (dmGet s c).desc) s else s

/-- The packets of a channel from byte `from'` on are given up, with the answers to them; what is below stays outstanding (R299). The flows are opened
again for what follows. -/
def dmaDiscard (c from' : Nat) (s : State) : State :=
  let d := (dmGet s c).desc
  let me (e : BitVec 16) : Bool := e.toNat == dmaEp c
  let above (q : Packet) : Bool := decide (dDst d + from' ≤ q.addr.toNat) && (q.op == 2 && me q.src || (q.op == 4 || q.op == 5) && me q.dest)
  let keep := ((dmGet s c).out.filter fun o => decide (o.off < from')).map fun o => { o with bytes := min o.bytes (from' - o.off) }
  let s := { s with flight := s.flight.filter fun q => !above q
                    tx := tdrop s.tx fun k => k / 64 == dmaEp c && !(keep.any fun o => txKey (dmaEp c) o.flow == k) }
  dmMod c (fun x => { x with out := keep, opened := [], sent := from' }) s

/-- Bytes of a channel that are outstanding. -/
def dmaBusy (s : State) (c : Nat) : Nat := ((dmGet s c).out.map fun o => o.bytes).foldl (· + ·) 0

/-- A channel halts (R299): bytes from `limit` on, or from the last byte issued on, do not count; those below count as they are acknowledged. -/
def dmaHalt (c cause dir addr limit : Nat) (check : Bool) (s : State) : State :=
  let limit := min limit (dmGet s c).sent
  let s := rset .DMA_STATUS_STATE c 0 3 (rset .DMA_STATUS_STOP_PEND c 0 0 (rset .DMA_STATUS_CAUSE c 0 cause s))
  let s := rset .DMA_FAIL_ADDR c 0 addr (rset .DMA_FINFO_CAUSE c 0 cause (rset .DMA_FINFO_DIR c 0 dir (rset .DMA_FINFO_VALID c 0 1 s)))
  let s := bump .DMA_EVT_COUNT .DMA_OVF_OVF c 1 1 (dmaDiscard c limit s)
  let s := rset .DMA_DONE_BYTES c 0 (limit - dmaBusy s c) s
  let seg := if c < 64 then c / 8 else 1
  let s := raise (42 + seg) (withCtx s (dmaCtx s c) { cls := 0x40, outcome := 2, lsite := 63 <<< 16, psite := psiteS seg
                                                      detail := c <<< 8 ||| cause, addr := addr }) s
  dmMod c (fun x => { x with checkFail := check, fetch := false }) s

/-- A transfer error at byte `at'` of the source range: the count of the bytes below it, whole chunks in the reshuffling modes (R299). -/
def dmaError (c cause dir at' : Nat) (s : State) : State :=
  let d := (dmGet s c).desc
  dmaHalt c cause dir ((if dir = 1 then dSrc d else dDst d) + at') (if dMode d = 0 then at' else at' / dChunk d * dChunk d) false s

/-- The first byte of a channel that a flow has not acknowledged. -/
def dmaFirstOut (s : State) (c flow : Nat) : Nat :=
  match (dmGet s c).out.find? fun o => o.flow == flow with
  | some o => o.off
  | none => rget s .DMA_DONE_BYTES c

/-- A flow of a channel fails (R265, R266, R375). -/
def dmaFlowFail (c cause flow : Nat) (s : State) : State :=
  if rget s .DMA_STATUS_STATE c = 1 ∧ !(dmGet s c).fetch ∧ ((dmGet s c).out.any fun o => o.flow == flow) then
    dmaError c cause 2 (dmaFirstOut s c flow) s
  else s

/-! ### Chains (R298, R300, R301, R303) -/

/-- Starts preset `i` of a channel. -/
def dmaPreset (c i : Nat) (ridge : Bool) (s : State) : State :=
  let s := rset .DMA_STATUS_STATE c 0 1 (rset .DMA_CUR_ADDR c 0 (0xF000000000000000 + 64 * i) s)
  dmMod c (fun x => { x with fetch := true, presetAt := some i, last := none, ridge := ridge, ridgeDue := false }) s

/-- The channel enters IDLE; a ridge-phase chain that waited for it starts (R303). -/
def dmaIdle (c : Nat) (s : State) : State :=
  let due := (dmGet s c).ridgeDue
  let s := rset .DMA_STATUS_STATE c 0 0 (rset .DMA_STATUS_STOP_PEND c 0 0 (rset .DMA_STATUS_CAUSE c 0 0 s))
  let s := dmMod c (fun x => { x with fetch := false, checkFail := false, presetAt := none, last := none, ridge := false, record := none }) s
  if due then dmaPreset c 0 true s else s

/-- The channel goes on to the next descriptor of its chain, stops at the boundary, or ends (R298, R301, R303). -/
def dmaNext (c : Nat) (s : State) : State :=
  let x := dmGet s c
  let next := match x.presetAt with
    | some i => if x.last.isNone ∧ i + 1 < x.presets.length then some (0xF000000000000000 + 64 * (i + 1)) else none
    | none => if dNext x.desc = 0 then none else some (dNext x.desc)
  match next with
  | none => dmaIdle c s
  | some a =>
    let st := if rget s .DMA_STATUS_STOP_PEND c = 1 then 2 else 1
    let s := rset .DMA_CUR_ADDR c 0 a (rset .DMA_STATUS_STATE c 0 st (rset .DMA_STATUS_STOP_PEND c 0 0 (rset .DMA_STATUS_CAUSE c 0 0 s)))
    dmMod c (fun x => { x with fetch := true, record := none, presetAt := x.presetAt.map (· + 1) }) s

/-- After a ridge-phase descriptor ended in SKIP or ABORT, its context is held until it is reset (R303). -/
def dmaRidgeHold (c : Nat) (was : Bool) (s : State) : State :=
  match was, dmaCtx s c with
  | true, some x =>
    let r := recX s x 0x40 5 (c <<< 8)
    hold x 0x40 (some r) (ctxMod x (fun k => { k with schedFault := true, ridgeHold := false }) s)
  | _, _ => s

/-- A ridge-phase chain of a context stands still: its descriptor halted, or a record waits for a place (R303). -/
def ridgeStuck (s : State) (k : Nat) : Bool :=
  (List.range 80).any fun c => dmaCtx s c == some k && (dmGet s c).ridge && (rget s .DMA_STATUS_STATE c == 3 || (dmGet s c).record.isSome)

/-- A context that was held because of a ridge-phase chain returns to RUN when no such chain stands still (R303). -/
def ridgeBack (c : Nat) (s : State) : State :=
  match dmaCtx s c with
  | none => s
  | some k =>
    if (ctxGet s k).ridgeHold && rget s .CTX_STATE_STATE k == 3 && !ridgeStuck s k then
      rset .CTX_STATE_HOLD_CLASS k 0 0 (rset .CTX_STATE_STATE k 0 2 (ctxMod k (fun x => { x with ridgeHold := false, held := none, heldTicks := 0 }) s))
    else s

/-- What follows a channel's completion record: success counts and goes on, SKIP goes on, ABORT ends the chain. -/
def dmaAfter (c status : Nat) (s : State) : State :=
  let was := (dmGet s c).ridge
  if status = 0 then
    let s := dmaNext c (bump .DMA_EVT_COUNT .DMA_OVF_OVF c 0 1 s)
    if was && !(dmGet s c).ridge then ridgeBack c s else s
  else if status = 0x20 then dmaRidgeHold c was (dmaIdle c s)
  else dmaRidgeHold c was (dmaNext c s)

/-- The completion record of the descriptor in progress (R401). -/
def dmaRecord (s : State) (c status : Nat) : Cpl :=
  let x := dmGet s c
  let fetched := !(x.checkFail && rget s .DMA_STATUS_CAUSE c == 9)
  ⟨2, status, dmaCtx s c, c, (match dmaCtx s c with | some k => genOf s k | none => 0), (if fetched then dTag x.desc else 0), rget s .DMA_DONE_BYTES c⟩

/-- Writes the record and goes on; a record without a place waits, and the channel with it (R298, R402). -/
def dmaReport (c status : Nat) (s : State) : State :=
  let r := dmaRecord s c status
  if dmaPlace s (dmaFunc s c) then dmaAfter c status (post (dmaFunc s c) r s)
  else dmMod c (fun x => { x with record := some r }) s

/-- Channels of a function whose records wait take the places that came free (R402). -/
def dmaRetry (f : Nat) (s : State) : State :=
  (List.range 80).foldl (fun s c => match (dmGet s c).record with
    | some r => if dmaFunc s c = f ∧ dmaPlace s f then
        let was := (dmGet s c).ridge
        let s := dmaAfter c r.status (post f r s)
        if was && r.status == 0 then ridgeBack c s else s
      else s
    | none => s) s

/-- Stops a channel at once, at a context reset or a warm module reset (R302). -/
def dmaStopNow (c : Nat) (s : State) : State :=
  let st := rget s .DMA_STATUS_STATE c
  let x := dmGet s c
  let s := dmaDiscard c 0 s
  let s := if (st = 1 ∧ !x.fetch) ∨ st = 3 then post (dmaFunc s c) (match x.record with | some r => r | none => dmaRecord s c 0x20) s else s
  dmaIdle c (dmMod c (fun x => { x with ridgeDue := false }) s)

/-- A ridge-phase chain starts at release, or waits for its channel (R184, R303). -/
def dmaRidge (k : Nat) (s : State) : State :=
  (List.range 80).foldl (fun s c =>
    let x := dmGet s c
    if dmaCtx s c == some k && (dRidge (x.presets.headD [])) && !dmaOut s c then
      if rget s .DMA_STATUS_STATE c = 0 then dmaPreset c 0 true s else dmSet c { x with ridgeDue := true } s
    else s) s

/-- Every ridge-phase chain of a context has completed (R185). -/
def dmaRidgeDone (s : State) (k : Nat) : Bool :=
  (List.range 80).all fun c => dmaCtx s c != some k || !((dmGet s c).ridge || (dmGet s c).ridgeDue)

/-- The presets of a channel are replaced at the ridge of a course: a preset chain that runs ends with its current descriptor, that of the old store
(R303). -/
def dmaSetPresets (c : Nat) (ds : List (List Byte)) (s : State) : State :=
  dmMod c (fun x => { x with
    presets := ds
    last := match x.last with
      | some d => some d
      | none => x.presetAt.map fun i => if x.fetch || x.checkFail then x.presets.getD i [] else x.desc }) s

/-- The channels of an abandoned attempt send their unacknowledged packets again once the replay begins: each flow is rewound to its last acknowledged
`SEQ`, at its destination too, where the acknowledgement of a later one, or of its CLOSE, has been discarded (R302). -/
def dmaRewind (k : Nat) (s : State) : State :=
  (List.range 80).foldl (fun s c =>
    if dmaCtx s c = some k then
      (dmGet s c).out.foldl (fun s o =>
        let q := dmaPacket s c o.off o.bytes o.seq o.opens
        let key := rxKey q.dest.toNat q.src.toNat o.flow
        let first := dmaFirstOut s c o.flow == o.off && !o.opens && !dRemote (dmGet s c).desc
        launch q (if first then { s with rx := tset s.rx key ⟨q.src.toNat, o.flow, o.seq, false⟩ } else s)) s
    else s) s

/-! ### The commands -/

/-- `DESCRIPTOR_START` (R291, R295): the channel fetches the descriptor at `DMA_CUR`, applies the checks in their order, and moves data or halts. A
channel that has its descriptor and stalled goes on (R193). -/
def execDescriptorStart (c : Fin 80) (s : State) : Host.Outcome State Fault Refusal :=
  let n := c.val
  let x := dmGet s n
  let a := rget s .DMA_CUR_ADDR n
  let who := dmaCtx s n
  if rget s .DMA_STATUS_STATE n ≠ 1 || x.record.isSome then .next s
  else if !x.fetch then .next (dmaPump n s)
  else
    let s := rset .DMA_DONE_BYTES n 0 0 s
    let got := match x.presetAt with
      | some i => some (x.last.getD (x.presets.getD i []))
      | none => if a % 64 = 0 ∧ (dmaFault s who false a 64).isNone ∧ !locPoisoned s who a 64 then some (locRead s who a 64) else none
    match got with
    | none => .next (dmaHalt n 9 0 a 0 true (dmMod n (fun x => { x with desc := [], sent := 0 }) s))
    | some d =>
      let s := dmMod n (fun x => { x with desc := d, sent := 0, opened := [], out := [] }) s
      match dCheck s n a d with
      | some (cause, dir, at') => .next (dmaHalt n cause dir at' 0 true s)
      | none => .next (dmaPump n (dmMod n (fun x => { x with fetch := false }) s))

/-- `DESCRIPTOR_COMPLETE` (R297, R298): the count has reached `LENGTH`. -/
def execDescriptorComplete (c : Fin 80) (s : State) : Host.Outcome State Fault Refusal :=
  let n := c.val
  let x := dmGet s n
  if rget s .DMA_STATUS_STATE n = 1 ∧ !x.fetch ∧ x.record.isNone ∧ rget s .DMA_DONE_BYTES n = dLen x.desc then
    .next (if dNotify x.desc then dmaReport n 0 s else dmaAfter n 0 s)
  else .next s

/-- `DMA_TRANSFER_ERROR` (R299): a transfer meets an error at byte `done` of its source or destination range; the causes are those of the table. A
POISON comes from a source block of the module that bears the mark, or that fails its check and its re-reads there (R245, R305). -/
def execDmaTransferError (c : Fin 80) (cause : DmaErr) (done : Nat) (s : State) : Host.Outcome State Fault Refusal :=
  let n := c.val
  let x := dmGet s n
  let k := cause.toNat
  let a := dSrc x.desc + done
  let s1 := if k = 0x12 then poisonReads (dmaCtx s n) a 1 (checkRead (dmaCtx s n) a 1 [.failed 0] s) else s
  let there := k != 0x12 || locPoisoned s1 (dmaCtx s n) a 1
  if rget s .DMA_STATUS_STATE n = 1 ∧ !x.fetch ∧ x.record.isNone ∧ 0x10 ≤ k ∧ k ≤ 0x14 ∧ done < dLen x.desc ∧ there then
    .next (dmaError n k (if k = 0x10 ∨ k = 0x12 then 1 else 2) done s1)
  else .next s

/-- `GO` (R301, R304); a channel that is out of service with its segment does not start (R250). -/
def dmaGo (c : Nat) (s : State) : State :=
  let st := rget s .DMA_STATUS_STATE c
  if dmaOut s c then s
  else if st = 0 then
    dmMod c (fun x => { x with fetch := true, presetAt := none, last := none, ridge := false })
      (rset .DMA_STATUS_STATE c 0 1 (rset .DMA_CUR_ADDR c 0 (rget s .DMA_DESC_ADDR c) s))
  else if st = 2 then rset .DMA_STATUS_STATE c 0 1 s
  else s

def dmaStop (c : Nat) (s : State) : State :=
  if rget s .DMA_STATUS_STATE c = 1 then rset .DMA_STATUS_STOP_PEND c 0 1 s else s

/-- RESUME (R300): the descriptor is fetched again after a failed check, and goes on after a transfer error from the byte that `DMA_DONE` reads once the
bytes below the failing block are acknowledged. -/
def dmaResume (c : Nat) (s : State) : State :=
  if rget s .DMA_STATUS_STATE c ≠ 3 ∨ (dmGet s c).record.isSome then s
  else
    let s := rset .DMA_STATUS_STATE c 0 1 (rset .DMA_STATUS_CAUSE c 0 0 s)
    if (dmGet s c).checkFail then dmMod c (fun x => { x with fetch := true, checkFail := false }) s
    else dmaPump c s

def dmaAbort (c : Nat) (s : State) : State :=
  if rget s .DMA_STATUS_STATE c = 3 ∧ (dmGet s c).record.isNone then dmaReport c 0x20 (dmaDiscard c 0 s) else s

def dmaSkip (c : Nat) (s : State) : State :=
  if rget s .DMA_STATUS_CAUSE c = 9 then dmaAbort c s
  else if rget s .DMA_STATUS_STATE c = 3 ∧ (dmGet s c).record.isNone then dmaReport c (rget s .DMA_STATUS_CAUSE c) (dmaDiscard c 0 s)
  else s

def dmaStartPresets (c : Nat) (s : State) : State :=
  if rget s .DMA_STATUS_STATE c = 0 ∧ !(dmGet s c).presets.isEmpty ∧ !dmaOut s c then dmaPreset c 0 false s else s

/-- `GO` (R304). -/
def execGo (who : Requester) (c : Fin 80) (s : State) : Host.Outcome State Fault Refusal :=
  .next (if dmaOwned s who c.val then dmaGo c.val s else s)

/-- `STOP` (R301). -/
def execStop (who : Requester) (c : Fin 80) (s : State) : Host.Outcome State Fault Refusal :=
  .next (if dmaOwned s who c.val then dmaStop c.val s else s)

/-- `RESUME` (R300). -/
def execResume (who : Requester) (c : Fin 80) (s : State) : Host.Outcome State Fault Refusal :=
  .next (if dmaOwned s who c.val then dmaResume c.val s else s)

/-- `SKIP` (R300). -/
def execSkip (who : Requester) (c : Fin 80) (s : State) : Host.Outcome State Fault Refusal :=
  .next (if dmaOwned s who c.val then dmaSkip c.val s else s)

/-- `ABORT` (R300). -/
def execAbort (who : Requester) (c : Fin 80) (s : State) : Host.Outcome State Fault Refusal :=
  .next (if dmaOwned s who c.val then dmaAbort c.val s else s)

/-- `PRESET` (R303): a preset chain whose first descriptor is not of the ridge phase. -/
def execPreset (who : Requester) (c : Fin 80) (s : State) : Host.Outcome State Fault Refusal :=
  let ridge := dRidge ((dmGet s c.val).presets.headD [])
  .next (if dmaOwned s who c.val && !ridge then dmaStartPresets c.val s else s)

/-- An ACK reaches a channel: the blocks below the next expected `SEQ` are counted, of a halted channel too, and more are issued (R297, R299). -/
def dmaAck (c flow ack : Nat) (s : State) : State :=
  let x := dmGet s c
  let gone (o : DmaOut) : Bool := o.flow == flow && !seqLater (o.seq + o.blocks) ack
  let bytes := ((x.out.filter gone).map fun o => o.bytes).foldl (· + ·) 0
  if rget s .DMA_STATUS_STATE c = 1 ∨ rget s .DMA_STATUS_STATE c = 3 then
    dmaPump c (rset .DMA_DONE_BYTES c 0 (rget s .DMA_DONE_BYTES c + bytes) (dmSet c { x with out := x.out.filter fun o => !gone o } s))
  else s

end Sys2Proof.Machine
end

