-- ==== Sys2Proof/Machine/Commands.lean ====
section
/-! DEFINITION. Host commands as the keeper takes them, and the commands that load and course a thatch (R160 to R166, R396 to R399). -/

namespace Sys2Proof.Machine

/-! ### Taking a command (R396, R397, R399) -/

/-- The start-up stage; a module serves from stage 0x0E on. -/
def stageOf (s : State) : Nat := rget s .HST_STATUS_STAGE

/-- The stages of a warm module reset run (R342). -/
def warming (s : State) : Bool := s.start.warm && decide (stageOf s < 14)

/-- A command's fields from its 64 bytes; `resv` when a reserved byte is not 0 or an argument exceeds its bits (R397, R398). -/
def hostCmdOf (f : Nat) (b : List Byte) : HostCmd :=
  let op := leAt b 0 1
  let a0 := leAt b 0x10 8
  let a1 := leAt b 0x18 8
  let named := decide (3 ≤ op ∧ op ≤ 6)
  { func := f, opcode := op, ctx := leAt b 2 1 % 16, tag := leAt b 8 8, arg0 := a0, arg1 := a1, started := false
    resv := leAt b 1 1 != 0 || leAt b 3 5 != 0 || leAt b 0x20 32 != 0 || (named && decide (16 ≤ leAt b 2 1)) ||
      (op == 3 && !(decide (1 ≤ a1) && decide (a1 ≤ 0x100000000))) || (op == 5 && decide (512 ≤ a0)) || (op == 9 && decide (2 ≤ a0)) }

/-- The command that a row acts on: the first that the keeper has taken of a function and an opcode and not started. -/
def findCmd (s : State) (f op : Nat) : Option HostCmd :=
  if s.keeper.inReset then none else s.taken.find? fun h => h.func == f && h.opcode == op && !h.started

/-- The status of R399 that a command fails with before its own rules. -/
def cmdFail (s : State) (h : HostCmd) : Option Nat :=
  let always := h.opcode == 1 || h.opcode == 7 || h.opcode == 8
  if h.resv then some 0x81
  else if h.func ≠ 0 ∧ [2, 6, 7, 8, 9].contains h.opcode then some 0x82
  else if 3 ≤ h.opcode ∧ h.opcode ≤ 6 ∧ h.func ≠ 0 ∧ ¬ (rget s .HST_STATUS_BOUND h.func = 1 ∧ rget s .HST_STATUS_CTX h.func = h.ctx) then some 0x83
  else if 3 ≤ h.opcode ∧ h.opcode ≤ 5 ∧ rget s .CTX_STATE_STATE h.ctx = 0 then some 0x83
  else if !always && (s.start.shutdown.isSome || (decide (stageOf s < 14) && !warming s)) then some 0x87
  else none

def dropCmd (h : HostCmd) (s : State) : State := { s with taken := dropFirst (fun k => k == h) s.taken }

/-- A command leaves with its completion. -/
def endCmd (h : HostCmd) (ctx : Option Nat) (status detail : Nat) (s : State) : State := cmdDone h ctx status detail (dropCmd h s)

/-- A command has begun and stays outstanding. -/
def startCmd (h : HostCmd) (s : State) : State := { s with taken := replFirst (fun k => k == h) (fun k => { k with started := true }) s.taken }

/-- Completes the started command of an opcode that names a context. -/
def finishCmd (c op status detail : Nat) (s : State) : State :=
  match s.taken.find? fun h => h.started && h.opcode == op && h.ctx == c with
  | some h => endCmd h (some c) status detail s
  | none => s

/-- Runs a command: its failing status of R399 first, then its own meaning. -/
def runCmd (f op : Nat) (go : HostCmd → State → State) (s : State) : State :=
  match findCmd s f op with
  | none => s
  | some h =>
    let named := if 3 ≤ op ∧ op ≤ 6 then some h.ctx else none
    match cmdFail s h with
    | some st => endCmd h named st 0 s
    | none => if warming s && !(op == 1 || op == 7 || op == 8 || op == 3 || op == 4) then s else go h s

/-- A status that the manual does not state: a free value. -/
def endFree (h : HostCmd) (c : Option Nat) (s : State) : State :=
  endCmd h c (Config.freeBits 8 s.free).toNat 0 { s with free := s.free + 1 }

/-- `NOP` (R398). -/
def execNop (f : Fin 16) (s : State) : Host.Outcome State Fault Refusal := .next (runCmd f.val 1 (fun h s => endCmd h none 0 0 s) s)

/-! ### Loading (R160 to R164, R353) -/

/-- The load of a context ends with a code: the shadow stores that it has written are cleared, and the range is released. A load that fails its checks has
written none, and a thatch that waits in them stays (R160 to R162). -/
def endLoad (c code detail : Nat) (s : State) : State :=
  let wrote := match (ctxGet s c).load with | some j => j.accepted | none => false
  finishCmd c 3 code detail (ctxMod c (fun x => { x with load := none }) (if wrote then clearShadows c s else s))

/-- A function's first waiting LOAD is the first of all (R161). -/
def loadTurn (s : State) (f : Nat) : Bool :=
  match s.taken.find? fun h => h.opcode == 3 && !h.started with
  | some h => h.func == f
  | none => false

/-- `LOAD` (R160, R161): the staged range is held and the check pass begins. Loads are taken in the order of their arrival, whatever their functions, and a
load of another context in progress is waited for. -/
def execLoad (f : Fin 16) (s : State) : Host.Outcome State Fault Refusal :=
  .next (if !loadTurn s f.val then s else runCmd f.val 3 (fun h s =>
    let c := h.ctx
    let x := ctxGet s c
    let nowhere := noIdx + noIdx * 2 ^ 32
    if x.load.isSome || x.arm != .none || warming s then endCmd h (some c) 0x14 nowhere s
    else if (List.range 16).any fun k => (ctxGet s k).load.isSome then s
    else if rget s .CTX_STATE_RESTART_BLOCKED c = 1 then endCmd h (some c) 0xF nowhere s
    else if h.arg0 % 4096 ≠ 0 ∨ aperture s (.ctx c) < h.arg0 + h.arg1 ∨ ((heldRanges s c).any (overlaps h.arg0 h.arg1)) then endCmd h (some c) 1 nowhere s
    else
      startCmd h (ctxSet c { x with load := some { addr := h.arg0, bytes := h.arg1, tag := h.tag, func := h.func, accepted := false, thatch := none
                                                   retried := [], got := [], buf := [], mwin := [] } } s)) s)

/-- The deliveries that an image asks for: directory index and comb, comb 672 for a stream engine (R164). -/
def deliveries (img : List Byte) : List (Nat × Nat) :=
  (numbered (imgDir img)).flatMap fun e =>
    if e.2.ty = 7 then [(e.1, 672)] else if workerTy e.2.ty || combTy e.2.ty then (sectCombs img e.2).map fun cb => (e.1, cb) else []

/-- The units whose shadows hold their new configurations, or the empty ones of R147, show it (R164): those to which every delivery has been made. -/
def showReady (c : Nat) (s : State) : State :=
  match (ctxGet s c).load with
  | none => s
  | some j =>
    let img := emRead s (.ctx c) j.addr j.bytes
    let left := (deliveries img).filter fun d => !j.got.contains d
    let waits (ty : Nat → Bool) (cb : Nat) (u : Nat) : Bool :=
      left.any fun d => let e := imgEntry img d.1
        ty e.ty && d.2 == cb && (sectUnits img e).contains u
    let s := (ctxWorkers s c).foldl (fun s wk => if waits workerTy (wk / 32) wk then s else wMod wk (fun w => { w with shReady := true }) s) s
    let s := (ctxCombs s c).foldl (fun s cb => [0, 1, 2].foldl (fun s n =>
      if waits (· == 3 + n) cb cb then s else swSet cb n { swGet s cb n with shReady := true } s) s) s
    (match (ctxGet s c).allot with | some a => a.chans | none => []).foldl (fun s ch =>
      if waits (· == 7) 672 ch then s else chSet ch { chGet s ch with shReady := true } s) s

/-- `IMAGE_ACCEPTED` (R162, R163): the check pass ends. An accepted image takes the context's next load sequence and displaces a thatch that
waits; a rejected one completes the load with its code and leaves the rest as it was. -/
def execImageAccepted (c : Fin 16) (s : State) : Host.Outcome State Fault Refusal :=
  let n := c.val
  let x := ctxGet s n
  match x.load with
  | none => .next s
  | some j =>
    if j.accepted || s.keeper.inReset then .next s
    else
      let img := emRead s (.ctx n) j.addr j.bytes
      match checkImage s n j.addr j.bytes img with
      | some r =>
        let s := endLoad n r.code (r.idx + r.off * 2 ^ 32) s
        .next (if r.code = 9 ∨ r.code = 0xA then
            raise 50 (recX s n 0x70 2 0) (bump .SEC_EVT_COUNT .SEC_OVF_OVF 0 1 1 s)
          else s)
      | none =>
        let t := thatchOf img x.loadSeq j.addr
        .next (showReady n (ctxMod n (fun x => { x with loadSeq := seqNext x.loadSeq, waiting := none, load := some { j with accepted := true, thatch := some t } })
          (clearShadows n s)))

/-- `LOAD_COMPLETE` (R164): every delivery has been made, so every unit of the allotment is ready and the thatch waits for its course. -/
def execLoadComplete (c : Fin 16) (s : State) : Host.Outcome State Fault Refusal :=
  let n := c.val
  match (ctxGet s n).load with
  | none => .next s
  | some j =>
    let img := emRead s (.ctx n) j.addr j.bytes
    match j.accepted, j.thatch with
    | true, some t =>
      if s.keeper.inReset || !((deliveries img).all fun d => j.got.contains d) || !(j.mwin.all fun e => e.2.1 == e.2.2) then .next s
      else .next (finishCmd n 3 0 0 (ctxMod n (fun x => { x with load := none, waiting := some t }) (readyShadows n s)))
    | _, _ => .next s

/-! ### Coursing (R166, R171) -/

/-- The sync objects that a context's active programs name: SYNC records, SIG and WAIT of slots, sync bindings. -/
def activeObjs (s : State) (c : Nat) (t : Thatch) : List Nat :=
  t.syncInit.map (·.1) ++ (ctxWorkers s c).flatMap fun wk =>
    let k := (wGet s wk).act
    (k.sb.map fun b => objKey (cbOf b.2.x b.2.y) b.2.obj) ++
      (k.slotList.filter fun sl => syncOp sl == 1 || syncOp sl == 2).map fun sl => objKey (wk / 32) sl.yobj

/-- An overlapped course would conflict (R166). -/
def courseConflict (s : State) (c : Nat) (old new : Thatch) : Bool :=
  ((ctxCombs s c).any fun cb => let d := dropGet s cb
    d.1.present && d.2.present && decide (d.2.courseStart ≤ d.1.last)) ||
  ((match (ctxGet s c).allot with | some a => a.chans | none => []).any fun ch => let x := chGet s ch
    x.act.present && x.sh.present && decide (x.sh.courseStart ≤ x.act.last)) ||
  (new.syncInit.any fun e => (activeObjs s c old).contains e.1)

/-- Drops and stream engines take their new programs (R171). -/
def swapTimed (c : Nat) (s : State) : State :=
  let s := (ctxCombs s c).foldl (fun s cb => let d := dropGet s cb
    dropSet cb (d.2, d.1) s) s
  (match (ctxGet s c).allot with | some a => a.chans | none => []).foldl (fun s ch => let x := chGet s ch
    chSet ch { x with act := x.sh, sh := x.act } s) s

/-- The presets of a thatch, written to the context's channels by index; a channel that it names none for is emptied (R157, R303). -/
def writePresets (c : Nat) (t : Thatch) (s : State) : State :=
  let chs := (List.range 80).filter fun d => dmaCtx s d == some c
  (chs.mapIdx fun i d => (i, d)).foldl (fun s e =>
    dmaSetPresets e.2 (match t.presets.find? fun p => p.1 == e.1 with | some p => presetsOf p.2 | none => []) s) s

/-- The thatch that waits becomes the active one; the range of the one before is released, and its steps count from 0 (R141, R160). -/
def takeThatch (c : Nat) (s : State) : State :=
  ctxMod c (fun x => match x.waiting with
    | some t => { x with active := some t, waiting := none, arm := .none, stepsRun := 0 }
    | none => x) s

/-- A thatch takes effect all at once: in a context without an active one, and at the ridge of a boundary course (R166, R171). -/
def flipNow (c : Nat) (s : State) : State :=
  match (ctxGet s c).waiting with
  | none => s
  | some t => takeThatch c (writePresets c t (writeObjs t.syncInit (swapTimed c (flipAll c s))))

/-- `COURSE` (R166). -/
def execCourse (f : Fin 16) (s : State) : Host.Outcome State Fault Refusal :=
  .next (runCmd f.val 4 (fun h s =>
    let c := h.ctx
    let x := ctxGet s c
    if warming s then endCmd h (some c) 0x14 0 s
    else match x.waiting with
    | none => endCmd h (some c) 0x20 0 s
    | some t =>
      let activeId := match x.active with | some a => a.id | none => 0
      if t.pred ≠ 0 ∧ t.pred ≠ activeId then endCmd h (some c) 0x21 0 s
      else if t.pred ≠ 0 && (match x.active with | some a => courseConflict s c a t | none => false) then endCmd h (some c) 0x22 0 s
      else if x.arm != .none || x.load.isSome then endCmd h (some c) 0x14 0 s
      else match x.active with
        | some _ => startCmd h (ctxSet c { x with arm := if t.pred = 0 then .boundary else .overlapped } s)
        | none =>
          let s := rset .CTX_STATE_STATE c 0 2 (flipNow c s)
          endCmd h (some c) 0 (rget s .CTX_STEP_COUNT c) (ctxMod c (fun x => { x with phase := .idle }) s)) s)

end Sys2Proof.Machine
end

