-- ==== Sys2Proof/Machine/Records.lean ====
section
/-! DEFINITION. Fault records on their way: the 64 bytes, acceptance by the keeper, the fault log and the fault rings (R329 to R331, R403, R453). -/

namespace Sys2Proof.Machine

/-- The 64 bytes of a fault record (R329); the keeper gives the sequence number. -/
def recBytes (r : FaultRec) : List Byte :=
  let head := toLe 1 r.cls ++ toLe 1 r.outcome ++ toLe 2 r.seq ++ toLe 1 (match r.ctx with | some c => 16 + c | none => 0) ++ toLe 1 r.gen ++
    toLe 2 (r.module % 1024) ++ toLe 8 (r.tick % 2 ^ 48) ++ toLe 8 r.cycle ++ toLe 8 (r.step % 2 ^ 48) ++ toLe 4 r.lsite ++ toLe 4 r.psite ++
    toLe 8 r.detail ++ toLe 8 r.addr ++ toLe 4 0
  head ++ toLe 4 (crc32c head).toNat

/-- The fault ring has room (R403). -/
def fqRoom (s : State) (f : Nat) : Bool :=
  rget s .HST_FQ_CFG_ENABLE f == 1 &&
    (rget s .HST_FQ_PTR_TAIL f + 65536 - rget s .HST_FQ_PTR_HEAD f) % 65536 < 2 ^ rget s .HST_FQ_CFG_LOG2 f

/-- Delivers a record to a function's ring, or counts it in `HST_EVT3` (R403). A virtual function gets no physical site (R32, R329). -/
def deliverRec (f : Nat) (r : FaultRec) (s : State) : State :=
  if fqRoom s f then
    let t := rget s .HST_FQ_PTR_TAIL f
    let a := rget s .HST_FQ_BASE_ADDR f * 4096 + 64 * (t % 2 ^ rget s .HST_FQ_CFG_LOG2 f)
    let b := recBytes (if f = 0 then r else { r with psite := 0 })
    msix f 1 (rset .HST_FQ_PTR_TAIL f 0 (seqNext t) (mwrite (hmKey (a % 2 ^ 57)) b s))
  else bump .HST_EVT_COUNT .HST_OVF_OVF f 3 1 s

/-- The function a record goes to: its context's, and the physical function for a record that names none (R331, R403), but for the ADDRESS record of
a function (R392). -/
def recFunc (s : State) (r : FaultRec) : Nat := match r.ctx with | some c => ctxFunc s c | none => r.func

/-- The keeper appends a record to the fault log, a ring of 4,096; `WRAPPED` sets when one overwrites another (R453, R459). -/
def logRec (r : FaultRec) (s : State) : State :=
  let n := rget s .KPR_FLOG_NEXT
  let s := { s with keeper := { s.keeper with log := tset s.keeper.log n r } }
  let s := rset .KPR_FLOG_NEXT 0 0 ((n + 1) % 4096) (if 4096 ≤ rget s .KPR_FLOG_TOTAL then rset .KPR_FLOG_WRAPPED 0 0 1 s else s)
  rset .KPR_FLOG_TOTAL 0 0 (min (rget s .KPR_FLOG_TOTAL + 1) 0xFFFFFFFF) s

/-- The keeper accepts a record: it takes the next sequence number, and goes to the log and to its function's ring (R331). -/
def acceptRec (r : FaultRec) (s : State) : State :=
  let q := s.keeper.seq
  let r := { r with seq := q, module := moduleId s }
  let s := { s with keeper := { s.keeper with seq := seqNext q } }
  deliverRec (recFunc s r) r (logRec r s)

/-- Accepts the records that one unit holds, in order. -/
def acceptUnit (u : Nat) (s : State) : State :=
  let q := tget [] s.faultBuf u
  q.foldl (fun s r => acceptRec r s) { s with faultBuf := tset s.faultBuf u [] }

/-- Accepts every record that waits: regions, segments, then the keeper's own. -/
def acceptAll (s : State) : State := (List.range 51).foldl (fun s u => acceptUnit u s) s

/-- `FAULT_PACKET` (R331): the oldest record of a region or segment reaches the keeper; in a keeper reset the unit holds it. -/
def execFaultPacket (unit : Fin 50) (s : State) : Host.Outcome State Fault Refusal :=
  match tget [] s.faultBuf unit.val with
  | [] => .next s
  | r :: q =>
    if s.keeper.inReset then .next s
    else .next (acceptRec r { s with faultBuf := tset s.faultBuf unit.val q })

end Sys2Proof.Machine
end

