-- ==== Sys2Proof/Machine/Route.lean ====
section
/-! DEFINITION. Routes of the packet mesh, virtual channels, the header flit and the blocks of a fabric port (R255 to R260, R269, R271, R359). -/

namespace Sys2Proof.Machine

/-! ### Channels and the header flit (R258, R260) -/

/-- The virtual channel of an operation: 0 request, 1 reply, 2 message, 3 management. -/
def vcOf (op : Nat) : Nat :=
  match op with
  | 3 | 4 | 5 | 7 | 9 => 1
  | 6 | 8 | 10 => 2
  | 11 | 13 => 3
  | _ => 0

/-- The payload flits of a packet, `LEN`. -/
def pktFlits (p : Packet) : Nat := (p.payload.length + 31) / 32

/-- The header flit of a packet of some payload flits, bit 255 first (R258). -/
def headerOf (flits : Nat) (p : Packet) : BitVec 256 :=
  BitVec.ofNat 2 (vcOf p.op.toNat) ++ p.op ++ BitVec.ofBool p.mcast ++ BitVec.ofBool p.last ++ BitVec.ofNat 5 flits ++ p.tlen ++ p.gen ++ p.ctx ++
    p.born ++ p.flow ++ p.seq ++ BitVec.ofBool p.ctxv ++ (0 : BitVec 1) ++ p.src ++ p.dest ++ p.mrect ++ p.addr ++ p.aux ++ p.value

/-- The header flit of a packet on the mesh. -/
def headerFlit (p : Packet) : BitVec 256 := headerOf (pktFlits p) p

/-- The packet that a header flit and a payload make. -/
def headerPacket (h : BitVec 256) (payload : List Byte) : Packet :=
  { op := h.extractLsb' 249 5, mcast := h.getLsbD 248, last := h.getLsbD 247, tlen := h.extractLsb' 240 2, gen := h.extractLsb' 232 8
    ctx := h.extractLsb' 228 4, born := h.extractLsb' 216 12, flow := h.extractLsb' 210 6, seq := h.extractLsb' 194 16, ctxv := h.getLsbD 193
    src := h.extractLsb' 176 16, dest := h.extractLsb' 160 16, mrect := h.extractLsb' 128 32, addr := h.extractLsb' 64 64, aux := h.extractLsb' 32 32
    value := h.extractLsb' 0 32, payload := payload }

/-! ### Blocks of a fabric port (R359 to R361) -/

/-- The 96-bit header of a block of some `KIND`, bit 95 first: 0 IDLE, 1 CONTROL, 2 PACKET, 3 STREAM. -/
def blockHeader (kind : BitVec 2) (b : Block) : BitVec 96 :=
  kind ++ b.cls ++ BitVec.ofBool b.dl ++ b.age ++ b.seq ++ b.ack ++ b.dmod ++ b.smod ++ b.span ++ b.pflow ++ (0 : BitVec 4)

/-- The 256 bytes of a block's body: all 0, the CONTROL records, the mesh packet with its whole `LEN` and up to 7 flits, or the bytes of a STREAM
block. -/
def blockBody (kind : BitVec 2) (ctl : List Nat) (b : Block) : List Byte :=
  if kind = 0 then padTo 256 []
  else if kind = 1 then padTo 256 ((ctl.take 32).flatMap (toLe 8))
  else if kind = 2 then match b.packet with
    | some q => padTo 256 (toLe 32 (headerOf b.flitCount.toNat q).toNat ++ q.payload.take 224)
    | none => padTo 256 []
  else padTo 256 (b.data.take 256)

/-- The 272 bytes of a block: header, body, and the CRC-32C of both (R359). -/
def blockBytes (kind : BitVec 2) (ctl : List Nat) (b : Block) : List Byte :=
  let l := toLe 12 (blockHeader kind b).toNat ++ blockBody kind ctl b
  l ++ toLe 4 (crc32c l).toNat

/-! ### Order and routes -/

/-- Two packets of one virtual channel, source and destination: the mesh delivers them in the order sent (R269; assumption 128). -/
def sameChannel (p q : Packet) : Bool := vcOf p.op.toNat == vcOf q.op.toNat && p.src == q.src && p.dest == q.dest

/-- No packet that was sent before on the same channel is still in flight (R269). -/
def inOrder (s : State) (p : Packet) : Bool := (s.flight.takeWhile fun q => q != p).all fun q => !sameChannel q p

/-! ### Stops and routes (R256, R257, R271) -/

/-- A router: a logical comb 0 to 671, the ring router of a segment as 672 + segment, the keeper's ring stop as 680. -/
def ringStop (seg : Nat) : Nat := 672 + seg
def keeperStop : Nat := 680

/-- The router at which an endpoint attaches. -/
def epStop (e : Nat) : Nat := if epOnGrid e then epComb e else if epX e = 31 ∧ epY e ≤ 7 then ringStop (epY e) else keeperStop

/-- The values from one coordinate to another, both included. -/
def stepsTo (u v : Nat) : List Nat := if u ≤ v then (List.range (v - u + 1)).map (u + ·) else (List.range (u - v + 1)).map (u - ·)

/-- First in X to the destination column, then in Y to the destination row. -/
def combPath (a b : Nat) : List Nat :=
  (stepsTo (cbX a) (cbX b)).map (fun x => cbOf x (cbY a)) ++ ((stepsTo (cbY a) (cbY b)).drop 1).map fun y => cbOf (cbX b) y

def clampTo (lo hi v : Nat) : Nat := max lo (min hi v)

/-- The attachment comb of a segment for a comb: its coordinate clamped into the segment's range, on the segment's edge (R256). -/
def attachComb (seg cb : Nat) : Nat :=
  match seg with
  | 0 => cbOf (clampTo 0 13 (cbX cb)) 0
  | 1 => cbOf (clampTo 14 27 (cbX cb)) 0
  | 2 => cbOf 27 (clampTo 0 11 (cbY cb))
  | 3 => cbOf 27 (clampTo 12 23 (cbY cb))
  | 4 => cbOf (clampTo 14 27 (cbX cb)) 23
  | 5 => cbOf (clampTo 0 13 (cbX cb)) 23
  | 6 => cbOf 0 (clampTo 12 23 (cbY cb))
  | _ => cbOf 0 (clampTo 0 11 (cbY cb))

/-- The ring from one stop to another, the shorter way round, clockwise on a tie; stop 8 is the keeper, between segments 7 and 0. -/
def ringPath (a b : Nat) : List Nat :=
  let d := (b + 9 - a) % 9
  (if d ≤ 9 - d then (List.range (d + 1)).map fun i => (a + i) % 9 else (List.range (9 - d + 1)).map fun i => (a + 9 - i) % 9).map ringStop

/-- The fixed route between two routers (R257). Between a comb and the keeper it goes by segment 0, which no rule says (assumption 118). -/
def routeStops (a b : Nat) : List Nat :=
  if a < 672 ∧ b < 672 then combPath a b
  else if a < 672 then
    let seg := if b = keeperStop then 0 else b - 672
    combPath a (attachComb seg a) ++ ringPath seg (b - 672)
  else if b < 672 then
    let seg := if a = keeperStop then 0 else a - 672
    ringPath (a - 672) seg ++ combPath (attachComb seg b) b
  else ringPath (a - 672) (b - 672)

/-- On the ring a packet uses the second dateline channel of its class once it has passed the keeper (R257). -/
def datelineChannel (path : List Nat) (stop : Nat) : Nat := if (path.takeWhile fun x => x != stop).contains keeperStop then 1 else 0

/-- The combs that a multicast names. -/
def mcastCombs (p : Packet) : List Nat :=
  let r := p.mrect.toNat
  let x0 := epX p.dest.toNat
  let y0 := epY p.dest.toNat
  let sx := fld r 17 5
  let sy := fld r 12 5
  (List.range 672).filter fun cb => x0 ≤ cbX cb && cbX cb ≤ fld r 27 5 && y0 ≤ cbY cb && cbY cb ≤ fld r 22 5 && sx != 0 && sy != 0 &&
    (cbX cb - x0) % sx == 0 && (cbY cb - y0) % sy == 0

/-- The routers of a multicast: from the attachment comb of its segment for X0 along that edge row, and in Y at every target column (R271). -/
def mcastStops (p : Packet) : List Nat :=
  let a := attachComb (epY p.src.toNat) (epComb p.dest.toNat)
  ringStop (epY p.src.toNat) :: ((mcastCombs p).flatMap fun cb => combPath a cb).eraseDups

/-- The routers that a packet passes. -/
def packetStops (p : Packet) : List Nat := if p.mcast then mcastStops p else routeStops (epStop p.src.toNat) (epStop p.dest.toNat)

end Sys2Proof.Machine
end

