-- ==== Sys2Proof/Machine/Mesh.lean ====
section
/-! DEFINITION. Packets that arrive at their mesh endpoints: flows, reads and writes, queues, signals, ridge signals, deliveries (R258 to R283). -/

namespace Sys2Proof.Machine

/-- The packet acts for a context and carries another generation than the context's (R268). -/
def stale (s : State) (p : Packet) : Bool := p.ctxv && p.gen.toNat != genOf s p.ctx.toNat

/-- A region whose comb array is switched off (R220). -/
def combsOff (s : State) (r : Nat) : Bool := decide (3 ≤ rget s .PWR_RSTAT_CA_STATE r)

/-- The region whose comb array is switched off, for a packet that is addressed to one of its combs (R220). A multicast is dropped for the combs of such
regions alone. -/
def intoOff (s : State) (p : Packet) : Option Nat :=
  let r := regionOf (epComb p.dest.toNat)
  if !p.mcast && epOnGrid p.dest.toNat && combsOff s r then some r else none

/-- A packet arrives, in its channel's order (R269): it is in flight no longer. The mesh router of a spine drops a packet for a comb of a switched-off
array (R220), and an endpoint drops one that is too old (R267). -/
def arrive (p : Packet) (s : State) (k : State → State) : State :=
  if !inOrder s p then s
  else
    let s := { s with flight := dropFirst (fun q => q == p) s.flight }
    match intoOff s p with
    | some r => bump .PWR_REVT_COUNT .PWR_ROVF_OVF r 1 1 s
    | none => if tooOld s p then mshDrop p.dest.toNat 0 p s else k s

/-- An answer to a packet: it goes back to the source, acts for the same context, and carries the same generation and flow. -/
def answer (s : State) (op : Nat) (p : Packet) : Packet :=
  { mkPacket s op p.dest.toNat p.src.toNat none with ctxv := p.ctxv, ctx := p.ctx, gen := p.gen, flow := p.flow, addr := p.addr }

def nackOf (s : State) (cause : Nat) (p : Packet) : Packet := { answer s 5 p with aux := BitVec.ofNat 32 cause }

def ackOf (s : State) (next : Nat) (p : Packet) : Packet := { answer s 4 p with aux := BitVec.ofNat 32 (next % 65536) }

/-- The context that an access of a packet acts for. -/
def pktCtx (p : Packet) : Option Nat := if p.ctxv then some p.ctx.toNat else none

/-! ### Flows (R263 to R265) -/

def rx0 : RxFlow := ⟨0, 0, 0, false⟩

def flowKey (p : Packet) : Nat := rxKey p.dest.toNat p.src.toNat p.flow.toNat

/-- Receive flows open at an endpoint. -/
def rxOpen (s : State) (e : Nat) : List (Nat × RxFlow) := s.rx.filter fun x => x.1 / 2 ^ 22 == e

/-- The endpoint has refused the flow without an entry: its later packets are dropped and counted, with no further answer (R264, R265). -/
def refuseFlow (p : Packet) (s : State) : State :=
  { s with rxDead := if s.rxDead.contains (flowKey p) then s.rxDead else flowKey p :: s.rxDead }

/-- The sequence check of a flow packet (R264, R265): an OPEN takes an entry of the receive table; a packet out of sequence fails the flow, with one
NACK. The answer tells whether the packet is accepted. -/
def flowCheck (p : Packet) (s : State) : Bool × State :=
  let e := p.dest.toNat
  let known := s.rx.any fun x => x.1 == flowKey p
  if isOpen p && !known && 512 ≤ (rxOpen s e).length then
    (false, launch (nackOf s 2 p) (bump .MSH_EVT_COUNT .MSH_OVF_OVF (mshAt e) 4 1 (refuseFlow p s)))
  else if !isOpen p && !known then
    (false, if s.rxDead.contains (flowKey p) then mshDrop e 2 p s else launch (nackOf s 1 p) (mshDrop e 2 p (refuseFlow p s)))
  else
    let s := if isOpen p then { s with rx := tset s.rx (flowKey p) ⟨p.src.toNat, p.flow.toNat, 0, false⟩
                                       rxDead := s.rxDead.filter (· != flowKey p) } else s
    let f := tget rx0 s.rx (flowKey p)
    if f.failed then (false, mshDrop e 2 p s)
    else if p.seq.toNat ≠ f.next then
      (false, launch (nackOf s 1 p) (mshDrop e 2 p { s with rx := tset s.rx (flowKey p) { f with failed := true } }))
    else (true, s)

/-- The flow goes on past a packet: the next `SEQ`, the ACK, and the end of a closed flow (R264). -/
def flowAdvance (p : Packet) (s : State) : State :=
  let n := (p.seq.toNat + pktBlocks p) % 65536
  let s := if isClose p then { s with rx := tdrop s.rx (fun k => k == flowKey p) }
    else { s with rx := tset s.rx (flowKey p) ⟨p.src.toNat, p.flow.toNat, n, false⟩ }
  launch (ackOf s n p) s

/-- The port whose egress or ingress an endpoint is. -/
def epPort (e : Nat) : Option Nat := if epX e = 31 ∧ epN e = 34 then segPort (epY e) else none

/-- The endpoint takes reads and writes: a comb controller, or a segment's stream engine. -/
def epMem (e : Nat) : Bool := (epOnGrid e && epN e == 63) || (epX e == 31 && decide (epY e ≤ 7) && epN e == 16)

/-- The spaces that packets read and write (R28). -/
def pktSpace (a : Nat) : Bool := decide (fld a 60 4 ≤ 2)

/-- A packet that reads or writes comb memory waits at the comb while dynamic requesters hold the pool's 256 tags (R193). -/
def waitsTag (s : State) (p : Packet) (k : Nat) : Bool := tagStall s (pktCtx p) p.addr.toNat k

/-- `RDREQ_PACKET` (R258, R268): the endpoint answers with the bytes, whose blocks `rd.crc` checks (R305); a port refuses (R374). A request that is an
address fault gets no answer. -/
def execRdreqPacket (rd : CheckedRead) (s : State) : Host.Outcome State Fault Refusal :=
  let p := rd.pkt
  let k := p.value.toNat
  let a := p.addr.toNat
  let who := pktCtx p
  .next (if p.op ≠ 1 ∨ waitsTag s p k then s else arrive p s fun s =>
    if stale s p then launch (nackOf s 3 p) (mshDrop p.dest.toNat 1 p s)
    else match epPort p.dest.toNat with
    | some q => egressTake q p s
    | none =>
      if epMem p.dest.toNat && pktSpace a && decide (1 ≤ k ∧ k ≤ 512) && (rangeFault s who a k).isNone then
        let s := poisonReads who a k (checkRead who a k rd.crc (dynTags who a k s))
        launch { answer s 3 p with payload := locRead s who a k, last := true } s
      else s)

/-- A write that the module refuses (R160, R252, R299): a DMA channel halts with WRITE_ERR, a port's ingress gets NACK REMOTE (R375). -/
def refuseWr (p : Packet) (s : State) : State :=
  match epDma p.src.toNat, epPort p.src.toNat with
  | some c, _ => if rget s .DMA_STATUS_STATE c = 1 then dmaError c 0x11 2 (p.addr.toNat - dDst (dmGet s c).desc) s else s
  | _, some _ => launch (nackOf s (4 ||| 2 <<< 8) p) s
  | _, _ => s

/-- `WR_PACKET` (R264, R265, R268): checked for generation and sequence, written, and acknowledged. -/
def execWrPacket (p : Packet) (s : State) : Host.Outcome State Fault Refusal :=
  .next (if p.op ≠ 2 ∨ waitsTag s p (max 1 p.payload.length) then s else arrive p s fun s =>
    if stale s p then launch (nackOf s 3 p) (mshDrop p.dest.toNat 1 p s)
    else match epPort p.dest.toNat with
    | some q => egressTake q p s
    | none =>
      if !epMem p.dest.toNat then s
      else
        let r := flowCheck p s
        let a := p.addr.toNat
        let n := p.payload.length
        if !r.1 then r.2
        else if !pktSpace a || (rangeFault r.2 (pktCtx p) a (max 1 n)).isSome || !writeOk r.2 (pktCtx p) a n then refuseWr p r.2
        else flowAdvance p (locWrite (pktCtx p) a p.payload (dynTags (pktCtx p) a (max 1 n) r.2)))

/-- `RDRSP_PACKET` (R258, R260): a reply is sunk; one of another generation is dropped and counted. -/
def execRdrspPacket (p : Packet) (s : State) : Host.Outcome State Fault Refusal :=
  .next (if p.op ≠ 3 then s else arrive p s fun s => if stale s p then mshDrop p.dest.toNat 1 p s else s)

/-! ### Acknowledgements -/

/-- A loader engine's endpoint (R255), and the context whose load is being delivered. -/
def isLoader (e : Nat) : Bool := epX e == 31 && decide (epY e ≤ 7) && epN e == 32
def loadingCtx (s : State) : Option Nat :=
  (List.range 16).find? fun c => match (ctxGet s c).load with
    | some j => j.accepted
    | none => false

/-- A reply of this module to an inbound port flow goes back to its source module (R374). -/
def replyOut (q : Nat) (p : Packet) (s : State) : State :=
  match (portGet s q).inFlows.find? fun e => e.2.mesh == p.flow.toNat with
  | none => s
  | some e =>
    let span := match e.2.ctx with | some c => rget s .PRT_SPAN_SPAN 0 c | none => 0
    match routeTo s e.2.smod with
    | some o => sendBlocks o (packetBlocks (blockHead s 3 e.2.smod span e.1 p) p) s
    | none => s

/-- An ACK reaches the source of a flow (R264): it regains the credits that the ACK covers, and frees the flow when it holds all of them and
has no more to send. -/
def sourceAck (e : Nat) (p : Packet) (s : State) : State :=
  let k := txKey e p.flow.toNat
  match s.tx.find? fun x => x.1 == k with
  | none => s
  | some x =>
    let t := x.2
    let s := { s with tx := tset s.tx k { t with credits := t.window - (t.next + 65536 - p.aux.toNat % 65536) % 65536 } }
    match epDma e with
    | none => s
    | some c =>
      let s := dmaAck c p.flow.toNat (p.aux.toNat % 65536) s
      let more := dmaMore s (dmaCtx s c) (dmGet s c).desc (dmGet s c).sent p.flow.toNat
      if (tget tx0 s.tx k).credits = t.window ∧ (tget tx0 s.tx k).next = t.next ∧ !more then { s with tx := tdrop s.tx fun i => i == k } else s

/-- A target's ACK returns credits to the multicast window of the loader engine (R273). Segment 0's engine sends its multicasts before its unicasts
(R165), and replies keep their order, so the ACK is that of a multicast while the target owes one. -/
def loaderAck (p : Packet) (s : State) : State :=
  match loadingCtx s with
  | none => s
  | some c => ctxMod c (fun x => match x.load with
    | some j =>
      let w := tget (0, 0) j.mwin (epComb p.src.toNat)
      if epY p.dest.toNat = 0 ∧ w.1 ≠ w.2 then { x with load := some { j with mwin := tset j.mwin (epComb p.src.toNat) (w.1, p.aux.toNat % 65536) } }
      else x
    | none => x) s

/-- `ACK_PACKET` (R264, R273, R297, R374). At a port it may free the mesh flow behind a closed port flow (R263). -/
def execAckPacket (p : Packet) (s : State) : Host.Outcome State Fault Refusal :=
  let e := p.dest.toNat
  .next (if p.op ≠ 4 then s else arrive p s fun s =>
    if stale s p then mshDrop e 1 p s
    else match epPort e with
      | some q => inFlowAck q p.flow.toNat (p.aux.toNat % 65536) (replyOut q p s)
      | none => if isLoader e then loaderAck p s else sourceAck e p s)

/-- A flow of a source fails (R265): a DMA channel halts, and a delivery ends with DELIVERY. -/
def flowFail (e flow cause : Nat) (s : State) : State :=
  let k := txKey e flow
  let s := match s.tx.find? fun x => x.1 == k with
    | some x => { s with tx := tset s.tx k { x.2 with failed := true } }
    | none => s
  match epDma e with
  | some c => dmaFlowFail c cause flow s
  | none =>
    if isLoader e then match loadingCtx s with
      | some c => endLoad c 0x15 (noIdx + noIdx * 2 ^ 32) s
      | none => s
    else s

/-- A NACK REMOTE halts the channel and latches the refused address (R375). -/
def remoteFail (c : Nat) (p : Packet) (s : State) : State :=
  let x := dmGet s c
  if rget s .DMA_STATUS_STATE c = 1 ∧ !x.fetch then
    let d := p.addr.toNat - dDst x.desc
    dmaHalt c 0x14 2 p.addr.toNat (if dMode x.desc = 0 then d else d / dChunk x.desc * dChunk x.desc) false s
  else s

/-- `NACK_PACKET` (R264, R265, R299, R375): SEQ and GEN fail the flow, BUSY has its OPEN sent again 256 cycles later, REMOTE halts the channel. -/
def execNackPacket (p : Packet) (s : State) : Host.Outcome State Fault Refusal :=
  let e := p.dest.toNat
  let cause := p.aux.toNat % 256
  .next (if p.op ≠ 5 then s else arrive p s fun s =>
    if stale s p then mshDrop e 1 p s
    else match epPort e with
      | some q => replyOut q p s
      | none =>
        if cause = 2 then match s.tx.find? fun x => x.1 == txKey e p.flow.toNat with
          | some x => { s with tx := tset s.tx x.1 { x.2 with retryAt := some (s.cycle + 256) } }
          | none => s
        else if cause = 4 then match epDma e with
          | some c => remoteFail c p s
          | none => s
        else flowFail e p.flow.toNat 0x13 s)

/-- The loader engine waits for credits: a target of a delivery under way has blocks that it has not acknowledged (R273). -/
def loaderWait (s : State) : Bool :=
  match loadingCtx s with
  | none => false
  | some c => match (ctxGet s c).load with
    | some j => j.mwin.any fun w => w.2.1 != w.2.2
    | none => false

/-- `WINDOW_TIMEOUT` (R266): a wait for window credits of an open flow ends: a channel's next packet takes more than its flow holds, or the loader
engine's deliveries are not acknowledged. -/
def execWindowTimeout (ep : BitVec 16) (flow : BitVec 6) (s : State) : Host.Outcome State Fault Refusal :=
  let e := ep.toNat
  let there := if isLoader e then loaderWait s else (s.tx.any fun x => x.1 == txKey e flow.toNat && !x.2.failed) &&
    match epDma e with
    | some c => creditWait s c flow.toNat
    | none => false
  .next (if there then flowFail e flow.toNat 0x13 (bump .MSH_EVT_COUNT .MSH_OVF_OVF (mshAt e) 5 1 s) else s)

/-- `OPEN_RETRY` (R264): the source of a refused OPEN sends the flow's packets again from the OPEN on. -/
def execOpenRetry (ep : BitVec 16) (flow : BitVec 6) (s : State) : Host.Outcome State Fault Refusal :=
  let k := txKey ep.toNat flow.toNat
  match s.tx.find? (fun x => x.1 == k && x.2.retryAt.isSome && !x.2.failed), epDma ep.toNat with
  | some x, some c =>
    let s := { s with tx := tset s.tx k { x.2 with retryAt := none } }
    .next (((dmGet s c).out.filter fun o => o.flow == flow.toNat).foldl (fun s o => launch (dmaPacket s c o.off o.bytes o.seq o.opens) s) s)
  | _, _ => .next s

/-! ### Queues (R274 to R278) -/

/-- The queue's generation check (R277): the worker runs a program of the packet's context and the generation is the context's. -/
def queueOk (s : State) (wk : Nat) (p : Packet) : Bool :=
  p.ctxv && ctxHas s p.ctx.toNat (wk / 32) && (wGet s wk).act.present && !stale s p

/-- The refresh that returns a SEND's credit with `GONE`. -/
def goneCredit (s : State) (p : Packet) : Packet :=
  { answer s 7 p with src := BitVec.ofNat 16 (epC (epComb p.dest.toNat)), addr := 0, aux := 0x101 }

/-- `SEND_PACKET` (R276, R277): appended to its queue, or dropped and counted, with its credit returned as GONE. -/
def execSendPacket (p : Packet) (s : State) : Host.Outcome State Fault Refusal :=
  let e := p.dest.toNat
  let wk := epWorker e
  .next (if p.op ≠ 6 ∨ ¬ (epOnGrid e ∧ epN e ≤ 31) then s else arrive p s fun s =>
    if queueOk s wk p then
      let q := fld p.addr.toNat 4 3
      let ent : QEntry := ⟨(List.range (p.tlen.toNat + 1)).map (fun i => BitVec.ofNat 32 (leAt p.payload (4 * i) 4)), p.src.toNat, p.flow.toNat⟩
      let s := wMod wk (fun w => { w with queues := w.queues.set q (w.queues.getD q [] ++ [ent]) }) s
      if ((wGet s wk).queues.getD q []).length = 16 then bump .MSG_EVT_COUNT .MSG_OVF_OVF wk 2 1 s else s
    else
      let s := if stale s p then mshDrop e 1 p s else s
      launch (goneCredit s p) (bump .MSG_EVT_COUNT .MSG_OVF_OVF wk 0 1 s))

/-- The threads of a worker that are parked for a credit of a binding, ascending. -/
def creditParked (s : State) (wk b : Nat) : List (Nat × List Word) :=
  (List.range 128).filterMap fun t => match (thGet s wk t).park with
    | .credit b' tuple => if b' = b then some (t, tuple) else none
    | _ => none

/-- Parked SENDs take the credits that are there, the lowest thread first (R60). -/
def creditWake (wk b : Nat) (q : QTarget) (s : State) : State :=
  (creditParked s wk b).foldl (fun s e =>
    if 0 < (wGet s wk).cred.getD b 0 then wake wk e.1 true (sendNow wk b q e.2 s) else s) s

/-- `CREDIT_PACKET` (R276, R278): credits return to a binding, or it becomes GONE and its parked SENDs fail. -/
def execCreditPacket (p : Packet) (s : State) : Host.Outcome State Fault Refusal :=
  let e := p.dest.toNat
  let wk := epWorker e
  let b := p.flow.toNat % 8
  .next (if p.op ≠ 7 ∨ ¬ (epOnGrid e ∧ epN e ≤ 31) then s else arrive p s fun s =>
    if stale s p then mshDrop e 1 p s
    else match qbind (wGet s wk) b with
      | none => s
      | some q =>
        let n := p.aux.toNat % 32
        let s := wMod wk (fun w => { w with cred := w.cred.set b (min q.max (w.cred.getD b 0 + n)) }) s
        if bit p.aux.toNat 8 then
          let s := wMod wk (fun w => { w with gone := w.gone.set b true }) s
          (creditParked s wk b).foldl (fun s t => wake wk t.1 false (goneFail wk t.1 q s)) s
        else creditWake wk b q s)

/-! ### Signals (R280, R283) -/

/-- `SIG_PACKET` (R280, R283): applied when its generation is the context's, and answered in either case. -/
def execSigPacket (p : Packet) (s : State) : Host.Outcome State Fault Refusal :=
  let e := p.dest.toNat
  let cb := epComb e
  .next (if p.op ≠ 8 ∨ ¬ (epOnGrid e ∧ epN e = 63) then s else arrive p s fun s =>
    let reply (s : State) : State := launch { answer s 9 p with addr := 0 } s
    if stale s p then reply (bump .SYN_EVT_COUNT .SYN_OVF_OVF cb 0 1 (mshDrop e 1 p s))
    else reply (signal cb (fld p.addr.toNat 4 12) (p.value.toNat % 65536) s))

/-- `SIGACK_PACKET` (R283): the binding's `UNACKED` count goes down by one. -/
def execSigackPacket (p : Packet) (s : State) : Host.Outcome State Fault Refusal :=
  let e := p.dest.toNat
  let b := p.flow.toNat % 8
  .next (if p.op ≠ 9 ∨ ¬ (epOnGrid e ∧ epN e ≤ 31) then s else arrive p s fun s =>
    if stale s p then mshDrop e 1 p s
    else wMod (epWorker e) (fun w => { w with unacked := w.unacked.set b (w.unacked.getD b 0 - 1) }) s)

/-! ### Ridge signals (R186, R188) -/

/-- The modules of a context's span, in ascending order, without this one (R373). -/
def spanPeers (s : State) (c : Nat) : List Nat :=
  let nx := rget s .PRT_TOPO_NX1 + 1
  let ny := rget s .PRT_TOPO_NY1 + 1
  let xs := (List.range (rget s .PRT_SPAN_NXS1 0 c + 1)).map fun i => (rget s .PRT_SPAN_X0 0 c + i) % nx
  let ys := (List.range (rget s .PRT_SPAN_NYS1 0 c + 1)).map fun i => (rget s .PRT_SPAN_Y0 0 c + i) % ny
  if rget s .PRT_SPAN_VALID 0 c = 1 then
    (List.range 512).filter fun m => m / 256 == rget s .PRT_TOPO_P && xs.contains (m % 16) && ys.contains (m / 16 % 16) && m != moduleId s
  else []

/-- `RIDGE_PACKET` (R186, R188): a peer's signal is accepted when generation and step are the context's own and its ridge has not timed out;
any other is dropped and counted. -/
def execRidgePacket (p : Packet) (s : State) : Host.Outcome State Fault Refusal :=
  let c := p.ctx.toNat
  let m := p.aux.toNat % 1024
  .next (if p.op ≠ 10 ∨ p.dest.toNat ≠ keeperEp ∨ !p.ctxv then s else arrive p s fun s =>
    let dropped (s : State) : State := ctxMod c (fun x => { x with ridgeDropped := x.ridgeDropped + 1 }) s
    let late := rget s .CTX_STATE_STATE c == 3 && rget s .CTX_STATE_HOLD_CLASS c == 0x23
    if stale s p then dropped (mshDrop p.dest.toNat 1 p s)
    else if p.value.toNat % 65536 ≠ rget s .CTX_STEP_COUNT c % 65536 || late || !(spanPeers s c).contains m then dropped s
    else ctxMod c (fun x => { x with peers := if x.peers.contains m then x.peers else m :: x.peers }) s)

/-! ### Delivery (R164, R165, R271 to R273) -/

/-- The targets of a management write: combs, and 672 for a stream engine. -/
def mgmtTargets (p : Packet) : List Nat :=
  if p.mcast then mcastCombs p else if epOnGrid p.dest.toNat then [epComb p.dest.toNat] else [672]

def bufKey (i t : Nat) : Nat := i * 1024 + t

/-- A whole section has arrived at a target (R164): its CRC is checked and it is written into the shadows of the target; a first mismatch
has the section sent once more, a second one ends the load. -/
def finishSect (c i t : Nat) (s : State) : State :=
  match (ctxGet s c).load with
  | none => s
  | some j =>
    let img := emRead s (.ctx c) j.addr j.bytes
    let e := imgEntry img i
    let b := (tget [] j.buf (bufKey i t)).take e.length
    if (crc32c b).toNat = e.crc then
      let units := (sectUnits img e).filter fun u => if workerTy e.ty then u / 32 == t else if combTy e.ty then u == t else true
      let s := units.foldl (fun s u => shadowWrite e.ty u b s) s
      let got := if j.got.contains (i, t) then j.got else (i, t) :: j.got
      showReady c (ctxMod c (fun x => { x with load := some { j with got := got, buf := tdrop j.buf fun k => k == bufKey i t } }) s)
    else if j.retried.contains i then endLoad c 0x15 (i + noIdx * 2 ^ 32) s
    else ctxMod c (fun x => { x with load := some { j with retried := i :: j.retried, got := j.got.filter fun g => g.1 != i
                                                           buf := tdrop j.buf fun k => k / 1024 == i } }) s

/-- The payload of a management write joins the bytes of its section at a target; the last packet ends the section (R164). -/
def mgmtStore (c : Nat) (p : Packet) (t : Nat) (s : State) : State :=
  match (ctxGet s c).load with
  | none => s
  | some j =>
    let i := p.value.toNat
    let got := if p.seq = 0 then [] else tget [] j.buf (bufKey i t)
    let s := ctxMod c (fun x => { x with load := some { j with buf := tset j.buf (bufKey i t) (got ++ p.payload) } }) s
    if p.last then finishSect c i t s else s

/-- A target of a multicast counts the blocks that it has taken of the section, and acknowledges them (R273). -/
def mcastCount (c t n : Nat) (first : Bool) (s : State) : State :=
  ctxMod c (fun x => match x.load with
    | some j => { x with load := some { j with mwin := tset j.mwin t (n, if first then 0 else (tget (0, 0) j.mwin t).2) } }
    | none => x) s

/-- One target takes a management write. A unicast goes through the receive table as any flow; a multicast is checked against the blocks that the target
has of the section, and one out of sequence is dropped with every later one, with one NACK SEQ (R164, R264, R265, R273). -/
def mgmtAt (c : Nat) (p : Packet) (s : State) (t : Nat) : State :=
  match (ctxGet s c).load with
  | none => s
  | some j =>
    let i := p.value.toNat
    let img := emRead s (.ctx c) j.addr j.bytes
    let me := { p with dest := BitVec.ofNat 16 (if t = 672 then p.dest.toNat else epC t) }
    if !(deliveries img).contains (i, t) then s
    else if !p.mcast then
      let r := flowCheck me s
      if r.1 then mgmtStore c p t (flowAdvance me r.2) else r.2
    else if p.seq ≠ 0 ∧ s.rxDead.contains (flowKey me) then mshDrop me.dest.toNat 2 p s
    else if p.seq.toNat ≠ (if p.seq = 0 then 0 else ((tget [] j.buf (bufKey i t)).length + 127) / 128) then
      launch (nackOf s 1 me) (mshDrop me.dest.toNat 2 p (refuseFlow me s))
    else
      let n := p.seq.toNat + pktBlocks p
      let s := { s with rxDead := s.rxDead.filter (· != flowKey me) }
      mgmtStore c p t (launch (ackOf s n me) (mcastCount c t n (p.seq == 0) s))

/-- The multicast window holds the credits of a packet for every comb of every record of its section's stamp (R272). -/
def mcastRoom (s : State) (c : Nat) (p : Packet) : Bool :=
  match (ctxGet s c).load with
  | none => false
  | some j =>
    let img := emRead s (.ctx c) j.addr j.bytes
    !p.mcast || ((deliveries img).filter fun d => d.1 == p.value.toNat).all fun d =>
      let w := tget (0, 0) j.mwin d.2
      decide ((if p.seq = 0 then 0 else w.1 - w.2) + pktBlocks p ≤ 16)

/-- A multicast for combs of regions whose arrays are off: each of those regions' routers drops it (R220). -/
def dropOff (l : List Nat) (s : State) : State :=
  ((l.map regionOf).eraseDups.filter fun r => combsOff s r).foldl (fun s r => bump .PWR_REVT_COUNT .PWR_ROVF_OVF r 1 1 s) s

/-- The loader engines that may send a management write: any of the eight, and segment 0's alone for a multicast (R165, R271). -/
def mgmtSource (p : Packet) : Bool := isLoader p.src.toNat && (!p.mcast || epY p.src.toNat == 0)

/-- `MGMT_PACKET` (R164, R165, R268, R271 to R273): a delivery of the load in progress reaches its targets; `VALUE` names the section (assumption 41).
A multicast that the window has no room for waits. `delays` flits of context `d` were held up by it, one cycle each. -/
def execMgmtPacket (p : Packet) (d : Fin 16) (delays : Nat) (s : State) : Host.Outcome State Fault Refusal :=
  let room := match loadingCtx s with
    | some c => mcastRoom s c p
    | none => true
  .next (if p.op ≠ 11 ∨ !mgmtSource p ∨ !room then s else arrive p s fun s =>
    let s := if stepping s d.val then charge d.val delays s else s
    if stale s p then mshDrop p.dest.toNat 1 p s
    else match loadingCtx s with
    | none => s
    | some c =>
      let ts := mgmtTargets p
      if p.mcast then (ts.filter fun t => !combsOff s (regionOf t)).foldl (mgmtAt c p) (dropOff ts s) else ts.foldl (mgmtAt c p) s)

/-- `MULTICAST_ACK_TIMEOUT` (R272): a target has not acknowledged, so the delivery fails and the load ends with DELIVERY. -/
def execMulticastAckTimeout (c : Fin 16) (s : State) : Host.Outcome State Fault Refusal :=
  match (ctxGet s c.val).load with
  | some j => .next (if j.accepted then endLoad c.val 0x15 (noIdx + noIdx * 2 ^ 32) s else s)
  | none => .next s

/-- `PACKET_AGE_DROP` (R267): a packet at the head of a buffer of a router on its route, or at a port's egress, is too old. Fault records do not
age (R331). -/
def execPacketAgeDrop (x y : Fin 32) (p : Packet) (s : State) : Host.Outcome State Fault Refusal :=
  let router := epStop (x.val <<< 11 ||| y.val <<< 6)
  let here := (packetStops p).contains router && inOrder s p
  .next (if tooOld s p ∧ p.op ≠ 13 ∧ (here ∨ (s.egress.contains p ∧ router = epStop p.dest.toNat)) then
      mshDrop (if router < 672 then epC router else portEp 2) 0 p { s with flight := dropFirst (fun q => q == p) s.flight
                                                                           egress := dropFirst (fun q => q == p) s.egress }
    else s)

/-- `WAIT_SEND_TIMEOUT` (R13, R60): a thread parked on a WAIT or for a credit ends its wait; an arrival at a barrier stays counted (R281). -/
def execWaitSendTimeout (x : Fin 28) (y : Fin 24) (w : Fin 32) (thread : Fin 128) (s : State) : Host.Outcome State Fault Refusal :=
  let wk := wkOf x.val y.val w.val
  let t := thread.val
  match (thGet s wk t).park with
  | .wait obj _ =>
    let cb := wk / 32
    let o := objGet s cb obj
    let s := objSet cb obj { o with waiters := o.waiters.filter fun v => !(v.worker == wk && v.thread == t) } s
    .next (wake wk t false (timeoutEnd wk t obj (soAddr (cbX cb) (cbY cb) obj) true s))
  | .credit b _ => match qbind (wGet s wk) b with
    | some q => .next (wake wk t false (timeoutEnd wk t q.q (quAddr q.x q.y q.w q.q) false s))
    | none => .next s
  | _ => .next s

end Sys2Proof.Machine
end

