-- ==== Sys2Proof/Machine/Heal.lean ====
section
/-! DEFINITION. Physical combs and workers: maps, fences, moves and withdrawals, suspect steps, degraded states, regions leaving and joining
service (R21 to R27, R35, R310 to R327, R418). -/

namespace Sys2Proof.Machine

/-! ### Physical combs -/

def pcGet (s : State) (pc : Nat) : PComb := tget pcomb0 s.pcombs pc
def pcSet (pc : Nat) (k : PComb) (s : State) : State := { s with pcombs := tset s.pcombs pc k }
def pcMod (pc : Nat) (f : PComb → PComb) (s : State) : State := pcSet pc (f (pcGet s pc)) s

def pcX (pc : Nat) : Nat := pc % 35
def pcY (pc : Nat) : Nat := pc / 35

/-- The region of a physical comb. -/
def pcRegion (pc : Nat) : Nat := pcY pc / 4 * 7 + pcX pc / 5

/-- The logical comb that a physical comb serves. -/
def lcOf (s : State) (pc : Nat) : Option Nat :=
  ((List.range 4).map fun j => cbOf (4 * (pcX pc / 5) + j) (pcY pc)).find? fun cb => pcOf s cb == pc && !absentComb s cb

/-- The logical combs of a region, row by row. -/
def regionCombs (r : Nat) : List Nat := (List.range 16).map fun i => cbOf (4 * (r % 7) + i % 4) (4 * (r / 7) + i / 4)

/-- The 20 physical combs of a region. -/
def regionPcs (r : Nat) : List Nat := (List.range 20).map fun i => pcIx (5 * (r % 7) + i % 5) (4 * (r / 7) + i / 5)

/-- The good workers of a comb, ascending. -/
def PComb.goods (k : PComb) : List Nat := (List.range 34).filter fun w => !k.fenced.contains w

/-- The physical worker behind a logical one, and the logical worker that a physical one serves. -/
def PComb.phys (k : PComb) (w : Nat) : Nat := tget w k.wmap w
def PComb.serves (k : PComb) (pw : Nat) : Option Nat := (List.range 32).find? fun w => k.phys w == pw

/-- The context whose combs a physical comb serves. -/
def pcCtx (s : State) (pc : Nat) : Option Nat := (lcOf s pc).bind (ctxOfComb s)

/-- A record of a physical worker, or of a physical comb (worker 63). -/
def recP (s : State) (pc pw cls outcome detail : Nat) : FaultRec :=
  let lw := if pw = 63 then 63 else ((pcGet s pc).serves pw).getD 63
  withCtx s (pcCtx s pc)
    { cls := cls, outcome := outcome, detail := detail
      lsite := match lcOf s pc with | some cb => cbX cb <<< 27 ||| cbY cb <<< 22 ||| lw <<< 16 | none => 63 <<< 16
      psite := psiteOf (pcX pc) (pcY pc) pw (pcRegion pc) 15 }

/-- `MAP_SEQ` of the logical comb that a physical comb serves counts a change of its map (R37). -/
def mapSeq (cb : Nat) (s : State) : State := rset .CMB_STATUS_MAP_SEQ cb 0 (seqNext (rget s .CMB_STATUS_MAP_SEQ cb)) s

/-- The placement and the worker map of a logical comb. -/
def mapOf (s : State) (cb : Nat) : Nat × List Nat := (pxOf s cb, (List.range 32).map fun w => pwOf s (32 * cb + w))

/-- `MAP_SEQ` of each comb whose map differs from the one before counts the change, once (R36, R37). -/
def countMaps (before : State) (cbs : List Nat) (s : State) : State :=
  (cbs.filter fun cb => mapOf before cb != mapOf s cb).foldl (fun s cb => mapSeq cb s) s

/-- `CMB_STATUS.STATE` and `ROTATION` follow the good workers of the comb, but for one whose move waits (R315, R327). -/
def combState (cb : Nat) (s : State) : State :=
  if absentComb s cb ∨ rget s .CMB_STATUS_STATE cb = 2 then s
  else if (pcGet s (pcOf s cb)).goods.length = 32 then
    degrade 24 (rset .CMB_STATUS_ROTATION cb 0 0 (rset .CMB_STATUS_STATE cb 0 1 s))
  else rset .CMB_STATUS_ROTATION cb 0 1 (rset .CMB_STATUS_STATE cb 0 0 s)

/-- A move that waits in a region is abandoned: its combs stand in the state of their good workers again (R27, R220). -/
def dropMoves (r : Nat) (s : State) : State :=
  let s := { s with pcombs := s.pcombs.map fun e => if pcRegion e.1 = r then (e.1, { e.2 with moving := false }) else e }
  ((regionCombs r).filter fun cb => rget s .CMB_STATUS_STATE cb == 2).foldl (fun s cb => combState cb (rset .CMB_STATUS_STATE cb 0 0 s)) s

/-! ### State that is lost -/

/-- The block of registers that holds a field. -/
def domOf (f : F) : Option Dom := (regRows.find? fun r => r.fields.any fun x => x.f == f).map (·.dom)

/-- The comb that a key of comb memory or a local store belongs to. -/
def keyComb (k : Nat) : Option Nat :=
  if k < 2 ^ 60 then none else if k < 2 ^ 61 then some ((k - 2 ^ 60) / 2 ^ 27)
  else if k < 2 ^ 63 then some ((k - 2 ^ 61) / 2 ^ 19 / 32) else none

/-- A register field of a comb or of its workers that a warm reset does not keep. -/
def lostField (p : Nat → Bool) (k : FKey) : Bool :=
  warmOf k.f != .kept && match domOf k.f with
    | some .comb => p k.i
    | some .worker => p (k.i / 32)
    | _ => false

/-- The state of combs is lost: comb memory, local stores, workers, switches, sync objects, drops and their registers (R25, R220). -/
def loseCombs (p : Nat → Bool) (s : State) : State :=
  let here (k : Nat) : Bool := match keyComb k with | some cb => p cb | none => false
  { mwipe here s with
    poison := s.poison.filter fun k => !here (k * 128)
    workers := tdrop s.workers fun k => p (k / 32)
    switches := tdrop s.switches fun k => p (k / 3)
    objs := tdrop s.objs fun k => p (k / 4096)
    drops := tdrop s.drops p
    dropWaits := s.dropWaits.filter fun d => !p d.comb
    tags := s.tags.filter fun g => !p g.comb
    links := tdrop s.links fun k => decide (k < 10000) && p (k / 12)
    flds := s.flds.filter fun e => !lostField p e.1 }

/-! ### Regions in and out of service (R27, R35, R327) -/

/-- A region is out of service. -/
def regionOut (s : State) (r : Nat) : Bool :=
  rget s .CMB_RMAP_WITHDRAWN r == 1 || rget s .PWR_RSTAT_SP_STATE r == 2 || decide (3 ≤ rget s .PWR_RSTAT_CA_STATE r) ||
    s.keeper.testing.contains r

/-- `BST_HEALTH`'s region state can clear again: a region in HOT_OFF comes back (R327). -/
def clearRegionOut (s : State) : State :=
  let v := setFld (rget s .BST_HEALTH_STATES) 7 1 0
  healthSet .BST_HEALTH_DEGRADED (b2n (decide (4 ≤ v))) (healthSet .BST_HEALTH_STATES v s)

/-- What follows from the regions out of service: their count, the hot region shown, and which contexts cannot be restarted (R35). -/
def refreshRegions (s : State) : State :=
  let outs := (List.range 42).filter (regionOut s)
  let s := healthSet .BST_HEALTH_REGIONS_OUT outs.length s
  let s := rset .PWR_HEAT_HOTREG 0 0 (((List.range 42).find? fun r => rget s .PWR_RSTAT_CA_STATE r == 4).getD 63) s
  let s := (List.range 16).foldl (fun s c => match (ctxGet s c).allot with
    | some a => rset .CTX_STATE_RESTART_BLOCKED c 0 (b2n (outs.any a.hasRegion)) s
    | none => s) s
  if outs.isEmpty then clearRegionOut s else degrade 30 s

/-- Asks for a reset of every context that satisfies `p` (R341). -/
def resetCtxs (p : Nat → Bool) (s : State) : State :=
  ((List.range 16).filter p).foldl (fun s c => askReset c none s) s

/-- A region leaves service: the contexts whose allotment includes it are reset (R35). -/
def leaveRegion (r : Nat) (s : State) : State :=
  refreshRegions (resetCtxs (fun c => match (ctxGet s c).allot with | some a => a.hasRegion r | none => false) s)

/-- The running steps of contexts end: their units stop, and nothing of them goes on until the reset (R18). -/
def endSteps (p : Nat → Bool) (s : State) : State :=
  ((List.range 16).filter fun c => p c && (ctxGet s c).allot.isSome).foldl (fun s c => ctxMod c (fun x => { x with phase := .ended }) s) s

/-- The contexts whose allotment includes a region. -/
def inRegion (s : State) (r c : Nat) : Bool := match (ctxGet s c).allot with | some a => a.hasRegion r | none => false

/-- A region is withdrawn until the next cold reset: its 16 logical combs are absent (R27). `CMB_ID`, `CMB_WORKERS` and `CMB_WMAP` of an absent
comb keep showing its last placement, `ROTATION` reads 0, and `MAP_SEQ` does not count the withdrawal: the spec states none of these (assumption 110). -/
def withdraw (r : Nat) (s : State) : State :=
  if rget s .CMB_RMAP_WITHDRAWN r = 1 then s
  else
    leaveRegion r ((regionCombs r).foldl (fun s cb => rset .CMB_STATUS_ROTATION cb 0 0 (rset .CMB_STATUS_STATE cb 0 3 s))
      (rset .CMB_RMAP_WITHDRAWN r 0 1 s))

/-! ### GATED comb arrays (R213, R217) -/

/-- The regions of a context's allotment whose comb array is in a state. -/
def ctxArrays (s : State) (c st : Nat) : List Nat :=
  (List.range 42).filter fun r => inRegion s r c && rget s .PWR_RSTAT_CA_STATE r == st

/-- A context's comb arrays in RUN become GATED as its pause begins, and return to RUN as it ends (assumption 120). -/
def gate (c : Nat) (s : State) : State := (ctxArrays s c 0).foldl (fun s r => rset .PWR_RSTAT_CA_STATE r 0 1 s) s
def ungate (c : Nat) (s : State) : State := (ctxArrays s c 1).foldl (fun s r => rset .PWR_RSTAT_CA_STATE r 0 0 s) s

/-! ### Placing logical combs (R23, R418) -/

/-- The positions of a comb row of a region whose physical comb is good. -/
def goodPos (s : State) (c y : Nat) : List Nat := (List.range 5).filter fun p => (pcGet s (pcIx (5 * c + p) y)).good

/-- `CMB_RMAP` shows the good positions. -/
def writeRmap (r : Nat) (s : State) : State :=
  let g (k : Nat) : Nat := (goodPos s (r % 7) (4 * (r / 7) + k)).foldl (fun a p => a + 2 ^ p) 0
  rset .CMB_RMAP_GOOD0 r 0 (g 0) <| rset .CMB_RMAP_GOOD1 r 0 (g 1) <| rset .CMB_RMAP_GOOD2 r 0 (g 2) <| rset .CMB_RMAP_GOOD3 r 0 (g 3) s

/-- A row of the region has fewer than four good combs. -/
def shortRow (s : State) (r : Nat) : Bool := (List.range 4).any fun k => decide ((goodPos s (r % 7) (4 * (r / 7) + k)).length < 4)

/-- The position that R23 gives a logical comb. -/
def placeOf (s : State) (cb : Nat) : Nat := 5 * (cbX cb / 4) + (goodPos s (cbX cb / 4) (cbY cb)).getD (cbX cb % 4) 0

/-- R23 places the logical combs of a region; a region with a short row is withdrawn. -/
def placeRegion (r : Nat) (s : State) : State :=
  let s := writeRmap r s
  if shortRow s r then withdraw r s
  else (regionCombs r).foldl (fun s cb => combState cb { s with pcol := tset s.pcol cb (placeOf s cb) }) s

/-- The worker map of a comb at a start: logical workers from the lowest good workers, the highest remaining one under test, the next in
reserve (R418). -/
def PComb.mapped (k : PComb) : PComb :=
  let g := k.goods
  { k with wmap := (List.range 32).map fun w => (w, g.getD w w)
           test := g.getD (g.length - 1) 63, reserve := if g.length = 34 then g.getD 32 63 else 63
           suiteDone := false, reserveDone := true, swapAt := 0, waiting := [] }

def mapWorkers (pc : Nat) (s : State) : State :=
  pcMod pc (fun k => let m := { k.mapped with swapAt := s.keeper.grid, suiteAt := s.cycle }
    if k.goods.length ≤ 32 then { m with test := 63 } else m) s

/-! ### Suspect steps (R311) -/

/-- The context of a physical comb with its generation and the step that comes next: from release to the end of the ridge the step counter still
shows the step that has run (R189). -/
def servedNow (s : State) (pc : Nat) : Option (Nat × Nat × Nat) :=
  (pcCtx s pc).map fun c =>
    let ph := (ctxGet s c).phase
    (c, genOf s c, rget s .CTX_STEP_COUNT c + b2n (ph == .released || ph == .wait))

/-- A physical worker enters service: its steps count from the next one. An entry of the same incarnation is opened again. -/
def enterService (pc pw : Nat) (s : State) : State :=
  match servedNow s pc with
  | none => s
  | some (c, g, n) => pcMod pc (fun k =>
      if k.served.any fun e => e.1 == pw && e.2.ctx == c && e.2.gen == g then
        { k with served := k.served.map fun e => if e.1 == pw && e.2.ctx == c && e.2.gen == g then (e.1, { e.2 with last := none }) else e }
      else { k with served := k.served ++ [(pw, ⟨c, g, n, none⟩)] }) s

/-- A physical worker leaves service: the last step it served is the one before the next. -/
def leaveService (pc pw : Nat) (s : State) : State :=
  match servedNow s pc with
  | none => s
  | some (c, g, n) => pcMod pc (fun k =>
      let here (e : Nat × Served) : Bool := e.1 == pw && e.2.ctx == c && e.2.gen == g
      match k.served.find? here with
      | some e => if e.2.first < n then { k with served := replFirst here (fun e => (e.1, { e.2 with last := some (n - 1) })) k.served }
          else { k with served := k.served.filter fun e => !here e }
      | none => if n = 0 then k else { k with served := k.served ++ [(pw, ⟨c, g, 0, some (n - 1)⟩)] }) s

/-- A worker's last clean pass ends: nothing it served before is suspect any more. -/
def cleanPass (pc pw : Nat) (s : State) : State :=
  let s := pcMod pc (fun k => { k with lastPass := tset k.lastPass pw s.tick, served := k.served.filter fun e => e.1 != pw }) s
  if ((pcGet s pc).serves pw).isSome then enterService pc pw s else s

/-- One SUSPECT record for each context that ran steps with the worker in service since its last clean pass. -/
def suspectReport (pc pw cls detail : Nat) (s : State) : State :=
  let k := pcGet s pc
  let mine := (k.served.filter fun e => e.1 == pw).map (·.2)
  let now := servedNow s pc
  let extra : List Served := match now with
    | some (c, g, _) => if (k.serves pw).isSome && !(mine.any fun e => e.ctx == c && e.gen == g) then [⟨c, g, 0, none⟩] else []
    | none => []
  (mine ++ extra).foldl (fun s e =>
    let n := rget s .CTX_STEP_COUNT e.ctx
    let upTo := match e.last with | some l => l + 1 | none => if (ctxGet s e.ctx).phase == .idle then n else n + 1
    if upTo ≤ e.first then s
    else raise (pcRegion pc) { recP s pc pw cls 3 detail with ctx := some e.ctx, gen := e.gen, step := upTo - 1, addr := e.first } s) s

/-! ### Fencing a worker (R323) -/

/-- A physical comb stops being good. A spare comb that fails leaves its row without a spare; nothing moves (R26, R325). -/
def loseSpare (pc src : Nat) (s : State) : State :=
  let e := defEntry 2 src (siteC (pcX pc) (pcY pc))
  let s := if recorded s 2 (siteC (pcX pc) (pcY pc)) then s else recordAdd e s
  degrade 23 (writeRmap (pcRegion pc) (pcMod pc (fun k => { k with good := false }) s))

/-- The comb after one of its workers is fenced: the reserve, else the worker under test, takes over a logical worker. -/
def PComb.fence (k : PComb) (pw : Nat) : PComb :=
  let k1 := { k with fenced := k.fenced ++ [pw], waiting := k.waiting.filter (· != pw), marginal := k.marginal.filter (· != pw) }
  if pw = k.test then { k1 with test := k.reserve, suiteDone := k.reserveDone, reserve := 63 }
  else if pw = k.reserve then { k1 with reserve := 63 }
  else match k.serves pw with
    | none => k1
    | some w =>
      if k.reserve ≠ 63 then { k1 with wmap := tset k1.wmap w k.reserve, reserve := 63 }
      else if k.test ≠ 63 then { k1 with wmap := tset k1.wmap w k.test, test := 63 }
      else k1

/-- A worker is fenced until the next cold reset: it is recorded, its place is taken, and a comb with 31 good workers waits for its fence. -/
def fenceWorker (pc pw : Nat) (s : State) : State :=
  let k := pcGet s pc
  if !k.good || k.fenced.contains pw || 34 ≤ pw then s
  else
    let site := siteW (pcX pc) (pcY pc) pw
    let s := if recorded s 1 site then s else recordAdd (defEntry 1 3 site) s
    let s := leaveService pc pw s
    let k' := k.fence pw
    let s := pcMod pc (fun x => { k' with served := x.served, suiteAt := if k'.test = k.test then k.suiteAt else s.cycle }) s
    let s := match (k.serves pw).bind fun w => if k'.phys w = pw then none else some (k'.phys w) with
      | some sub => enterService pc sub s
      | none => s
    let s := { s with keeper := { s.keeper with fences := s.keeper.fences ++ [(pcRegion pc, s.tick)], fenceDue := true } }
    match lcOf s pc with
    | some cb =>
      let s := combState cb (mapSeq cb s)
      if k'.goods.length ≤ 31 ∧ !s.combFaults.contains cb then { s with combFaults := s.combFaults ++ [cb] } else s
    | none => if k'.goods.length ≤ 31 then loseSpare pc 3 s else s

/-! ### Moving combs (R25, R26, R324) -/

/-- Puts a logical comb on the physical comb that R23 names now: its state moves with it, or is lost. -/
def moveComb (lost : Nat) (cb : Nat) (s : State) : State :=
  let px := placeOf s cb
  if px = pxOf s cb ∧ cb ≠ lost then s
  else
    let s := { s with pcol := tset s.pcol cb px, links := tdrop s.links fun k => k / 12 == cb && decide (k < 10000) }
    let s := if cb = lost then rset .CMB_STATUS_MEM_LOST cb 0 1 (loseCombs (· == cb) s) else rset .CMB_STATUS_MOVED cb 0 1 s
    combState cb (mapSeq cb (if rget s .CMB_STATUS_STATE cb = 2 then rset .CMB_STATUS_STATE cb 0 0 s else s))

/-- The logical combs of a physical comb's row in its region. -/
def rowCombs (pc : Nat) : List Nat := (List.range 4).map fun j => cbOf (4 * (pcX pc / 5) + j) (pcY pc)

/-- Every path through the combs of a row has drained: no packet from or to them, no word in their switches and FIFOs, no block on a rafter lane
of the context, no drop and no transfer of comb memory that still waits (R26). Marks pass a ridge with their units (R135; assumption 123). -/
def drained (s : State) (pc : Nat) (owner : Option Nat) : Bool :=
  let row := rowCombs pc
  let at' (e : Nat) : Bool := epOnGrid e && row.contains (epComb e)
  s.flight.all (fun q => !(at' q.src.toNat || at' q.dest.toNat)) &&
  s.switches.all (fun e => !row.contains (e.1 / 3) || e.2.qs.all fun q => q.2.all (isMark (e.1 % 3))) &&
  s.workers.all (fun e => !row.contains (e.1 / 32) || ((e.2.fifo.mapIdx fun i q => q.all (isMark (inNet i))).all (·) && e.2.outq.isEmpty)) &&
  s.lane.all (fun b => owner != some b.ctx) && s.dropWaits.all (fun d => !row.contains d.comb) &&
  (heldTags s).all fun g => !row.contains g.comb

/-- The remap that follows a fence: every logical comb east of the fenced one moves one position, the fenced one's is placed with its state
lost. A row that has run out withdraws its region, and nothing moves. -/
def remap (pc cb : Nat) (s : State) : State :=
  let s := writeRmap (pcRegion pc) s
  if shortRow s (pcRegion pc) then withdraw (pcRegion pc) (dropMoves (pcRegion pc) s)
  else
    let row := ((List.range 4).map fun j => cbOf (4 * (pcX pc / 5) + 3 - j) (pcY pc))
    degrade 23 (row.foldl (fun s x => moveComb cb x s) s)

/-! ### Spines (R206, R222, R262) -/

/-- The regions that a dimension-order route from one region to another passes, both ends included (R257). -/
def legRegions (a b : Nat) : List Nat :=
  let between (u v : Nat) : List Nat := (List.range (max u v - min u v + 1)).map (· + min u v)
  (between (a % 7) (b % 7)).map (fun c => a / 7 * 7 + c) ++ (between (a / 7) (b / 7)).map fun r => r * 7 + b % 7

/-- The region at which a segment's traffic for a region enters the grid. -/
def segGate (seg r : Nat) : Nat :=
  let c := r % 7
  let y := r / 7
  match seg with
  | 0 => min c 3
  | 1 => max c 3
  | 2 => 7 * min y 2 + 6
  | 3 => 7 * max y 3 + 6
  | 4 => 35 + max c 3
  | 5 => 35 + min c 3
  | 6 => 7 * max y 3
  | _ => 7 * min y 2

/-- Segments whose channels or DMA channels a context uses. -/
def ctxSegs (s : State) (c : Nat) : List Nat :=
  match (ctxGet s c).allot with
  | none => []
  | some a => (a.chans.map (· / 256) ++ ((List.range 80).filter fun d => dmaCtx s d == some c).map fun d => epY (dmaEp d) % 8).eraseDups

/-- The spine of a region that a rafter lane of a context passes. -/
def laneThrough (a : Allot) (r : Nat) : Bool :=
  let c := r % 7
  let y := r / 7
  (decide (a.col0 ≤ c ∧ c ≤ a.col1) && a.lanes.any fun l => if l.1 / 28 = 0 then decide (y ≤ a.row1) else decide (a.row0 ≤ y)) ||
    (decide (a.row0 ≤ y ∧ y ≤ a.row1) && (a.col0 == 0 && decide (c ≤ a.col1) || a.col1 == 6 && decide (a.col0 ≤ c)))

/-- A context routes through a region's spine: the region is its own, or its mesh or rafter traffic passes it. -/
def routesThrough (s : State) (c r : Nat) : Bool :=
  match (ctxGet s c).allot with
  | none => false
  | some a => a.hasRegion r || laneThrough a r ||
      (ctxSegs s c).any fun seg => ((List.range 42).filter a.hasRegion).any fun q =>
        (legRegions (segGate seg q) q).contains r || (legRegions q (segGate seg q)).contains r

/-- A region's comb array loses power: its combs' state is lost, moves in it are abandoned, it no longer wakes or runs tests, and the steps of
the contexts whose allotment includes it end (R18, R206, R219, R220). -/
def combArrayOff (r state : Nat) (s : State) : State :=
  let s := endSteps (inRegion s r) (dropMoves r s)
  let s := { s with
    pcombs := s.pcombs.map fun e => if pcRegion e.1 = r then (e.1, { e.2 with scouts := 0, beat := 0, fault := false }) else e
    keeper := { s.keeper with waking := s.keeper.waking.filter (· != r), testing := s.keeper.testing.filter (· != r) } }
  rset .PWR_RSTAT_CA_STATE r 0 state (rset .PWR_RSTAT_CPLL_LOCK r 0 0 (rset .PWR_RSTAT_MCLK_LOCK r 0 0 (loseCombs (fun cb => regionOf cb == r) s)))

/-- A spine fault: the region and its routes leave service, and every context that routes through the spine is reset (R206, R327). -/
def spineFault (r : Nat) (s : State) : State :=
  if rget s .PWR_RSTAT_SP_STATE r = 2 then s
  else
    let hit := (List.range 16).filter fun c => routesThrough s c r
    let s := { s with keeper := { s.keeper with spineBad := r :: s.keeper.spineBad } }
    let s := combArrayOff r 3 (endSteps hit.contains (rset .PWR_RSTAT_SPLL_LOCK r 0 0 (rset .PWR_RSTAT_SP_STATE r 0 2 s)))
    let s := raise 50 { cls := 0x07, outcome := 6, lsite := 63 <<< 16, psite := psiteR r } (degrade 29 s)
    leaveRegion r (resetCtxs hit.contains s)

end Sys2Proof.Machine
end

