-- ==== Sys2Proof/Machine/Power.lean ====
section
/-! DEFINITION. Clocks, power domains and heat: hot regions, switch-offs, trips, spine and segment faults, domains coming on (R205 to R223, R250). -/

namespace Sys2Proof.Machine

/-! ### Heat switch-off (R219 to R221) -/

/-- `HOT_SET` (R216, R219): a sensor of the region reads 108.0 °C or more, whatever the state of the region's comb array. -/
def execHotSet (r : Fin 42) (sensor : Fin 8) (temp : Nat) (s : State) : Host.Outcome State Fault Refusal :=
  let i := r.val
  if temp < 864 ∨ rget s .PWR_RSTAT_HOT i = 1 then .next s
  else
    let s := rset .PWR_RTEMP_TEMP i sensor.val (min 255 (temp / 4)) (rset .PWR_RSTAT_TMAX i 0 (min 1023 temp) s)
    .next (bump .PWR_REVT_COUNT .PWR_ROVF_OVF i 0 1 (rset .PWR_RSTAT_HOT_TICKS i 0 0 (rset .PWR_RSTAT_HOT i 0 1 s)))

/-- A region that is to be switched off: at the second tick boundary after HOT set it still reads 106.0 °C or more (R219). -/
def offDue (s : State) (i : Nat) : Bool :=
  rget s .PWR_RSTAT_HOT i == 1 && rget s .PWR_RSTAT_HOT_TICKS i == 2 && decide (848 ≤ rget s .PWR_RSTAT_TMAX i) && decide (rget s .PWR_RSTAT_CA_STATE i < 3)

/-- The record of a switch-off. -/
def offRecord (i : Nat) (s : State) : State := raise i { cls := 0x31, outcome := 6, lsite := 63 <<< 16, psite := psiteR i } s

/-- `COMB_ARRAY_SWITCH_OFF` (R219, R220). -/
def execCombArraySwitchOff (r : Fin 42) (s : State) : Host.Outcome State Fault Refusal :=
  let i := r.val
  if offDue s i then
    let s := combArrayOff i 4 s
    .next (leaveRegion i (offRecord i { s with keeper := { s.keeper with cool := tset s.keeper.cool i 0 } }))
  else .next s

/-- `HOT_OFF_RETURN` (R221): 8 consecutive tick boundaries below 100.0 °C; the keeper switches the domain on. -/
def execHotOffReturn (r : Fin 42) (s : State) : Host.Outcome State Fault Refusal :=
  let i := r.val
  if rget s .PWR_RSTAT_CA_STATE i = 4 ∧ 8 ≤ tget 0 s.keeper.cool i ∧ s.keeper.inReset = false ∧ !s.keeper.waking.contains i then
    .next { s with keeper := { s.keeper with waking := s.keeper.waking ++ [i] } }
  else .next s

/-! ### The trip and the reference (R205, R222) -/

/-- Every comb array and spine stops; comb arrays enter TRIP_OFF and spines OFF. -/
def tripRegions (s : State) : State :=
  let s := (List.range 42).foldl (fun s r =>
    rset .PWR_RSTAT_CA_STATE r 0 5 <| rset .PWR_RSTAT_SP_STATE r 0 2 <| rset .PWR_RSTAT_SPLL_LOCK r 0 0 <|
      rset .PWR_RSTAT_CPLL_LOCK r 0 0 <| rset .PWR_RSTAT_MCLK_LOCK r 0 0 s)
    (loseCombs (fun _ => true) (endSteps (fun _ => true) ((List.range 42).foldl (fun s r => dropMoves r s) s)))
  { s with keeper := { s.keeper with waking := [], testing := [], cool := [] }
           pcombs := s.pcombs.map fun e => (e.1, { e.2 with scouts := 0, beat := 0, fault := false }) }

/-- What a trip switches off: the segments keep their power and transit paths with the packages in self-refresh, and every context is reset. -/
def tripNow (s : State) : State :=
  let s := (List.range 8).foldl (fun s g => if rget s .EAV_SEG_STATE g = 0 then rset .EAV_SEG_STATE g 0 1 s else s) (tripRegions s)
  refreshRegions (resetCtxs (fun _ => true) (rset .KPR_ALERT_TRIP 0 0 1 (rset .PWR_HEAT_TRIPPED 0 0 1 s)))

/-- A record of the power and heat class that names no place. -/
def heatRec (cls detail : Nat) : FaultRec := { cls := cls, outcome := 2, lsite := 63 <<< 16, psite := psiteOf 0 0 63 63 15, detail := detail }

/-- A trip (R222). A switch-off that falls in the same cycle is recorded beside it (R220). -/
def trip (s : State) : State :=
  if rget s .PWR_HEAT_TRIPPED = 1 then s
  else raise 50 (heatRec 0x32 0) (tripNow (((List.range 42).filter (offDue s)).foldl (fun s i => offRecord i s) s))

/-- `TRIP` (R222): a die sensor at 115.0 °C, or a coolant reading at its fatal threshold (R474). -/
def execTrip (cause : TripCause) (s : State) : Host.Outcome State Fault Refusal :=
  .next (match cause with
    | .sensor => trip s
    | .coolant => if s.keeper.inReset then s else trip s)

/-- A segment's memory and state are lost with its power: eave memory, poison marks, streams, repairs and blocks under way. -/
def loseSegments (p : Nat → Bool) (s : State) : State :=
  let gone (ch : Nat) : Bool := decide (ch < 2048) && p (ch / 256)
  { mwipe (fun k => decide (k < 2 ^ 60) && gone (k / 2 ^ 32)) s with
    poison := s.poison.filter fun k => !(decide (k < 2 ^ 53) && gone (k / 2 ^ 32))
    chans := tdrop s.chans gone
    lane := s.lane.filter fun b => !gone b.chan
    laneFails := tdrop s.laneFails fun k => p (k / 672 / 64)
    laneTests := s.laneTests.filter fun k => !p (k / 64)
    scrubLog := s.scrubLog.filter fun e => !gone e.1
    egress := s.egress.filter fun q => !(epX q.dest.toNat == 31 && epN q.dest.toNat == 34 && p (epY q.dest.toNat)) }

/-- The keeper's part of a reference loss (R205): the backup clock, every region and segment domain off, every context reset. Nothing switches on
again before a cold reset. -/
def referenceGone (s : State) : State :=
  let s := raise 50 (heatRec 0x30 0) (tripNow (rset .CLK_STATUS_KPLL_LOCK 0 0 0 s))
  let s := (List.range 8).foldl (fun s g =>
    let s := match segPort g with | some p => portDown p (rget s .PRT_STATUS_CAUSE p) s | none => s
    rset .EAV_SEG_TRANSIT g 0 0 (rset .EAV_SEG_STATE g 0 2 s)) (loseSegments (fun _ => true) s)
  { s with keeper := { s.keeper with refPending := false } }

/-- `REFERENCE_LOSS` (R205): a keeper in reset handles it when it resumes (R447). -/
def execReferenceLoss (s : State) : Host.Outcome State Fault Refusal :=
  if rget s .CLK_STATUS_RC_ACTIVE = 1 then .next s
  else
    let s := rset .CLK_STATUS_REF_OK 0 0 0 (rset .CLK_STATUS_RC_ACTIVE 0 0 1 s)
    .next (if s.keeper.inReset then { s with keeper := { s.keeper with refPending := true } } else referenceGone s)

/-! ### Spines, comb-array PLLs and segments (R206, R250) -/

/-- `SPINE_FAULT` (R206): a spine PLL that loses lock counts in `PWR_REVT1`. -/
def execSpineFault (r : Fin 42) (s : State) : Host.Outcome State Fault Refusal :=
  let i := r.val
  if rget s .PWR_RSTAT_SP_STATE i = 2 then .next s
  else .next (spineFault i (bump .PWR_REVT_COUNT .PWR_ROVF_OVF i 1 1 s))

/-- `COMB_ARRAY_PLL_LOSS` (R206): the comb array stops and is switched off; its contexts are reset (R35). -/
def execCombArrayPllLoss (r : Fin 42) (s : State) : Host.Outcome State Fault Refusal :=
  let i := r.val
  if 2 ≤ rget s .PWR_RSTAT_CA_STATE i then .next s
  else .next (leaveRegion i (combArrayOff i 3 (bump .PWR_REVT_COUNT .PWR_ROVF_OVF i 1 1 s)))

/-- A context holds a channel of a segment, or a lane of one of its rafters. -/
def holdsSegment (s : State) (seg c : Nat) : Bool :=
  (match (ctxGet s c).allot with | some a => a.chans.any fun ch => ch / 256 == seg | none => false) ||
    (List.range 14).any fun k => (List.range 4).any fun l => laneHolder s seg k l == some c

/-- A segment fails until the next cold reset (R250, R405): its channels, rafters, ring DMA channels, port and transit path leave service.
Segment 1 takes the host link with it. -/
def segmentFault (seg : Nat) (s : State) : State :=
  if rget s .EAV_SEG_STATE seg = 3 then s
  else
    let hit := (List.range 16).filter (holdsSegment s seg)
    let s := match segPort seg with | some p => portDown p (rget s .PRT_STATUS_CAUSE p) s | none => s
    let s := (List.range 80).foldl (fun s d => if epY (dmaEp d) = seg then dmaStopNow d s else s) s
    let s := rset .EAV_SEG_STATE seg 0 3 (rset .EAV_SEG_TRANSIT seg 0 0 (rset .EAV_SEG_IN_SERVICE seg 0 0 (loseSegments (· == seg) s)))
    let s := (List.range 256).foldl (fun s i => rset .MEM_CHSTAT_STATE seg i 2 s) s
    let s := raise (42 + seg) { cls := 0x08, outcome := 6, lsite := 63 <<< 16, psite := psiteS seg } (degrade 28 s)
    resetCtxs hit.contains s

/-- `SEGMENT_FAULT` (R250). -/
def execSegmentFault (seg : Fin 8) (s : State) : Host.Outcome State Fault Refusal := .next (segmentFault seg.val s)

/-! ### Domains coming on (R211, R212, R214) -/

/-- A grant completes when every region of its allotment is in RUN (R337). -/
def endGrants (s : State) : State :=
  (List.range 16).foldl (fun s c =>
    let x := ctxGet s c
    match x.allot, x.grantTag with
    | some a, some (f, tag) =>
      if ((List.range 42).filter a.hasRegion).all fun r => rget s .PWR_RSTAT_CA_STATE r == 0 && !s.keeper.testing.contains r then
        let s := { s with taken := dropFirst (fun h => h.started && h.opcode == 2 && h.func == f && h.tag == tag) s.taken }
        post f ⟨1, 0, some c, 2, genOf s c, tag, 0⟩ (ctxMod c (fun x => { x with grantTag := none }) s)
      else s
    | _, _ => s) s

/-- A comb array is on: its PLL has locked. One that comes on in service after its power was off runs its region tests first (R214, R221). -/
def combArrayOn (r : Nat) (s : State) : State :=
  let was := rget s .PWR_RSTAT_CA_STATE r
  let s := rset .PWR_RSTAT_CA_STATE r 0 0 (rset .PWR_RSTAT_CPLL_LOCK r 0 1 (rset .PWR_RSTAT_MCLK_LOCK r 0 1 s))
  let s := { s with keeper := { s.keeper with waking := s.keeper.waking.filter (· != r), cool := tdrop s.keeper.cool (· == r)
                                              testing := if 3 ≤ was ∧ s.keeper.waking.contains r then s.keeper.testing ++ [r] else s.keeper.testing } }
  if s.keeper.testing.contains r then refreshRegions s else endGrants s

/-- The segments that come on before a segment in stage 0x04 (R211). -/
def segsBefore (g : Nat) : List Nat := [2, 3, 4, 5, 6, 7, 0].takeWhile (· != g)

/-- A spine, or a comb array, whose turn in stage 0x06 is over: it is on, or is skipped (R211). -/
def spineOver (s : State) (r : Nat) : Bool := rget s .PWR_RSTAT_SP_STATE r != 2 || s.keeper.spineBad.contains r
def arrayOver (s : State) (r : Nat) : Bool :=
  rget s .PWR_RSTAT_CA_STATE r != 3 || rget s .CMB_RMAP_WITHDRAWN r == 1 || s.keeper.spineBad.contains r

/-- The keeper has a comb array woken: the region's spine runs, and the module is not in a trip (R206, R223). -/
def wakes (s : State) (r : Nat) : Bool := s.keeper.waking.contains r && rget s .PWR_RSTAT_SP_STATE r == 0 && rget s .PWR_HEAT_TRIPPED == 0

/-- `DOMAIN_READY` (R211, R212): a domain reports that it is on: a segment in stage 0x02 or 0x04, a spine or comb array in stage 0x06, each in its
turn, and a comb array that the keeper wakes. A domain that is out of service is skipped; none comes on while the reference is lost (R205), and no
region in a trip (R223). -/
def execDomainReady (d : Fin 93) (s : State) : Host.Outcome State Fault Refusal :=
  let st := stageOf s
  if d.val = 0 ∨ rget s .CLK_STATUS_RC_ACTIVE = 1 then .next s
  else if d.val ≤ 8 then
    let g := d.val - 1
    let due := if g = 1 then st == 2 else st == 4 && (segsBefore g).all fun h => rget s .EAV_SEG_STATE h != 2
    if due && rget s .EAV_SEG_STATE g == 2 then
      .next (rset .EAV_SEG_TRANSIT g 0 1 (rset .EAV_SEG_STATE g 0 0 s))
    else .next s
  else if d.val ≤ 50 then
    let r := d.val - 9
    if st = 6 ∧ rget s .PWR_HEAT_TRIPPED = 0 ∧ rget s .PWR_RSTAT_SP_STATE r = 2 ∧ !s.keeper.spineBad.contains r ∧ (List.range r).all (spineOver s) then
      .next (rset .PWR_RSTAT_SPLL_LOCK r 0 1 (rset .PWR_RSTAT_SP_STATE r 0 0 s))
    else .next s
  else
    let r := d.val - 51
    if (st = 6 ∧ rget s .PWR_HEAT_TRIPPED = 0 ∧ rget s .PWR_RSTAT_CA_STATE r = 3 ∧ rget s .PWR_RSTAT_SP_STATE r = 0 ∧ rget s .CMB_RMAP_WITHDRAWN r = 0 ∧
        (List.range 42).all (spineOver s) ∧ (List.range r).all (arrayOver s)) ∨ wakes s r then .next (combArrayOn r s)
    else .next s

/-- `IDLE_SLEEP` (R214): a region of no allotment has been idle for `IDLE_TICKS`. -/
def execIdleSleep (r : Fin 42) (s : State) : Host.Outcome State Fault Refusal :=
  let i := r.val
  let idle := !((List.range 16).any fun c => match (ctxGet s c).allot with | some a => a.hasRegion i | none => false)
  if idle && rget s .PWR_CTRL_AUTO_SLEEP == 1 && decide (rget s .PWR_CTRL_IDLE_TICKS ≤ tget 0 s.keeper.idle i) && rget s .PWR_RSTAT_CA_STATE i == 0 &&
      !s.keeper.inReset && !s.keeper.testing.contains i then
    .next (rset .PWR_RSTAT_CA_STATE i 0 2 (rset .PWR_RSTAT_CPLL_LOCK i 0 0 (rset .PWR_RSTAT_MCLK_LOCK i 0 0 s)))
  else .next s

/-- The key of a mesh link in `State.links`: the router that receives, and the side from which the link comes. -/
def meshKey (cb dir : Nat) : Nat := 10000 + cb * 4 + dir

/-- `MESH_LINK_CHECK_FAIL` (R262): a flit fails its check on the link into a comb's mesh router from a side. It and the flits after it are sent again in
order, so that no packet is lost or changes its place; `again` tells that it is the flit that failed last. With its fourth failure in a row the
link's region has a spine fault. -/
def execMeshLinkCheckFail (x : Fin 28) (y : Fin 24) (fail : MeshResend) (s : State) : Host.Outcome State Fault Refusal :=
  let cb := cbOf x.val y.val
  let k := meshKey cb fail.dir.val
  let f := if fail.again then (tget link0 s.links k).fails + 1 else 1
  let s := bump .MSH_EVT_COUNT .MSH_OVF_OVF cb 3 1 { s with links := tset s.links k ⟨f, decide (4 ≤ f)⟩ }
  .next (if f < 4 then s else spineFault (regionOf cb) s)

end Sys2Proof.Machine
end

