-- ==== Sys2Proof/Machine/Selftest.lean ====
section
/-! DEFINITION. Self-test and self-healing: scouts, rotation, pause slices, fences of combs, region tests, predictions (R305 to R334). -/

namespace Sys2Proof.Machine

/-! ### Ending masking (R321) -/

/-- Masking ends: a MASK_END record with the class of the failure that ended it, and the context is held at the ridge. -/
def maskEnd (c second : Nat) (s : State) : State :=
  let r := recX s c 0x1A 5 second
  hold c 0x1A (some r) (ctxMod c (fun x => { x with schedFault := true }) (raise 50 r (bump .BST_EVT_COUNT .BST_OVF_OVF 0 2 1 s)))

/-! ### The suite (R207, R308, R309) -/

/-- The suite of the worker under test runs: the module is in service, suites are enabled and verify, and the comb array is in RUN (R308, R430). -/
def suiteRuns (s : State) (pc : Nat) : Bool :=
  let k := pcGet s pc
  decide (14 ≤ stageOf s) && k.good && !k.fault && k.test != 63 && !k.suiteDone && rget s .BST_CTRL_SCOUTS == 1 && !s.keeper.scoutBad &&
    rget s .PWR_RSTAT_CA_STATE (pcRegion pc) == 0

/-- The point that the suite has reached, by R309's table at 800 cycles a microsecond: margin from 12.0 to 24.0 ms, hot from 34.0 ms; a disabled point is
skipped. -/
def suitePoint (s : State) (k : PComb) : Nat :=
  let n := s.cycle - k.suiteAt
  if 9600000 ≤ n ∧ n < 19200000 then rget s .BST_CTRL_MARGIN
  else if 27200000 ≤ n then 2 * rget s .BST_CTRL_HOT else 0

/-- A worker's header switch selects the margin rail and its clock select the margin clock: only ever the worker under test at the margin point (R207). -/
def onMargin (s : State) (pc pw : Nat) : Bool := suiteRuns s pc && (pcGet s pc).test == pw && suitePoint s (pcGet s pc) == 1

/-- A byte of a comb's scout scratch, 1 MiB that only the keeper-private space reaches (R308): what the scout runs so far have left there, of which the
spec states no value (assumption 114). -/
def scratchByte (s : State) (pc : Nat) (off : Fin 1048576) : Byte :=
  if (pcGet s pc).scouts = 0 then 0 else Config.scoutByte pc (pcGet s pc).scouts off.val

/-- `TND_STATUS.MODE` of a physical comb (R306). A housekeeping slice is one command, so none is seen while it runs. -/
def tenderMode (s : State) (pc : Nat) : Nat :=
  if (pcGet s pc).fault then 3
  else if suiteRuns s pc || s.keeper.slicing.contains pc || s.keeper.testing.contains (pcRegion pc) || s.start.shutTest.isSome then 2 else 0

/-- `ASY_STATUS.STATE` (R335). -/
def assayState (s : State) (pc : Nat) : Nat :=
  if (pcGet s pc).fault then 4 else if s.keeper.testing.contains (pcRegion pc) then 3 else if s.keeper.slicing.contains pc then 2
  else b2n (suiteRuns s pc)

/-- `ASY_STATUS.WORKER`, `POINT` and `KERNEL`: those of the suite that runs. In a pause slice and in region tests several workers are in scout mode at
once, and the register names none (assumption 114). -/
def assayWorker (s : State) (pc : Nat) : Nat := if assayState s pc = 1 then (pcGet s pc).test else 63
def assayPoint (s : State) (pc : Nat) : Nat := if assayState s pc = 1 then suitePoint s (pcGet s pc) else 0
def assayKernel (s : State) (pc : Nat) : Nat :=
  if assayState s pc = 0 ∨ assayState s pc = 4 then 0 else (Config.scoutKernel (s.cycle - (pcGet s pc).suiteAt)).toNat

/-! ### Rotation (R312 to R314) -/

/-- The tick at which a worker's last clean pass ended: stage 0x09 tested every worker. -/
def passTick (s : State) (k : PComb) (pw : Nat) : Nat := tget s.start.testedAt k.lastPass pw

/-- The service worker whose last clean pass ended earliest, the lowest physical index among equals (R313). -/
def oldestServing (s : State) (k : PComb) : Option Nat :=
  (k.goods.filter fun w => (k.serves w).isSome).foldl (fun best w => match best with
    | none => some w
    | some b => if passTick s k w < passTick s k b then some w else some b) none

/-- A comb is due for a swap: a grid point has passed since its last one, and the worker under test has finished its suite. -/
def swapDue (s : State) (k : PComb) : Bool :=
  k.good && k.test != 63 && k.suiteDone && decide (k.swapAt < s.keeper.grid) && rget s .BST_CTRL_ROTATION == 1

/-- A logical worker passes from one physical worker to another with its state (R22). -/
def handOver (pc w old new : Nat) (s : State) : State :=
  let s := leaveService pc old s
  enterService pc new (pcMod pc (fun k => { k with wmap := tset k.wmap w new }) s)

/-- A swap (R312 to R314, R318): the worker under test becomes the reserve; the former reserve takes over the oldest service worker's place,
which enters test. With an incomplete reserve the two exchange roles; a waiting suspect enters test first; with 33 good workers the worker
under test takes over at once. -/
def swap (pc : Nat) (s : State) : State :=
  let k := pcGet s pc
  let s := match lcOf s pc with
    | some cb => rset .TND_ROT_SWAPS cb 0 (seqNext (rget s .TND_ROT_SWAPS cb)) (rset .TND_ROT_LAST_SWAP cb 0 s.tick (mapSeq cb s))
    | none => s
  let next (t r : Nat) (done : Bool) (s : State) : State :=
    pcMod pc (fun k => { k with test := t, reserve := r, suiteDone := false, reserveDone := done, swapAt := s.keeper.grid, suiteAt := s.cycle }) s
  match k.waiting with
  | w :: rest => pcMod pc (fun k => { k with waiting := rest }) (next w k.test true s)
  | [] =>
    if k.reserve ≠ 63 ∧ !k.reserveDone then next k.reserve k.test true s
    else match oldestServing s k with
      | none => s
      | some old =>
        let new := if k.reserve ≠ 63 then k.reserve else k.test
        handOver pc ((k.serves old).getD 0) old new (next old (if k.reserve ≠ 63 then k.test else 63) true s)

/-- The physical combs with state of their own, by the context that they serve. -/
def pcsOf (s : State) (c : Option Nat) : List Nat := (s.pcombs.map (·.1)).filter fun pc => (lcOf s pc).isSome && pcCtx s pc == c

/-- The swaps of a context's ridge: 2,048 cycles are added before its next step (R312). -/
def swapsAtRidge (c : Nat) (s : State) : State :=
  let due := (pcsOf s (some c)).filter fun pc => swapDue s (pcGet s pc)
  if due.isEmpty then s else ctxMod c (fun x => { x with pauseDue := x.pauseDue + 2048 }) (due.foldl (fun s pc => swap pc s) s)

/-- The swaps of combs of no allotment, at a tick boundary. -/
def swapsAtTick (s : State) : State :=
  ((pcsOf s none).filter fun pc => swapDue s (pcGet s pc)).foldl (fun s pc => swap pc s) s

/-- The pause slice of a context's ridge: its REDUCED combs that wait for one, 2 ms (R315). -/
def slicesAtRidge (c : Nat) (s : State) : State :=
  let due := s.keeper.pauseArm.filter fun pc => pcCtx s pc == some c
  if due.isEmpty then s
  else
    let s := { s with keeper := { s.keeper with pauseArm := s.keeper.pauseArm.filter fun pc => !due.contains pc, slicing := s.keeper.slicing ++ due } }
    ctxMod c (fun x => { x with pauseDue := x.pauseDue + 1600000 }) s

/-- `ROTATION_GRID_POINT` (R312): every 40 ticks each comb in rotation is armed for a swap. -/
def execRotationGridPoint (s : State) : Host.Outcome State Fault Refusal :=
  if s.keeper.inReset ∨ rget s .BST_CTRL_ROTATION = 0 then .next s
  else .next { s with keeper := { s.keeper with grid := s.keeper.grid + 1 } }

/-- `PAUSE_SLICE_GRID` (R315): every 800 ticks each REDUCED comb of an allotment is armed for a pause slice. -/
def execPauseSliceGrid (s : State) : Host.Outcome State Fault Refusal :=
  if s.keeper.inReset ∨ rget s .BST_CTRL_ROTATION = 0 ∨ rget s .BST_CTRL_SCOUTS = 0 then .next s
  else
    let due := (s.pcombs.map (·.1)).filter fun pc =>
      (pcGet s pc).good && (pcGet s pc).goods.length == 32 && (pcCtx s pc).isSome && !s.keeper.pauseArm.contains pc
    .next { s with keeper := { s.keeper with pauseArm := s.keeper.pauseArm ++ due } }

/-! ### Verdicts (R310, R311) -/

/-- The detail word of SCOUT and MARGINAL records. -/
def scoutDetail (kernel point : Nat) : Nat := point <<< 8 ||| kernel

/-- A marginal worker is fenced early. -/
def fenceMarginal (pc pw : Nat) (s : State) : State :=
  rset .BST_SPARES_MARGINAL 0 0 (min 1023 (rget s .BST_SPARES_MARGINAL + 1)) (fenceWorker pc pw s)

/-- A stress point fails (R310): the first time the suite runs again; then the worker is fenced while its comb keeps 33 good workers, and
is flagged otherwise. -/
def stressFail (pc pw kernel point : Nat) (s : State) : State :=
  let k := pcGet s pc
  let s := raise (pcRegion pc) (recP s pc pw 0x17 2 (scoutDetail kernel point)) s
  let key := pc * 64 + pw
  let again := s.keeper.verdicts.any fun e => e.1 == key
  let clear (s : State) : State := { s with keeper := { s.keeper with verdicts := tdrop s.keeper.verdicts (· == key) } }
  if k.marginal.contains pw then fenceMarginal pc pw s
  else if !again then { s with keeper := { s.keeper with verdicts := s.keeper.verdicts ++ [(key, .stress 0 (point == 2))] } }
  else if 34 ≤ k.goods.length then fenceMarginal pc pw (clear s)
  else clear (pcMod pc (fun k => { k with marginal := k.marginal ++ [pw], suiteDone := k.suiteDone || pw == k.test }) s)

/-- `SCOUT_VERDICT` (R310): the verdict on the worker under test, or on a worker of a REDUCED comb in its pause slice. -/
def execScoutVerdict (px : Fin 35) (py : Fin 24) (w : Fin 34) (v : Verdict) (s : State) : Host.Outcome State Fault Refusal :=
  let pc := pcIx px.val py.val
  let k := pcGet s pc
  let pw := w.val
  let testing := k.test == pw && suiteRuns s pc
  let slice := s.keeper.slicing.contains pc && (k.serves pw).isSome
  let skipped := match v with
    | .stress _ hot => slice || rget s (if hot then .BST_CTRL_HOT else .BST_CTRL_MARGIN) == 0
    | _ => false
  if !k.good || !(testing || slice) || rget s .BST_CTRL_SCOUTS == 0 || skipped || s.keeper.inReset || s.keeper.scoutBad then .next s
  else
    let s := pcMod pc (fun k => { k with scouts := k.scouts + 1 }) s
    let count (n : Nat) (s : State) : State := match lcOf s pc with
      | some cb => bump .ASY_EVT_COUNT .ASY_OVF_OVF cb n 1 s
      | none => s
    .next (match v with
      | .pass =>
        let s := { s with keeper := { s.keeper with verdicts := tdrop s.keeper.verdicts (· == pc * 64 + pw) } }
        cleanPass pc pw (pcMod pc (fun k => { k with suiteDone := k.suiteDone || testing }) (count 0 s))
      | .nominal kernel =>
        let d := scoutDetail kernel.toNat 0
        let s := raise (pcRegion pc) (recP s pc pw 0x16 2 d) (count 1 s)
        fenceWorker pc pw (suspectReport pc pw 0x16 d s)
      | .stress kernel hot => stressFail pc pw kernel.toNat (if hot then 2 else 1) (count 1 s))

/-! ### Fencing a comb (R324) -/

/-- One unit's payload of the active image, loaded into that unit's inactive copy (R321). -/
def reloadUnit (img : List Byte) (dir : List Sect) (ty unit : Nat) (s : State) : State :=
  match unitPayload img dir ty unit with
  | some p => shadowWrite ty unit p s
  | none => s

/-- Every unit of a comb takes the configurations of a thatch, as its sections in the held range give them (R147, R324). -/
def reloadComb (c cb : Nat) (s : State) : State :=
  match (ctxGet s c).active with
  | none => s
  | some t =>
    let img := emRead s (.ctx c) t.base t.bytes
    let s := (List.range 32).foldl (fun s w => [1, 2, 9, 10].foldl (fun s ty => reloadUnit img t.dir ty (cb * 32 + w) s) s) s
    let s := [3, 4, 5, 6].foldl (fun s ty => reloadUnit img t.dir ty cb s) s
    let s := { s with workers := s.workers.map fun (e : Nat × Worker) => if e.1 / 32 = cb then (e.1, flipWorker e.2) else e }
    { s with switches := s.switches.map fun (e : Nat × Switch) => if e.1 / 3 = cb then (e.1, { e.2 with act := e.2.sh, sh := e.2.act }) else e
             drops := s.drops.map fun (e : Nat × (DropTab × DropTab)) => if e.1 = cb then (e.1, (e.2.2, e.2.1)) else e }

/-- The fence takes effect at a ridge: the logical combs of the row move, the fenced comb's state is lost, and the context stays held
(R25, R321, R324). -/
def fenceMove (pc cb : Nat) (s : State) : State :=
  let owner := ctxOfComb s cb
  let s := remap pc cb (pcMod pc (fun k => { k with moving := false }) s)
  if rget s .CMB_STATUS_MEM_LOST cb = 1 then
    let s := rset .TND_STATUS_FW_OK cb 0 1 s
    let s := match owner with | some c => reloadComb c cb s | none => s
    let s := raise (pcRegion pc) (recC s cb 0x18 4 0 0) s
    match owner with
    | some c => if rget s .CTX_STATE_STATE c = 2 then maskEnd c 0x18 s else s
    | none => s
  else raise (pcRegion pc) (recC s cb 0x18 6 0 0) s

/-- A packet that an abandonment leaves: one that came in by a port, and the ridge signal of another module (R186). -/
def outlives (q : Packet) : Bool := (epX q.src.toNat == 31 && epN q.src.toNat == 34) || q.op.toNat == 10

/-- A worker and a switch whose traffic is discarded: words, beats, queue entries and rows that wait. -/
def Worker.emptied (w : Worker) : Worker :=
  { w with fifo := List.replicate 6 [], tap := [], stream := [], streamOff := 0, queues := List.replicate 8 [], outq := [] }
def Switch.emptied (k : Switch) : Switch := { k with qs := [], marks := [] }

/-- What an abandonment discards (R200, R26): the context's packets in flight inside the module, the words of its networks, blocks on its rafter
lanes, reads, repairs and transfers of comb memory under way. -/
def discardTraffic (c : Nat) (s : State) : State :=
  let mine (q : Packet) : Bool := q.ctxv && q.ctx.toNat == c
  let held := match (ctxGet s c).allot with | some a => a.chans | none => []
  { s with flight := s.flight.filter fun q => !mine q || outlives q
           egress := s.egress.filter fun q => !mine q || outlives q
           lane := s.lane.filter fun b => b.ctx != c
           dropWaits := s.dropWaits.filter fun d => !ctxHas s c d.comb
           tags := s.tags.filter fun g => !ctxHas s c g.comb
           workers := s.workers.map fun (e : Nat × Worker) => if ctxHas s c (e.1 / 32) then (e.1, e.2.emptied) else e
           switches := s.switches.map fun (e : Nat × Switch) => if ctxHas s c (e.1 / 3) then (e.1, e.2.emptied) else e
           chans := s.chans.map fun e => if held.contains e.1 then (e.1, { e.2 with feed := [], repairs := [] }) else e }

/-- The fence of a comb in service: its row's moves wait, and `STATE` shows the combs that they concern; a row that has run out withdraws its region at
once (R25, R27). -/
def armMove (pc cb : Nat) (s : State) : State :=
  let s := writeRmap (pcRegion pc) (pcMod pc (fun k => { k with moving := true }) s)
  if shortRow s (pcRegion pc) then fenceMove pc cb s
  else (rowCombs pc).foldl (fun s x => if placeOf s x = pxOf s x then s else rset .CMB_STATUS_STATE x 0 2 s) s

/-- The moves that wait, by fenced comb and the logical comb it served. -/
def waitingMoves (s : State) : List (Nat × Nat) :=
  (s.pcombs.filter fun e => e.2.moving).filterMap fun e => (lcOf s e.1).map fun cb => (e.1, cb)

/-- The moves that wait for a context's ridge (R25). -/
def movesDue (s : State) (c : Nat) : List (Nat × Nat) := (waitingMoves s).filter fun e => ctxHas s c e.2

/-- Waiting moves are made where every path has drained (R26). -/
def makeMoves (l : List (Nat × Nat)) (s : State) : State :=
  l.foldl (fun s e => if drained s e.1 (ctxOfComb s e.2) then fenceMove e.1 e.2 s else s) s

def movesAtRidge (c : Nat) (s : State) : State := makeMoves (movesDue s c) s

/-- A move need not wait for a ridge signal: no context owns the comb, or its step is not between release and the signal. -/
def moveOpen (s : State) (cb : Nat) : Bool :=
  match ctxOfComb s cb with
  | none => true
  | some c => (ctxGet s c).phase != .work && (ctxGet s c).phase != .released

/-- The moves that can be made at a tick boundary. -/
def movesAtTick (s : State) : State := makeMoves ((waitingMoves s).filter fun e => moveOpen s e.2) s

/-- `COMB_FENCE` (R324): the keeper fences a comb on which a shared-logic fault was declared or which has 31 good workers. A running
attempt of the owner is abandoned; after release the move waits for the ridge signal (R25), and in every case for its paths to drain (R26). -/
def execCombFence (px : Fin 35) (py : Fin 24) (s : State) : Host.Outcome State Fault Refusal :=
  let pc := pcIx px.val py.val
  match s.combFaults.find? (fun cb => pcOf s cb == pc) with
  | none => .next s
  | some cb =>
    if s.keeper.inReset ∨ !(pcGet s pc).good then .next s
    else
      let site := siteC px.val py.val
      let s := { s with combFaults := s.combFaults.filter (· != cb) }
      let s := if recorded s 2 site then s else recordAdd (defEntry 2 3 site) s
      let s := pcMod pc (fun k => { k with good := false, fault := true }) s
      if absentComb s cb then .next (writeRmap (pcRegion pc) s)
      else
        let s := match ctxOfComb s cb with
          | some c => if stepping s c then ctxMod c (fun x => { x with phase := .abandoned }) (discardTraffic c s) else s
          | none => s
        .next (makeMoves ((waitingMoves (armMove pc cb s)).filter fun e => e.1 == pc && moveOpen (armMove pc cb s) cb) (armMove pc cb s))

/-- `COMB_SHARED_LOGIC_FAULT` (R307): a comb reports a fault of its crossbar, comb-memory controller or sync logic. -/
def execCombSharedLogicFault (x : Fin 28) (y : Fin 24) (s : State) : Host.Outcome State Fault Refusal :=
  let cb := cbOf x.val y.val
  .next (if absentComb s cb then s else combFault cb s)

/-- The tender of a physical comb runs: its comb array is clocked and the tender has not stopped (R306). -/
def tenderRuns (s : State) (pc : Nat) : Bool := decide (rget s .PWR_RSTAT_CA_STATE (pcRegion pc) < 2) && !(pcGet s pc).fault

/-- A physical comb has a fault of its shared logic, tender or assay core: a serving comb waits for its fence, and a spare one is lost (R307, R325). -/
def sharedFault (pc : Nat) (s : State) : State :=
  match lcOf s pc with
  | some cb => combFault cb s
  | none => if (pcGet s pc).good then loseSpare pc 3 s else s

/-- `HOUSEKEEPING_SLICE` (R306, R307): the heartbeat of a comb counts, and a failed known-answer check of the assay core is a shared-logic fault. -/
def execHousekeepingSlice (px : Fin 35) (py : Fin 24) (pass : Bool) (s : State) : Host.Outcome State Fault Refusal :=
  let pc := pcIx px.val py.val
  if tenderRuns s pc then
    let s := pcMod pc (fun k => { k with beat := seqNext k.beat, fault := !pass }) s
    .next (if pass then s else sharedFault pc s)
  else .next s

/-- `SPARE_COMB_TEST` (R325): a comb that serves no logical comb fails its own tests. -/
def execSpareCombTest (px : Fin 35) (py : Fin 24) (pass : Bool) (s : State) : Host.Outcome State Fault Refusal :=
  let pc := pcIx px.val py.val
  if (lcOf s pc).isSome || !(pcGet s pc).good || pass then .next s else .next (loseSpare pc 3 s)

/-! ### Merging verdicts (R416, R417) -/

/-- The kind and the site of an entry. -/
def entKind (e : BitVec 64) : Nat := fld e.toNat 60 4
def entSite (e : BitVec 64) : Nat := setFld e.toNat 56 8 0
def entPc (e : BitVec 64) : Nat := pcIx (fld e.toNat 50 6) (fld e.toNat 45 5)
def entPw (e : BitVec 64) : Nat := fld e.toNat 39 6

/-- Units that the fuse map marks bad, as entries without a source (R414). -/
def fuseBad (s : State) : List (BitVec 64) :=
  s.flds.flatMap fun e =>
    let j := e.1.j
    match e.1.f with
    | .FUS_CMAP_COMB_OK => if e.2 = 0 then [defEntry 2 0 (siteC (pcX j) (pcY j))] else []
    | .FUS_CMAP_WORKER_OK => ((List.range 34).filter fun w => !bit e.2 w).map fun w => defEntry 1 0 (siteW (pcX j) (pcY j) w)
    | .FUS_RMAP_SPINE_OK => if e.2 = 0 then [defEntry 3 0 (siteR j)] else []
    | .FUS_CHMAP_CH_OK => ((List.range 64).filter fun k => !bit e.2 k).map fun k => defEntry 5 0 (siteCh (64 * j + k))
    | _ => []

/-- `PSITE` of the unit that an entry names. -/
def entPsite (e : BitVec 64) : Nat :=
  match entKind e with
  | 1 => psiteOf (fld e.toNat 50 6) (fld e.toNat 45 5) (entPw e) (pcRegion (entPc e)) 15
  | 2 => psiteOf (fld e.toNat 50 6) (fld e.toNat 45 5) 63 (pcRegion (entPc e)) 15
  | 3 => psiteR (fld e.toNat 50 6)
  | 5 => psiteS (fld e.toNat 53 3)
  | _ => psiteOf 0 0 63 63 15

/-- Merges the verdicts on tested units (R417): a unit that the fuses mark bad and that passed is an anomaly; one that they and the record
hold good and that failed is appended. -/
def mergeTests (src : Nat) (tested : BitVec 64 → Bool) (bad : List (BitVec 64)) (s : State) : State :=
  let fused := (fuseBad s).filter tested
  let failed := (bad.filter tested).map fun e => BitVec.ofNat 64 (setFld (entSite e) 60 4 (entKind e))
  let s := (fused.filter fun e => !failed.contains e).foldl (fun s e =>
    raise 50 { cls := 0x64, outcome := 2, lsite := 63 <<< 16, psite := entPsite e } (bump .FUS_EVT_COUNT .FUS_OVF_OVF 0 0 1 s)) s
  failed.foldl (fun s e => if fused.contains e || recorded s (entKind e) (setFld e.toNat 60 4 0) then s
    else recordAdd (e ||| BitVec.ofNat 64 (src <<< 56)) s) s

/-- A comb with the defects of the fuses, the record and the last tests: its bad workers are fenced, and it is good unless an entry names it or
fewer than 32 workers are left. -/
def applyBad (bad : List (BitVec 64)) (pc : Nat) (s : State) : State :=
  let ws := (bad.filter fun e => entKind e == 1 && entPc e == pc).map entPw
  let dead := bad.any fun e => entKind e == 2 && entPc e == pc
  pcMod pc (fun k => { k with fenced := k.fenced ++ ws.eraseDups.filter fun w => !k.fenced.contains w
                              good := k.good && !dead && decide (32 ≤ ({ k with fenced := k.fenced ++ ws } : PComb).goods.length) }) s

/-- The combs that a list of entries names. -/
def entPcs (l : List (BitVec 64)) : List Nat := ((l.filter fun e => entKind e == 1 || entKind e == 2).map entPc).eraseDups

/-- The retention bins that a region's march gives its comb-memory rows: 128 or 64 ms for those it lists and 256 ms for the others (R326, R410); every
row stays at 64 ms after a start that skipped the binning (BIN_SKIP, R422; assumption 133). -/
def binRegion (r : Nat) (bins : List (BitVec 24 × Fin 2)) (s : State) : State :=
  let here (i : Nat) : Bool := (regionCombs r).contains (i / 12288)
  if s.start.binBase = 0 then s
  else { s with rowBins := (s.rowBins.filter fun e => !here e.1) ++ (bins.filter fun e => here e.1.toNat).map fun e => (e.1.toNat, e.2.val) }

/-- `REGION_TEST_COMPLETE` (R214, R221, R326): the results merge, the rows are binned, R23 places the region's combs afresh, and the region is in
service again. -/
def execRegionTestComplete (r : Fin 42) (found : RegionResult) (s : State) : Host.Outcome State Fault Refusal :=
  let i := r.val
  let s0 := s
  if !s.keeper.testing.contains i then .next s
  else
    let here (e : BitVec 64) : Bool := (entKind e == 1 || entKind e == 2 || entKind e == 7) && pcRegion (entPc e) == i
    let failed := found.bad.filter here
    let s := binRegion i found.bins (mergeTests 2 here failed s)
    let s := (entPcs failed).foldl (fun s pc => applyBad failed pc s) s
    let s := (regionPcs i).foldl (fun s pc => if s.pcombs.any fun e => e.1 == pc then mapWorkers pc s else s) s
    let s := (regionPcs i).foldl (fun s pc => if s.pcombs.any fun e => e.1 == pc then
      pcMod pc (fun k => { k with lastPass := k.goods.map fun w => (w, s.tick), served := [] }) s else s) s
    let s := (regionCombs i).foldl (fun s cb => rset .TND_STATUS_FW_OK cb 0 1 s) s
    let s := { s with keeper := { s.keeper with testing := s.keeper.testing.filter (· != i) } }
    let s := if rget s .CMB_RMAP_WITHDRAWN i = 1 then writeRmap i s
      else countMaps s0 ((regionCombs i).filter fun cb => !absentComb s cb) (placeRegion i s)
    .next (endGrants (refreshRegions s))

/-! ### Wear (R334) -/

/-- Numbers in ascending order. -/
def ascending (l : List Nat) : List Nat :=
  l.foldr (fun n r => r.takeWhile (fun m => m < n) ++ n :: r.dropWhile (fun m => m < n)) []

/-- The least number of further worker fences that withdraws a comb row: over its k − 3 weakest good combs, good workers − 31. -/
def rowFences (s : State) (c y : Nat) : Nat :=
  let left := (goodPos s c y).map fun p => (pcGet s (pcIx (5 * c + p) y)).goods.length - 31
  (ascending left |>.take (left.length - 3)).foldl (· + ·) 0

/-- The fences of a region over the trailing 90 days. -/
def recentFences (s : State) (r : Nat) : Nat :=
  (s.keeper.fences.filter fun e => e.1 == r && decide (s.tick ≤ e.2 + 90 * 86400 * 800)).length

/-- Days left for a region: F ÷ λ, λ at least 0.01 a day. -/
def regionDays (s : State) (r : Nat) : Nat :=
  let f := ((List.range 4).map fun k => rowFences s (r % 7) (4 * (r / 7) + k)).foldl min 1000
  let n := recentFences s r
  if n = 0 then f * 100 else f * 90 / n

/-- `SERVICE_LIFE_PREDICTION` (R334): the least over the regions in service. -/
def execServiceLifePrediction (s : State) : Host.Outcome State Fault Refusal :=
  if s.keeper.inReset then .next s
  else
    let best := ((List.range 42).filter fun r => !regionOut s r).foldl (fun (b : Nat × Nat) r =>
      let d := min 65535 (regionDays s r)
      if d < b.1 ∨ b.2 = 63 then (d, r) else b) (65535, 63)
    .next (rset .BST_LIFE_DAYS 0 0 best.1 (rset .BST_LIFE_REGION 0 0 best.2 { s with keeper := { s.keeper with fenceDue := false } }))

end Sys2Proof.Machine
end

