-- ==== Sys2Proof/Machine/Steps.lean ====
section
/-! DEFINITION. Steps, ridges, replays and the checks that fail a step (R178 to R200, R317 to R322, R346, R380). -/

namespace Sys2Proof.Machine

/-! ### The start of an attempt (R40, R135, R136, R178, R179, R198) -/

/-- What a thread carries across a ridge (R39). -/
def Thread.carried (t : Thread) : Carried := ⟨t.ptr, t.s, t.p, t.m, t.l, t.rng⟩

/-- A thread that begins a step: carried items kept, vector registers cleared (R40). -/
def Carried.thread (k : Carried) (w : Worker) (cyc : Nat) : Thread :=
  reread w { ptr := k.ptr, s := k.s, p := k.p, m := k.m, l := k.l, v := List.replicate 4 zeroVec, rng := k.rng, ended := false
             park := .none, slot := 0, lastFire := cyc }

/-- A worker begins a step: its frames are copied, tiles and weight buffer cleared, and every credit is held again. -/
def Worker.start (cyc : Nat) (w : Worker) : Worker :=
  { w with th := w.actives.map fun t => (t, ((w.thr t).carried).thread w cyc)
           saved := w.actives.map fun t => (t, (w.thr t).carried)
           tiles := List.replicate 4 tile0, wbuf := List.replicate 16 0, mma := none, cred := credits0 w.act
           unacked := List.replicate 8 0, lastFired := 127, stopped := false, plaus := [], sumEv := [], lastDrain := [], outq := []
           mmaTill := (0, 0), drainTill := (0, 0), sfnFree := 0, cmFree := 0, marksOut := false, flipped := false }

/-- A worker begins a replay: the old configuration, the frames of the step-entry copy, and nothing in its FIFOs, taps and queues. A stopped worker's
slot program is loaded anew (R77). -/
def Worker.again (cyc : Nat) (w : Worker) : Worker :=
  let u := unflipWorker w
  { u.start cyc with th := w.saved.map fun e => (e.1, e.2.thread u cyc)
                     saved := w.saved, fifo := List.replicate 6 [], tap := [], stream := [], streamOff := 0
                     queues := List.replicate 8 [], upsets := if w.stopped then [] else u.upsets }

/-- A switch begins a step in phase 0 with its counts at 0. -/
def Switch.start (k : Switch) : Switch := { k with phase := 0, sent := [], sentIn := [], flipped := false }
def Switch.again (k : Switch) : Switch := { (unflipSwitch k).start with qs := [], marks := [] }

def DropTab.start (d : DropTab) : DropTab := { d with recs := d.recs.map fun r => { r with taken := 0 } }

/-- The channels of a context. -/
def ctxChans (s : State) (c : Nat) : List Nat := match (ctxGet s c).allot with | some a => a.chans | none => []

/-- Every unit of the allotment begins an attempt. -/
def startUnits (c : Nat) (fw : Worker → Worker) (fs : Switch → Switch) (s : State) : State :=
  let chs := ctxChans s c
  { s with workers := s.workers.map fun (e : Nat × Worker) => if ctxHas s c (e.1 / 32) then (e.1, fw e.2) else e
           switches := s.switches.map fun (e : Nat × Switch) => if ctxHas s c (e.1 / 3) then (e.1, fs e.2) else e
           drops := s.drops.map fun (e : Nat × (DropTab × DropTab)) => if ctxHas s c e.1 then (e.1, (e.2.1.start, e.2.2.start)) else e
           chans := s.chans.map fun (e : Nat × Channel) => if chs.contains e.1 then (e.1, { e.2 with nextSlot := 0 }) else e
           lane := s.lane.filter fun b => b.ctx != c
           flds := s.flds.filter fun e => !(e.1.f == .WRK_STATUS_STEP_FAILED && ctxHas s c (e.1.i / 32)) }

/-- The tokens of the comb controllers: the course mark of an overlapped course in cycle 0, then the STEPEND token (R170, R179). -/
def startTokens (c : Nat) (s : State) : State :=
  let combs := (ctxCombs s c).filter fun cb => names36 s cb
  let s := match (ctxGet s c).arm with
    | .running true => combs.foldl (fun s cb => ctlToken cb 5 (markTag s c) s) s
    | _ => s
  combs.foldl (fun s cb => ctlToken cb 6 (rget s .CTX_STEP_COUNT c % 32) s) s

/-- Sync objects of an overlapped course take their initial states at the start of the course step (R171). -/
def startObjs (c : Nat) (s : State) : State :=
  match (ctxGet s c).arm, (ctxGet s c).waiting with
  | .running true, some t => writeObjs t.syncInit s
  | _, _ => s

/-- The attempt runs from its cycle 0. -/
def runAttempt (c : Nat) (s : State) : State :=
  let s := ctxMod c (fun x => { x with phase := .work, start := s.cycle, failed := false, schedFault := false, excess := false, overSent := []
                                       stallSeen := [], firstFail := none, suspects := [], mirrorSteps := 0 }) s
  startTokens c (startObjs c (rset .CTX_STEPSTAT_SLIP c 0 0 s))

/-- Every active thread's slot is read as an attempt starts (R77). -/
def readSlots (c : Nat) (upsets : List Upset) (s : State) : State :=
  let s := strike upsets s
  ((s.workers.map (·.1)).filter fun wk => ctxHas s c (wk / 32)).foldl (fun s wk => checkAll wk s) s

/-- ⌈BUDGET × RATIO ÷ 64⌉ pause cycles of the step about to start (R217). -/
def pauseOf (s : State) (c : Nat) : Nat :=
  let b := match (ctxGet s c).arm, (ctxGet s c).waiting with
    | .overlapped, some t => t.courseBudget
    | _, _ => (stepEntry (ctxGet s c)).budget
  (b * rget s .PWR_HEAT_RATIO + 63) / 64

/-- The pause cycles before the next step, and the cycle in which the pause ends. The pause began at the ridge (R187); that of a context's first
step, which no ridge precedes, begins at the start command. -/
def pauseTotal (s : State) (c : Nat) : Nat :=
  match (ctxGet s c).pauseAt with
  | some _ => (ctxGet s c).pauseDue
  | none => (ctxGet s c).pauseDue + pauseOf s c
def pauseEnd (s : State) (c : Nat) : Nat := max s.cycle (((ctxGet s c).pauseAt).getD s.cycle + pauseTotal s c)

/-- `STEP_START` (R178, R217): a context in RUN whose ridge has completed starts its next step after the pause cycles, its comb arrays in RUN again; a
course that waits becomes the armed step's. A comb move that waits holds the context (R25). `run.upsets` are errors in slot stores that the reads
of the first slots find (R77). -/
def execStepStart (run : StepRun) (s : State) : Host.Outcome State Fault Refusal :=
  let n := run.ctx.val
  let x := ctxGet s n
  if rget s .CTX_STATE_STATE n = 2 ∧ x.phase = .idle ∧ x.active.isSome ∧ movesDue s n = [] then
    let s := rset .PWR_PAUSED_COUNT 0 0 ((rget s .PWR_PAUSED_COUNT + pauseTotal s n) % 2 ^ 64) { s with cycle := pauseEnd s n % 2 ^ 64 }
    let s := ungate n s
    let s := { s with keeper := { s.keeper with slicing := s.keeper.slicing.filter fun pc => pcCtx s pc != some n } }
    let s := ctxMod n (fun x => { x with
      pauseDue := 0, pauseAt := none, replayed := false, replayOf := none, hangs := 0, plausHist := [], residueHist := [], poisonRead := false, lapsed := false
      arm := match x.arm with | .boundary => .running false | .overlapped => .running true | a => a
      entryObjs := s.objs.filter fun e => ctxHas s n (e.1 / 4096) }) s
    .next (readSlots n run.upsets (runAttempt n (startUnits n (Worker.start s.cycle) Switch.start s)))
  else .next s

/-- `REPLAY_START` (R198, R175, R302): the abandoned step runs again from the state it began with, once no comb move waits (R200). -/
def execReplayStart (run : StepRun) (s : State) : Host.Outcome State Fault Refusal :=
  let n := run.ctx.val
  let x := ctxGet s n
  if rget s .CTX_STATE_STATE n = 2 ∧ x.phase = .abandoned ∧ movesDue s n = [] then
    let s := bump .BST_EVT_COUNT .BST_OVF_OVF 0 0 1 s
    let s := startUnits n (Worker.again s.cycle) Switch.again s
    let s := { s with objs := s.objs.filter (fun e => !ctxHas s n (e.1 / 4096)) ++ x.entryObjs }
    let s := ctxMod n (fun x => { x with replayed := true, replayOf := match x.replayOf with | some r => some r | none => x.firstFail }) s
    .next (readSlots n run.upsets (dmaRewind n (runAttempt n s)))
  else .next s

/-! ### Release (R183, R184) -/

/-- Every worker has reported done, with no verdict, row or acknowledgement outstanding, and every comb-memory tag of the allotment is free. -/
def workersDone (s : State) (c : Nat) : Bool :=
  (heldTags s).all (fun g => !ctxHas s c g.comb) && s.workers.all fun e => !ctxHas s c (e.1 / 32) ||
    (e.2.done && e.2.plaus.isEmpty && e.2.sumEv.isEmpty && e.2.outq.isEmpty && e.2.mma.isNone && e.2.unacked.all (· == 0))

/-- A stream program has passed its LAST. -/
def progPast (s : State) (ch : Nat) (x : Channel) (p : StreamProg) : Bool :=
  !p.present || decide (p.last < slotCycle (rget s .EAV_SEG_RATE (ch / 256)) ch x.nextSlot)

/-- A rafter drop has passed its LAST. -/
def dropPast (s : State) (c : Nat) (d : DropTab) : Bool := !d.present || decide (d.last < stepCycle s c)

/-- Every block on a lane of the context has reached the drops that take it. -/
def landed (s : State) (c : Nat) : Bool :=
  s.lane.all fun b => b.ctx != c || (ctxCombs s c).all fun cb => (List.range 4).all fun rs => !b.comes cb rs || (dropTakes s cb rs b).isNone

/-- Drops and stream programs have passed their LAST, and no block waits for a feed, a lane, a drop of the context or a repair (assumption 124). -/
def programsPast (s : State) (c : Nat) : Bool :=
  let overlap := overlappedRunning s c
  s.drops.all (fun e => !ctxHas s c e.1 || (dropPast s c e.2.1 && (!overlap || dropPast s c e.2.2))) &&
  s.chans.all (fun e => !(ctxChans s c).contains e.1 ||
    (progPast s e.1 e.2 e.2.act && (!overlap || progPast s e.1 e.2 e.2.sh) && e.2.feed.isEmpty)) &&
  landed s c && s.dropWaits.all fun d => !ctxHas s c d.comb

/-- Under an overlapped course every unit with a program has flipped, and its marks are out (R174). -/
def unitsFlipped (s : State) (c : Nat) : Bool :=
  !overlappedRunning s c ||
    ((s.workers.all fun e => !ctxHas s c (e.1 / 32) || e.2.flipped || !(e.2.act.present || e.2.sh.present)) &&
     (s.switches.all fun e => !ctxHas s c (e.1 / 3) || (e.2.flipped && e.2.marks.isEmpty) || !(e.2.act.present || e.2.sh.present)))

/-- A mirror-table entry (R380). -/
structure MirEnt where
  src : Nat
  base : Nat
  len : Nat
  stride : Nat
  period : Nat
  div : Nat
  mask : Nat
  deriving DecidableEq, Repr

def mirEnt (b : List Byte) : MirEnt := ⟨leAt b 0 8, leAt b 8 8, leAt b 0x10 4, leAt b 0x14 4, leAt b 0x18 2, leAt b 0x1A 1, leAt b 0x1B 1⟩

/-- The shelter offset in the context's window to which an entry sends in step n. -/
def MirEnt.off (e : MirEnt) (n : Nat) : Nat := e.base + n / e.div % e.period * e.stride

/-- The entry keeps R380 and stays in the window in the slot of the step that is appended (assumption 132). -/
def mirOk (s : State) (c n : Nat) (e : MirEnt) : Bool :=
  fld e.src 60 4 == 1 && (rangeFault s (some c) e.src e.len).isNone && decide (128 ≤ e.len ∧ e.len ≤ 1048576) && e.len % 128 == 0 &&
    e.stride % 128 == 0 && e.period != 0 && e.div != 0 && decide (e.off n + e.len ≤ rget s .PRT_MIRWIN_SIZE 0 c * 2 ^ 30)

/-- The appends of a ridge release (R380, R381). A `PRT_MIRCFG.WAIT` of 0 makes the wait for their acknowledgements a test, which fails at once while
one is outstanding (R13). -/
def mirrorAppend (c : Nat) (s : State) : State :=
  let k := rget s .PRT_MIRCFG_ENTRIES 0 c
  if k = 0 ∨ rget s .PRT_MIRSTAT_SUSPENDED 0 c = 1 then s
  else if !portLive s 4 then mirrorSuspend c 1 s
  else if rget s .PRT_TWIN_PAIRED = 0 then mirrorSuspend c 2 s
  else
    let tab := rget s .PRT_MIRTAB_TABLE 0 c * 4096
    let n := rget s .CTX_STEP_COUNT c
    if aperture s (.ctx c) < tab + 32 * k then mirrorSuspend c 5 s
    else
      let all := (List.range k).map fun i => mirEnt (emRead s (.ctx c) (tab + 32 * i) 32)
      let x := ctxGet s c
      let steps := match x.active with | some t => t.steps.length | none => 1
      let mine := all.filter fun e => bit e.mask (x.stepsRun % steps)
      if mine.all (mirOk s c n) then
        let w := rget s .PRT_MIRWIN_BASE 0 c * 2 ^ 30
        let m := mirGet s c
        let s := mirPump c 1025 (mirSet c { m with todo := m.todo ++ mine.map fun e => (w + e.off n, e.src, e.len) } s)
        let s := ctxMod c (fun x => { x with mirrorSteps := max 1 ((all.map fun e => e.period * e.div).foldl max 0) }) s
        if rget s .PRT_MIRCFG_WAIT 0 c = 0 ∧ !mirrorClear s c then mirrorSuspend c 3 s else s
      else mirrorSuspend c 5 s

/-- `RIDGE_RELEASE` (R183, R184): workers done, programs past their LAST and no failure recorded; what waited leaves, the ridge-phase presets
and the mirror appends start. A replay that reaches release is masked (R319). -/
def execRidgeRelease (c : Fin 16) (s : State) : Host.Outcome State Fault Refusal :=
  let n := c.val
  let x := ctxGet s n
  if rget s .CTX_STATE_STATE n = 2 ∧ x.phase = .work ∧ x.failed = false ∧ x.schedFault = false ∧ workersDone s n ∧ programsPast s n ∧
      unitsFlipped s n then
    let s := if x.replayed then
        ctxMod n (fun x => { x with maskedDue := x.replayOf.map fun r => { r with outcome := 0 } }) (bump .BST_EVT_COUNT .BST_OVF_OVF 0 1 1 s)
      else s
    let s := if overlappedRunning s n then finishCmd n 4 0 (rget s .CTX_STEP_COUNT n) s else s
    let s := ctxMod n (fun x => { x with phase := .released }) s
    .next (mirrorAppend n (dmaRidge n (releaseEgress n s)))
  else .next s

/-! ### The ridge (R185 to R189) -/

/-- The ridge signal to every other module of the context (R186, R377). -/
def sendRidge (c : Nat) (s : State) : State :=
  (spanPeers s c).foldl (fun s m => match routeTo s m with
    | some o =>
      let q : Packet := { mkPacket s 10 keeperEp keeperEp (some c) with
        value := BitVec.ofNat 32 (rget s .CTX_STEP_COUNT c % 65536), aux := BitVec.ofNat 32 (moduleId s) }
      sendBlocks o (packetBlocks (blockHead s 1 m (rget s .PRT_SPAN_SPAN 0 c) 0 q) q) s
    | none => s) s

/-- `COVER` counts a mirrored step, and `FULL` sets when every shelter slot has been rewritten (R381). -/
def mirrorCovered (c : Nat) (s : State) : State :=
  let x := ctxGet s c
  if x.mirrorSteps = 0 ∨ rget s .PRT_MIRSTAT_SUSPENDED 0 c = 1 then s
  else
    let v := (rget s .PRT_MIRSTAT_COVER 0 c + 1) % 2 ^ 48
    let s := rset .PRT_MIRSTAT_COVER 0 c v s
    if x.mirrorSteps ≤ v then rset .PRT_MIRSTAT_FULL 0 c 1 s else s

/-- Words of a comb's switches that a ridge discards: all but marks and course marks (R135). -/
def Switch.left (net : Nat) (k : Switch) : Nat := (k.qs.map fun e => (e.2.filter fun w => !isMark net w).length).foldl (· + ·) 0

def Worker.left (w : Worker) : Nat :=
  (w.fifo.mapIdx fun i q => (q.filter fun n => !isMark (inNet i) n).length).foldl (· + ·) 0 + w.outq.length

/-- Beats in a worker's tap, or bytes of an incomplete one (R75, R241). -/
def Worker.tapLeft (w : Worker) : Bool := !w.tap.isEmpty || decide (w.streamOff < 128 * w.stream.length)

/-- The ridge's discards (R135, R195): static words with `NET_EVT4`, beats and queue entries. Discarded words raise one leftover overrun for the step;
each worker with beats or bytes left in its tap, or entries left in its queues, raises one of its own (R75). -/
def ridgeDiscard (c : Nat) (s : State) : State :=
  let mine : List (Nat × Worker) := s.workers.filter fun e => ctxHas s c (e.1 / 32)
  let swl : List (Nat × Nat) := (s.switches.filter fun e => ctxHas s c (e.1 / 3)).map fun (e : Nat × Switch) => (e.1 / 3, e.2.left (e.1 % 3))
  let words := (swl ++ mine.map fun (e : Nat × Worker) => (e.1 / 32, e.2.left)).filter fun e => e.2 != 0
  let s := words.foldl (fun s e => bump .NET_EVT_COUNT .NET_OVF_OVF e.1 4 e.2 s) s
  let s := match words.head? with
    | some e => leftover (regionOf e.1) c 6 (recC s e.1 clsOverrun 2 6 0) s
    | none => s
  let report (cause : Nat) (l : List (Nat × Worker)) (s : State) : State :=
    l.foldl (fun s e => raise (regionOf (e.1 / 32)) (recW s e.1 clsOverrun 2 cause 0) s) s
  let s := report 7 (mine.filter fun e => e.2.queues.any fun q => !q.isEmpty) (report 5 (mine.filter fun e => e.2.tapLeft) s)
  { s with
    workers := s.workers.map fun (e : Nat × Worker) => if ctxHas s c (e.1 / 32) then
      (e.1, { e.2 with fifo := e.2.fifo.mapIdx fun i q => q.filter (isMark (inNet i)), outq := [], tap := [], stream := [], streamOff := 0
                       queues := List.replicate 8 [] }) else e
    switches := s.switches.map fun (e : Nat × Switch) => if ctxHas s c (e.1 / 3) then
      (e.1, { e.2 with qs := e.2.qs.map fun q => (q.1, q.2.filter (isMark (e.1 % 3))) }) else e
    lane := s.lane.filter fun b => b.ctx != c
    dropWaits := s.dropWaits.filter fun d => !ctxHas s c d.comb }

/-- `RIDGE_SIGNAL` (R185): ridge-phase transfers are complete and appends acknowledged. A comb move that waits is made first, once its paths have
drained and what the step left is discarded, and holds the context (R25, R26, R324); otherwise the signal goes out, and swaps and pause slices take
effect. -/
def execRidgeSignal (c : Fin 16) (s : State) : Host.Outcome State Fault Refusal :=
  let n := c.val
  let x := ctxGet s n
  if rget s .CTX_STATE_STATE n = 2 ∧ x.phase = .released ∧ x.failed = false ∧ dmaRidgeDone s n ∧ mirrorClear s n then
    if movesDue s n ≠ [] then .next (movesAtRidge n (ridgeDiscard n s))
    else
      let s := ctxMod n (fun x => { x with phase := .wait, signalAt := s.cycle }) (mirrorCovered n s)
      .next (slicesAtRidge n (swapsAtRidge n (sendRidge n s)))
  else .next s

/-- The course that ends at this ridge: a boundary course flips every unit and its command completes; the programs that are timed and the
presets follow an overlapped one (R166, R170, R171). -/
def ridgeCourse (c : Nat) (s : State) : State :=
  match (ctxGet s c).arm, (ctxGet s c).waiting with
  | .running false, some _ => finishCmd c 4 0 (rget s .CTX_STEP_COUNT c) (flipNow c s)
  | .running true, some t => takeThatch c (writePresets c t (swapTimed c s))
  | _, _ => s

/-- Crossings that wandered and that the context's routes use are re-centred and counted: 32 pause cycles (R117, R137, R209). -/
def ridgeRepin (c : Nat) (s : State) : State :=
  let due := s.repins.filter fun e => e.2 == c
  if due.isEmpty then s
  else ctxMod c (fun x => { x with pauseDue := x.pauseDue + 32 })
    (due.foldl (fun s e => bump .NET_XEVT_COUNT .NET_XOVF_OVF (e.1 / 4) 0 1 s) { s with repins := s.repins.filter fun e => e.2 != c })

/-- The pause before the next step begins at the ridge, at the length that `RATIO` gives it, with the context's comb arrays GATED (R213, R217). -/
def ridgePause (c : Nat) (s : State) : State :=
  let p := pauseOf s c
  let s := if p = 0 then s else gate c s
  ctxMod c (fun x => { x with pauseDue := x.pauseDue + p, pauseAt := some s.cycle }) s

/-- `RIDGE_COMPLETE` (R187, R189): the module holds the signal of every other module of the context. The step counter rises, leftovers are
discarded, and the pause before the next step is set. -/
def execRidgeComplete (c : Fin 16) (s : State) : Host.Outcome State Fault Refusal :=
  let n := c.val
  let x := ctxGet s n
  if rget s .CTX_STATE_STATE n = 2 ∧ x.phase = .wait ∧ x.failed = false ∧ (spanPeers s n).all x.peers.contains then
    let w := min (s.cycle - x.signalAt) 0xFFFFFFFF
    let s := rset .CTX_STEPSTAT_LAST_WAIT n 0 w s
    let s := if (stepEntry x).drift < w then bump .CTX_EVT_COUNT .CTX_OVF_OVF n 1 1 s else s
    let s := ridgeDiscard n s
    let old := rget s .CTX_STEP_COUNT n
    let s := rset .CTX_STEP_COUNT n 0 ((old + 1) % 2 ^ 48) s
    let s := ctxMod n (fun x => { x with phase := .idle, stepsRun := x.stepsRun + 1, peers := [], replayed := false }) s
    let s := ridgePause n (ridgeRepin n (ridgeCourse n s))
    .next (if old = 0 ∧ s.keeper.joining ∧ rget s .PRT_TWIN_ADMIT = 1 ∧ rget s .PRT_SPAN_VALID 0 n = 1 then
        setAdmit 3 { s with keeper := { s.keeper with joining := false } }
      else s)
  else .next s

/-- `RIDGE_TIMEOUT` (R188): the ridge has not completed in time; the record names the lowest module whose signal is missing. -/
def execRidgeTimeout (c : Fin 16) (s : State) : Host.Outcome State Fault Refusal :=
  let n := c.val
  let x := ctxGet s n
  match (spanPeers s n).filter fun m => !x.peers.contains m with
  | [] => .next s
  | m :: _ =>
    if rget s .CTX_STATE_STATE n = 2 ∧ x.phase = .wait then
      let r := recX s n 0x23 5 m
      .next (hold n 0x23 (some r) (raise 50 r s))
    else .next s

/-! ### Abandonment and stand-ins (R200, R318 to R321) -/

/-- The suspects of an attempt in one physical comb, by physical index. -/
def suspectsIn (s : State) (c pc : Nat) : List Nat :=
  let mine := ((ctxGet s c).suspects.filter fun e => pcOf s (e.1 / 32) == pc).map fun e => pwOf s e.1
  (List.range 34).filter mine.contains

/-- The physical combs with suspects. -/
def suspectCombs (s : State) (c : Nat) : List Nat := ((ctxGet s c).suspects.map fun e => pcOf s (e.1 / 32)).eraseDups

/-- The stand-ins that a comb has: the reserve, then the worker under test if its last clean pass is at most 1.8 s old. -/
def standIns (s : State) (pc : Nat) : List Nat :=
  let k := pcGet s pc
  (if k.reserve ≠ 63 then [k.reserve] else []) ++ if k.test ≠ 63 ∧ s.tick ≤ passTick s k k.test + 1440 then [k.test] else []

/-- A comb replays on the same workers when it is REDUCED. -/
def reduced (s : State) (pc : Nat) : Bool := (pcGet s pc).goods.length == 32

/-- The stand-in rule in one comb (R318): suspects in order take the stand-ins' places; the worker under test leaves its suite, the first suspect
enters test, a second one waits for the next swap. -/
def standInComb (c pc : Nat) (s : State) : State :=
  let k := pcGet s pc
  if reduced s pc then s
  else
    let sus := suspectsIn s c pc
    let subs := standIns s pc
    let s := (sus.zip subs).foldl (fun s e => match k.serves e.1 with
      | some w => handOver pc w e.1 e.2 s
      | none => s) s
    let used := subs.take sus.length
    let idle := if k.test ≠ 63 ∧ !used.contains k.test then k.test else if k.reserve ≠ 63 ∧ !used.contains k.reserve then k.reserve else 63
    let done := if idle = k.test then k.suiteDone else k.reserveDone
    let s := pcMod pc (fun k => { k with test := sus.headD 63, reserve := idle, suiteDone := false, reserveDone := done
                                         waiting := k.waiting ++ sus.drop 1, suiteAt := s.cycle }) s
    match lcOf s pc with
    | some cb => mapSeq cb s
    | none => s

/-- Masking cannot go on (R321): a second failure, too few stand-ins, or a shared-logic fault; the class of the failure. -/
def maskingEnds (s : State) (c : Nat) : Option Nat :=
  let x := ctxGet s c
  let cls := match x.firstFail with | some r => r.cls | none => 0
  if x.replayed || x.phase != .work || cls == 0x18 then some cls
  else if (suspectCombs s c).any fun pc => !reduced s pc && decide ((standIns s pc).length < (suspectsIn s c pc).length) then some cls
  else if s.combFaults.any fun cb => ctxHas s c cb then some 0x18
  else none

/-- What the failures name is fenced at the next tick boundary (R18, R321). -/
def fenceNamed (c : Nat) (s : State) : State :=
  { s with keeper := { s.keeper with fenceAsk := s.keeper.fenceAsk ++ (ctxGet s c).suspects.map fun e => (pcOf s (e.1 / 32), pwOf s e.1, e.2) } }

/-- `STEP_ABANDON` (R200): a failed attempt is abandoned; stand-ins take the suspects' places, or masking ends. A failure found after release
is not masked. -/
def execStepAbandon (c : Fin 16) (s : State) : Host.Outcome State Fault Refusal :=
  let n := c.val
  let x := ctxGet s n
  if rget s .CTX_STATE_STATE n = 2 ∧ x.failed = true ∧ (x.phase = .work ∨ x.phase = .released ∨ x.phase = .wait) then
    match maskingEnds s n with
    | some second =>
      let s := if x.phase = .work then ctxMod n (fun x => { x with phase := .abandoned }) (discardTraffic n s) else s
      .next (maskEnd n second (fenceNamed n s))
    | none =>
      let s := (suspectCombs s n).foldl (fun s pc => standInComb n pc s) (discardTraffic n s)
      .next (ctxMod n (fun x => { x with phase := .abandoned }) s)
  else .next s

/-- `STEP_WATCHDOG` (R346, R322): an attempt that ran 2 × BUDGET without release is a hang. The first is abandoned and replayed, with the lowest
worker that neither reported done nor parked a thread as suspect in each comb; the second is a schedule fault. -/
def execStepWatchdog (c : Fin 16) (s : State) : Host.Outcome State Fault Refusal :=
  let n := c.val
  let x := ctxGet s n
  let halted := lapsed s n
  if rget s .CTX_STATE_STATE n = 2 ∧ x.phase = .work ∧ !halted ∧ s.keeper.inReset = false then
    let s := bump .CTX_EVT_COUNT .CTX_OVF_OVF n 2 1 s
    let s := ctxMod n (fun x => { x with hangs := x.hangs + 1 }) s
    if x.hangs = 0 then
      let r := recX s n 0x19 1 0
      let stuck := (s.workers.filter fun e => ctxHas s n (e.1 / 32) && !e.2.done && !(e.2.actives.any fun t => (e.2.thr t).park != .none)).map (·.1)
      let lowest := stuck.filter fun wk => !stuck.any fun o => decide (o / 32 = wk / 32 ∧ o < wk)
      .next (lowest.foldl (fun s wk => failStep n r (some wk) s) (failStep n r none (raise 50 r s)))
    else
      let r := recX s n 0x19 5 0
      .next (schedFault n r (raise 50 r s))
  else .next s

/-! ### Checks of the matrix unit and the monitors (R67 to R70, R320) -/

/-- `SUM_LANE_FAIL` (R67, R68): a row check or a block check of a product fails. -/
def execSumLaneFail (x : Fin 28) (y : Fin 24) (w : Fin 32) (thread : Fin 128) (tile : Fin 4) (row : Fin 16) (block : Bool) (s : State) :
    Host.Outcome State Fault Refusal :=
  let wk := wkOf x.val y.val w.val
  let k := wGet s wk
  let here (e : SumEv) : Bool := e.block == block && e.tile == tile.val && e.row == row.val && e.thread == thread.val
  let slot := match k.sumEv.find? here with | some e => e.slot | none => (k.thr thread.val).ptr
  let s := wSet wk { k with sumEv := dropFirst here k.sumEv } s
  let r := recW s wk clsSumlane 1 (tile.val ||| row.val <<< 8 ||| b2n block <<< 16) 0
  let s := bump .WRK_EVT_COUNT .WRK_OVF_OVF wk 0 1 (rset .WRK_STATUS_STEP_FAILED wk 0 1 s)
  let s := wrkFault wk clsSumlane tile.val thread.val slot s
  .next (raise (regionOf (wk / 32)) r (failComb (wk / 32) r (some wk) s))

/-- The event repeats in a replay: the same slot, port, limit set and element on a different physical worker, or on the same one in a REDUCED
comb (R320). The worker that raised it first. -/
def anomalyOf (s : State) (c wk : Nat) (e : PlausEv) : Option Nat :=
  let x := ctxGet s c
  let pc := pcOf s (wk / 32)
  let me := pc * 64 + pwOf s wk
  if x.replayed then
    (x.plausHist.find? fun h => h.2.slot == e.slot && h.2.port == e.port && h.2.set == e.set && h.2.elem == e.elem &&
      (h.1 != me || reduced s pc)).map (·.1)
  else none

/-- The first worker of an anomaly goes on as though it had passed (R320): in test its suite is complete; one that waits for the test becomes the
reserve, where none is, and returns at the next swap. -/
def anomalyPassed (pw : Nat) (k : PComb) : PComb :=
  if k.test = pw then { k with suiteDone := true }
  else if k.waiting.contains pw ∧ k.reserve = 63 then { k with reserve := pw, reserveDone := true, waiting := k.waiting.filter (· != pw) }
  else k

/-- `PLAUSIBILITY_EVENT` (R70, R320): the oldest event of the worker's monitors fails the step, or is a numeric anomaly when it repeats in the
replay: the first worker then returns to service as though it had passed. -/
def execPlausibilityEvent (x : Fin 28) (y : Fin 24) (w : Fin 32) (s : State) : Host.Outcome State Fault Refusal :=
  let wk := wkOf x.val y.val w.val
  match (wGet s wk).plaus with
  | [] => .next s
  | e :: rest =>
    let s := wMod wk (fun w => { w with plaus := rest }) s
    let d := e.port ||| e.set <<< 8 ||| e.elem <<< 16
    let s := bump .WRK_EVT_COUNT .WRK_OVF_OVF wk (1 + e.port % 2) 1 s
    match ctxOfComb s (wk / 32) with
    | none => .next s
    | some c =>
      match anomalyOf s c wk e with
      | some first =>
        let s := bump .BST_EVT_COUNT .BST_OVF_OVF 0 3 1 (raise (regionOf (wk / 32)) (recW s wk 0x12 2 d 0) s)
        .next (pcMod (first / 64) (anomalyPassed (first % 64)) s)
      | none =>
        let s := wrkFault wk clsPlaus e.port e.thread e.slot (rset .WRK_STATUS_STEP_FAILED wk 0 1 s)
        let s := ctxMod c (fun x => { x with plausHist := x.plausHist ++ [(pcOf s (wk / 32) * 64 + pwOf s wk, e)] }) s
        let r := recW s wk clsPlaus 1 d 0
        .next (raise (regionOf (wk / 32)) r (failStep c r (some wk) s))

end Sys2Proof.Machine
end

