-- ==== Sys2Proof/Machine/Views.lean ====
section
/-! DEFINITION. Registers as software sees them: the values that the module computes from its state, where a register address leads
(R28 to R30, R389), who may read and write it (R31, R32, R253, R355, R384, R459), and reads with their effects (R2, R4, R8, R10). -/

namespace Sys2Proof.Machine

/-! ### Values that follow from the state -/

/-- A bit for each number of a list. -/
def bitsOf (l : List Nat) : Nat := l.foldl (fun a w => setFld a w 1 1) 0

/-- `WRK_STATUS.STATE` (R79). When several codes hold at once, HALTED is read before STOPPED, that before ENDED, and that before REPLAY: the spec
gives no priority (assumption 108). -/
def workerState (s : State) (wk : Nat) : Nat :=
  let w := wGet s wk
  if !w.act.present then 0
  else if dbgHalted s wk then 4
  else if w.stopped then 5
  else if w.done then 2
  else match ctxOfComb s (wk / 32) with
    | some c => if (ctxGet s c).replayed && stepping s c then 3 else 1
    | none => 1

/-- A thread that is parked on a wait or a credit. -/
def Thread.parked (t : Thread) : Bool := match t.park with | .wait _ _ => true | .credit _ _ => true | _ => false

/-- The number of serving combs with so many good workers (R335). -/
def servingWith (s : State) (n : Nat) : Nat :=
  ((List.range 672).filter fun cb => !absentComb s cb && (pcGet s (pcOf s cb)).goods.length == n).length

/-- The journal entries of the current and the previous start, at most the last 256 (R426). -/
def journalWindow (s : State) : List Journal :=
  let l := s.flash.journal.filter fun e => e.start == s.start.number || e.start + 1 == s.start.number
  l.drop (l.length - 256)

/-- The 32 bytes of a journal entry (R423). -/
def journalBytes (e : Journal) : List Byte :=
  let b := toLe 4 e.start ++ toLe 1 e.stage ++ toLe 1 e.event ++ toLe 1 e.attempt ++ toLe 1 e.alt ++ toLe 4 (min e.time 0xFFFFFFFF) ++
    toLe 4 e.detail ++ toLe 8 e.aux ++ toLe 4 0
  b ++ toLe 4 (crc32c b).toNat

/-- The keeper has work: a start, a command, a load, an update or a life-cycle request (chapter 8); it then runs at 400 MHz. -/
def keeperAwake (s : State) : Bool :=
  rget s .CLK_STATUS_KPLL_LOCK == 1 && !s.keeper.inReset &&
    (decide (rget s .HST_STATUS_STAGE < 14) || !s.taken.isEmpty || s.keeper.update.isSome || rget s .SEC_STATE_BUSY == 1 ||
      s.ctxs.any fun e => e.2.load.isSome)

/-- The value of a register field: computed from the state where the module has no field of that name, and stored otherwise. `i` is the
unit, `j` the index in an array of registers. -/
def vget (s : State) (f : F) (i j : Nat) : Nat :=
  match f with
  | .CMB_ID_PX => pxOf s i
  | .CMB_ID_PY => cbY i
  | .CMB_ID_REGION => regionOf i
  | .CMB_ID_Y => cbY i
  | .CMB_ID_X => cbX i
  | .CMB_STATUS_GOOD_WORKERS => (pcGet s (pcOf s i)).goods.length
  | .CMB_WORKERS_TEST => (pcGet s (pcOf s i)).test
  | .CMB_WORKERS_RESERVE => (pcGet s (pcOf s i)).reserve
  | .CMB_WORKERS_FENCED => bitsOf (pcGet s (pcOf s i)).fenced
  | .CMB_WMAP_PHYS0 => pwOf s (32 * i + 4 * j)
  | .CMB_WMAP_PHYS1 => pwOf s (32 * i + 4 * j + 1)
  | .CMB_WMAP_PHYS2 => pwOf s (32 * i + 4 * j + 2)
  | .CMB_WMAP_PHYS3 => pwOf s (32 * i + 4 * j + 3)
  | .TND_STATUS_MODE => tenderMode s (pcOf s i)
  | .TND_STATUS_BEAT => (pcGet s (pcOf s i)).beat
  | .ASY_STATUS_STATE => assayState s (pcOf s i)
  | .ASY_STATUS_POINT => assayPoint s (pcOf s i)
  | .ASY_STATUS_WORKER => assayWorker s (pcOf s i)
  | .ASY_STATUS_KERNEL => assayKernel s (pcOf s i)
  | .WRK_STATUS_STATE => workerState s i
  | .WRK_STATUS_SHADOW_READY => b2n (wGet s i).shReady
  | .WRK_STATUS_ENDED => let w := wGet s i
    (w.actives.filter fun t => (w.thr t).ended).length
  | .WRK_STATUS_PARKED => let w := wGet s i
    (w.actives.filter fun t => (w.thr t).parked).length
  | .WRK_CFG_SUMTOL => (wGet s i).act.sumtol
  | .WRK_CFG_THREADS => (wGet s i).act.threads
  | .NET_STATUS_STALLED => b2n ((List.range 3).any fun n => match (swGet s i n).stallAt with | some t => decide (s.cycle ≤ t + 1) | none => false)
  | .NET_STATUS_VPHASE => (swGet s i 0).phase
  | .NET_STATUS_SPHASE => (swGet s i 1).phase
  | .NET_STATUS_CPHASE => (swGet s i 2).phase
  | .NET_STATUS_SHADOW_READY => b2n ((List.range 3).all fun n => (swGet s i n).shReady)
  | .NET_CFG_VPHASES => (swGet s i 0).act.phases - 1
  | .NET_CFG_SPHASES => (swGet s i 1).act.phases - 1
  | .NET_CFG_CPHASES => (swGet s i 2).act.phases - 1
  | .MEM_CHSTAT_MIRROR => match chanOwner s (256 * i + j) with
    | some c => b2n (rget s .EAV_CTX_CFG_MIRROR_COUNT 0 c != 0)
    | none => 0
  | .MSH_STATUS_RXFLOWS => (s.rx.filter fun e => e.1 / 2 ^ 22 == epC i).length
  | .MSH_STATUS_TXFLOWS => (s.tx.filter fun e => e.1 / 64 == epC i).length
  | .MSG_QBIND_CREDITS => (wGet s i).cred.getD j 0
  | .MSG_QBIND_MAX => match qbind (wGet s i) j with | some t => t.max | none => 0
  | .MSG_QBIND_GONE => b2n ((wGet s i).gone.getD j false)
  | .MSG_QBIND_X => match qbind (wGet s i) j with | some t => t.x | none => 0
  | .MSG_QBIND_Y => match qbind (wGet s i) j with | some t => t.y | none => 0
  | .MSG_QBIND_W => match qbind (wGet s i) j with | some t => t.w | none => 0
  | .MSG_QBIND_Q => match qbind (wGet s i) j with | some t => t.q | none => 0
  | .MSG_SBIND_UNACKED => (wGet s i).unacked.getD j 0
  | .MSG_SBIND_X => match sbind (wGet s i) j with | some t => t.x | none => 0
  | .MSG_SBIND_Y => match sbind (wGet s i) j with | some t => t.y | none => 0
  | .MSG_SBIND_OBJ => match sbind (wGet s i) j with | some t => t.obj | none => 0
  | .MSG_SBIND_USED => b2n (sbind (wGet s i) j).isSome
  | .MSG_QSTAT_ENTRIES => ((wGet s i).queues.getD j []).length
  | .MSG_QSTAT_ACCEPT => b2n ((wGet s i).act.present && (ctxOfComb s (i / 32)).isSome)
  | .SYN_OBJ_TYPE => (objGet s i j).ty
  | .SYN_OBJ_WAITERS => (objGet s i j).waiters.length
  | .SYN_OBJ_PARAM => (objGet s i j).param
  | .SYN_OBJ_VALUE => (objGet s i j).value
  | .SYN_OBJPH_PHASE => (objGet s i j).phase
  | .DMA_STATUS_OUT => min 128 (((dmGet s i).out.map (·.blocks)).foldl (· + ·) 0)
  | .BST_SPARES_SPARE_COMBS => (s.pcombs.filter fun e => e.2.good).length + (840 - s.pcombs.length) - ((List.range 672).filter fun cb => !absentComb s cb).length
  | .BST_SPARES_C34 => servingWith s 34
  | .BST_SPARES_C33 => servingWith s 33
  | .BST_SPARES_C32 => servingWith s 32
  | .CLK_TICK_COUNT => s.tick
  | .CLK_CYCLE_COUNT => s.cycle
  | .HST_STATUS_STAGE => rget s f 0 0
  | .HST_STATUS_FAILED => rget s f 0 0
  | .HST_STATUS_ATTEMPT => rget s f 0 0
  | .HST_STATUS_HOLD => rget s f 0 0
  | .HST_STATUS_LINK_SLOW => rget s f 0 0
  | .HST_STATUS_SPEED => rget s f 0 0
  | .HST_STATUS_WIDTH => rget s f 0 0
  | .HST_STATUS_FLIT => rget s f 0 0
  | .HST_STATUS_IDE => rget s f 0 0
  | .KPR_STATUS_AWAKE => b2n (keeperAwake s)
  | .FUS_DEFECT_ENTRY => ((inForce s).getD j 0).toNat
  | .FUS_RECORD_JCOUNT => (journalWindow s).length
  | .SEC_IDHASH_HASH => if rget s .SEC_STATE_KEY_OK = 1 then match s.sec.pub with | some p => ofLe (((sha512 p).drop (8 * j)).take 8) | none => rget s f i j else 0
  | _ => rget s f i j

/-! ### Register addresses -/

/-- What a register address leads to: an address fault, an offset at which no register stands, a register (row, unit, copy, byte in it), a
byte of the fault log or of the journal window, an MSI-X table dword, the pending bit array, the inbox window. -/
inductive Hit where
  | fault
  | unassigned
  | reg (row : RegRow) (i k off : Nat)
  | flog (off : Nat)
  | journal (off : Nat)
  | msix (f dword : Nat)
  | pba (f off : Nat)
  | inbox (f off : Nat)
  deriving DecidableEq, Repr

/-- The register of a block at an offset. -/
def findReg (d : Dom) (i off : Nat) : Hit :=
  (regRows.findSome? fun r =>
    if r.dom == d && r.base ≤ off && off < r.base + r.stride * r.count && (off - r.base) % r.stride < r.bits / 8 then
      some (Hit.reg r i ((off - r.base) / r.stride) ((off - r.base) % r.stride)) else none).getD .unassigned

/-- A register of one block or, where none stands there, of another. -/
def orElseReg (a b : Hit) : Hit := if a = .unassigned then b else a

/-- The host block of a function (R389). -/
def hostHit (s : State) (f o : Nat) : Hit :=
  let c := rget s .HST_STATUS_CTX f
  let bound := f != 0 && rget s .HST_STATUS_BOUND f == 1
  if o < 0x1000 then .inbox f o
  else if o < 0x1100 then findReg .host f o
  else if bound && 0x2000 ≤ o && o < 0x2100 then findReg .ctx c (o - 0x2000)
  else if bound && 0x3000 ≤ o && o < 0x3008 then findReg .port0 0 (0x8100 + 8 * c + (o - 0x3000))
  else if bound && 0x3020 ≤ o && o < 0x3040 then findReg .port0 0 (0x8200 + 32 * c + (o - 0x3020))
  else if bound && 0x4000 ≤ o && o < 0x9000 then
    match (List.range 80).find? fun d => dmaCtx s d == some c && rget s .DMA_OWNER_INDEX d == (o - 0x4000) / 0x100 with
    | some d => findReg .dma d (o % 0x100)
    | none => .unassigned
  else if 0xE000 ≤ o && o < 0xE400 then .msix f ((o - 0xE000) / 4)
  else if 0xF000 ≤ o && o < 0xF008 then .pba f (o - 0xF000)
  else .unassigned

/-- The keeper domain: its own registers, the contexts', the fault log. -/
def keeperHit (o : Nat) : Hit :=
  if 0x6000 ≤ o && o < 0x7000 then findReg .ctx ((o - 0x6000) / 0x100) (o % 0x100)
  else if 0x408000 ≤ o && o < 0x408000 + 64 * 4096 then .flog (o - 0x408000)
  else findReg .keeper 0 o

/-- The fuse domain: its registers, the defect record below `ENTRIES`, the journal window (R426). -/
def fuseHit (s : State) (o : Nat) : Hit :=
  if 0xA0000 ≤ o && o < 0xA0000 + 32 * (journalWindow s).length then .journal (o - 0xA0000)
  else if 0x20000 ≤ o && o < 0xA0000 && (inForce s).length ≤ (o - 0x20000) / 8 then .unassigned
  else findReg .fuse 0 o

/-- Where an address in space 0x3 or 0x4 leads for a requester (R28 to R31). An address in any other space is a fault here; so is one in space 0xF
from every requester, the keeper among them: the spec gives keeper-private space no layout (assumption 112). -/
def hiveHit (s : State) (who : Requester) (a : Nat) : Hit :=
  let x := fld a 47 5
  let y := fld a 42 5
  let w := fld a 36 6
  let off := fld a 0 36
  let dom := fld a 56 4
  let act := actsFor s who
  let cb := cbOf x y
  if fld a 60 4 = 4 then
    match locate s act a with
    | some (.so cb off) => findReg .so cb off
    | _ => .fault
  else if fld a 60 4 ≠ 3 then .fault
  else if dom = 0 then
    if fld a 52 4 ≠ 0 ∨ 27 < x ∨ 23 < y ∨ 0x100000 ≤ off ∨ (31 < w ∧ w ≠ 63) ∨ !reaches s act cb ∨ (absentComb s cb ∧ act.isSome) then .fault
    else if w = 63 then findReg .comb cb off else findReg .worker (32 * cb + w) off
  else if fld a 36 20 ≠ 0 then .fault
  else if dom = 1 then if fld off 22 14 ≠ 0 ∨ 41 < fld off 16 6 then .fault else findReg .region (fld off 16 6) (off % 0x10000)
  else if dom = 2 then
    if fld off 19 17 ≠ 0 then .fault
    else orElseReg (findReg .eave (fld off 16 3) (off % 0x10000)) (if fld off 16 3 = 0 then findReg .eave0 0 (off % 0x10000) else .unassigned)
  else if dom = 3 then
    if fld off 19 17 ≠ 0 ∨ 5 < fld off 16 3 then .fault
    else orElseReg (findReg .port (fld off 16 3) (off % 0x10000)) (if fld off 16 3 = 0 then findReg .port0 0 (off % 0x10000) else .unassigned)
  else if 7 < dom ∨ fld off 24 12 ≠ 0 then .fault
  else if dom = 4 then if off < 0x100000 then hostHit s (off / 0x10000) (off % 0x10000) else .unassigned
  else if dom = 5 then keeperHit off
  else if dom = 6 then fuseHit s off
  else if off < 80 * 0x100 then findReg .dma (off / 0x100) (off % 0x100) else .unassigned

/-- Where an access leads: by hive address, or by an offset in BAR0 (R390). A function in D3hot decodes none (R385). -/
def regHit (s : State) (who : Requester) (a : Nat) : Hit :=
  match who with
  | .bar0 f => if (hostGet s f.val).d3 then .fault else match bar0Addr f.val a with | some h => hiveHit s who h | none => .fault
  | _ => hiveHit s who a

/-! ### Who reads and writes (R32, R253, R288, R335, R355, R384, R459) -/

/-- A register belongs to a group of registers by the rows of its chapter. -/
def rowIn (l : List RegRow) (r : RegRow) : Bool := l.any fun x => x.r == r.r

/-- The registers that the debug features open (R80, R355). -/
def debugReg (r : RegRow) : Bool := r.r == .WRK_DBG || r.r == .CTX_CAPCFG

/-- The `PRT_` registers of a context. -/
def spanReg (r : RegRow) : Bool :=
  r.r == .PRT_SPAN || r.r == .PRT_MIRCFG || r.r == .PRT_MIRWIN || r.r == .PRT_MIRSTAT || r.r == .PRT_MIRTAB

/-- A requester that acts for context `c` reads the register; others read it as 0. -/
def ctxSees (s : State) (who : Requester) (c : Nat) (r : RegRow) (i k : Nat) : Bool :=
  if r.dom == .ctx then i == c
  else if spanReg r then k == c
  else if rowIn regRowsPRT r || rowIn regRowsKPR r || rowIn regRowsTLM r then false
  else if r.r == .MEM_CHSTAT || r.r == .RFT_STAT || r.r == .CMB_WORKERS || r.r == .CMB_WMAP then false
  else if r.dom == .dma then dmaOwned s who i
  else true

/-- A requester reads the register's value; one that does not reads 0. -/
def canRead (s : State) (who : Requester) (r : RegRow) (i k : Nat) : Bool :=
  (!debugReg r || fieldDebug s) && match actsFor s who with | none => true | some c => ctxSees s who c r i k

/-- A requester's write acts. Recovery leaves the physical function's host block and `KPR_RECOV` only (R458). -/
def canWrite (s : State) (who : Requester) (r : RegRow) (i k : Nat) : Bool :=
  canRead s who r i k &&
  (isPf who || !(rowIn regRowsPRT r || rowIn regRowsKPR r || r.r == .BST_CTRL || r.r == .EAV_CTX_CFG || r.r == .SYN_OBJ)) &&
  !((r.dom == .comb || r.dom == .worker) && absentComb s (if r.dom == .worker then i / 32 else i)) &&
  (rget s .KPR_STATUS_RECOVERY == 0 || r.r == .KPR_RECOV || (r.dom == .host && i == 0))

/-- The fields that a requester acting for a context reads as 0 (R32, R287, R335). -/
def hidden (s : State) (c : Nat) (f : F) (i : Nat) : Bool :=
  match f with
  | .CMB_ID_PX => true
  | .CMB_ID_PY => true
  | .ASY_STATUS_WORKER => true
  | .MSH_DROP_SRC => let e := rget s .MSH_DROP_SRC i
    !(epOnGrid e && ctxHas s c (epComb e))
  | _ => false

/-- A field as a requester reads it: write-only fields read 0; arrays of fields stand side by side. -/
def fieldVal (s : State) (who : Requester) (i k : Nat) (x : FieldAt) : Nat :=
  let hide := match actsFor s who with | some c => hidden s c x.f i | none => false
  if x.acc == .wo || hide then 0
  else if x.f == .PWR_RTEMP_TEMP || x.f == .PWR_RVOLT_VMON then
    (List.range x.copies).foldl (fun a n => a + rget s x.f i n % 2 ^ x.width * 2 ^ (x.width * n)) 0
  else vget s x.f i k % 2 ^ (x.width * x.copies)

/-- A register's value for a requester. -/
def regValue (s : State) (who : Requester) (r : RegRow) (i k : Nat) : Nat :=
  if canRead s who r i k then (r.fields.map fun x => fieldVal s who i k x * 2 ^ x.lo).foldl (· + ·) 0 else 0

/-! ### Reads (R4, R8, R10) -/

/-- Where the overflow flag of a counter stands: its field, unit, index and bit. -/
def ovfOf (f : F) (i k : Nat) : Option (F × Nat × Nat × Nat) :=
  match f with
  | .WRK_EVT_COUNT => some (.WRK_OVF_OVF, i, 0, k)
  | .NET_EVT_COUNT => some (.NET_OVF_OVF, i, 0, k)
  | .NET_XEVT_COUNT => some (.NET_XOVF_OVF, i, 0, 0)
  | .PWR_REVT_COUNT => some (.PWR_ROVF_OVF, i, 0, k)
  | .EAV_EVT_COUNT => some (.EAV_OVF_OVF, i, 0, k)
  | .MEM_CHERR_COUNT => some (.MEM_CHSTAT_ERR_OVF, i, k, 0)
  | .RFT_EVT_COUNT => some (.RFT_STAT_EVT_OVF, i, k, 0)
  | .MSH_EVT_COUNT => some (.MSH_OVF_OVF, i, 0, k)
  | .MSG_EVT_COUNT => some (.MSG_OVF_OVF, i, 0, k)
  | .SYN_EVT_COUNT => some (.SYN_OVF_OVF, i, 0, k)
  | .DMA_EVT_COUNT => some (.DMA_OVF_OVF, i, 0, k)
  | .TND_EVT_COUNT => some (.TND_OVF_OVF, i, 0, k)
  | .ASY_EVT_COUNT => some (.ASY_OVF_OVF, i, 0, k)
  | .BST_EVT_COUNT => some (.BST_OVF_OVF, i, 0, k)
  | .CTX_EVT_COUNT => some (.CTX_OVF_OVF, i, 0, k)
  | .PRT_EVT_COUNT => some (.PRT_OVF_OVF, i, 0, k)
  | .HST_EVT_COUNT => some (.HST_OVF_OVF, i, 0, k)
  | .FUS_EVT_COUNT => some (.FUS_OVF_OVF, i, 0, k)
  | .SEC_EVT_COUNT => some (.SEC_OVF_OVF, i, 0, k)
  | .KPR_EVT_COUNT => some (.KPR_OVF_OVF, i, 0, 0)
  | _ => none

/-- A read clears the RC fields of a register, with their overflow flags (R2, R10). -/
def clearRc (r : RegRow) (i k : Nat) (s : State) : State :=
  r.fields.foldl (fun s x => if x.acc == .rc then
      let s := rset x.f i k 0 s
      match ovfOf x.f i k with
      | some (o, oi, oj, b) => rset o oi oj (setFld (rget s o oi oj) b 1 0) s
      | none => s
    else s) s

/-- The register latches its high half at a read of its low half: it is a counter or a status register (R8). -/
def latches (r : RegRow) : Bool := r.bits == 64 && r.fields.any fun x => x.acc == .rov || x.acc == .rc

/-- A pop by hand (R288). -/
def qpop (wk q : Nat) (s : State) : Nat × State :=
  let l := (wGet s wk).queues.getD q []
  match l with
  | [] => (0, rset .MSG_QSTAT_POPVALID wk q 0 s)
  | e :: r =>
    let s := wMod wk (fun w => { w with queues := w.queues.set q r }) s
    let s := rset .MSG_QSTAT_POPVALID wk q 1 (rset .MSG_QSTAT_POPLEN wk q (e.words.length - 1) s)
    let s := rset .MSG_QW1_WORD wk q (wordAt e.words 1).toNat (rset .MSG_QW2_WORD wk q (wordAt e.words 2).toNat
      (rset .MSG_QW3_WORD wk q (wordAt e.words 3).toNat s))
    ((wordAt e.words 0).toNat, creditBack wk e s)

/-- The access is one that R8 permits for the register: an aligned access of its own width, or of a half of a 64-bit register. -/
def accessOk (r : RegRow) (off bytes : Nat) : Bool :=
  (bytes == 4 && (off == 0 || (r.bits == 64 && off == 4))) || (bytes == 8 && r.bits == 64 && off == 0)

/-- A read of a register with its effects: the answer, and the state after it. A latched high half is kept for the requester and the register
that it was read from: another requester's read of the high half returns the live value (assumption 113). -/
def regReadAt (who : Requester) (a : Nat) (r : RegRow) (i k off bytes : Nat) (s : State) : Nat × State :=
  if !accessOk r off bytes then (0, s)
  else if r.r == .MSG_QPOP then if fieldDebug s && isPf who then qpop i k s else (0, s)
  else
    let v := regValue s who r i k
    let s' := if canRead s who r i k then clearRc r i k s else s
    let base := a - off
    if bytes = 8 || r.bits == 32 then (v, s')
    else if off = 0 then
      (v % 2 ^ 32, if latches r then { s' with latch := (who, base, v / 2 ^ 32) :: s'.latch.filter fun e => !(e.1 == who && e.2.1 == base) } else s')
    else match s.latch.find? fun e => e.1 == who && e.2.1 == base with
      | some e => (e.2.2, { s' with latch := s'.latch.filter fun e => !(e.1 == who && e.2.1 == base) })
      | none => (v / 2 ^ 32, s')

/-- A dword of a function's MSI-X table: its mask is 1 after reset. -/
def msixDword (s : State) (f d : Nat) : Nat := tget (b2n (d % 4 == 3)) (hostGet s f).msix d

/-- `k` bytes of the fault log and of the journal window. A position of the log that no record has taken reads 0. -/
def flogByte (s : State) (o : Nat) : Byte :=
  match s.keeper.log.find? fun e => e.1 == o / 64 with
  | some e => (recBytes e.2).getD (o % 64) 0
  | none => 0

def journalByte (s : State) (o : Nat) : Byte :=
  match (journalWindow s)[o / 32]? with
  | some e => (journalBytes e).getD (o % 32) 0
  | none => 0

/-- A read of space 0x3 or 0x4: `none` is an address fault. -/
def regRead (who : Requester) (a bytes : Nat) (s : State) : Option Nat × State :=
  match regHit s who a with
  | .fault => (none, s)
  | .unassigned => (some 0, s)
  | .reg r i k off => let z := regReadAt who a r i k off bytes s
    (some z.1, z.2)
  | .flog o => (some (if (actsFor s who).isNone then ofLe ((List.range bytes).map fun i => flogByte s (o + i)) else 0), s)
  | .journal o => (some (ofLe ((List.range bytes).map fun i => journalByte s (o + i))), s)
  | .msix f d => (some (if bytes = 8 then msixDword s f d + msixDword s f (d + 1) * 2 ^ 32 else if bytes = 4 then msixDword s f d else 0), s)
  | .pba f o => (some (bitsOf (hostGet s f).mpend / 2 ^ (8 * o) % 2 ^ (8 * bytes)), s)
  | .inbox _ _ => (some 0, s)

end Sys2Proof.Machine
end

