-- ==== Sys2Proof/Machine/Contexts.lean ====
section
/-! DEFINITION. Contexts: grants, context resets with their crash captures, releases (R336 to R354, R126, R239, R290, R400). -/

namespace Sys2Proof.Machine

/-! ### Asking for a reset (R341, R344) -/

/-- Host software asks for a context reset, with a named generation or the next one. A generation equal to the current one does nothing. -/
def ctxResetReq (c : Nat) (gen : Option Nat) (s : State) : State :=
  if gen = some (genOf s c) then s
  else
    let fresh := (ctxGet s c).resetReq.isNone
    ctxMod c (fun x => if fresh && x.resetReq.isSome then { x with resetOwn := true } else x) (askReset c gen s)

/-- `CTX_RESET_REQUEST` (R343, R355): a write of `CTX_CTRL`. `HOLD_TICKS` of 0 stores 1. -/
def ctxCtrlWrite (c v : Nat) (s : State) : State :=
  let s := rset .CTX_CTRL_HOLD_TICKS c 0 (max 1 (fld v 0 8)) s
  if bit v 31 then ctxResetReq c (if bit v 30 then some (fld v 22 8) else none) s else s

def execCtxResetRequest (who : Requester) (c : Fin 16) (v : BitVec 32) (s : State) : Host.Outcome State Fault Refusal :=
  .next (if match actsFor s who with | none => true | some k => k == c.val then ctxCtrlWrite c.val v.toNat s else s)

/-- `RESET` (R344, R398): the command stays outstanding until the reset has run. -/
def execReset (f : Fin 16) (s : State) : Host.Outcome State Fault Refusal :=
  .next (runCmd f.val 5 (fun h s =>
    let gen := if bit h.arg0 8 then some (fld h.arg0 0 8) else none
    if rget s .CTX_STATE_STATE h.ctx = 5 then endCmd h (some h.ctx) 0x38 0 s
    else if gen = some (genOf s h.ctx) then endCmd h (some h.ctx) 0x39 0 s
    else startCmd h (ctxResetReq h.ctx gen s)) s)

/-- `HOLD_TIMEOUT` (R347): a context is still HELD after `HOLD_TICKS` tick boundaries. -/
def holdTimeout (c : Nat) (s : State) : State :=
  if rget s .CTX_STATE_STATE c = 3 ∧ rget s .CTX_CTRL_HOLD_TICKS c ≤ (ctxGet s c).heldTicks ∧ !s.keeper.inReset then askReset c none s else s

def execHoldTimeout (c : Fin 16) (s : State) : Host.Outcome State Fault Refusal := .next (holdTimeout c.val s)

/-! ### Crash capture (R348 to R352) -/

def rowOf (r : R) : Option RegRow := regRows.find? fun x => x.r == r

/-- A register as the physical function reads it, in `k` bytes. -/
def regLe (s : State) (r : R) (i j k : Nat) : List Byte := toLe k (match rowOf r with | some x => regValue s .pf x i j | none => 0)

def zeros (k : Nat) : List Byte := List.replicate k 0

/-- Pads with zeros to a multiple of 4 KiB. -/
def pad4k (b : List Byte) : List Byte := b ++ zeros ((4096 - b.length % 4096) % 4096)

/-- A thread entry (R350). `Binding or queue` and the sync object are those of the park; a thread that waits on its fire rule shows 0 there (assumption 130). -/
def capThread (s : State) (w : Worker) (t : Nat) : List Byte :=
  let th := w.thr t
  let z := if !w.actives.contains t then (0, 0, 0)
    else if th.ended then (4, 0, 0)
    else match th.park with
      | .wait o _ => (2, 0, o)
      | .credit b _ => (3, b, 0)
      | .fault => (5, 0, 0)
      | .none => (1, 0, 0)
  toLe 8 (th.ptr % 512 ||| z.1 <<< 9 ||| z.2.1 <<< 12 ||| (z.2.2 % 4096) <<< 16 ||| (min (s.cycle - th.lastFire) 0xFFFFFFFF) <<< 32)

/-- A queue block (R350). -/
def capQueue (q : List QEntry) : List Byte :=
  let lens := (q.mapIdx fun i e => ((e.words.length - 1) % 4) <<< (2 * i)).foldl (· + ·) 0
  padTo 288 (toLe 1 q.length ++ zeros 3 ++ toLe 4 lens ++ zeros 24 ++ q.flatMap fun e => padTo 16 (bytesOf e.words))

def capWorker (s : State) (wk : Nat) : List Byte :=
  let w := wGet s wk
  padTo 4096 (regLe s .WRK_STATUS wk 0 4 ++ zeros 4 ++ regLe s .WRK_FAULT wk 0 8 ++ regLe s .WRK_ISSUED wk 0 8 ++ toLe 4 (lsiteW wk) ++ zeros 4 ++
    (List.range 128).flatMap (capThread s w) ++ (List.range 8).flatMap (fun q => capQueue (w.queues.getD q [])) ++
    (List.range 8).flatMap (fun b => regLe s .MSG_QBIND wk b 8) ++ (List.range 8).flatMap fun b => regLe s .MSG_SBIND wk b 8)

/-- A switch in a COMB record: its phase, and the words sent by the first 30 routes of that phase (R351). -/
def capSwitch (x : Switch) : List Byte :=
  let rs := ((x.act.routes.mapIdx fun i r => (i, r)).filter fun e => e.2.phase == x.phase).take 30
  padTo 64 (toLe 1 x.phase ++ zeros 3 ++ rs.flatMap fun e => toLe 2 (tget 0 x.sent e.1))

/-- A register as the capture of a context shows it: the fields that name a physical comb or worker are 0 (R32). -/
def regCtx (s : State) (c : Nat) (r : R) (i k : Nat) : List Byte :=
  toLe k (match rowOf r with | some x => regValue s (.ctx ⟨c % 16, Nat.mod_lt _ (by decide)⟩) x i 0 | none => 0)

def capComb (s : State) (cb : Nat) : List Byte :=
  padTo 0x1000 (regCtx s ((ctxOfComb s cb).getD 0) .CMB_ID cb 4 ++ regLe s .CMB_STATUS cb 0 4 ++ regLe s .NET_STATUS cb 0 4 ++ zeros 4 ++
    padTo 16 (regLe s .NET_STALL cb 0 8) ++ (List.range 3).flatMap fun n => capSwitch (swGet s cb n)) ++
  (List.range 4096).flatMap fun n => regLe s .SYN_OBJ cb n 8 ++ regLe s .SYN_OBJPH cb n 8

def capDma (s : State) (d : Nat) : List Byte :=
  padTo 64 (regLe s .DMA_STATUS d 0 4 ++ regLe s .DMA_DONE d 0 4 ++ regLe s .DMA_CUR d 0 8 ++ regLe s .DMA_FAIL d 0 8 ++ regLe s .DMA_FINFO d 0 4 ++
    regLe s .DMA_OWNER d 0 4) ++ padTo 64 (dmGet s d).desc

def capStream (s : State) (ch : Nat) : List Byte :=
  let x := chGet s ch
  let next := (x.act.runs.takeWhile fun r => r.slot < x.nextSlot).length
  padTo 32 (toLe 2 ch ++ toLe 1 x.feed.length ++ toLe 1 x.repairs.length ++ toLe 4 next ++ toLe 4 ((x.nextSlot - 1) % 2 ^ 24) ++
    regLe s .MEM_CHERR (ch / 256) (ch % 256) 4)


/-- The five sections: their bytes and their numbers of records (R349). -/
def capSections (s : State) (c : Nat) : List (List Byte × Nat) :=
  let combs := ctxCombs s c
  let wks := ctxWorkers s c
  let ds := (List.range 80).filter fun d => dmaCtx s d == some c
  let chs := ctxChans s c
  let samples := if rget s .CTX_CAPCFG_SAMPLE c = 1 then
      wks.flatMap (fun wk => locRead s none (lsAddr wk (4096 * rget s .CTX_CAPCFG_LS_PAGE c)) 4096) ++
        combs.flatMap fun cb => locRead s none (cmAddr cb (4096 * rget s .CTX_CAPCFG_CM_PAGE c)) 4096
    else []
  [(wks.flatMap (capWorker s), wks.length), (combs.flatMap (capComb s), combs.length), (ds.flatMap (capDma s), ds.length),
   (chs.flatMap (capStream s), chs.length), (samples, samples.length / 4096)]

/-- The record that caused a hold as the keeper's log holds it, or as it was made. -/
def heldBytes (s : State) (c : Nat) : List Byte :=
  match (ctxGet s c).held with
  | none => zeros 64
  | some r => recBytes (match s.keeper.log.find? fun e => e.2.cls == r.cls && e.2.ctx == r.ctx && e.2.gen == r.gen && e.2.step == r.step && e.2.detail == r.detail with
      | some e => e.2
      | none => r)

/-- The capture header (R349). -/
def capHeader (s : State) (c : Nat) (secs : List (List Byte × Nat)) : List Byte :=
  let x := ctxGet s c
  let a := x.allot.getD ⟨0, 0, 0, 0, [], [], [], 0, 0⟩
  let table := (secs.foldl (fun (z : Nat × List Byte) (e : List Byte × Nat) =>
    (z.1 + (pad4k e.1).length, z.2 ++ toLe 8 z.1 ++ toLe 8 e.1.length ++ toLe 4 e.2 ++ toLe 4 (crc32c e.1).toNat)) (4096, [])).2
  let flags := rget s .CTX_CAPCFG_SAMPLE c + 2 * b2n (rget s .CTX_STATE_STATE c == 3)
  let b := padTo 0xFFC (toLe 4 0x48535243 ++ toLe 2 0x100 ++ toLe 1 c ++ toLe 1 (genOf s c) ++ toLe 8 s.tick ++ toLe 8 (rget s .CTX_STEP_COUNT c) ++
    toLe 8 (match x.active with | some t => t.id | none => 0) ++ toLe 1 a.col0 ++ toLe 1 a.col1 ++ toLe 1 a.row0 ++ toLe 1 a.row1 ++
    toLe 2 (ctxCombs s c).length ++ toLe 2 a.chans.length ++ toLe 1 a.dma.length ++ toLe 1 flags ++ zeros 2 ++
    toLe 4 (rget s .CTX_STEPSTAT_SLIP c) ++ table ++ zeros 24 ++ heldBytes s c)
  b ++ toLe 4 (crc32c b).toNat

/-- The comb and worker whose records a crash copy takes: the site that the fault names, or the first comb of the rectangle where there is no fault or
it names no comb (R352, assumption 130). -/
def crashSite (s : State) (c : Nat) : Nat × Nat :=
  let first := ((ctxCombs s c).headD 0, 63)
  match (ctxGet s c).held with
  | some r => if fld r.psite 9 6 = 63 then first else (cbOf (fld r.lsite 27 5) (fld r.lsite 22 5), fld r.lsite 16 6)
  | none => first

/-- The copy in the crash area of flash: the header, and the records of the site (R352). -/
def capFlash (s : State) (c : Nat) (head : List Byte) : List Byte :=
  let (site, w) := crashSite s c
  head ++ (if w ≤ 31 then capWorker s (32 * site + w) else (List.range 32).flatMap fun k => capWorker s (32 * site + k)) ++ capComb s site

/-- The capture of a context reset. -/
def capture (c : Nat) (s : State) : State :=
  if !fieldDebug s ∨ rget s .CTX_CAPCFG_CAPTURE c ≠ 1 then s
  else
    let secs := capSections s c
    let total := 4096 + (secs.map fun e => (pad4k e.1).length).foldl (· + ·) 0
    let base := 4096 * rget s .CTX_CAPCFG_BASE_PAGE c
    let stat (res slot bytes : Nat) (s : State) : State :=
      rset .CTX_CAPSTAT_VALID c 0 1 <| rset .CTX_CAPSTAT_RESULT c 0 res <| rset .CTX_CAPSTAT_SLOT c 0 slot <|
        rset .CTX_CAPSTAT_GEN c 0 (genOf s c) <| rset .CTX_CAPSTAT_BYTES c 0 bytes s
    if aperture s (.ctx c) < base + total then stat 2 0 0 s
    else
      let head := capHeader s c secs
      let slot := s.flash.crashNext
      let copy := capFlash s c head
      let s := emWrite (.ctx c) base (head ++ secs.flatMap fun e => pad4k e.1) s
      stat 1 slot total { s with flash := { s.flash with crash := tset s.flash.crash slot copy, crashNext := (slot + 1) % 16 } }

/-! ### The reset (R339, R340, R342, R343) -/

/-- A unit's generation changes: the next one, or the one that the request names. -/
def newGen (c : Nat) (gen : Option Nat) (s : State) : State :=
  rset .CTX_STATE_GEN c 0 (match gen with | some g => g % 256 | none => (genOf s c + 1) % 256) (ctxMod c (fun x => { x with genTick := some s.tick }) s)

/-- The steps that the context's workers served end with the incarnation (R311). -/
def closeServed (c : Nat) (s : State) : State :=
  let n := rget s .CTX_STEP_COUNT c
  let ran := if (ctxGet s c).phase = .idle then n else n + 1
  let shut (e : Nat × Served) : Option (Nat × Served) :=
    if e.2.ctx = c ∧ e.2.last.isNone then if e.2.first < ran then some (e.1, { e.2 with last := some (ran - 1) }) else none else some e
  let s := { s with pcombs := s.pcombs.map fun e => (e.1, { e.2 with served := e.2.served.filterMap shut }) }
  if ran = 0 then s
  else ((ctxCombs s c).filter fun cb => !absentComb s cb).foldl (fun s cb =>
    pcMod (pcOf s cb) (fun k =>
      let ws := (List.range 32).filter fun w => !(k.served.any fun e => e.1 == k.phys w && e.2.ctx == c && e.2.gen == genOf s c)
      { k with served := k.served ++ ws.map fun w => (k.phys w, ⟨c, genOf s c, 0, some (ran - 1)⟩) }) s) s

/-- Every unit of the allotment is cleared: stores, frames, switches, queues, bindings, sync objects, taps (R342, R343). -/
def clearUnits (c : Nat) (s : State) : State :=
  let chs := ctxChans s c
  { s with workers := tdrop s.workers fun k => ctxHas s c (k / 32)
           switches := tdrop s.switches fun k => ctxHas s c (k / 3)
           objs := tdrop s.objs fun k => ctxHas s c (k / 4096)
           drops := tdrop s.drops fun k => ctxHas s c k
           dropWaits := s.dropWaits.filter fun d => !ctxHas s c d.comb
           tags := s.tags.filter fun g => !ctxHas s c g.comb
           lane := s.lane.filter fun b => b.ctx != c
           chans := s.chans.map fun (e : Nat × Channel) => if chs.contains e.1 then (e.1, { chan0 with scrubAt := e.2.scrubAt, passes := e.2.passes }) else e }

/-- `EAV_CTX_CFG` of a context is zero and unlocked (R254). -/
def unlockCfg (c : Nat) (s : State) : State :=
  rset .EAV_CTX_CFG_GRANULE 0 c 0 <| rset .EAV_CTX_CFG_MIRROR_BASE 0 c 0 <| rset .EAV_CTX_CFG_MIRROR_COUNT 0 c 0 s

/-- The ports close a context's flows (R375). -/
def closeFlows (c : Nat) (s : State) : State :=
  { s with ports := s.ports.map fun (e : Nat × PortSt) => (e.1, { e.2 with
      inFlows := e.2.inFlows.map (fun (k : Nat × PortFlow) => if k.2.ctx = some c then (k.1, { k.2 with closed := true, asm := none, missing := 0 }) else k)
      outFlows := e.2.outFlows.filter fun (k : Nat × OutFlow) => k.2.ctx != some c }) }

/-- The context's channels stop at once; packets that wait at a segment's egress are discarded, and those in flight carry the old generation. -/
def stopTraffic (c : Nat) (s : State) : State :=
  let s' := (List.range 80).foldl (fun s d => if dmaCtx s d = some c then dmaStopNow d s else s) s
  closeFlows c { s' with flight := s.flight, egress := s'.egress.filter fun q => !(q.ctxv && q.ctx.toNat == c) }

/-- The context's own items after a reset. -/
def freshCtx (x : Ctx) : Ctx := { ctx0 with allot := x.allot, loadSeq := x.loadSeq, grantTag := x.grantTag, genTick := x.genTick }

/-- The comb moves that a context reset finds: its units stop, so their paths drain and the moves are made; the reset takes effect when the last has
ended (R25, R344). -/
def endMoves (c : Nat) (s : State) : State := if movesDue s c = [] then s else movesAtRidge c (discardTraffic c s)

/-- The context reset at its tick boundary, no move left. A release goes on to its wipe. -/
def contextReset (c : Nat) (gen : Option Nat) (s : State) : State :=
  let s := ungate c s
  let x := ctxGet s c
  let cls := rget s .CTX_STATE_HOLD_CLASS c
  let s := stopTraffic c (closeServed c s)
  let s := capture c { s with ctxs := tset s.ctxs c { ctxGet s c with load := none, waiting := none, active := x.active } }
  let s := newGen c gen s
  let s := endCmds c 0x84 0 (fun h => h.started && (h.opcode == 5 || h.opcode == 6)) s
  let s := ctxSet c (freshCtx (ctxGet s c)) (unlockCfg c (clearUnits c s))
  let s := rset .CTX_STEP_COUNT c 0 0 <| rset .CTX_STEPSTAT_SLIP c 0 0 <| rset .CTX_STATE_HOLD_CLASS c 0 0 s
  let s := bump .CTX_EVT_COUNT .CTX_OVF_OVF c 3 1 s
  let s := rset .CTX_STATE_STATE c 0 (if x.releasing then 5 else 1) s
  let s := (s.taken.filter fun h => h.started && h.opcode == 5 && h.ctx == c).foldl (fun s h => endCmd h (some c) 0 0 s) s
  if x.resetOwn then s else post (ctxFunc s c) ⟨4, cls, some c, 0, genOf s c, 0, 0⟩ s

/-- The reset is due at this boundary: the keeper runs, and the generation has not changed on it (R340, R447). -/
def resetDue (s : State) (c : Nat) : Bool := !s.keeper.inReset && (ctxGet s c).resetReq.isSome && (ctxGet s c).genTick != some s.tick

/-- `CONTEXT_RESET` (R343). -/
def execContextReset (c : Fin 16) (s : State) : Host.Outcome State Fault Refusal :=
  match (ctxGet s c.val).resetReq with
  | some g =>
    .next (if resetDue s c.val then
        let s := endMoves c.val s
        if movesDue s c.val = [] then contextReset c.val g s else s
      else s)
  | none => .next s

/-! ### Grants (R33, R336, R337, R400) -/

/-- A grant block (R400). -/
structure GrantReq where
  al : Allot
  ring : Nat
  host : Nat
  top : List Nat
  bottom : List Nat
  deriving DecidableEq, Repr

/-- The grant block's fields, or none where a reserved byte is not 0 or a field is out of its range. -/
def grantOf (b : List Byte) : Option GrantReq :=
  let col0 := leAt b 0 1
  let col1 := leAt b 1 1
  let inside (x : Nat) : Bool := decide (col0 ≤ x / 4) && decide (x / 4 ≤ col1)
  let lanes (k : Nat) : List Nat := (List.range 28).map fun x => leAt b (0x10 + 2 * x + k) 1
  let ok := leAt b 7 1 == 0 && leAt b 0xA 6 == 0 && ofLe (slice b 0x48 184) == 0 && decide (leAt b 4 1 ≤ 15) && decide (leAt b 5 1 ≤ 64) &&
    decide (leAt b 6 1 ≤ 16) && decide (leAt b 8 2 ≤ 4096) &&
    (List.range 28).all fun x => [0, 1].all fun k => let v := (lanes k).getD x 0
      decide (v ≤ 4) && (v == 0 || inside x)
  if ok then
    some { al := ⟨col0, col1, leAt b 2 1, leAt b 3 1, (List.range 2048).filter fun ch => bit (leAt b (0x100 + ch / 8) 1) (ch % 8), [], [], leAt b 8 2, leAt b 4 1⟩
           ring := leAt b 5 1, host := leAt b 6 1, top := lanes 0, bottom := lanes 1 }
  else none

/-- The block in host memory could be read: its range has 57-bit addresses. -/
def grantBlock (s : State) (a : Nat) : Option GrantReq := if a + 512 ≤ 2 ^ 57 then grantOf (mread s (hmKey a) 512) else none

/-- Free DMA channels of a range, lowest first. -/
def freeDma (s : State) (lo n : Nat) : List Nat := ((List.range n).map (· + lo)).filter fun d => (dmaCtx s d).isNone && !dmaOut s d

/-- The rafter behind a lane number: 0 to 27 the top rafters, 28 to 55 the bottom ones. -/
def columnRafter (k : Nat) : Nat × Nat :=
  let r := rafterOf (cbOf (k % 28) 0) (if k < 28 then 2 else 3)
  (r.1, r.2.1)

/-- The lowest free lanes of a column rafter. -/
def lanesFor (s : State) (k n : Nat) : List (Nat × Nat) :=
  (((List.range 4).filter fun l => (laneHolder s (columnRafter k).1 (columnRafter k).2 l).isNone).take n).map fun l => (k, l)

/-- The row rafters of a rectangle, by its edges (R239). -/
def rowRafters (a : Allot) : List (Nat × Nat) :=
  let rows := (List.range 24).filter fun y => decide (a.row0 ≤ y / 4) && decide (y / 4 ≤ a.row1)
  let pick (rsel : Nat) : List (Nat × Nat) := rows.map fun y => let r := rafterOf (cbOf 0 y) rsel
    (r.1, r.2.1)
  (if a.col1 = 6 then pick 0 else []) ++ (if a.col0 = 0 then pick 1 else [])

/-- A lane has failed, or its rafter is out of service with its segment (R247, R250). -/
def laneFailed (s : State) (r : Nat × Nat) (l : Nat) : Bool := bit (rget s .RFT_STAT_FAILED r.1 r.2) l || rget s .EAV_SEG_STATE r.1 == 3

/-- Live contexts. -/
def liveCtxs (s : State) : List Nat := (List.range 16).filter fun c => (ctxGet s c).allot.isSome

/-- The checks of R337, in order. -/
def grantCheck (s : State) (g : GrantReq) : Option Nat :=
  let a := g.al
  let regions := (List.range 42).filter a.hasRegion
  let want := (List.range 28).flatMap (fun x => lanesFor s x (g.top.getD x 0)) ++ (List.range 28).flatMap fun x => lanesFor s (28 + x) (g.bottom.getD x 0)
  let asked := (g.top.foldl (· + ·) 0) + g.bottom.foldl (· + ·) 0
  if !(a.col0 ≤ a.col1 && a.col1 ≤ 6 && a.row0 ≤ a.row1 && a.row1 ≤ 5) then some 0x30
  else if regions.any fun r => regionOut s r || (liveCtxs s).any fun c => match (ctxGet s c).allot with | some b => b.hasRegion r | none => false then some 0x31
  else if a.chans.isEmpty || a.chans.any fun ch => !chInService s ch || (shelterChans s).contains ch || (chanOwner s ch).isSome then some 0x32
  else if want.length < asked || want.any (fun l => laneFailed s (columnRafter l.1) l.2) ||
      (rowRafters a).any fun r => (List.range 4).any fun l => laneFailed s r l then some 0x33
  else if (freeDma s 0 64).length < g.ring || (freeDma s 64 16).length < g.host then some 0x34
  else if ((liveCtxs s).any fun c => ctxFunc s c == a.func) || (a.func != 0 && !(hostGet s a.func).enabled) then some 0x35
  else if (liveCtxs s).length = 16 then some 0x36
  else none

/-- The switch outputs that face a comb outside the allotment (R126). -/
def edgesOf (a : Allot) (cb : Nat) : Nat :=
  bitsOf ((List.range 4).filterMap fun d => match neighbour cb d with
    | some nb => if a.hasComb nb.1 then none else some (3 - d)
    | none => some (3 - d))

/-- Marks a rafter lane as held by a context, or free. -/
def holdLane (r : Nat × Nat) (l v : Nat) (s : State) : State :=
  rset .RFT_STAT_OWNER r.1 r.2 (setFld (rget s .RFT_STAT_OWNER r.1 r.2) (5 * l) 5 v) s

/-- The lanes of an allotment: its column lanes and all four lanes of its row rafters. -/
def allotLanes (a : Allot) : List ((Nat × Nat) × Nat) :=
  (a.lanes.map fun l => (columnRafter l.1, l.2)) ++ (rowRafters a).flatMap fun r => (List.range 4).map fun l => (r, l)

/-- The registers that show an allotment. -/
def showAllot (c : Nat) (a : Allot) (ring host : Nat) (s : State) : State :=
  rset .CTX_ALLOT_COL0 c 0 a.col0 <| rset .CTX_ALLOT_COL1 c 0 a.col1 <| rset .CTX_ALLOT_ROW0 c 0 a.row0 <| rset .CTX_ALLOT_ROW1 c 0 a.row1 <|
    rset .CTX_ALLOT_CHANNELS c 0 a.chans.length <| rset .CTX_ALLOT_RING_DMA c 0 ring <| rset .CTX_ALLOT_HOST_DMA c 0 host <|
    rset .CTX_ALLOT_SYNC c 0 a.sync s

/-- Binds channels, lanes, DMA channels and the function of an allotment to its context. -/
def bindAllot (c : Nat) (a : Allot) (s : State) : State :=
  let s := a.chans.foldl (fun s ch => rset .MEM_CHSTAT_OWNED (ch / 256) (ch % 256) 1 (rset .MEM_CHSTAT_OWNER (ch / 256) (ch % 256) c s)) s
  let s := (allotLanes a).foldl (fun s e => holdLane e.1 e.2 (16 + c) s) s
  let s := (a.dma.mapIdx fun k d => (k, d)).foldl (fun s e =>
    rset .DMA_OWNER_BOUND e.2 0 1 (rset .DMA_OWNER_CTX e.2 0 c (rset .DMA_OWNER_INDEX e.2 0 e.1 s))) s
  let s := a.combs.foldl (fun s cb => rset .NET_CFG_EDGE_OFF cb 0 (edgesOf a cb) s) s
  rset .HST_STATUS_BOUND a.func 0 1 (rset .HST_STATUS_CTX a.func 0 c s)

/-- A grant: the context with the lowest free number takes the allotment and is IDLE in a new generation. Its command stays outstanding until
every region is in RUN. -/
def grant (h : HostCmd) (g : GrantReq) (s : State) : State :=
  match (List.range 16).find? fun c => rget s .CTX_STATE_STATE c == 0 with
  | none => endCmd h none 0x36 0 s
  | some c =>
    let a := { g.al with lanes := (List.range 28).flatMap (fun x => lanesFor s x (g.top.getD x 0)) ++
                                   (List.range 28).flatMap fun x => lanesFor s (28 + x) (g.bottom.getD x 0)
                         dma := (freeDma s 0 64).take g.ring ++ (freeDma s 64 16).take g.host }
    let s := bindAllot c a (showAllot c a g.ring g.host s)
    let s := ctxSet c { ctx0 with allot := some a, grantTag := some (h.func, h.tag), genTick := (ctxGet s c).genTick } s
    let s := newGen c none (unlockCfg c s)
    let s := rset .CTX_STATE_STATE c 0 1 (rset .CTX_STATE_FUNC c 0 a.func (rset .CTX_STATE_RESTART_BLOCKED c 0 0 s))
    endGrants (startCmd h s)

/-- The context that a grant would take has changed its generation at this tick boundary: the grant waits for the next one (R340). -/
def grantEarly (s : State) : Bool :=
  match (List.range 16).find? fun c => rget s .CTX_STATE_STATE c == 0 with
  | some c => (ctxGet s c).genTick == some s.tick
  | none => false

/-- `GRANT` (R337, R398): a block that could not be read or breaks R400 is FORMAT, before any other status; below 32.0 GT/s it is refused with
LINK (R386). -/
def execGrant (f : Fin 16) (s : State) : Host.Outcome State Fault Refusal :=
  match findCmd s f.val 2 with
  | none => .next s
  | some h =>
    match grantBlock s h.arg0 with
    | none => .next (endCmd h none 0x81 0 s)
    | some g =>
      .next (runCmd f.val 2 (fun h s =>
        if rget s .HST_STATUS_LINK_SLOW = 1 then endCmd h none 0x86 0 s
        else match grantCheck s g with
          | some code => endCmd h none code 0 s
          | none => if grantEarly s then s else grant h g s) s)

/-! ### Release (R354) -/

/-- The wipe begins: the context enters RELEASE. A load that was under way ends with the release. -/
def enterRelease (c : Nat) (s : State) : State :=
  let s := rset .CTX_STATE_STATE c 0 5 s
  match (s.taken.find? fun h => h.started && h.ctx == c && (h.opcode == 3 || h.opcode == 4)) with
  | some h => endFree h (some c) (ctxMod c (fun x => { x with load := none }) s)
  | none => ctxMod c (fun x => { x with load := none }) s

/-- `RELEASE` (R354): an IDLE context without a reset request enters RELEASE at once, any other one is reset first. The manual states no status
for a context that is FREE or already in RELEASE. -/
def execRelease (f : Fin 16) (s : State) : Host.Outcome State Fault Refusal :=
  .next (runCmd f.val 6 (fun h s =>
    let c := h.ctx
    let st := rget s .CTX_STATE_STATE c
    if st = 0 ∨ st = 5 then endFree h (some c) s
    else
      let s := startCmd h s
      if st = 1 ∧ (ctxGet s c).resetReq.isNone then enterRelease c s
      else ctxMod c (fun x => { x with releasing := true }) (ctxResetReq c none s)) s)

/-- The memories of an allotment are zero with valid CRCs: comb memory, local stores, every data group of its channels (R354). -/
def wipeAllot (c : Nat) (s : State) : State :=
  let chs := ctxChans s c
  let here (k : Nat) : Bool := match keyComb k with
    | some cb => ctxHas s c cb
    | none => decide (k < 2 ^ 60) && chs.contains (k / 2 ^ 32) && decide (k % 2 ^ 32 < 2031552 * 2112)
  let mark (k : Nat) : Bool := match keyComb (k * 128) with
    | some cb => ctxHas s c cb
    | none => decide (k < 2 ^ 53) && chs.contains (k / 2 ^ 32)
  { mwipe here s with poison := s.poison.filter fun k => !mark k }

/-- Every resource of an allotment is free again (R354). -/
def freeAllot (c : Nat) (s : State) : State :=
  match (ctxGet s c).allot with
  | none => s
  | some a =>
    let s := a.chans.foldl (fun s ch => rset .MEM_CHSTAT_OWNED (ch / 256) (ch % 256) 0 (rset .MEM_CHSTAT_OWNER (ch / 256) (ch % 256) 0 s)) s
    let s := (allotLanes a).foldl (fun s e => holdLane e.1 e.2 0 s) s
    let s := a.dma.foldl (fun s d => rset .DMA_OWNER_BOUND d 0 0 (rset .DMA_OWNER_CTX d 0 0 (rset .DMA_OWNER_INDEX d 0 0 (dmSet d dma0 s)))) s
    let s := rset .HST_STATUS_BOUND a.func 0 0 (rset .HST_STATUS_CTX a.func 0 0 s)
    let s := showAllot c ⟨0, 0, 0, 0, [], [], [], 0, 0⟩ 0 0 s
    let s := rset .CTX_STATE_STATE c 0 0 (rset .CTX_STATE_FUNC c 0 31 (rset .CTX_STATE_RESTART_BLOCKED c 0 0 s))
    ctxSet c { ctx0 with genTick := (ctxGet s c).genTick } (clearUnits c s)

/-- `RELEASE_WIPE_COMPLETE` (R354). -/
def execReleaseWipeComplete (c : Fin 16) (s : State) : Host.Outcome State Fault Refusal :=
  let n := c.val
  if rget s .CTX_STATE_STATE n ≠ 5 then .next s
  else
    let done := s.taken.find? fun h => h.started && h.opcode == 6 && h.ctx == n
    let s := freeAllot n (wipeAllot n s)
    .next (match done with | some h => endCmd h (some n) 0 0 s | none => s)

end Sys2Proof.Machine
end

