-- ==== Sys2Proof/Machine/Restart.lean ====
section
/-! DEFINITION. Starts and restarts: the boot journal, the stages in their order, failed stages, cold resets and warm module resets (R341, R342,
R399, R408, R412, R420 to R423). -/

namespace Sys2Proof.Machine

/-! ### The journal (R423) -/

/-- An entry of the boot journal, a ring of 16,384. -/
def jrn (stage event alt detail aux : Nat) (s : State) : State :=
  let e : Journal := ⟨s.start.number, stage, event, rget s .HST_STATUS_ATTEMPT, alt, slowCount s, detail, aux⟩
  let l := s.flash.journal ++ [e]
  { s with flash := { s.flash with journal := l.drop (l.length - 16384) } }

/-- The last stage that began and did not end, fail or hold; stage 0x0E, the service, has no end. -/
def openStage (l : List Journal) : Option Journal :=
  match l.reverse.find? fun e => [1, 2, 3, 6].contains e.event with
  | some e => if e.event = 1 ∧ e.stage ≠ 14 then some e else none
  | none => none

/-- `AUX` of a failed stage: the segment, channel or domain under work in stages 0x04 to 0x06. -/
def failAux (stage : Nat) (unit : Option Nat) : Nat := if 4 ≤ stage ∧ stage ≤ 6 then unit.getD (2 ^ 64 - 1) else 0

/-! ### Alternatives (R422) -/

/-- The failure of a stage in an earlier attempt of this start, or in the last attempt of the one before. -/
def failedBefore (s : State) (st : Nat) : Option (Option Nat) :=
  ((s.start.failed ++ s.start.before).reverse.find? fun e => e.1 == st).map (·.2)

/-- The `ALT` bit of the alternative by which a stage runs, and the unit it is about. -/
def altOf (s : State) (st : Nat) : Option (Nat × Nat) :=
  match failedBefore s st with
  | none => none
  | some u =>
    match st, u with
    | 4, some g => if g < 8 then some (0, g) else none
    | 5, some ch => some (if ch < 2048 then 1 else 2, ch)
    | 5, none => some (2, 0)
    | 6, some d => if 9 ≤ d ∧ d < 93 then some (3, d) else none
    | 7, _ => some (4, 0)
    | 8, _ => some (5, 0)
    | 9, _ => some (6, 0)
    | 10, _ => some (7, 0)
    | 13, _ => some (10, 0)
    | _, _ => none

/-- An optional stage that failed before is skipped. -/
def skipsStage (s : State) (st : Nat) : Bool := (st == 11 || st == 12) && (failedBefore s st).isSome

def setAlt (b : Nat) (s : State) : State := rset .FUS_START_ALT 0 0 (setFld (rget s .FUS_START_ALT) b 1 1) s

/-- A channel is out of service until the next cold reset (R226). -/
def excludeChan (ch : Nat) (s : State) : State :=
  if rget s .MEM_CHSTAT_STATE (ch / 256) (ch % 256) ≠ 0 then s
  else degrade 27 (rset .MEM_CHSTAT_STATE (ch / 256) (ch % 256) 1 (rset .EAV_SEG_DEGRADED (ch / 256) 0 1 s))

/-- What an alternative does as the stage begins: a segment, channel or domain stays off. -/
def applyAlt (b unit : Nat) (s : State) : State :=
  match b with
  | 0 => segmentFault unit s
  | 1 => excludeChan unit s
  | 3 => if unit ≤ 50 then spineFault (unit - 9) (rset .PWR_RSTAT_SP_STATE (unit - 9) 0 1 s) else withdraw (unit - 51) s
  | _ => s

/-! ### Stages in order (R408) -/

/-- The stages that follow one: all of a cold start, or those of a warm module reset (R342); a quick start has no stage 0x0B (R413), and
stage 0x02 is not repeated while segment 1 is on (R421). -/
def stagesAfter (s : State) (st : Nat) : List Nat :=
  ((List.range 15).filter fun k => decide (st < k)).filter fun k =>
    if s.start.warm && !s.start.rerun then [6, 7, 8, 9, 10, 13, 14].contains k
    else !(k == 11 && rget s .FUS_START_QUICK == 1) && !(k == 2 && rget s .EAV_SEG_STATE 1 == 0)

/-- Zero data over every data group of the eave memory (R439). -/
def wipeEave (s : State) : State := { mwipe (fun k => decide (k < 2 ^ 60)) s with poison := s.poison.filter fun k => decide (2 ^ 53 ≤ k) }

/-- Service begins: the start time is recorded, and the WARM_RESET commands that waited complete (R398, R409, R439). -/
def beginService (s : State) : State :=
  let s := if rget s .SEC_STATE_STATE = 4 ∧ bit (rget s .FUS_START_ALT) 8 then wipeEave s else s
  let s := rset .FUS_START_READY 0 0 (min (slowCount s - s.start.from') 0xFFFFFFFF) s
  let tags := s.start.warmTags
  tags.foldl (fun s h => endCmd h none 0 0 s)
    (endGrants (refreshRegions { s with start := { s.start with warmTags := [], warm := false, rerun := false } }))

/-- A stage begins (R408, R422). -/
def beginStage (st : Nat) (s : State) : State :=
  let s := msix 0 63 (rset .HST_STATUS_STAGE 0 0 st s)
  let s := jrn st 1 0 0 0 s
  let s := match altOf s st with
    | some (b, u) => applyAlt b u (raise 50 (heatRec 0x61 (st ||| b <<< 8)) (jrn st 5 (b + 1) 0 0 (setAlt b s)))
    | none => s
  let s := if st = 12 then (List.range 6).foldl (fun s p =>
      if rget s .PRT_STATUS_STATE p = 0 ∧ portPowered s p then rset .PRT_STATUS_STATE p 0 1 s else s) s
    else s
  if st = 14 then beginService s else s

/-- Goes on to the first stage of a list that is not skipped (R422). -/
def goStages : List Nat → State → State
  | [], s => s
  | st :: r, s =>
    if skipsStage s st then
      goStages r (raise 50 (heatRec 0x62 st) (jrn st 4 0 0 0 (setAlt (if st = 11 then 8 else 9) s)))
    else beginStage st s

/-! ### Failed stages (R420, R421) -/

/-- The module waits for the host (R421). -/
def holdStart (st : Nat) (s : State) : State :=
  let s := rset .HST_STATUS_HOLD 0 0 1 (rset .HST_STATUS_FAILED 0 0 1 (rset .KPR_ALERT_HOLD 0 0 1 s))
  raise 50 (heatRec 0x63 st) (jrn st 6 0 0 0 s)

/-- Every spine and comb array goes off. -/
def regionsOff (s : State) : State :=
  let s := (List.range 42).foldl (fun s r =>
    rset .PWR_RSTAT_CA_STATE r 0 3 <| rset .PWR_RSTAT_SP_STATE r 0 2 <| rset .PWR_RSTAT_SPLL_LOCK r 0 0 <|
      rset .PWR_RSTAT_CPLL_LOCK r 0 0 <| rset .PWR_RSTAT_MCLK_LOCK r 0 0 s) (loseCombs (fun _ => true) s)
  { s with keeper := { s.keeper with waking := [], testing := [], cool := [], idle := [], beats := [], pauseArm := [], slicing := [], fenceAsk := [] } }

/-- Segments go off, with their memory, transit paths and ports; a faulty one stays so. -/
def segmentsOff (p : Nat → Bool) (s : State) : State :=
  ((List.range 8).filter p).foldl (fun s g =>
    let s := match segPort g with | some q => portDown q (rget s .PRT_STATUS_CAUSE q) s | none => s
    rset .EAV_SEG_TRANSIT g 0 0 (if rget s .EAV_SEG_STATE g = 3 then s else rset .EAV_SEG_STATE g 0 2 s)) (loseSegments p s)

/-- A stage fails: cause 0 its limit, 1 a keeper reset. Stage 0x01 is not retried: the boot ROM enters recovery (R421, R458). -/
def failStage (cause : Nat) (unit : Option Nat) (s : State) : State :=
  let st := stageOf s
  let d := st ||| cause <<< 8
  let s := raise 50 { heatRec 0x60 d with addr := failAux st unit } (jrn st 3 0 d (failAux st unit) s)
  if st = 1 then goStages (stagesAfter s 1) (rset .KPR_STATUS_RECOVERY 0 0 1 s)
  else
    let s := segmentsOff (· != 1) (regionsOff s)
    let s := { s with start := { s.start with failed := s.start.failed ++ [(st, unit)], rerun := true } }
    let a := rget s .HST_STATUS_ATTEMPT
    if 2 ≤ a then holdStart st (rset .HST_STATUS_ATTEMPT 0 0 3 s)
    else beginStage (if cause = 1 then 1 else if st = 2 then 2 else 3) (rset .HST_STATUS_ATTEMPT 0 0 (a + 1) s)

/-! ### Cold reset (R341, R342, R412, R456) -/

/-- The life counters as the registers hold them. -/
def lifeNow (s : State) : Nat × Nat × Nat := (rget s .TLM_LIFE_HOURS, rget s .TLM_LIFE_HOT_HOURS, rget s .TLM_LIFE_STARTS)

/-- The fields that a cold reset leaves: fuses, the update that flash holds, and the count of marginal workers since manufacture; FIELD_DEBUG ends
(R335, R431; assumption 132). -/
def coldFields (s : State) : List (FKey × Nat) :=
  (s.flds.filter fun e => coldFuse e.1.f || e.1.f == .KPR_FWUPD_PENDING || e.1.f == .KPR_FWUPD_NEW_SVN || e.1.f == .BST_SPARES_MARGINAL).map fun e =>
    if e.1.f = .SEC_STATE_STATE ∧ e.2 = 3 then (e.1, 2) else e

/-- The image area is being written (R458, steps 3 and 4). -/
def writingImage (s : State) : Bool := match s.keeper.update with | some (some _) => true | _ => false

/-- What flash holds after a cold reset: a command writes the life counters and the standby record; a power loss leaves no standby record, and an
image area that was being written is not valid. -/
def coldFlash (power : Bool) (s : State) : Flash :=
  if power then { s.flash with standby := none, image := if writingImage s then [] else s.flash.image
                               pendingImage := if writingImage s then none else s.flash.pendingImage }
  else { s.flash with life := lifeNow s
                      standby := match s.start.shutdown with | some (t, lo, hi) => some ⟨t, lo, hi⟩ | none => s.flash.standby }

/-- The stages that count as failed for the next start: one that the journal shows begun and not ended, or the last of three attempts. -/
def failedLast (s : State) : List (Nat × Option Nat) :=
  match openStage s.flash.journal with
  | some e => [(e.stage, none)]
  | none => if rget s .HST_STATUS_ATTEMPT = 3 then (match s.start.failed.getLast? with | some e => [e] | none => []) else []

/-- The entry of a stage that power loss cut short. -/
def closeJournal (s : State) : State :=
  match openStage s.flash.journal with
  | none => s
  | some e =>
    let d := e.stage ||| 2 <<< 8
    let x : Journal := { e with event := 3, alt := 0, time := 0, detail := d, aux := failAux e.stage none }
    raise 50 { heatRec 0x60 d with addr := failAux e.stage none } { s with flash := { s.flash with journal := s.flash.journal ++ [x] } }

/-- A cold reset: after input power good (`power`) or at a command. Everything but flash, fuses, the input switches and host memory is as it is
right after reset, and stage 0x00 begins. -/
def coldReset (power : Bool) (s : State) : State :=
  let fl := coldFlash power s
  let s' := { State.reset with
    pending := s.pending, free := s.free, readData := s.readData, reply := s.reply, powerIn := s.powerIn, flash := fl, flds := coldFields s
    mem := s.mem.filter fun c => decide (2 ^ 63 ≤ c.1)
    sec := { sec0 with pub := s.sec.pub }
    start := { start0 with number := (s.start.number + 1) % 2 ^ 32, before := failedLast s, cold := !power, fuseFail := s.start.fuseFail } }
  let s' := rset .TLM_LIFE_HOURS 0 0 fl.life.1 <| rset .TLM_LIFE_HOT_HOURS 0 0 fl.life.2.1 <|
    rset .TLM_LIFE_STARTS 0 0 (min 0xFFFF (fl.life.2.2 + 1)) <| rset .FUS_START_CAUSE 0 0 (b2n !power) s'
  beginStage 0 (closeJournal s')

/-! ### Warm module reset (R223, R342, R399) -/

/-- Some sensor reads 90.0 °C or above, the keeper island's among them. -/
def anyHot (s : State) : Bool :=
  decide (720 ≤ s.keeper.island) || decide (720 ≤ rget s .PWR_HEAT_TMAX) || (List.range 42).any fun r => decide (720 ≤ rget s .PWR_RSTAT_TMAX r)

/-- A module in a trip is too hot for a warm module reset. -/
def tripHot (s : State) : Bool := rget s .PWR_HEAT_TRIPPED == 1 && anyHot s

/-- A warm module reset is requested: it joins a start in progress (R409), but for a start whose regions a trip has stopped, which it restarts (R223), and
acts as a cold reset after a SHUTDOWN (R412). -/
def warmRequest (s : State) : State :=
  if s.start.shutdown.isSome then coldReset false s
  else if stageOf s < 14 ∧ rget s .PWR_HEAT_TRIPPED = 0 then s
  else { s with start := { s.start with warmDue := true } }

/-- Fields that a warm module reset sets to their cold values: those whose Warm column is a number, and the state of domains and tenders. -/
def warmLost (f : F) : Bool :=
  warmOf f == .number ||
    [.PWR_RSTAT_CA_STATE, .PWR_RSTAT_SP_STATE, .PWR_RSTAT_SPLL_LOCK, .PWR_RSTAT_CPLL_LOCK, .PWR_RSTAT_MCLK_LOCK, .TND_STATUS_FW_OK].contains f

/-- Every outstanding command but the WARM_RESETs that wait completes with RESET (R399). -/
def endAllCmds (s : State) : State :=
  let keep (h : HostCmd) : Bool := s.start.warmTags.contains h
  let gone := s.taken.filter (fun h => !keep h) ++ s.hosts.flatMap (fun e => e.2.inbox)
  let s := { s with taken := s.taken.filter keep, hosts := s.hosts.map fun (e : Nat × HostFn) => (e.1, { e.2 with inbox := [] }) }
  gone.foldl (fun s h => cmdDone h (if 3 ≤ h.opcode ∧ h.opcode ≤ 6 then some h.ctx else none) 0x84 0 s) s

/-- A granted context comes back in IDLE in a new generation. -/
def warmCtx (c : Nat) (s : State) : State :=
  if (ctxGet s c).allot.isNone then s
  else
    let s := newGen c none (closeServed c (movesAtRidge c s))
    let s := ctxSet c { freshCtx (ctxGet s c) with grantTag := none } (closeFlows c s)
    rset .CTX_STATE_STATE c 0 1 s

/-- The warm module reset is due: no context changed its generation at this tick boundary (R340), the module is not too hot after a trip (R223), and the
reference runs: without it only a cold reset restarts the module (R205; assumption 121). -/
def warmReady (s : State) : Bool :=
  s.start.warmDue && !s.keeper.inReset && rget s .CLK_STATUS_RC_ACTIVE == 0 && !tripHot s && !(liveCtxs s).any fun c => (ctxGet s c).genTick == some s.tick

/-- A warm module reset: contexts, domains and registers, then stages 0x06 to 0x0A, 0x0D and 0x0E. The mirroring engine runs on (R379); appends whose
comb-memory source goes with it are not sent (assumption 132). -/
def warmReset (s : State) : State :=
  let s := endAllCmds s
  let s := (List.range 80).foldl (fun s d => dmaStopNow d s) s
  let s := (List.range 16).foldl (fun s c => warmCtx c s) s
  let s := regionsOff s
  let s := (List.range 8).foldl (fun s g => if rget s .EAV_SEG_STATE g = 1 then rset .EAV_SEG_STATE g 0 0 s else s) s
  let s := { s with
    flds := s.flds.filter fun e => !warmLost e.1.f
    chans := s.chans.map fun (e : Nat × Channel) => (e.1, { chan0 with scrubAt := e.2.scrubAt, passes := e.2.passes })
    pcombs := s.pcombs.map fun (e : Nat × PComb) => (e.1, { e.2 with scouts := 0, beat := 0, fault := false, moving := false })
    tags := [], dmas := [], lane := [], flight := [], egress := [], tx := [], rx := [], repins := [], links := [], rxDead := [], latch := []
    mirror := s.mirror.map fun (e : Nat × MirFlow) => (e.1, { e.2 with todo := [] })
    start := { s.start with number := (s.start.number + 1) % 2 ^ 32, from' := slowCount s, warm := true, warmDue := false, rerun := false
                            failed := [], before := failedLast s } }
  let s := (List.range 16).foldl (fun s c => match (ctxGet s c).allot with | some a => bindAllot c a s | none => s) s
  let s := if rget s .PRT_TWIN_ADMIT = 2 then setAdmit 1 { s with keeper := { s.keeper with joining := true } } else s
  let s := rset .HST_STATUS_ATTEMPT 0 0 0 <| rset .HST_STATUS_FAILED 0 0 0 <| rset .HST_STATUS_HOLD 0 0 0 <|
    rset .FUS_START_CAUSE 0 0 2 <| rset .FUS_START_ALT 0 0 0 <| rset .FUS_START_READY 0 0 0 s
  goStages (stagesAfter s 5) s

/-- `WARM_MODULE_RESET` (R223, R342). -/
def execWarmModuleReset (s : State) : Host.Outcome State Fault Refusal := .next (if warmReady s then warmReset s else s)

end Sys2Proof.Machine
end

