-- ==== Sys2Proof/Machine/Host.lean ====
section
/-! DEFINITION. The host interface: inbox, rings, link events, function resets, and the module-wide commands (R385 to R407, R332, R333). -/

namespace Sys2Proof.Machine

/-- The context that a function is bound to. -/
def boundCtx (s : State) (f : Nat) : Option Nat := if rget s .HST_STATUS_BOUND f = 1 then some (rget s .HST_STATUS_CTX f) else none

/-- A record of the PCIe controller about a function. An ADDRESS record goes to the function's own fault ring (R392); the other
records of a function that is bound to no context go to the physical function's (R331, R403; assumption 35). -/
def hostRec (f cls detail addr : Nat) (s : State) : State :=
  raise 43 (withCtx s (boundCtx s f) { cls := cls, outcome := 2, lsite := 63 <<< 16, psite := psiteS 1, detail := detail, addr := addr,
                                       func := if cls = clsAddress then f else 0 }) s

/-! ### The inbox (R394, R395) -/

/-- A memory write TLP in a function's inbox window. A function in D3hot decodes no BAR (R385). -/
def inboxWrite (f off : Nat) (data : List Byte) (s : State) : State :=
  if (hostGet s f).d3 || decide (0x1000 ≤ off) then s
  else if data.length ≠ 64 ∨ off % 64 ≠ 0 then hostRec f 0x42 (data.length % 65536) 0 (bump .HST_EVT_COUNT .HST_OVF_OVF f 1 1 s)
  else
    let a := rget s .HST_INBOX_ACCEPTED f
    if 64 ≤ (a + 65536 - rget s .HST_INBOX_RETURNED f) % 65536 then bump .HST_EVT_COUNT .HST_OVF_OVF f 0 1 s
    else
      let h := hostGet s f
      hostSet f { h with inbox := h.inbox ++ [hostCmdOf f data] } (rset .HST_INBOX_ACCEPTED f 0 (seqNext a) s)

/-- `INBOX_WRITE` (R394). -/
def execInboxWrite (f : Fin 16) (off : Nat) (data : List Byte) (s : State) : Host.Outcome State Fault Refusal := .next (inboxWrite f.val off data s)

/-- The keeper takes the commands of every function in acceptance order, functions in turn; a reserved opcode completes at once (R396, R399). -/
def takeInbox (s : State) : State :=
  let rounds := (s.hosts.map fun e => e.2.inbox.length).foldl max 0
  let all := (List.range rounds).flatMap fun k => (List.range 16).filterMap fun f => (hostGet s f).inbox[k]?
  let s := { s with hosts := s.hosts.map fun (e : Nat × HostFn) => (e.1, { e.2 with inbox := [] }) }
  all.foldl (fun s h => if h.opcode = 0 ∨ 9 < h.opcode then cmdDone h none 0x80 0 s else { s with taken := s.taken ++ [h] }) s

/-! ### Rings (R402, R403, R407) -/

/-- Held records and waiting channels take the places that came free. -/
def ringRoom (f : Nat) (s : State) : State := dmaRetry f (cqDrain f (hostGet s f).held.length s)

/-- Writes `HEAD` of a completion ring. -/
def cqHead (f v : Nat) (s : State) : State := ringRoom f (rset .HST_CQ_PTR_HEAD f 0 (v % 65536) s)

def fqHead (f v : Nat) (s : State) : State := rset .HST_FQ_PTR_HEAD f 0 (v % 65536) s

/-- `CQ_HEAD_WRITE` (R402). -/
def execCqHeadWrite (f : Fin 16) (v : BitVec 16) (s : State) : Host.Outcome State Fault Refusal := .next (cqHead f.val v.toNat s)

/-- `FQ_HEAD_WRITE` (R403). -/
def execFqHeadWrite (f : Fin 16) (v : BitVec 16) (s : State) : Host.Outcome State Fault Refusal := .next (fqHead f.val v.toNat s)

/-- `LOG2` as the register stores it: 6 to 16. -/
def clampLog2 (v : Nat) : Nat := max 6 (min 16 (fld v 0 5))

/-- A write of `HST_CQ_CFG` or `HST_FQ_CFG`: `LOG2` only while disabled; enabling sets `HEAD` and `TAIL` to 0. -/
def ringCfg (en log2 head tail : F) (f v : Nat) (s : State) : State :=
  let on := rget s en f == 1
  let s := if on then s else rset log2 f 0 (clampLog2 v) s
  let s := if bit v 31 && !on then rset head f 0 0 (rset tail f 0 0 s) else s
  rset en f 0 (fld v 31 1) s

def cqCfg (f v : Nat) (s : State) : State :=
  let on := rget s .HST_CQ_CFG_ENABLE f == 1
  let s := ringCfg .HST_CQ_CFG_ENABLE .HST_CQ_CFG_LOG2 .HST_CQ_PTR_HEAD .HST_CQ_PTR_TAIL f v s
  if bit v 31 && !on then ringRoom f (hostSet f { hostGet s f with cqPhase := true } s) else s

def fqCfg (f v : Nat) (s : State) : State :=
  ringCfg .HST_FQ_CFG_ENABLE .HST_FQ_CFG_LOG2 .HST_FQ_PTR_HEAD .HST_FQ_PTR_TAIL f v s

/-- `CQ_ENABLE` (R407). -/
def execCqEnable (f : Fin 16) (v : BitVec 32) (s : State) : Host.Outcome State Fault Refusal := .next (cqCfg f.val v.toNat s)

/-- `FQ_ENABLE` (R407). -/
def execFqEnable (f : Fin 16) (v : BitVec 32) (s : State) : Host.Outcome State Fault Refusal := .next (fqCfg f.val v.toNat s)

/-! ### The link (R385, R386, R405) -/

/-- `LINK_SPEED_CHANGE` (R386): a rate or width that the register never reports is none of the link's. Flit mode runs at 64.0 GT/s and above. -/
def execLinkSpeedChange (speed : BitVec 3) (width : BitVec 2) (flit : Bool) (s : State) : Host.Outcome State Fault Refusal :=
  let v := speed.toNat
  let w := width.toNat
  if 6 ≤ v ∨ w = 3 then .next s
  else
    let slow := b2n (decide (v < 3))
    let was := rget s .HST_STATUS_LINK_SLOW
    let new := rget s .HST_STATUS_SPEED ≠ v ∨ rget s .HST_STATUS_WIDTH ≠ w
    let s := rset .HST_STATUS_SPEED 0 0 v <| rset .HST_STATUS_WIDTH 0 0 w <| rset .HST_STATUS_FLIT 0 0 (b2n (flit && decide (4 ≤ v))) <|
      rset .HST_STATUS_LINK_SLOW 0 0 slow s
    let s := if was ≠ slow then msix 0 63 s else s
    .next (if new then hostRec 16 0x41 (v ||| w <<< 3) 0 s else s)

/-- A host channel's read from host memory comes back without data at byte `done`: a descriptor fetch halts with FETCH, a source read with
READ_ERR (R295, R299, R405). -/
def hostReadFail (c done : Nat) (s : State) : Option State :=
  let x := dmGet s c
  if rget s .DMA_STATUS_STATE c ≠ 1 ∨ x.record.isSome then none
  else if x.fetch then
    if x.presetAt.isNone ∧ fld (rget s .DMA_CUR_ADDR c) 60 4 = 8 then
      some (dmaHalt c 9 0 (rget s .DMA_CUR_ADDR c) 0 true (dmMod c (fun x => { x with desc := [], sent := 0 }) s))
    else none
  else if fld (dSrc x.desc) 60 4 = 8 ∧ done < dLen x.desc then some (dmaError c 0x10 1 done s)
  else none

/-- `COMPLETION_TIMEOUT` (R405). -/
def execCompletionTimeout (h : Fin 16) (done : Nat) (s : State) : Host.Outcome State Fault Refusal :=
  let c := 64 + h.val
  .next (match hostReadFail c done s with
    | none => s
    | some s' => raise 43 (withCtx s (dmaCtx s c) { cls := 0x44, outcome := 2, lsite := 63 <<< 16, psite := psiteS 1, detail := c }) s')

/-- `ERROR_COMPLETION` (R405). -/
def execErrorCompletion (h : Fin 16) (done : Nat) (s : State) : Host.Outcome State Fault Refusal :=
  .next ((hostReadFail (64 + h.val) done s).getD s)

/-- `POWER_STATE_CHANGE` (R385): D3hot stops BAR decoding and interrupts; back in D0 the pending messages of unmasked vectors go out. -/
def execPowerStateChange (f : Fin 16) (d3 : Bool) (s : State) : Host.Outcome State Fault Refusal :=
  let h := hostGet s f.val
  let s := hostSet f.val { h with d3 := d3 } s
  .next (if d3 then s else h.mpend.foldl (fun s v => msix f.val v s) (hostSet f.val { h with d3 := false, mpend := [] } s))

/-! ### Resets by pin, link and function (R387) -/

/-- The `HST_` fields that a function reset leaves: the start's own and the binding. -/
def hstKept (f : F) : Bool :=
  [.HST_STATUS_STAGE, .HST_STATUS_FAILED, .HST_STATUS_ATTEMPT, .HST_STATUS_HOLD, .HST_STATUS_BOUND, .HST_STATUS_CTX].contains f

/-- The `HST_` registers of the functions are at their Cold values, and their configuration space is reset: no command is outstanding, no
record waits, every vector is masked. -/
def resetHst (p : Nat → Bool) (s : State) : State :=
  { s with
    flds := s.flds.filter fun e => !(domOf e.1.f == some .host && p e.1.i && !hstKept e.1.f)
    hosts := tdrop s.hosts p
    taken := s.taken.filter fun h => !p h.func
    ctxs := s.ctxs.map fun (e : Nat × Ctx) => (e.1, { e.2 with grantTag := match e.2.grantTag with
      | some (f, t) => if p f then none else some (f, t)
      | none => none }) }

/-- The PCIe reset of the whole device, and the warm module reset that it starts. -/
def deviceReset (s : State) : State := warmRequest (resetHst (fun _ => true) s)

/-- `PERST_N` (R387, R464). -/
def execPerstN (s : State) : Host.Outcome State Fault Refusal := .next (deviceReset s)

/-- `HOT_RESET` (R387). -/
def execHotReset (s : State) : Host.Outcome State Fault Refusal := .next (deviceReset s)

/-- `PF_FLR` (R387). -/
def execPfFlr (s : State) : Host.Outcome State Fault Refusal := .next (deviceReset s)

/-- `VF_FLR` (R387): function 0 is no virtual function. -/
def execVfFlr (f : Fin 16) (s : State) : Host.Outcome State Fault Refusal :=
  if f.val = 0 then .next s
  else
    let c := boundCtx s f.val
    let s := resetHst (· == f.val) s
    .next (match c with | some c => ctxResetReq c none s | none => s)

/-! ### Module-wide commands (R398) -/

/-- `WARM_RESET` (R223, R398): the command stays outstanding until stage 0x0E. -/
def execWarmReset (f : Fin 16) (s : State) : Host.Outcome State Fault Refusal :=
  .next (runCmd f.val 7 (fun h s =>
    if tripHot s then endCmd h none 0x88 0 s
    else
      let s := startCmd h s
      warmRequest { s with start := { s.start with warmTags := s.start.warmTags ++ [{ h with started := true }] } }) s)

/-- `COLD_RESET` (R398, R458): it waits while the image area is written. -/
def execColdReset (f : Fin 16) (s : State) : Host.Outcome State Fault Refusal :=
  .next (runCmd f.val 8 (fun _ s => if writingImage s then s else coldReset false s) s)

/-- `SHUTDOWN` (R332, R398, R412): every context is FREE; the manual states no status for one that is not. -/
def execShutdown (f : Fin 16) (s : State) : Host.Outcome State Fault Refusal :=
  .next (runCmd f.val 9 (fun h s =>
    if (List.range 16).any fun c => rget s .CTX_STATE_STATE c != 0 then endFree h none s
    else
      let t := s.keeper.island
      let s := { s with start := { s.start with shutdown := some (0, t, t) }, flash := { s.flash with life := lifeNow s } }
      if h.arg0 = 1 then { startCmd h s with start := { s.start with shutTest := some ({ h with started := true }, h.arg1) } }
      else endCmd h none 0 0 s) s)

/-! ### The seal (R333) -/

/-- The fuse map, register by register. -/
def fuseMap (s : State) : List Nat :=
  (List.range 840).map (fun j => rget s .FUS_CMAP_COMB_OK 0 j <<< 63 ||| rget s .FUS_CMAP_WORKER_OK 0 j <<< 29 ||| rget s .FUS_CMAP_MEMREP 0 j <<< 20) ++
    (List.range 42).map (fun j => rget s .FUS_RMAP_SPINE_OK 0 j <<< 63 ||| rget s .FUS_RMAP_CA_OK 0 j <<< 62 ||| rget s .FUS_RMAP_VTRIM 0 j <<< 57) ++
    (List.range 32).map fun j => rget s .FUS_CHMAP_CH_OK 0 j

/-- `FW_HASH` and `FUSE_HASH`. -/
def fwHash (s : State) : List Byte := sha512 s.flash.image
def fuseHash (s : State) : List Byte := sha512 (Config.fuseBytes (fuseMap s) (inForce s))

/-- The first byte of the seal's results. -/
def sealHead : Nat := 0xA0

/-- A seal: the identity key's signature is a free value. -/
def makeSeal (hostTime : Nat) (bad : List (BitVec 64)) (s : State) : SealRec :=
  let body := toLe 4 0x4C414553 ++ toLe 2 0x0100 ++ toLe 2 (8 * bad.length) ++ toLe 8 s.tick ++ toLe 8 hostTime ++ fwHash s ++ fuseHash s ++
    toLe 2 (rget s .PWR_HEAT_TMAX) ++ toLe 1 (rget s .EAV_SEG_RATE) ++ zeros 5 ++ bad.flatMap fun e => toLe 8 e.toNat
  { bytes := body ++ toBe 132 (Config.freeBits 1056 s.free).toNat, entries := bad, rate := rget s .EAV_SEG_RATE, used := false }

/-- `SHUTDOWN_TEST_COMPLETE` (R332, R333, R412): the test's results are sealed; more than 8,184 entries, or no identity key, leave no seal. -/
def execShutdownTestComplete (bad : List (BitVec 64)) (s : State) : Host.Outcome State Fault Refusal :=
  match s.start.shutTest with
  | none => .next s
  | some (h, t) =>
    let es := bad.map fun e => BitVec.ofNat 64 (setFld e.toNat 56 4 4)
    let ok := decide (es.length ≤ 8184) && rget s .SEC_STATE_KEY_OK == 1
    let s := if ok then { s with free := s.free + 1, flash := { s.flash with sealed := some (makeSeal t es s), standby := none } } else s
    .next (endCmd h none 0 0 { s with start := { s.start with shutTest := none } })

end Sys2Proof.Machine
end

