-- ==== Sys2Proof/Machine/Firmware.lean ====
section
/-! DEFINITION. The firmware image: its checks, its update over PLDM, and recovery over PCIe (R429, R457, R458). -/

namespace Sys2Proof.Machine

/-- The image inside a buffer: its first `LENGTH` bytes. -/
def fwBytes (b : List Byte) : List Byte := b.take (leAt b 8 4)

/-- The signature block, the last 288 bytes. -/
def fwSign (img : List Byte) : List Byte := img.drop (img.length - 288)

/-- A section of the image: offset, length, SHA-512 prefix. -/
def fwSect (img : List Byte) (k : Nat) : List Byte := slice img (leAt img (0x10 + 16 * k) 4) (leAt img (0x14 + 16 * k) 4)

/-- The layout of R457. -/
def fwLayout (b : List Byte) : Bool :=
  let n := leAt b 8 4
  let img := fwBytes b
  leAt b 0 4 == 0x4957465A && leAt b 4 2 == 0x0100 && decide (leAt b 6 1 ≤ 64) && decide (leAt b 7 1 < 2) && decide (n ≤ 0x600000) &&
    decide (0x50 + 288 ≤ n) && decide (n ≤ b.length) && leAt b 0xC 4 == 0x5A42 &&
    (List.range 3).all fun k =>
      decide (0x50 ≤ leAt img (0x10 + 16 * k) 4) && decide (leAt img (0x10 + 16 * k) 4 + leAt img (0x14 + 16 * k) 4 ≤ n - 288) &&
        (sha512 (fwSect img k)).take 8 == slice img (0x18 + 16 * k) 8

/-- The signature block has the layout of R158 with `SIGNER` = 1, and a vendor slot's key signed every byte before it (R429). -/
def fwSigned (s : State) (b : List Byte) : Bool :=
  let img := fwBytes b
  let g := fwSign img
  let pub := slice g 8 133
  leAt g 0 1 == 1 && decide (leAt g 1 1 ≤ 2) && ofLe (slice g 2 6) == 0 && ofLe (slice g 0x8D 3) == 0 && ofLe (slice g 0x114 12) == 0 &&
    vendorKey s (leAt g 1 1) pub && ecdsaOk pub (img.take (img.length - 288)) (ofBe (slice g 0x90 66)) (ofBe (slice g 0xD2 66))

def fwSvn (b : List Byte) : Nat := leAt b 6 1
def fwRaise (b : List Byte) : Bool := bit (leAt b 7 1) 0

/-- The check of an image: 0 good, 2 bad signature, 3 SVN too low, as `KPR_RECOV.RESULT` codes it (R459). -/
def fwCheck (s : State) (b : List Byte) : Nat :=
  if !fwLayout b || !fwSigned s b then 2 else if fwSvn b < rget s .SEC_FW_SVN_MIN then 3 else 0

/-! ### Update over PLDM (R458) -/

/-- Management messages over MCTP are answered by a keeper that runs its firmware (R448, R458). -/
def keeperUp (s : State) : Bool := !s.keeper.inReset && rget s .KPR_STATUS_RECOVERY == 0

def mctpPath : Binding → Bool
  | .doe _ => false
  | .i3c => true
  | .vdm => true

def respond (name : String) (code : Nat) (data : List Byte) (s : State) : State := { s with reply := some ⟨name, code, data⟩ }

/-- A management message: answered over MCTP only. -/
def mgmt (via : Binding) (go : State → State) (s : State) : State := if keeperUp s && mctpPath via then go s else s

/-- `REQUEST_UPDATE`. -/
def execRequestUpdate (via : Binding) (s : State) : Host.Outcome State Fault Refusal :=
  .next (mgmt via (fun s =>
    if s.keeper.update.isSome then respond "ALREADY_IN_UPDATE_MODE" 1 [] s
    else respond "SUCCESS" 0 [] (rset .KPR_FWUPD_ACTIVE 0 0 1 { s with keeper := { s.keeper with update := some none } })) s)

/-- `PASS_COMPONENT_TABLE`: the one component is the firmware image. -/
def execPassComponentTable (via : Binding) (_comp : BitVec 16) (s : State) : Host.Outcome State Fault Refusal :=
  .next (mgmt via (fun s => if s.keeper.update.isSome then respond "SUCCESS" 0 [] s else respond "NOT_IN_UPDATE_MODE" 1 [] s) s)

/-- The update ends, with its alert. -/
def endUpdate (s : State) : State :=
  rset .KPR_ALERT_FWUPD 0 0 1 (rset .KPR_FWUPD_ACTIVE 0 0 0 { s with keeper := { s.keeper with update := none } })

/-- `FIRMWARE_DATA_RECEIVED`: the image is in SRAM and is checked; one that fails leaves flash unchanged. -/
def execFirmwareDataReceived (image : FwImage) (s : State) : Host.Outcome State Fault Refusal :=
  .next (if s.keeper.update = some none ∧ keeperUp s then
      if fwCheck s image.bytes = 0 then
        respond "VerifyComplete success" 0 [] { s with keeper := { s.keeper with update := some (some (fwBytes image.bytes)) } }
      else respond "VerifyComplete failure" 1 [] (endUpdate s)
    else s)

/-- A cold reset that was asked for while the image area was written follows (R458). -/
def coldIfAsked (s : State) : State := if s.keeper.coldAsk then coldReset false s else s

/-- `APPLY_COMPLETE`: the image area is written and read back. What flash holds after a failed comparison does not verify. -/
def execApplyComplete (readBack : Bool) (s : State) : Host.Outcome State Fault Refusal :=
  match s.keeper.update with
  | some (some img) =>
    .next (if !keeperUp s then s
      else coldIfAsked (if readBack then
          respond "ApplyComplete success" 0 [] (endUpdate (rset .KPR_FWUPD_PENDING 0 0 1 (rset .KPR_FWUPD_NEW_SVN 0 0 (fwSvn img)
            { s with flash := { s.flash with pendingImage := some img } })))
        else respond "ApplyComplete failure" 1 [] (endUpdate { s with flash := { s.flash with pendingImage := some [] } })))
  | _ => .next s

/-- `ACTIVATE_FIRMWARE`: the activation method is a cold reset. -/
def execActivateFirmware (via : Binding) (s : State) : Host.Outcome State Fault Refusal :=
  .next (mgmt via (fun s => if rget s .KPR_FWUPD_PENDING = 1 then respond "SUCCESS" 0 [] s else respond "NOT_IN_UPDATE_MODE" 1 [] s) s)

/-! ### Recovery (R458, R459) -/

/-- A write of `KPR_RECOV` in recovery: a write of `SIZE` loads an image of so many 16 KiB from host memory, checks it, writes it to flash and
performs a cold reset. -/
def recovLoad (addr size : Nat) (s : State) : State :=
  if rget s .KPR_STATUS_RECOVERY = 0 then s
  else
    let s := rset .KPR_RECOV_ADDR 0 0 addr s
    if 2 ^ 57 < addr * 4096 + size * 16384 then rset .KPR_RECOV_RESULT 0 0 4 s
    else
      let b := mread s (hmKey (addr * 4096)) (size * 16384)
      match fwCheck s b with
      | 0 => coldReset false { s with flash := { s.flash with image := fwBytes b, pendingImage := none } }
      | k => rset .KPR_RECOV_RESULT 0 0 k s

/-- `KPR_RECOV_LOAD`. -/
def execKprRecovLoad (who : Requester) (addr : BitVec 52) (size : BitVec 9) (s : State) : Host.Outcome State Fault Refusal :=
  .next (if isPf who then recovLoad addr.toNat size.toNat s else s)

end Sys2Proof.Machine
end

