-- ==== Sys2Proof/Machine/Registers.lean ====
section
/-! DEFINITION. Register writes, and the host's accesses through the hive window (R2, R6 to R8, R80, R284, R288, R389 to R393, R405). -/

namespace Sys2Proof.Machine

/-! ### Special registers -/

/-- The state, when a step of a meaning answers one. -/
def andThen (o : Host.Outcome State Fault Refusal) (s : State) : State :=
  match o with
  | .next s' => s'
  | _ => s

/-- A halted worker fires one ready slot (R79): the one that R42 picks. The halt stays. -/
def dbgStep (wk : Nat) (f : Fire) (s : State) : State :=
  let w := wGet s wk
  let there := match ctxOfComb s (wk / 32) with | some c => stepping s c | none => false
  if w.act.present && !w.stopped && rget s .WRK_DBG_HALT wk == 1 && there then
    match pick s wk w with
    | some t => doFire wk t f s
    | none => s
  else s

/-- A firing of a worker whose surroundings add nothing. -/
def plainFire (wk : Nat) : Fire :=
  { x := ⟨cbX (wk / 32) % 28, Nat.mod_lt _ (by decide)⟩, y := ⟨cbY (wk / 32) % 24, Nat.mod_lt _ (by decide)⟩
    w := ⟨wk % 32, Nat.mod_lt _ (by decide)⟩, thread := 0, deferred := 0, drainRow := 0, ecc := .good, crc := [] }

/-- A write of `WRK_DBG` in FIELD_DEBUG (R79, R80). `STEP` acts on a worker that the write leaves halted. A halt that
ends leaves its mark on the step (R80). -/
def dbgWrite (wk v : Nat) (s : State) : State :=
  let s := match dbgHalted s wk, ctxOfComb s (wk / 32) with
    | true, some c => ctxMod c (fun x => { x with lapsed := true }) s
    | _, _ => s
  let s := rset .WRK_DBG_BREAK_EN wk 0 (fld v 13 1) <| rset .WRK_DBG_BREAK wk 0 (fld v 14 9) <|
    rset .WRK_DBG_THREAD wk 0 (fld v 23 7) <| rset .WRK_DBG_HALT wk 0 (fld v 31 1) s
  if bit v 30 then dbgStep wk (plainFire wk) s else s

/-- A write of `SYN_OBJ.VALUE` by hand (R284). -/
def objWrite (cb n v : Nat) (s : State) : State :=
  let o := objGet s cb n
  let q := settle { o with value := if o.ty = 3 then b2n (v != 0) else v % 2 ^ 32 }
  wakeAll q.1 true (bump .SYN_EVT_COUNT .SYN_OVF_OVF cb 3 1 (objSet cb n q.2 s))

/-- A write of `DMA_CTRL`: one control bit, or nothing (R301). -/
def dmaCtrl (c v : Nat) (s : State) : State :=
  match fld v 26 6 with
  | 32 => dmaGo c s
  | 16 => dmaStop c s
  | 8 => dmaResume c s
  | 4 => dmaSkip c s
  | 2 => dmaAbort c s
  | 1 => if dRidge ((dmGet s c).presets.headD []) then s else dmaStartPresets c s
  | _ => s

/-- A shelter of `k` channels per segment takes a channel that an allotment holds (R379). -/
def shelterTaken (s : State) (k : Nat) : Bool :=
  s.ctxs.any fun e => match e.2.allot with
    | some a => a.chans.any fun ch => decide (256 - k ≤ ch % 256)
    | none => false

/-- A write of `PRT_TWIN` (R379, R382). -/
def twinWrite (who : Requester) (v : Nat) (s : State) : State :=
  let k := min 32 (fld v 22 6)
  let s := if shelterTaken s k then s else rset .PRT_TWIN_SH_K 0 0 k s
  if fld v 28 1 = rget s .PRT_TWIN_ADMIT_OPEN then s else andThen (execAdmitOpen who (bit v 28) s) s

/-- A write of a span: while its context is FREE or IDLE only (R373, R384). -/
def spanWrite (c v : Nat) (s : State) : State :=
  if 1 < rget s .CTX_STATE_STATE c then s
  else
    rset .PRT_SPAN_VALID 0 c (if fld v 51 12 = 0 then 0 else fld v 63 1) <| rset .PRT_SPAN_SPAN 0 c (fld v 51 12) <|
      rset .PRT_SPAN_X0 0 c (fld v 47 4) <| rset .PRT_SPAN_NXS1 0 c (fld v 43 4) <| rset .PRT_SPAN_Y0 0 c (fld v 39 4) <|
      rset .PRT_SPAN_NYS1 0 c (fld v 35 4) s

/-- A write of `PRT_MIRCFG`: `hit` holds the bits written, `v` the register's content with them. -/
def mirCfgWrite (who : Requester) (c v hit : Nat) (s : State) : State :=
  let s := rset .PRT_MIRCFG_ENTRIES 0 c (min 4096 (fld v 50 13)) (rset .PRT_MIRCFG_WAIT 0 c (fld v 26 24) s)
  if h : bit hit 63 = true ∧ c < 16 then andThen (execMirrorResume who ⟨c, h.2⟩ s) s else s

/-- A write of `CTX_CAPCFG` (R355). -/
def capCfgWrite (c v : Nat) (s : State) : State :=
  rset .CTX_CAPCFG_CAPTURE c 0 (fld v 63 1) <| rset .CTX_CAPCFG_SAMPLE c 0 (fld v 62 1) <| rset .CTX_CAPCFG_LS_PAGE c 0 (fld v 55 7) <|
    rset .CTX_CAPCFG_CM_PAGE c 0 (min 24575 (fld v 40 15)) <| rset .CTX_CAPCFG_BASE_PAGE c 0 (fld v 0 31) s

/-- A write by the fields' access codes alone (R2). -/
def plainWrite (r : RegRow) (i k v hit : Nat) (s : State) : State :=
  r.fields.foldl (fun s x => match x.acc with
    | .rw => rset x.f i k (fld v x.lo x.width) s
    | .w1c => rset x.f i k (rget s x.f i k - (rget s x.f i k &&& fld hit x.lo x.width)) s
    | .w1s => rset x.f i k (rget s x.f i k ||| fld hit x.lo x.width) s
    | _ => s) s

/-- A write of a register that the requester may write: `v` is the content of its writable fields with the bits written in place, `hit` the
bits written alone, `low` tells that the low half is among them. -/
def rowWrite (who : Requester) (r : RegRow) (i k v hit : Nat) (low : Bool) (s : State) : State :=
  match r.r with
  | .CTX_CTRL => ctxCtrlWrite i v s
  | .HST_CQ_CFG => cqCfg i v s
  | .HST_FQ_CFG => fqCfg i v s
  | .HST_CQ_PTR => cqHead i v s
  | .HST_FQ_PTR => fqHead i v s
  | .HST_CQ_BASE => if rget s .HST_CQ_CFG_ENABLE i = 1 then s else plainWrite r i k v hit s
  | .HST_FQ_BASE => if rget s .HST_FQ_CFG_ENABLE i = 1 then s else plainWrite r i k v hit s
  | .WRK_DBG => dbgWrite i v s
  | .SYN_OBJ => if low && fieldDebug s then objWrite i k (v % 2 ^ 32) s else s
  | .EAV_CTX_CFG => if h : k < 16 then andThen (execEavCtxCfgWrite who ⟨k, h⟩ (BitVec.ofNat 64 v) s) s else s
  | .PRT_TOPO => andThen (execPrtTopoWrite who (BitVec.ofNat 32 v) s) s
  | .PRT_TWIN => twinWrite who v s
  | .PRT_SPAN => spanWrite k v s
  | .PRT_MIRCFG => mirCfgWrite who k v hit s
  | .DMA_CTRL => dmaCtrl i hit s
  | .DMA_DESC => if rget s .DMA_STATUS_STATE i = 0 then plainWrite r i k v hit s else s
  | .KPR_RECOV => if low then recovLoad (v / 4096) (fld hit 0 9) s else plainWrite r i k v hit s
  | .PWR_CTRL => rset .PWR_CTRL_AUTO_SLEEP 0 0 (fld v 31 1) (rset .PWR_CTRL_IDLE_TICKS 0 0 (max 1 (fld v 0 8)) s)
  | .CTX_CAPCFG => capCfgWrite i v s
  | _ => plainWrite r i k v hit s

/-- A dword of a function's MSI-X table; clearing the mask of a vector that pends sends its message. -/
def msixWrite (f d v : Nat) (s : State) : State :=
  let h := hostGet s f
  let h := { h with msix := tset h.msix d (v % 2 ^ 32) }
  let n := d / 4
  if d % 4 = 3 ∧ bit v 0 = false ∧ h.mpend.contains n then msix f n (hostSet f { h with mpend := h.mpend.filter (· != n) } s)
  else hostSet f h s

/-- The stored content of a register's writable fields. -/
def writable (s : State) (r : RegRow) (i k : Nat) : Nat :=
  (r.fields.map fun x => if x.acc = .rw ∨ x.acc = .rwl then rget s x.f i k * 2 ^ x.lo else 0).foldl (· + ·) 0

/-- A write through a read-only region of BAR0, which is ignored (R390, R459). -/
def writeBarred (who : Requester) (a : Nat) : Bool := match who with | .bar0 f => bar0ReadOnly f.val a | _ => false

/-- A write of space 0x3 or 0x4, or of BAR0 (R2, R6 to R8, R390). -/
def regWrite (who : Requester) (a bytes v : Nat) (s : State) : State :=
  if writeBarred who a then s else
  match regHit s who a with
  | .reg r i k off =>
    if accessOk r off bytes && canWrite s who r i k then
      rowWrite who r i k (setFld (writable s r i k) (8 * off) (8 * bytes) v) (fld v 0 (8 * bytes) <<< (8 * off)) (off == 0) s
    else s
  | .msix f d => if bytes = 4 then msixWrite f d v s else if bytes = 8 then msixWrite f (d + 1) (v / 2 ^ 32) (msixWrite f d v s) else s
  | .inbox f o => inboxWrite f o (toLe bytes v) s
  | _ => s

/-! ### Commands -/

/-- `REGISTER_WRITE` (R2, R8). -/
def execRegisterWrite (who : Requester) (a : BitVec 64) (bytes : Nat) (v : BitVec 64) (s : State) : Host.Outcome State Fault Refusal :=
  .next (regWrite who a.toNat bytes v.toNat s)

/-- What a register read returns goes to `readData`; an address fault returns ones (R392). -/
def readTo (r : Option Nat × State) (bytes : Nat) : State :=
  { r.2 with readData := match r.1 with | some v => v | none => 2 ^ (8 * bytes) - 1 }

/-- `RC_COUNTER_READ` (R4, R10): a read of a counter clears it and its overflow flag. -/
def execRcCounterRead (who : Requester) (a : BitVec 64) (bytes : Nat) (s : State) : Host.Outcome State Fault Refusal :=
  .next (readTo (regRead who a.toNat bytes s) bytes)

/-- `LOW_HALF_READ` (R8): a read of the low half latches the high half. -/
def execLowHalfRead (who : Requester) (a : BitVec 64) (s : State) : Host.Outcome State Fault Refusal :=
  .next (readTo (regRead who a.toNat 4 s) 4)

/-- An access in BAR0, which leads to no register of a comb (R390). -/
def viaBar0 (who : Requester) : Bool := match who with | .bar0 _ => true | _ => false

/-- The requester reaches the debug registers of a comb (R31, R80). -/
def dbgReach (s : State) (who : Requester) (cb : Nat) : Bool :=
  fieldDebug s && !viaBar0 who && reaches s (actsFor s who) cb && !absentComb s cb && rget s .KPR_STATUS_RECOVERY == 0

/-- `WRK_DBG_HALT` (R80). -/
def execWrkDbgHalt (who : Requester) (x : Fin 28) (y : Fin 24) (w : Fin 32) (v : BitVec 32) (s : State) : Host.Outcome State Fault Refusal :=
  .next (if dbgReach s who (cbOf x.val y.val) then dbgWrite (wkOf x.val y.val w.val) v.toNat s else s)

/-- `WRK_DBG_STEP` (R79): `STEP` written while halted. -/
def execWrkDbgStep (who : Requester) (f : Fire) (s : State) : Host.Outcome State Fault Refusal :=
  .next (if dbgReach s who (fireWk f / 32) then dbgStep (fireWk f) f s else s)

/-- `SYN_OBJ_WRITE` (R284): the physical function, in FIELD_DEBUG. -/
def execSynObjWrite (who : Requester) (x : Fin 28) (y : Fin 24) (n : Fin 4096) (v : BitVec 32) (s : State) : Host.Outcome State Fault Refusal :=
  .next (if isPf who && dbgReach s who (cbOf x.val y.val) then objWrite (cbOf x.val y.val) n.val v.toNat s else s)

/-- `MSG_QPOP_READ` (R288). -/
def execMsgQpopRead (who : Requester) (x : Fin 28) (y : Fin 24) (w : Fin 32) (q : Fin 8) (s : State) : Host.Outcome State Fault Refusal :=
  .next (if fieldDebug s && isPf who && !viaBar0 who && !absentComb s (cbOf x.val y.val) then
      let r := qpop (wkOf x.val y.val w.val) q.val s
      { r.2 with readData := r.1 }
    else { s with readData := 0 })

/-! ### The hive window (R391 to R393, R405) -/

def funcReq (f : Fin 16) : Requester := if f.val = 0 then .pf else .vf f

/-- The hive address of a window offset. -/
def windowAddr (s : State) (f off : Nat) : Nat := rget s .HST_WIN_BASE_BASE f <<< 36 ||| off

/-- An access of `k` bytes through the window is an address fault. -/
def windowFault (s : State) (who : Requester) (a k : Nat) (write : Bool) : Bool :=
  let act := actsFor s who
  match fld a 60 4 with
  | 3 => regHit s who a == .fault
  | 4 => regHit s who a == .fault
  | 0 => (rangeFault s act a k).isSome || (write && !writeOk s act a k)
  | 1 => (rangeFault s act a k).isSome
  | 2 => (rangeFault s act a k).isSome
  | _ => true

/-- The fault is counted, the first one latched, and reported (R392). -/
def windowFaulted (f a : Nat) (write : Bool) (s : State) : State :=
  let s := bump .HST_EVT_COUNT .HST_OVF_OVF f 2 1 s
  let s := if rget s .HST_AFINFO_VALID f = 1 then s
    else rset .HST_AFINFO_VALID f 0 1 (rset .HST_AFINFO_DIR f 0 (b2n write) (rset .HST_AFAULT_ADDR f 0 a s))
  hostRec f clsAddress 0 a s

/-- `HIVE_WINDOW_READ` (R391 to R393); `rd.crc` are the verdicts of the checks of the blocks that it reads (R305). -/
def execHiveWindowRead (f : Fin 16) (off : BitVec 36) (rd : WindowRead) (s : State) : Host.Outcome State Fault Refusal :=
  let who := funcReq f
  let a := windowAddr s f.val off.toNat
  let bytes := rd.bytes
  if (hostGet s f.val).d3 then .next s
  else if windowFault s who a bytes false then .next { windowFaulted f.val a false s with readData := 2 ^ (8 * bytes) - 1 }
  else if 3 ≤ fld a 60 4 then .next (readTo (regRead who a bytes s) bytes)
  else
    let s := checkRead (actsFor s who) a bytes rd.crc s
    .next { poisonReads (actsFor s who) a bytes s with readData := ofLe (locRead s (actsFor s who) a bytes) }

/-- A poisoned write is discarded and reported (R405, R406). -/
def poisonedWrite (f a : Nat) (s : State) : State := hostRec f 0x45 0 a s

/-- `HIVE_WINDOW_WRITE` (R391, R392, R405). -/
def execHiveWindowWrite (f : Fin 16) (off : BitVec 36) (data : List Byte) (tlp : Tlp) (s : State) : Host.Outcome State Fault Refusal :=
  let who := funcReq f
  let a := windowAddr s f.val off.toNat
  if (hostGet s f.val).d3 then .next s
  else match tlp with
    | .poisoned => .next (poisonedWrite f.val a s)
    | .poisonedBar0 => .next (poisonedWrite f.val 0 s)
    | .good =>
      if windowFault s who a data.length true then .next (windowFaulted f.val a true s)
      else if 3 ≤ fld a 60 4 then .next (match regHit s who a with
        | .inbox g o => inboxWrite g o data s
        | _ => regWrite who a data.length (ofLe data) s)
      else .next (locWrite (actsFor s who) a data s)

end Sys2Proof.Machine
end

