-- ==== Sys2Proof/Machine/Bringup.lean ====
section
/-! DEFINITION. Bring-up: what each start-up stage leaves when it ends, and failed stages (R408 to R423). -/

namespace Sys2Proof.Machine

/-- Units of the fuse map and of the record in force. -/
def knownBad (s : State) : List (BitVec 64) := fuseBad s ++ inForce s

def entCh (e : BitVec 64) : Nat := fld e.toNat 45 11
def entGroup (e : BitVec 64) : Nat := fld e.toNat 24 21
def entRegion (e : BitVec 64) : Nat := fld e.toNat 50 6
def entSeg (e : BitVec 64) : Nat := fld e.toNat 53 3
def entSource (e : BitVec 64) : Nat := fld e.toNat 56 4

def ofKind (k : Nat) (l : List (BitVec 64)) : List (BitVec 64) := l.filter fun e => entKind e == k

/-- Workers and combs lose what a list of entries names. -/
def applyUnits (l : List (BitVec 64)) (s : State) : State := (entPcs l).foldl (fun s pc => applyBad l pc s) s

/-- The stage in progress has begun and has neither ended nor failed. -/
def stageOpen (s : State) : Bool :=
  match openStage s.flash.journal with
  | some e => e.stage == stageOf s && !s.keeper.inReset && rget s .HST_STATUS_HOLD == 0
  | none => false

/-! ### Stages 0x00 to 0x04 -/

/-- Stage 0x00: the reference oscillator and the keeper PLL run (R204, R408). -/
def endStage0 (s : State) : State := rset .CLK_STATUS_REF_OK 0 0 1 (rset .CLK_STATUS_KPLL_LOCK 0 0 1 s)

/-- The chain in flash holds the identity public key. -/
def chainHolds (chain pub : List Byte) : Bool :=
  (List.range (chain.length + 1 - pub.length)).any fun i => slice chain i pub.length == pub

/-- The boot ROM unseals the identity key (R427). -/
def openKey (bad : Bool) (s : State) : State :=
  match s.sec.pub with
  | some p => if bad then s
      else rset .SEC_STATE_KEY_OK 0 0 1 (rset .SEC_STATE_CERT_OK 0 0 (b2n (chainHolds s.flash.chain p)) { s with sec := { s.sec with key := true } })
  | none => s

/-- Stage 0x01: the firmware image is verified, and the identity key unsealed. An image that does not verify fails the stage (R427, R429, R458). -/
def endStage1 (r : StageResult) (s : State) : Option State :=
  let s := match s.flash.pendingImage with
    | some img => { s with flash := { s.flash with image := img, pendingImage := none } }
    | none => s
  if fwCheck s s.flash.image = 0 then some (openKey r.keyBad (rset .SEC_FW_SVN 0 0 (fwSvn s.flash.image) s)) else none

/-- The flash areas that a return erases (R437). -/
def eraseFlash (s : State) : State :=
  { s with flash := { s.flash with cache := [], crash := [], crashNext := 0, sealed := none, standby := none } }

/-- The life-cycle fuse row with its next bit burned. -/
def burnLife (s : State) : State :=
  let v := rget s .SEC_STATE_LC_ROW
  rset .SEC_STATE_LC_ROW 0 0 (((List.range 8).find? fun k => !bit v k).elim v fun k => setFld v k 1 1) s

/-- The burned bits of the life-cycle fuse row, and the state and life that they give (R431). -/
def lifeCount (s : State) : Nat := ((List.range 8).filter fun k => bit (rget s .SEC_STATE_LC_ROW) k).length

def lifeState (c : Nat) : Nat := if c = 0 then 0 else if c = 1 then 1 else if c = 8 then 5 else if c % 2 = 0 then 2 else 4

def lifeNo (c : Nat) : Nat := if c < 2 then 0 else min 3 (c / 2)

/-- The state registers follow the fuse row. A module SCRAPPED keeps the life that it had. -/
def setLife (s : State) : State :=
  let c := lifeCount s
  let s := rset .SEC_STATE_STATE 0 0 (lifeState c) (if c = 8 then s else rset .SEC_STATE_LIFE 0 0 (lifeNo c) s)
  rset .SEC_STATE_OWNER_ACTIVE 0 0 (b2n (ownerInForce s).isSome) s

/-- R439: a return that power loss cut short is completed, and a RETURNED module holds none of the flash areas. -/
def resumeReturn (s : State) : State :=
  let n := rget s .SEC_STATE_LIFE
  let cut := rget s .SEC_STATE_STATE == 2 && n != 0 && bit (rget s .SEC_STATE_OREVOKED) (n - 1)
  let s := if cut then raise 50 (heatRec 0x79 0) (setLife (burnLife s)) else s
  if rget s .SEC_STATE_STATE = 4 then eraseFlash s else s

/-- `MAGIC`, `VERSION` and `RESULTS_BYTES` of a seal are valid (R333, R411). -/
def sealForm (b : List Byte) : Bool :=
  let n := leAt b 6 2
  leAt b 0 4 == 0x4C414553 && leAt b 4 2 == 0x0100 && n % 8 == 0 && b.length == sealHead + n + 132

/-- The first condition of R411 that fails, or 1. -/
def sealCode (r : StageResult) (x : SealRec) (s : State) : Nat :=
  if !sealForm x.bytes || r.sealCode == 2 then 2
  else if r.sealCode = 3 then 3
  else if x.used then 4
  else if slice x.bytes 0x18 64 ≠ fwHash s ∨ slice x.bytes 0x58 64 ≠ fuseHash s then 5
  else match (if s.start.cold then s.flash.standby else none) with
    | none => 6
    | some y => if 207360000 ≤ y.ticks then 7 else if y.least < 40 ∨ 440 < y.most then 8 else 1

/-- The seal is examined once in a start, and is then used (R411, R412). -/
def checkSeal (r : StageResult) (s : State) : State :=
  match s.flash.sealed with
  | none => s
  | some x =>
    if rget s .FUS_START_SEAL ≠ 0 then s
    else
      let k := sealCode r x s
      let s := rset .FUS_START_SEAL 0 0 k (rset .FUS_START_QUICK 0 0 (b2n (k == 1)) { s with flash := { s.flash with sealed := some { x with used := true } } })
      let s := jrn 3 7 0 k 0 s
      if k = 1 then s else raise 50 (heatRec 0x68 k) s

/-- The verdicts of the fuses and the record stand before any test (R417). -/
def applyKnown (s : State) : State :=
  let l := knownBad s
  let s := applyUnits l s
  let sp := (ofKind 3 l).map entRegion
  let s := { s with keeper := { s.keeper with spineBad := s.keeper.spineBad ++ sp.filter fun r => !s.keeper.spineBad.contains r } }
  let s := ((ofKind 4 l).map entSeg).foldl (fun s g => segmentFault g s) s
  ((List.range 42).filter fun r => rget s .FUS_RMAP_CA_OK 0 r == 0).foldl (fun s r => withdraw r s) s

/-- Stage 0x03. `none`: a fuse row that fails holds the module (R415, R421, R436). -/
def endStage3 (r : StageResult) (s : State) : Option State :=
  let s := if r.recordOk then rset .FUS_STATUS_COPY_OK 0 0 1 s
    else raise 50 (heatRec 0x67 0) (rset .FUS_STATUS_COPY_OK 0 0 0 { s with flash := { s.flash with record := s.flash.rows } })
  if r.fuseEcc.isSome ∨ s.start.fuseFail then none
  else
    let s := checkSeal r (resumeReturn (bump .FUS_EVT_COUNT .FUS_OVF_OVF 0 2 r.fuseFixed s))
    let n := s.flash.rows.length
    some (applyKnown (rset .FUS_RECORD_ENTRIES 0 0 (min 65535 (inForce s).length) (rset .FUS_STATUS_ROWS_USED 0 0 n
      (rset .FUS_STATUS_ROWS_FULL 0 0 (b2n (decide (1024 ≤ n))) s))))

/-- The hold of stage 0x03. -/
def holdFuses (r : StageResult) (s : State) : State :=
  let s := match r.fuseEcc with
    | some row => raise 50 (heatRec 0x6A row.toNat) (rset .FUS_STATUS_ECC_FAIL 0 0 1 s)
    | none => s
  holdStart 3 { s with start := { s.start with fuseFail := false } }

/-- Stage 0x04 tests segments. -/
def endStage4 (r : StageResult) (s : State) : State :=
  let bad := ofKind 4 r.bad
  (bad.map entSeg).foldl (fun s g => segmentFault g s) (mergeTests 1 (fun e => entKind e == 4) bad s)

/-! ### Stage 0x05 (R226, R249) -/

/-- The groups of a channel that the record names. -/
def loggedGroups (s : State) (ch : Nat) : List Nat := (((ofKind 6 (inForce s)).filter fun e => entCh e == ch).map entGroup).eraseDups

/-- Groups of a channel that hard PPR has repaired. -/
def repairedGroups (s : State) (ch : Nat) : List Nat :=
  (((ofKind 6 (inForce s)).filter fun e => entCh e == ch && entSource e == 6).map entGroup).eraseDups

/-- Some bank would need more than 64 remapped groups. -/
def bankOver (l : List Nat) : Bool := (List.range 16).any fun b => decide (64 < (l.filter fun g => g % 16 == b).length)

/-- Remaps groups of a channel, or excludes it. -/
def remapGroups (ch : Nat) (l : List Nat) (s : State) : State :=
  if bankOver l then excludeChan ch s else rset .MEM_CHSTAT_REMAPPED (ch / 256) (ch % 256) l.length s

/-- The least rate code that a start may use: the seal's in a quick start, and one rate lower by the alternative. -/
def rateFloor (s : State) : Nat :=
  let q := if rget s .FUS_START_QUICK = 1 then (match s.flash.sealed with | some x => x.rate | none => 0) else 0
  if bit (rget s .FUS_START_ALT) 2 then max q (min 2 (rget s .EAV_SEG_RATE + 1)) else q

/-- Channels in service by segment. -/
def countService (s : State) : State :=
  (List.range 8).foldl (fun s g => rset .EAV_SEG_IN_SERVICE g 0
    (if rget s .EAV_SEG_STATE g = 0 then ((List.range 256).filter fun i => rget s .MEM_CHSTAT_STATE g i == 0).length else 0) s) s

/-- The channels that fail their training at a rate, after one retraining (R226). -/
def failsAt (r : StageResult) (rate : Nat) : List Nat := ((r.fails.getD rate []).map (·.val)).eraseDups

/-- The module rate, from the least code that the start may use, and the channels that are excluded at it (R226): the first rate at which at most 64
channels fail; or else the highest at which no more fail than at 8,533 MT/s, with the channels that fail the retraining there. -/
def chooseRate (r : StageResult) (floor : Nat) : Nat × List Nat :=
  let rates := (List.range 3).filter fun k => floor ≤ k
  match rates.find? fun k => decide ((failsAt r k).length ≤ 64) with
  | some k => (k, failsAt r k)
  | none => ((rates.find? fun k => decide ((failsAt r k).length ≤ (failsAt r 2).length)).getD 2, r.down.map (·.val))

def endStage5 (r : StageResult) (s : State) : State :=
  let choice := chooseRate r (rateFloor s)
  let s := (List.range 8).foldl (fun s g => rset .EAV_SEG_RATE g 0 choice.1 s) s
  let s := ((ofKind 5 (knownBad s)).map entCh ++ choice.2).foldl (fun s ch => excludeChan ch s) s
  let fresh := r.ppr.filter fun e => (loggedGroups s e.1.val).contains e.2.toNat && !(repairedGroups s e.1.val).contains e.2.toNat
  let chs := ((ofKind 6 (inForce s)).map entCh).eraseDups
  let old := chs.map fun ch => (ch, (loggedGroups s ch).filter fun g => !fresh.any fun e => e.1.val == ch && e.2.toNat == g)
  let s := fresh.foldl (fun s e => recordAdd (defEntry 6 6 (siteG e.1.val e.2.toNat)) s) s
  let s := chs.foldl (fun s ch => rset .MEM_CHSTAT_PPR (ch / 256) (ch % 256) (min 2047 (repairedGroups s ch).length) s) s
  countService (old.foldl (fun s e => remapGroups e.1 e.2 s) s)

/-! ### Stages 0x06 to 0x0A -/

/-- Stage 0x06 tests the spines that came on; a spine that is not good is out with its region. -/
def endStage6 (r : StageResult) (s : State) : State :=
  let bad := ofKind 3 r.bad
  let known := s.keeper.spineBad
  let s := mergeTests 1 (fun e => entKind e == 3 && !known.contains (entRegion e)) bad s
  let s := (bad.map entRegion).foldl (fun s x => spineFault x s) s
  known.foldl (fun s x => leaveRegion x (degrade 29 s)) s

/-- A lane of a rafter that cannot be brought up has failed for this start (R247, R416). -/
def failLane (e : BitVec 64) (s : State) : State :=
  let g := entSeg e
  let k := fld e.toNat 49 4
  let l := fld e.toNat 47 2
  degrade 26 (rset .EAV_SEG_DEGRADED g 0 1 (rset .RFT_STAT_FAILED g k (setFld (rget s .RFT_STAT_FAILED g k) l 1 1) s))

/-- A free value from 1 to 15. -/
def takeSetpoint (s : State) : Nat × State := (1 + (Config.freeBits 4 s.free).toNat % 15, { s with free := s.free + 1 })

/-- The setpoint of a crossing, or 0 on a side that is an edge of the array (R137). -/
def sideSetpoint (inner : Bool) (s : State) : Nat × State := if inner then takeSetpoint s else (0, s)

/-- The crossings of a region are trained: their setpoints are free values (R208). -/
def trainRegion (r : Nat) (s : State) : State :=
  let n := sideSetpoint (innerSide r 0) s
  let e := sideSetpoint (innerSide r 1) n.2
  let so := sideSetpoint (innerSide r 2) e.2
  let w := sideSetpoint (innerSide r 3) so.2
  rset .NET_XING_TRAINED r 0 1 <| rset .NET_XING_SET_N r 0 n.1 <| rset .NET_XING_SET_E r 0 e.1 <| rset .NET_XING_SET_S r 0 so.1 <|
    rset .NET_XING_SET_W r 0 w.1 w.2

/-- The lanes of a rafter whose faulty wires find no spare in their span (R238, R247). -/
def failSpent (seg rafter : Nat) (s : State) : State :=
  (lanesSpent s seg rafter).foldl (fun s l => degrade 26 (rset .EAV_SEG_DEGRADED seg 0 1
    (rset .RFT_STAT_FAILED seg rafter (setFld (rget s .RFT_STAT_FAILED seg rafter) l 1 1) s))) s

/-- Stage 0x07 maps the faulty wires of every span onto spares (R238), and trains the crossings. -/
def endStage7 (r : StageResult) (s : State) : State :=
  let s := { s with spares := [] }
  let s := (List.range 8).foldl (fun s g => (List.range 14).foldl (fun s k => rset .RFT_STAT_SPARES g k 0 s) s) s
  let s := r.wires.foldl (fun s e => failSpent e.1.val e.2.1.val (takeSpares e.1.val e.2.1.val [e.2.2] s)) s
  let s := (ofKind 8 (inForce s) ++ ofKind 8 r.bad).foldl (fun s e => failLane e s) s
  (List.range 42).foldl (fun s x =>
    if rget s .PWR_RSTAT_SP_STATE x ≤ 1 ∧ !(r.untrained.map (·.val)).contains x then trainRegion x s
    else rset .NET_XING_TRAINED x 0 0 s) s

/-- Every logical comb on a good physical comb with its comb array on has its firmware (R419). -/
def loadFirmware (s : State) : State :=
  (List.range 672).foldl (fun s cb =>
    rset .TND_STATUS_FW_OK cb 0 (b2n ((pcGet s (pcOf s cb)).good && decide (rget s .PWR_RSTAT_CA_STATE (regionOf cb) ≤ 2))) s) s

/-- The domain of a unit is on, so that it is tested (R416). -/
def domainOn (s : State) (e : BitVec 64) : Bool :=
  if entKind e = 5 ∨ entKind e = 6 then rget s .EAV_SEG_STATE (entCh e / 256) == 0 else decide (rget s .PWR_RSTAT_CA_STATE (pcRegion (entPc e)) ≤ 1)

/-- Merges the results of a stage for the units of some kinds whose domain is on, and takes out those that failed. -/
def mergeStage (kinds : List Nat) (bad : List (BitVec 64)) (s : State) : State :=
  let tested (e : BitVec 64) : Bool := kinds.contains (entKind e) && domainOn s e
  let l := bad.filter tested
  applyUnits l (mergeTests 1 tested l s)

def endStage8 (r : StageResult) (s : State) : State := loadFirmware (mergeStage [2] r.bad s)

/-- Eave groups and channels that failed leave service (R410, R417). -/
def applyEave (bad : List (BitVec 64)) (s : State) : State :=
  let s := ((ofKind 5 bad).map entCh).foldl (fun s ch => excludeChan ch s) s
  let chs := ((ofKind 6 bad).map entCh).eraseDups
  countService (chs.foldl (fun s ch =>
    let done := rget s .MEM_CHSTAT_REMAPPED (ch / 256) (ch % 256)
    let new := (((ofKind 6 bad).filter fun e => entCh e == ch).map entGroup).eraseDups
    if bankOver (loggedGroups s ch) then excludeChan ch s
    else rset .MEM_CHSTAT_REMAPPED (ch / 256) (ch % 256) (min 1024 (done + new.length)) s) s)

/-- The entries of the seal that a quick start accepts stand for the results of stages 0x09 to 0x0B (R413). -/
def mergeSeal (s : State) : State :=
  match (if rget s .FUS_START_QUICK = 1 then s.flash.sealed else none) with
  | none => s
  | some x =>
    let l := x.entries
    applyEave l (applyUnits l (mergeTests 4 (fun e => [5, 6].contains (entKind e) || l.any fun y => entKind y == entKind e && entSite y == entSite e) l s))

/-- Stage 0x09: every worker is tested, unless the scout image's signature fails (R310, R410, R430). -/
def endStage9 (r : StageResult) (s : State) : State :=
  match r.scoutSig with
  | some k => mergeSeal <| healthSet .BST_HEALTH_PROMISE 0 (raise 50 (heatRec 0x76 k.toNat) { s with keeper := { s.keeper with promiseBad := true, scoutBad := true } })
  | none =>
    let s := mergeSeal (mergeStage [1, 2] r.bad s)
    { s with start := { s.start with testedAt := s.tick }
             pcombs := s.pcombs.map fun (e : Nat × PComb) => (e.1, { e.2 with lastPass := [], served := [] }) }

/-- Combs of which a bank needs more than 16 spare rows (R410, R417). -/
def rowsOver (l : List (BitVec 64)) : List Nat :=
  ((ofKind 7 l).map entPc).eraseDups.filter fun pc => (List.range 16).any fun b =>
    decide (16 < (((ofKind 7 l).filter fun e => entPc e == pc && fld e.toNat 41 4 == b).map fun e => fld e.toNat 31 10).eraseDups.length)

/-- Stage 0x0A: rows are repaired, and binned (R410). -/
def endStageA (r : StageResult) (s : State) : State :=
  let full := (rowsOver (inForce s ++ r.bad)).filter fun pc => (pcGet s pc).good
  let s := mergeStage [2, 7] (r.bad ++ full.map fun pc => defEntry 2 0 (siteC (pcX pc) (pcY pc))) s
  let skip := bit (rget s .FUS_START_ALT) 7
  { s with rowBins := if skip then [] else r.bins.map fun e => (e.1.toNat, e.2.val)
           start := { s.start with binBase := if skip then 0 else 2 }, rowRepairs := [] }

/-- Stage 0x0B: groups and channels are tested; failing groups are remapped at once. -/
def endStageB (r : StageResult) (s : State) : State :=
  let tested (e : BitVec 64) : Bool := (entKind e == 5 || entKind e == 6) && domainOn s e
  let l := (ofKind 5 r.bad ++ ofKind 6 r.bad).filter tested
  applyEave l (mergeTests 1 tested l s)

/-! ### Stage 0x0D (R418) -/

/-- Pending entries go into the fuse rows that are left (R415, R422). -/
def burnRows (s : State) : State :=
  if bit (rget s .FUS_START_ALT) 10 then s
  else
    let n := s.flash.rows.length
    let new := (s.flash.record.filter fun e => !s.flash.rows.contains e).take (1024 - n)
    let s := { s with flash := { s.flash with rows := s.flash.rows ++ new } }
    let m := n + new.length
    let s := rset .FUS_STATUS_ROWS_USED 0 0 m s
    if 1024 ≤ m then
      let s := rset .FUS_STATUS_ROWS_FULL 0 0 1 s
      if n < 1024 then raise 50 (heatRec 0x66 0) s else s
    else s

/-- Some logical worker, the worker under test or the reserve is fenced. -/
def mapBroken (k : PComb) : Bool :=
  (List.range 32).any (fun w => k.fenced.contains (k.phys w)) || k.fenced.contains k.test || k.fenced.contains k.reserve

/-- Logical combs and workers are placed; a warm module reset keeps the worker maps that hold no fenced worker (R342), and `MAP_SEQ`, which it keeps too, counts
the maps that it changes (R36). -/
def placeAll (s0 : State) : State :=
  let s := s0
  let s := (List.range 42).foldl (fun s r => if rget s .CMB_RMAP_WITHDRAWN r = 1 then writeRmap r s else placeRegion r s) s
  let s := (s.pcombs.map (·.1)).foldl (fun s pc =>
    if s.start.warm && !s.start.rerun && !mapBroken (pcGet s pc) then s else mapWorkers pc s) s
  let s := (List.range 672).foldl (fun s cb => combState cb s) s
  let s := if s0.start.warm && !s0.start.rerun then countMaps s0 ((List.range 672).filter fun cb => !absentComb s cb) s else s
  if (List.range 42).any fun r => (List.range 4).any fun k => decide ((goodPos s (r % 7) (4 * (r / 7) + k)).length < 5) then degrade 23 s else s

/-- The criteria of R424, bits 28 to 25 of `FUS_STATUS`. -/
def shipBits (s : State) : Nat :=
  let workers := (List.range 840).all fun pc => (pcGet s pc).good && decide (33 ≤ (pcGet s pc).goods.length)
  let rows := (List.range 42).all fun r => !shortRow s r
  let units := s.keeper.spineBad.isEmpty && (List.range 42).all (fun r => rget s .FUS_RMAP_CA_OK 0 r == 1) &&
    (List.range 8).all fun g => rget s .EAV_SEG_STATE g != 3
  let repaired := ((List.range 840).map fun j => rget s .FUS_CMAP_MEMREP 0 j).foldl (· + ·) 0 + (ofKind 7 (inForce s)).length
  b2n workers * 8 + b2n rows * 4 + b2n units * 2 + b2n (decide (repaired ≤ 103219))

def showShip (s : State) : State :=
  let v := shipBits s
  let s := rset .FUS_STATUS_SHIP 0 0 v (rset .FUS_STATUS_SHIP_OK 0 0 (b2n (v == 15)) s)
  if v = 15 then s else raise 50 (heatRec 0x69 v) s

/-- The measurements that are formed at stage 0x0D (R441). -/
def measure (s : State) : State :=
  let img := fwBytes s.flash.image
  { s with sec := { s.sec with measures := [(1, toLe 64 Config.bootRomHash.toNat), (2, fwHash s ++ toLe 1 (fwSvn img)), (3, sha512 (fwSect img 2)), (4, fuseHash s)] } }

/-- The conditions of R328 that the module holds itself, whatever the readings of the tick. -/
def ctrlWhole (s : State) : Bool :=
  rget s .BST_CTRL_SCOUTS == 1 && rget s .BST_CTRL_ROTATION == 1 && rget s .BST_CTRL_MARGIN == 1 && rget s .BST_CTRL_HOT == 1 &&
    rget s .BST_CTRL_MONITORS == 1

def endStageD (s : State) : State :=
  let s := refreshRegions (loadFirmware (placeAll (burnRows s)))
  let s := healthSet .BST_HEALTH_PROMISE (b2n (ctrlWhole s && !s.keeper.promiseBad && !s.keeper.flowBad)) (measure (showShip s))
  let s := if fwRaise s.flash.image ∧ rget s .SEC_FW_SVN_MIN < fwSvn s.flash.image then rset .SEC_FW_SVN_MIN 0 0 (fwSvn s.flash.image) s else s
  if s.flash.pendingImage.isNone then rset .KPR_FWUPD_PENDING 0 0 0 s else s

/-! ### The commands -/

/-- What a stage leaves when it ends; `none` where it does not end but holds, or fails. -/
def stageWork (st : Nat) (r : StageResult) (s : State) : Option State :=
  match st with
  | 0 => some (endStage0 s)
  | 1 => endStage1 r s
  | 3 => endStage3 r s
  | 4 => some (endStage4 r s)
  | 5 => some (endStage5 r s)
  | 6 => some (endStage6 r s)
  | 7 => some (endStage7 r s)
  | 8 => some (endStage8 r s)
  | 9 => some (endStage9 r s)
  | 10 => some (endStageA r s)
  | 11 => some (endStageB r s)
  | 13 => some (endStageD s)
  | _ => some s

/-- The next stage begins. Recovery waits in stage 0x02, and a SCRAPPED module holds after stage 0x03 (R432, R458). -/
def nextStage (st : Nat) (s : State) : State :=
  if st = 2 ∧ rget s .KPR_STATUS_RECOVERY = 1 then s
  else if st = 3 ∧ rget s .SEC_STATE_STATE = 5 then rset .HST_STATUS_HOLD 0 0 1 s
  else goStages (stagesAfter s st) s

/-- `STAGE_END` (R408): the stage in progress has done its work. -/
def execStageEnd (r : StageResult) (s : State) : Host.Outcome State Fault Refusal :=
  let st := stageOf s
  if !stageOpen s || (st == 2 && rget s .EAV_SEG_STATE 1 != 0) then .next s
  else match stageWork st r s with
    | some s' => .next (nextStage st (jrn st 2 0 0 0 s'))
    | none => .next (if st = 1 then failStage 0 none s else holdFuses r s)

/-- `STAGE_FAIL` (R420, R421): the stage's limit passes. -/
def execStageFail (unit : Option Nat) (s : State) : Host.Outcome State Fault Refusal :=
  .next (if stageOpen s && stageOf s != 0 then failStage 0 unit s else s)

end Sys2Proof.Machine
end

