-- ==== Sys2Proof/Machine/Control.lean ====
section
/-! DEFINITION. Next-slot control (R48). Each row fires the whole slot that performs its operation, the other groups of the slot with it (R42; assumption 1). -/

namespace Sys2Proof.Machine

/-- `NEXT_SEQ` (R48). -/
def execNextSeq (f : Fire) (s : State) : Host.Outcome State Fault Refusal :=
  .next (fireNext f 0x0 s)

/-- `JUMP` (R48). -/
def execJump (f : Fire) (s : State) : Host.Outcome State Fault Refusal :=
  .next (fireNext f 0x1 s)

/-- `BRT` (R48). -/
def execBrt (f : Fire) (s : State) : Host.Outcome State Fault Refusal :=
  .next (fireNext f 0x2 s)

/-- `BRF` (R48). -/
def execBrf (f : Fire) (s : State) : Host.Outcome State Fault Refusal :=
  .next (fireNext f 0x3 s)

/-- `LOOP` (R48). -/
def execLoop (f : Fire) (s : State) : Host.Outcome State Fault Refusal :=
  .next (fireNext f 0x4 s)

/-- `END` (R49). -/
def execEndStep (f : Fire) (s : State) : Host.Outcome State Fault Refusal :=
  .next (fireNext f 0x5 s)

end Sys2Proof.Machine
end

