-- ==== Sys2Proof/Machine/Security.lean ====
section
/-! DEFINITION. Security: life-cycle requests, SPDM and link IDE (R427 to R443). -/

namespace Sys2Proof.Machine

/-! ### Messages (R440) -/

/-- A session of the responder. -/
def sessionOf (s : State) (k : Nat) : Option Session := (s.sec.sessions.find? fun e => e.1 == k).map (·.2)

/-- SPDM errors by their codes in the standard. -/
def spdmError (name : String) (code : Nat) (s : State) : State := respond name code [] s

def unsupported (s : State) : State := spdmError "UnsupportedRequest" 7 s

/-- A session fails to establish, or a secured message to decrypt. -/
def authFail (s : State) : State :=
  spdmError "DecryptError" 6 (raise 50 (heatRec 0x77 0) (bump .SEC_EVT_COUNT .SEC_OVF_OVF 0 2 1 s))

/-- The responder runs: from stage 0x02, outside keeper resets and recovery. -/
def spdmUp (s : State) : Bool := keeperUp s && decide (2 ≤ stageOf s)

/-- An SPDM request; one that names a session belongs to an open session of its path. -/
def spdm (via : Via) (go : State → State) (s : State) : State :=
  if !spdmUp s then s
  else match via.session with
    | none => go s
    | some k => match sessionOf s k.val with
      | some x => if x.path = via.path ∧ x.open' then go s else authFail s
      | none => authFail s

/-- The module can sign with its identity key (R427, R438). -/
def canSign (s : State) : Bool := rget s .SEC_STATE_KEY_OK == 1 && rget s .SEC_STATE_KEYLOCK == 0

/-- Attestation is open (R432, R438). -/
def attests (s : State) : Bool := canSign s && rget s .SEC_STATE_STATE != 0 && rget s .SEC_STATE_STATE != 5

/-- An answer with a signature, whose value the module's key makes: a free value. -/
def signed (name : String) (data : List Byte) (s : State) : State :=
  if canSign s then respond name 0 (data ++ toLe 132 (Config.freeBits 1056 s.free).toNat) { s with free := s.free + 1 }
  else respond name 0 data s

/-- An attestation request. -/
def attest (via : Via) (go : State → State) (s : State) : State := spdm via (fun s => if attests s then go s else unsupported s) s

/-- `GET_VERSION` (R440): SPDM 1.3. -/
def execGetVersion (via : Via) (s : State) : Host.Outcome State Fault Refusal := .next (spdm via (respond "VERSION" 0 [0x13]) s)

/-- `GET_CAPABILITIES` (R440). -/
def execGetCapabilities (via : Via) (s : State) : Host.Outcome State Fault Refusal := .next (spdm via (respond "CAPABILITIES" 0 []) s)

/-- `NEGOTIATE_ALGORITHMS` (R440): the one set of algorithms is chosen when the requester offers it. -/
def execNegotiateAlgorithms (via : Via) (offers : Bool) (s : State) : Host.Outcome State Fault Refusal :=
  .next (attest via (respond "ALGORITHMS" 0 [BitVec.ofNat 8 (b2n offers)]) s)

/-- `GET_DIGESTS` (R440): slot 0. -/
def execGetDigests (via : Via) (s : State) : Host.Outcome State Fault Refusal :=
  .next (attest via (fun s => respond "DIGESTS" 0 (sha512 s.flash.chain) s) s)

/-- `GET_CERTIFICATE` (R440): slot 0 only. -/
def execGetCertificate (via : Via) (slot : BitVec 8) (s : State) : Host.Outcome State Fault Refusal :=
  .next (attest via (fun s => if slot = 0 then respond "CERTIFICATE" 0 s.flash.chain s else spdmError "InvalidRequest" 1 s) s)

/-- `CHALLENGE` (R440). -/
def execChallenge (via : Via) (slot : BitVec 8) (s : State) : Host.Outcome State Fault Refusal :=
  .next (attest via (fun s => if slot = 0 then signed "CHALLENGE_AUTH" (sha512 s.flash.chain) s else spdmError "InvalidRequest" 1 s) s)

/-! ### Measurements (R441) -/

/-- The measurement of one thatch of a context: its image stands in the range that the context holds. -/
def thatchMeasure (s : State) (c : Nat) (t : Option Thatch) : List Byte :=
  match t with
  | none => zeros 75
  | some t =>
    let img := emRead s (.ctx c) t.base t.bytes
    toLe 8 t.id ++ toLe 2 t.loadSeq ++ slice img (img.length - 288) 1 ++ sha512 img

/-- The values that measurement 5 covers. -/
def lifeValues (s : State) : List Nat :=
  [rget s .SEC_STATE_LC_ROW, rget s .SEC_STATE_LIFE, b2n (rget s .SEC_STATE_STATE == 3), rget s .SEC_STATE_SCAN, rget s .SEC_STATE_KEYLOCK,
    rget s .SEC_STATE_VFUSED, rget s .SEC_STATE_VREVOKED, rget s .SEC_STATE_OFUSED, rget s .SEC_STATE_OREVOKED]

/-- A measurement; one that stage 0x0D has not formed yet has no value. -/
def measurement (s : State) (i : Nat) : Option (List Byte) :=
  if i = 0 then none
  else if i ≤ 3 then (s.sec.measures.find? fun e => e.1 == i).map (·.2)
  else if i = 4 then if s.sec.measures.isEmpty then none else some (fuseHash s)
  else if i = 5 then some (toLe 16 (Config.lifeBytes (lifeValues s)).toNat)
  else if i = 6 then some (toLe 64 ((ownerInForce s).getD 0))
  else if 0x10 ≤ i ∧ i < 0x20 then
    let c := i - 0x10
    some (thatchMeasure s c (ctxGet s c).active ++ thatchMeasure s c (ctxGet s c).waiting)
  else none

/-- A mailbox reports a measurement: a virtual function's only the first six and its own context's. -/
def mayMeasure (s : State) (via : Via) (i : Nat) : Bool :=
  match via.path with
  | .doe f => f.val == 0 || decide (i ≤ 6) || boundCtx s f.val == some (i - 0x10)
  | .i3c => true
  | .vdm => true

/-- The indices that a request covers: 0xFF asks for all. -/
def measureIndices (s : State) (via : Via) (i : Nat) : List Nat :=
  (if i = 0xFF then (List.range 0x20) else [i]).filter fun k => mayMeasure s via k && (measurement s k).isSome

/-- `GET_MEASUREMENTS` (R440, R441): index 0 asks how many there are. -/
def execGetMeasurements (via : Via) (index : BitVec 8) (s : State) : Host.Outcome State Fault Refusal :=
  .next (attest via (fun s =>
    if index = 0 then signed "MEASUREMENTS" [BitVec.ofNat 8 (measureIndices s via 0xFF).length] s
    else
      let l := measureIndices s via index.toNat
      if l.isEmpty then spdmError "InvalidRequest" 1 s
      else signed "MEASUREMENTS" (l.flatMap fun k => toLe 1 k ++ (measurement s k).getD []) s) s)

/-! ### Sessions (R440) -/

/-- `KEY_EXCHANGE` (R440): a session of the four begins, or Busy. -/
def execKeyExchange (via : Via) (s : State) : Host.Outcome State Fault Refusal :=
  .next (spdm via (fun s =>
    match (List.range 4).find? fun k => (sessionOf s k).isNone with
    | none => spdmError "Busy" 3 s
    | some k => signed "KEY_EXCHANGE_RSP" (toLe 1 k) { s with sec := { s.sec with sessions := s.sec.sessions ++ [(k, ⟨via.path, false, 0⟩)] } }) s)

def dropSession (k : Nat) (s : State) : State := { s with sec := { s.sec with sessions := s.sec.sessions.filter fun e => e.1 != k } }

/-- `FINISH` (R440, R442): the session is established, or fails to be. -/
def execFinish (via : Via) (good : Bool) (s : State) : Host.Outcome State Fault Refusal :=
  .next (if !spdmUp s then s
    else match via.session with
      | none => unsupported s
      | some k => match sessionOf s k.val with
        | some x =>
          if x.path ≠ via.path ∨ x.open' then authFail s
          else if !good then authFail (dropSession k.val s)
          else respond "FINISH_RSP" 0 [] { s with sec := { s.sec with sessions := tset s.sec.sessions k.val { x with open' := true } } }
        | none => authFail s)

/-- A request that acts only inside a session. -/
def inSession (via : Via) (go : Nat → Session → State → State) (s : State) : State :=
  spdm via (fun s => match via.session with
    | none => unsupported s
    | some k => match sessionOf s k.val with
      | some x => go k.val x s
      | none => s) s

/-- `HEARTBEAT` (R440). -/
def execHeartbeat (via : Via) (s : State) : Host.Outcome State Fault Refusal :=
  .next (inSession via (fun _ _ => respond "HEARTBEAT_ACK" 0 []) s)

/-- `KEY_UPDATE` (R440): the session's next keys. -/
def execKeyUpdate (via : Via) (s : State) : Host.Outcome State Fault Refusal :=
  .next (inSession via (fun k x s =>
    respond "KEY_UPDATE_ACK" 0 [] { s with sec := { s.sec with sessions := tset s.sec.sessions k { x with keys := x.keys + 1 } } }) s)

/-- `END_SESSION` (R440). -/
def execEndSession (via : Via) (s : State) : Host.Outcome State Fault Refusal :=
  .next (inSession via (fun k _ s => respond "END_SESSION_ACK" 0 [] (dropSession k s)) s)

/-- `IDE_KM` (R385, R440): in a session on the physical function's mailbox, it keys the one link IDE stream. -/
def execIdeKm (via : Via) (s : State) : Host.Outcome State Fault Refusal :=
  .next (inSession via (fun _ x s =>
    if x.path = .doe 0 then respond "IDE_KM" 0 [] (rset .HST_STATUS_IDE 0 0 1 { s with sec := { s.sec with ideKeyed := true } }) else unsupported s) s)

/-- `IDE_INTEGRITY_FAILURE` (R442): counted and reported; the manual states no further effect. -/
def execIdeIntegrityFailure (s : State) : Host.Outcome State Fault Refusal :=
  .next (if rget s .HST_STATUS_IDE = 1 then raise 50 (heatRec 0x78 0) (bump .SEC_EVT_COUNT .SEC_OVF_OVF 0 3 1 s) else s)

/-! ### Life-cycle requests (R433 to R438) -/

/-- A request that R433 admits: in a session of the physical function's mailbox or of MCTP. -/
def lcPath (via : Via) : Bool :=
  match via.path with
  | .doe f => f.val == 0
  | .i3c => true
  | .vdm => true

def lcRequest (via : Via) (go : State → State) (s : State) : State :=
  spdm via (fun s => if lcPath via && via.session.isSome then go s else unsupported s) s

/-- `LC_NONCE` (R433): a nonce is a free value. -/
def execLcNonce (via : Via) (s : State) : Host.Outcome State Fault Refusal :=
  .next (lcRequest via (fun s =>
    let n := toLe 32 (Config.freeBits 256 s.free).toNat
    respond "LC_NONCE" 0 n { s with free := s.free + 1, sec := { s.sec with nonce := some n } }) s)

/-- The tokens of a request. -/
def tokenList (b : List Byte) : List (List Byte) := (List.range (b.length / 480)).map fun i => slice b (480 * i) 480

def tokSigner (t : List Byte) : Nat := leAt t 0xC0 1
def tokSlot (t : List Byte) : Nat := leAt t 0xC1 1
def tokKey (t : List Byte) : List Byte := slice t 0xC8 133
def tokArg (t : List Byte) : Nat := leAt t 5 1
def tokPayload (t : List Byte) : List Byte := slice t 0x68 64

/-- A token's layout for an operation (R158, R434). -/
def tokForm (op : Nat) (t : List Byte) : Bool :=
  leAt t 0 4 == 0x4B54434C && leAt t 4 1 == op && leAt t 6 2 == 0 && leAt t 0xA8 24 == 0 &&
    (if op = 9 then decide (tokArg t ≤ 2) else tokArg t == 0) && (op == 8 || ofLe (tokPayload t) == 0) &&
    ((tokSigner t == 1 && decide (tokSlot t ≤ 2)) || (tokSigner t == 2 && tokSlot t == 0)) &&
    leAt t 0xC2 6 == 0 && leAt t 0x14D 3 == 0 && leAt t 0x1D4 12 == 0

/-- Who signs a token (R435). -/
inductive Signer where
  | vendor | vendorOther | owner | payload
  deriving DecidableEq, Repr

/-- A vendor slot's key signed. -/
def vendorSigned (s : State) (t : List Byte) : Bool := tokSigner t == 1 && vendorKey s (tokSlot t) (tokKey t)

/-- The signer is the one that R435 requires. -/
def signerOk (s : State) (w : Signer) (t : List Byte) : Bool :=
  match w with
  | .vendor => vendorSigned s t
  | .vendorOther => vendorSigned s t && tokSlot t != tokArg t
  | .owner => match ownerInForce s with
    | some h => tokSigner t == 2 && h == ofLe (sha512 (tokKey t))
    | none => vendorSigned s t
  | .payload => tokSigner t == 2 && sha512 (tokKey t) == tokPayload t

/-- The token's signature verifies over its first 336 bytes. -/
def tokVerifies (t : List Byte) : Bool := ecdsaOk (tokKey t) (t.take 0x150) (ofBe (slice t 0x150 66)) (ofBe (slice t 0x192 66))

/-- What `DEVICE` holds for this module (R434): the SHA-512 of the identity key, or of the serial number while there is none. -/
def deviceId (s : State) : List Byte :=
  match s.sec.pub with
  | some p => sha512 p
  | none => sha512 (toLe 64 Config.serial.toNat)

/-- Every context is FREE. -/
def allFree (s : State) : Bool := (List.range 16).all fun c => rget s .CTX_STATE_STATE c == 0

/-- The first status that fails (R436): `from'` holds the states that R435 allows, `needFree` the operations that need every context FREE, `slotOk` the
slot's own condition, `stateOk` what STATE covers beyond the state. -/
def lcStatus (op : Nat) (signers : List Signer) (states : List Nat) (stateOk needFree slotOk burn : Bool) (b : List Byte) (s : State) : Nat :=
  let ts := tokenList b
  if b.length ≠ 480 * signers.length ∨ !ts.all (tokForm op) then 1
  else if !states.contains (rget s .SEC_STATE_STATE) ∨ !stateOk then 2
  else if !ts.all fun t => slice t 8 64 == deviceId s then 3
  else if !ts.all fun t => s.sec.nonce == some (slice t 0x48 32) then 4
  else if !(signers.zip ts).all fun e => signerOk s e.1 e.2 then 5
  else if !ts.all tokVerifies then 6
  else if needFree && !allFree s then 7
  else if !slotOk then 8
  else if !burn then 9
  else 0

/-- A request that fails is counted and reported. -/
def lcFail (op st : Nat) (s : State) : State :=
  respond "LC_REQUEST" st [] (raise 50 (heatRec 0x71 (op ||| st <<< 8)) (bump .SEC_EVT_COUNT .SEC_OVF_OVF 0 0 1 s))

/-- A life-cycle request: checked, answered, the nonce used up. A fuse that fails its read-back holds the next start. -/
def lcRun (via : Via) (op st : Nat) (go : State → State) (s : State) : State :=
  lcRequest via (fun s =>
    let s' := { s with sec := { s.sec with nonce := none } }
    if rget s .SEC_STATE_BUSY = 1 then lcFail op 7 s'
    else
      if st = 0 then go s'
      else lcFail op st (if st = 9 then { s' with start := { s'.start with fuseFail := true } } else s')) s

def lcOk (data : List Byte) (s : State) : State := respond "LC_REQUEST" 0 data s

/-- A change of the life-cycle state is reported. -/
def lcChange (old : Nat) (s : State) : State := raise 50 (heatRec 0x72 (old ||| rget s .SEC_STATE_STATE <<< 3)) s

/-- Burns the next life-cycle bit. -/
def nextLife (s : State) : State := lcChange (rget s .SEC_STATE_STATE) (setLife (burnLife s))

/-- `PROVISION` (R427, R435): the identity key is a free value; the next cold reset unseals it into the key register. -/
def execProvision (via : Via) (tokens : List Byte) (burn : Bool) (s : State) : Host.Outcome State Fault Refusal :=
  .next (lcRun via 1 (lcStatus 1 [.vendor] [0] true false true burn tokens s) (fun s =>
    let p := 4 :: toLe 132 (Config.freeBits 1056 s.free).toNat
    lcOk p (nextLife { s with free := s.free + 1, sec := { s.sec with pub := some p } })) s)

/-- `SHIP` (R435). -/
def execShip (via : Via) (tokens : List Byte) (burn : Bool) (s : State) : Host.Outcome State Fault Refusal :=
  .next (lcRun via 2 (lcStatus 2 [.vendor] [1] (rget s .SEC_STATE_CERT_OK == 1) false true burn tokens s) (fun s => lcOk [] (nextLife s)) s)

/-- `DEBUG_ON` (R431, R435). -/
def execDebugOn (via : Via) (tokens : List Byte) (s : State) : Host.Outcome State Fault Refusal :=
  .next (lcRun via 3 (lcStatus 3 [.owner] [2] true false true true tokens s) (fun s =>
    lcOk [] (lcChange (rget s .SEC_STATE_STATE) (rset .SEC_STATE_STATE 0 0 3 s))) s)

/-- The registers that DEBUG_OFF clears. -/
def debugField (f : F) : Bool :=
  [.WRK_DBG_HALT, .WRK_DBG_STEP, .WRK_DBG_THREAD, .WRK_DBG_BREAK, .WRK_DBG_BREAK_EN, .CTX_CAPCFG_CAPTURE, .CTX_CAPCFG_SAMPLE, .CTX_CAPCFG_LS_PAGE,
    .CTX_CAPCFG_CM_PAGE, .CTX_CAPCFG_BASE_PAGE].contains f

/-- `DEBUG_OFF` (R435): no token; halted workers resume. -/
def execDebugOff (via : Via) (tokens : List Byte) (s : State) : Host.Outcome State Fault Refusal :=
  .next (lcRun via 4 (lcStatus 4 [] [3] true false true true tokens s) (fun s =>
    let s := { s with flds := s.flds.filter fun e => !debugField e.1.f }
    lcOk [] (lcChange 3 (rset .SEC_STATE_STATE 0 0 2 s))) s)

/-- Burns the revoke bit of an owner slot. -/
def revokeOwner (k : Nat) (s : State) : State := rset .SEC_STATE_OREVOKED 0 0 (setFld (rget s .SEC_STATE_OREVOKED) k 1 1) s

/-- A load is in progress: OWNER_KEY and RETURN come after it (R161, R436). -/
def loading (s : State) : Bool := s.ctxs.any fun e => e.2.load.isSome

/-- `RETURN` (R435, R437): the owner slot is revoked first, the life-cycle bit burned second; the answer waits for the wipes. -/
def execReturnOp (via : Via) (tokens : List Byte) (burn : Bool) (s : State) : Host.Outcome State Fault Refusal :=
  if loading s then .next s
  else .next (lcRun via 5 (lcStatus 5 [.owner, .vendor] [2, 3] true true true burn tokens s) (fun s =>
    let s := nextLife (revokeOwner (rget s .SEC_STATE_LIFE - 1) s)
    rset .SEC_STATE_BUSY 0 0 1 { s with reply := none, sec := { s.sec with wipe := some via } }) s)

/-- Comb memory, scout scratch and local stores hold zeros, without poison. -/
def wipeCombs (s : State) : State :=
  { mwipe (fun k => decide (2 ^ 60 ≤ k ∧ k < 2 ^ 63)) s with
    poison := s.poison.filter fun k => decide (k < 2 ^ 53)
    pcombs := s.pcombs.map fun (e : Nat × PComb) => (e.1, { e.2 with scouts := 0 }) }

/-- `RETURN_WIPE_COMPLETE` (R437): every wipe has ended, and the request completes. -/
def execReturnWipeComplete (s : State) : Host.Outcome State Fault Refusal :=
  .next (match s.sec.wipe with
    | none => s
    | some _ => lcOk [] (rset .SEC_STATE_BUSY 0 0 0 (eraseFlash (wipeCombs (wipeEave { s with sec := { s.sec with wipe := none } })))))

/-- `REFIELD` (R435): from RETURNED of life 1 or 2. -/
def execRefield (via : Via) (tokens : List Byte) (burn : Bool) (s : State) : Host.Outcome State Fault Refusal :=
  .next (lcRun via 6 (lcStatus 6 [.vendor] [4] (decide (rget s .SEC_STATE_LIFE ≤ 2)) false true burn tokens s) (fun s => lcOk [] (nextLife s)) s)

/-- `SCRAP` (R435): every remaining life-cycle bit and every owner revoke bit is burned. -/
def execScrap (via : Via) (tokens : List Byte) (burn : Bool) (s : State) : Host.Outcome State Fault Refusal :=
  .next (lcRun via 7 (lcStatus 7 [.vendor] [1, 4] true true true burn tokens s) (fun s =>
    let old := rget s .SEC_STATE_STATE
    lcOk [] (lcChange old (setLife (rset .SEC_STATE_OREVOKED 0 0 7 (rset .SEC_STATE_LC_ROW 0 0 0xFF s))))) s)

def clearCache (s : State) : State := { s with flash := { s.flash with cache := [] } }

/-- `OWNER_KEY` (R428, R435, R455): the slot of the current life is fused with the hash that the token carries. -/
def execOwnerKey (via : Via) (tokens : List Byte) (burn : Bool) (s : State) : Host.Outcome State Fault Refusal :=
  let k := rget s .SEC_STATE_LIFE - 1
  if loading s then .next s
  else .next (lcRun via 8 (lcStatus 8 [.payload] [2] (!bit (rget s .SEC_STATE_OREVOKED) k) false (!bit (rget s .SEC_STATE_OFUSED) k) burn tokens s) (fun s =>
    let h := tokPayload tokens
    let s := (List.range 8).foldl (fun s j => rset .SEC_OKEY_HASH 0 (8 * k + j) (leAt h (8 * j) 8) s) s
    let s := clearCache (rset .SEC_STATE_OFUSED 0 0 (setFld (rget s .SEC_STATE_OFUSED) k 1 1) s)
    lcOk [] (raise 50 (heatRec 0x73 k) (rset .SEC_STATE_OWNER_ACTIVE 0 0 (b2n (ownerInForce s).isSome) s))) s)

/-- Some other vendor slot is fused and not revoked. -/
def vendorLeft (s : State) (k : Nat) : Bool :=
  (List.range 3).any fun x => x != k && bit (rget s .SEC_STATE_VFUSED) x && !bit (rget s .SEC_STATE_VREVOKED) x

/-- `VENDOR_REVOKE` (R428, R435, R455). -/
def execVendorRevoke (via : Via) (tokens : List Byte) (burn : Bool) (s : State) : Host.Outcome State Fault Refusal :=
  let k := tokArg tokens
  .next (lcRun via 9 (lcStatus 9 [.vendorOther] [0, 1, 2, 3, 4] true false (vendorLeft s k) burn tokens s) (fun s =>
    let s := clearCache (rset .SEC_STATE_VREVOKED 0 0 (setFld (rget s .SEC_STATE_VREVOKED) k 1 1) s)
    lcOk [] (raise 50 (heatRec 0x74 k) s)) s)

/-- Every volatile secret is cleared (R438). -/
def clearSecrets (s : State) : State :=
  rset .HST_STATUS_IDE 0 0 0 (rset .SEC_STATE_KEY_OK 0 0 0
    { s with sec := { s.sec with key := false, sessions := [], ideKeyed := false, nonce := none } })

/-- `SCAN_ON` (R438). -/
def execScanOn (via : Via) (tokens : List Byte) (s : State) : Host.Outcome State Fault Refusal :=
  .next (lcRun via 10 (lcStatus 10 [.vendor] [0, 4] true true true true tokens s) (fun s =>
    lcOk [] (raise 50 (heatRec 0x75 0) (rset .SEC_STATE_SCAN 0 0 1 (rset .SEC_STATE_KEYLOCK 0 0 1 (clearSecrets s))))) s)

end Sys2Proof.Machine
end

