-- ==== Sys2Proof/Machine/Keeper.lean ====
section
/-! DEFINITION. The keeper: its tick duties, its resets, management messages, life counters, coolant (R215 to R217, R307, R347, R412, R444 to R456,
R469, R474). -/

namespace Sys2Proof.Machine

/-! ### Readings (R215) -/

def regionTemp (r : Readings) (i : Nat) : Nat :=
  (((r.region.filter fun e => e.1.val == i).flatMap fun e => e.2).map BitVec.toNat).foldl max 0

/-- The module temperature: the largest of the region and segment sensors. -/
def moduleTemp (r : Readings) : Nat :=
  max (((List.range 42).map (regionTemp r)).foldl max 0) ((r.segment.map fun e => e.2.toNat).foldl max 0)

/-- What hardware does at a tick boundary, whatever the keeper does: ticks and energy count, sensors are sampled, a region's `HOT` counts its
boundaries and clears at the second one below 106.0 °C, the lane counts of R247 begin anew, and holds count (R219, R447). -/
def tickHardware (r : Readings) (s : State) : State :=
  let s := { s with tick := s.tick + 1, laneFails := [] }
  let s := rset .PWR_ENERGY_UJ 0 0 ((rget s .PWR_ENERGY_UJ + r.uj.toNat) % 2 ^ 64) s
  let s := (List.range 42).foldl (fun s i => rset .PWR_RSTAT_TMAX i 0 (regionTemp r i) s) s
  let s := r.region.foldl (fun s e => (e.2.mapIdx fun n t => (n, t)).foldl (fun s x =>
    if x.1 < 8 then rset .PWR_RTEMP_TEMP e.1.val x.1 (min 255 (x.2.toNat / 4)) s else s) s) s
  let s := r.volts.foldl (fun s e => (e.2.mapIdx fun n v => (n, v)).foldl (fun s x =>
    if x.1 < 4 then rset .PWR_RVOLT_VMON e.1.val x.1 x.2.toNat s else s) s) s
  let s := ((List.range 42).filter fun i => rget s .PWR_RSTAT_HOT i == 1).foldl (fun s i =>
    let n := min 2 (rget s .PWR_RSTAT_HOT_TICKS i + 1)
    if n = 2 ∧ regionTemp r i < 848 then rset .PWR_RSTAT_HOT i 0 0 (rset .PWR_RSTAT_HOT_TICKS i 0 0 s)
    else rset .PWR_RSTAT_HOT_TICKS i 0 n s) s
  (List.range 16).foldl (fun s c => if rget s .CTX_STATE_STATE c = 3 then ctxMod c (fun x => { x with heldTicks := x.heldTicks + 1 }) s else s) s

/-! ### Duties (R444) -/

/-- Duty 2: the module temperature steps the pause ratio (R216). -/
def dutyHeat (r : Readings) (s : State) : State :=
  let t := moduleTemp r
  let v := rget s .PWR_HEAT_RATIO
  let v := if 776 ≤ t then min 16 (v + 2) else if t < 760 then v - 1 else v
  let s := rset .PWR_HEAT_RATIO 0 0 v (rset .PWR_HEAT_TMAX 0 0 t { s with keeper := { s.keeper with island := r.keeper.toNat } })
  if 776 ≤ t then rset .KPR_ALERT_HEAT 0 0 1 s else s

/-- The heartbeat of a physical comb at this boundary and the checked boundaries at which it was unchanged; none while its comb array sleeps or is
off. -/
def beatNow (r : Readings) (s : State) (pc : Nat) : Option (Nat × (Nat × Nat)) :=
  let k := pcGet s pc
  if !k.good ∨ 2 ≤ rget s .PWR_RSTAT_CA_STATE (pcRegion pc) then none
  else
    match s.keeper.beats.find? fun e => e.1 == pc with
    | some (_, (b, n)) => some (pc, (k.beat, if (r.ran.map (·.val)).contains (pcRegion pc) ∧ k.beat = b then n + 1 else 0))
    | none => some (pc, (k.beat, 0))

/-- Duty 3: heartbeats of every comb (R307). -/
def dutyBeats (r : Readings) (s : State) : State :=
  if stageOf s < 14 then s
  else
    let l := (List.range 840).filterMap (beatNow r s)
    let dead := (l.filter fun e => decide (2 ≤ e.2.2)).map (·.1)
    dead.foldl (fun s pc => if (pcGet s pc).fault then s else sharedFault pc s)
      { s with keeper := { s.keeper with beats := l.filter fun e => decide (e.2.2 < 2) } }

/-- Duty 4: the records of masked failures (R319), then every record that waits is accepted (R331). -/
def dutyRecords (s : State) : State :=
  acceptAll ((List.range 16).foldl (fun s c => match (ctxGet s c).maskedDue with
    | some r => raise 50 r (ctxMod c (fun x => { x with maskedDue := none }) s)
    | none => s) s)

/-- Duty 5: a ridge signal that waits for a halted ridge-phase chain, or for the place of its record, holds its context (R303); then hold
timeouts (R347). -/
def dutyHolds (s : State) : State :=
  let s := (List.range 16).foldl (fun s c =>
    if rget s .CTX_STATE_STATE c = 2 ∧ (ctxGet s c).phase = .released ∧ ridgeStuck s c then
      hold c 0x40 (some (recX s c 0x40 5 0)) (ctxMod c (fun x => { x with ridgeHold := true }) s)
    else s) s
  (List.range 16).foldl (fun s c => holdTimeout c s) s

/-- A region in no allotment. -/
def unalloted (s : State) (r : Nat) : Bool := !(List.range 16).any fun c => match (ctxGet s c).allot with | some a => a.hasRegion r | none => false

/-- The keeper wakes a region of a new grant: it sleeps or is off, in service, with its spine in RUN, outside a trip. A region in HOT_OFF or TRIP_OFF comes
back by R221 or R223 only. -/
def wakesFor (s : State) (r : Nat) : Bool :=
  (rget s .PWR_RSTAT_CA_STATE r == 2 || rget s .PWR_RSTAT_CA_STATE r == 3) && rget s .PWR_RSTAT_SP_STATE r == 0 &&
    rget s .CMB_RMAP_WITHDRAWN r == 0 && rget s .PWR_HEAT_TRIPPED == 0 && !s.keeper.waking.contains r &&
    (List.range 16).any fun c => (ctxGet s c).grantTag.isSome && inRegion s r c

/-- Duty 8: idle and cool regions count, and the regions of new grants wake, each recorded with its tick (R214, R221). -/
def dutyRegions (s : State) : State :=
  let idle := (List.range 42).filterMap fun r =>
    if unalloted s r && rget s .PWR_RSTAT_CA_STATE r ≤ 1 then some (r, tget 0 s.keeper.idle r + 1) else none
  let cool := (List.range 42).filterMap fun r =>
    if rget s .PWR_RSTAT_CA_STATE r = 4 then some (r, if rget s .PWR_RSTAT_TMAX r < 800 then tget 0 s.keeper.cool r + 1 else 0) else none
  let due := (List.range 42).filter (wakesFor s)
  { s with keeper := { s.keeper with idle := idle, cool := cool, waking := s.keeper.waking ++ due
                                     woke := due.foldl (fun l r => tset l r s.tick) s.keeper.woke } }

/-- The input voltage is in range, in mV. -/
def inputOk (r : Readings) : Bool := decide (46000 ≤ r.mv.toNat) && decide (r.mv.toNat ≤ 58000)

/-- The coolant readings are in range (R474). -/
def coolantOk (r : Readings) : Bool := decide (160 ≤ r.inlet.toNat) && decide (r.inlet.toNat ≤ 360) && decide (r.outlet.toNat ≤ 480)

/-- The input check of R469. -/
def dutyInput (r : Readings) (s : State) : State :=
  if inputOk r then s else raise 50 (heatRec 0x33 (b2n (decide (58000 < r.mv.toNat)) ||| (r.mv.toNat / 10) <<< 16)) s

/-- An estimate of the coolant flow is made. -/
def flowKnown (w inlet outlet : Nat) : Bool := decide (5000 ≤ w) && decide (inlet + 4 ≤ outlet)

/-- The flow, 0.98 × P ÷ (66.3 × ΔT), is below `q` L/min. -/
def flowBelow (q w inlet outlet : Nat) : Bool := decide (784 * w < q * 6630 * (outlet - inlet))

/-- The coolant check of R474. -/
def dutyCoolant (r : Readings) (s : State) : State :=
  let i := r.inlet.toNat
  let o := r.outlet.toNat
  let w := r.w.toNat
  let s := if i < 160 then raise 50 (heatRec 0x34 (i <<< 16)) s else if 360 < i then raise 50 (heatRec 0x34 (1 ||| i <<< 16)) s else s
  let s := if 480 < o then raise 50 (heatRec 0x34 (2 ||| o <<< 16)) s else s
  let s := if flowKnown w i o then
      let lo := if flowBelow 16 w i o then s.keeper.flowLow + 1 else 0
      let hi := if s.keeper.flowBad && !flowBelow 18 w i o then s.keeper.flowHigh + 1 else 0
      { s with keeper := { s.keeper with flowLow := lo, flowHigh := hi % 8, flowBad := s.keeper.flowBad && decide (hi < 8) } }
    else s
  if 440 ≤ i ∨ 560 ≤ o then trip s else s

/-- Duty 10: the snapshot (R451, R456, R473) and the promise (R328, R469). An hour is 2,880,000 ticks. The eave bandwidth and capacity in force (R15)
are not published here: no telemetry register carries them, and `EAV_SEG.RATE` and `IN_SERVICE` show them (assumption 115). -/
def dutyTelemetry (r : Readings) (s : State) : State :=
  let h := s.keeper.hotHours
  let hot := decide (776 ≤ moduleTemp r)
  let a := h.1 + 1
  let b := if hot then h.2.1 + 1 else h.2.1
  let s := if a = 2880000 then rset .TLM_LIFE_HOURS 0 0 (min 0xFFFFFFFF (rget s .TLM_LIFE_HOURS + 1)) s else s
  let s := if b = 2880000 then rset .TLM_LIFE_HOT_HOURS 0 0 (min 0xFFFF (rget s .TLM_LIFE_HOT_HOURS + 1)) s else s
  let s := { s with keeper := { s.keeper with hotHours := (a % 2880000, b % 2880000, h.2.2 + 1) } }
  let ok := inputOk r && coolantOk r && ctrlWhole s && !s.keeper.flowBad && !s.keeper.promiseBad
  let s := if stageOf s = 14 ∨ !ok then healthSet .BST_HEALTH_PROMISE (b2n ok) s else s
  let s := rset .TLM_POWER_MV 0 0 r.mv.toNat <| rset .TLM_POWER_DA 0 0 r.da.toNat <| rset .TLM_POWER_W 0 0 r.w.toNat <|
    rset .TLM_COOL_INLET 0 0 r.inlet.toNat <| rset .TLM_COOL_OUTLET 0 0 r.outlet.toNat s
  rset .TLM_SEQ_SEQ 0 0 (seqNext (rget s .TLM_SEQ_SEQ)) s

/-- After a SHUTDOWN the keeper counts ticks and keeps the extremes of its own temperature (R412). -/
def dutyStandby (r : Readings) (s : State) : State :=
  match s.start.shutdown with
  | some (t, lo, hi) => { s with start := { s.start with shutdown := some (t + 1, min lo r.keeper.toNat, max hi r.keeper.toNat) } }
  | none => s

/-- The keeper runs its firmware: from stage 0x02, outside keeper resets and recovery. -/
def dutiesRun (s : State) : Bool := keeperUp s && decide (2 ≤ stageOf s)

/-- Duty 3: workers that a step's failures named are fenced, with the steps they served reported, and moves whose paths have drained are made (R18, R26,
R311, R321). -/
def dutyFences (s : State) : State :=
  let l := s.keeper.fenceAsk
  movesAtTick (l.foldl (fun s e => fenceWorker e.1 e.2.1 (suspectReport e.1 e.2.1 e.2.2 0 s))
    { s with keeper := { s.keeper with fenceAsk := [] } })

/-- The duties of a tick boundary in their order. Step watchdogs, context resets, fences and the grid points of rotation are commands of their own. -/
def duties (r : Readings) (s : State) : State :=
  dutyTelemetry r (dutyStandby r (takeInbox (dutyRegions (swapsAtTick (dutyHolds (dutyRecords (dutyFences (dutyBeats r
    (dutyCoolant r (dutyInput r (dutyHeat r s)))))))))))

/-- `TICK_BOUNDARY` (R444). -/
def execTickBoundary (r : Readings) (s : State) : Host.Outcome State Fault Refusal :=
  if !s.powerIn.good then .next s
  else
    let s := tickHardware r s
    .next (if dutiesRun s then duties r s else s)

/-- `FLOW_LOW` (R474): the estimate was below 16.0 L/min at 8 consecutive boundaries. The record carries the estimate and the outlet reading. -/
def execFlowLow (s : State) : Host.Outcome State Fault Refusal :=
  if s.keeper.flowBad ∨ s.keeper.flowLow < 8 ∨ !dutiesRun s then .next s
  else
    let d := rget s .TLM_COOL_OUTLET - rget s .TLM_COOL_INLET
    let q := 784 * rget s .TLM_POWER_W / (6630 * d)
    .next (healthSet .BST_HEALTH_PROMISE 0 (raise 50 (heatRec 0x34 (3 ||| (q % 256) <<< 8 ||| rget s .TLM_COOL_OUTLET <<< 16))
      { s with keeper := { s.keeper with flowBad := true, flowLow := 0, flowHigh := 0 } }))

/-- `LIFE_COUNTER_WRITE` (R456): every 800,000 ticks. -/
def execLifeCounterWrite (s : State) : Host.Outcome State Fault Refusal :=
  let h := s.keeper.hotHours
  .next (if 800000 ≤ h.2.2 ∧ dutiesRun s then
      { s with keeper := { s.keeper with hotHours := (h.1, h.2.1, 0) }, flash := { s.flash with life := lifeNow s } }
    else s)

/-! ### Keeper resets (R447) -/

/-- `KEEPER_RESET` (R433, R447): the data plane runs on; the nonce is cleared. -/
def execKeeperReset (s : State) : Host.Outcome State Fault Refusal :=
  .next (if s.keeper.inReset ∨ !s.powerIn.good then s
    else bump .KPR_EVT_COUNT .KPR_OVF_OVF 0 0 1 (rset .KPR_ALERT_KRESET 0 0 1 (rset .KPR_STATUS_KRESET 0 0 1
      { s with keeper := { s.keeper with inReset := true }, sec := { s.sec with nonce := none } })))

/-- A reference loss that came during the reset. -/
def referenceLate (s : State) : State := if s.keeper.refPending then referenceGone s else s

/-- `KEEPER_RESUME` (R420, R447): the keeper comes back with one pass of its duties; a start fails its stage; a keeper that cannot resume safely
resets the module cold. -/
def execKeeperResume (copyOk flashOk retained : Bool) (r : Readings) (s : State) : Host.Outcome State Fault Refusal :=
  if !s.keeper.inReset ∨ !s.powerIn.good then .next s
  else if (!copyOk && (rget s .KPR_FWUPD_PENDING == 1 || !flashOk)) || !retained then .next (coldReset true s)
  else
    let s := rset .KPR_STATUS_KRESET 0 0 0 { s with keeper := { s.keeper with inReset := false } }
    let s := referenceLate s
    .next (if stageOpen s then failStage 1 none s else if dutiesRun s then duties r s else s)

/-! ### Management messages (R448 to R452) -/

/-- `SET_ENDPOINT_ID` (R448): by the bus owner, separately per binding. -/
def execSetEndpointId (via : Binding) (eid : BitVec 8) (s : State) : Host.Outcome State Fault Refusal :=
  .next (mgmt via (fun s =>
    respond "SUCCESS" 0 [eid] { s with keeper := { s.keeper with eids := (s.keeper.eids.filter fun e => e.1 != via) ++ [(via, eid.toNat)] } }) s)

/-- `ENTDAA` (R448): the dynamic I3C address. -/
def execEntdaa (addr : BitVec 7) (s : State) : Host.Outcome State Fault Refusal :=
  .next (if s.keeper.inReset then s else { s with keeper := { s.keeper with i3c := addr.toNat } })

/-- `MCTP_WARM_RESET` (R223, R449). -/
def execMctpWarmReset (via : Binding) (s : State) : Host.Outcome State Fault Refusal :=
  .next (mgmt via (fun s => if tripHot s then respond "ERROR_NOT_READY" 4 [] s else warmRequest (respond "SUCCESS" 0 [] s)) s)

/-- `MCTP_COLD_RESET` (R449, R458): it waits while the image area is written. -/
def execMctpColdReset (via : Binding) (s : State) : Host.Outcome State Fault Refusal :=
  .next (mgmt via (fun s => if writingImage s then { s with keeper := { s.keeper with coldAsk := true } } else coldReset false (respond "SUCCESS" 0 [] s)) s)

/-- `MCTP_READ_STATUS` (R449): `KPR_STATUS` and `KPR_ALERT`. -/
def execMctpReadStatus (via : Binding) (s : State) : Host.Outcome State Fault Refusal :=
  .next (mgmt via (fun s => respond "SUCCESS" 0 (regLe s .KPR_STATUS 0 0 4 ++ regLe s .KPR_ALERT 0 0 4) s) s)

/-- `MCTP_WRITE_ALERT` (R449, R450): as the physical function writes the register. -/
def execMctpWriteAlert (via : Binding) (v : BitVec 32) (s : State) : Host.Outcome State Fault Refusal :=
  .next (mgmt via (fun s => match rowOf .KPR_ALERT with
    | some r => respond "SUCCESS" 0 [] (plainWrite r 0 0 v.toNat v.toNat s)
    | none => s) s)

/-- `PLDM_DISCOVERY` (R448): the commands of type 0; GetPLDMTypes names types 0, 2 and 5. -/
def execPldmDiscovery (via : Binding) (cmd : BitVec 8) (s : State) : Host.Outcome State Fault Refusal :=
  .next (mgmt via (fun s =>
    if cmd.toNat = 0 ∨ 5 < cmd.toNat then respond "ERROR_UNSUPPORTED_PLDM_CMD" 5 [] s
    else respond "SUCCESS" 0 (if cmd = 4 then [0x25] else []) s) s)

/-- A sensor's reading in the register's own unit (R452). -/
def sensorValue (s : State) (n : Nat) : Option Nat :=
  if n = 1 then some (rget s .PWR_HEAT_TMAX)
  else if 2 ≤ n ∧ n ≤ 43 then some (rget s .PWR_RSTAT_TMAX (n - 2))
  else match n with
    | 44 => some (rget s .TLM_COOL_INLET)
    | 45 => some (rget s .TLM_COOL_OUTLET)
    | 46 => some (rget s .TLM_POWER_MV)
    | 47 => some (rget s .TLM_POWER_W)
    | 48 => some (rget s .PWR_ENERGY_UJ / 1000000)
    | 49 => some (rget s .BST_LIFE_DAYS)
    | _ => none

/-- `SENSOR_READ` (R452). -/
def execSensorRead (via : Binding) (sensor : BitVec 16) (s : State) : Host.Outcome State Fault Refusal :=
  .next (mgmt via (fun s => match sensorValue s sensor.toNat with
    | some v => respond "SUCCESS" 0 (toLe 8 v) s
    | none => respond "INVALID_SENSOR_ID" 0x80 [] s) s)

end Sys2Proof.Machine
end

