-- ==== Sys2Proof/Machine/InputPower.lean ====
section
/-! DEFINITION. Input power: soft start, the input switches, input power good, the power-fail sequence (R466 to R471). -/

namespace Sys2Proof.Machine

/-- `SOFT_START` (R468): at 44.0 V to 60.0 V open switches charge the bus. After three failures they stay open until the input has been below
10 V for 1 s; the command with such a voltage is the end of that second. -/
def execSoftStart (mv : Nat) (s : State) : Host.Outcome State Fault Refusal :=
  let p := s.powerIn
  .next (if mv < 10000 then { s with powerIn := { p with locked := false, fails := if p.locked then 0 else p.fails } }
    else if p.switch = 0 ∧ !p.locked ∧ 44000 ≤ mv ∧ mv ≤ 60000 then { s with powerIn := { p with switch := 1 } }
    else s)

/-- `INPUT_SWITCH_CLOSE` (R468): the bus is within 1.0 V of the input. -/
def execInputSwitchClose (s : State) : Host.Outcome State Fault Refusal :=
  .next (if s.powerIn.switch = 1 then { s with powerIn := { s.powerIn with switch := 2, fails := 0 } } else s)

/-- `SOFT_START_FAULT` (R468): the switches open; the third failure locks them. -/
def execSoftStartFault (s : State) : Host.Outcome State Fault Refusal :=
  let p := s.powerIn
  .next (if p.switch = 1 then { s with powerIn := { p with switch := 0, fails := p.fails + 1, locked := decide (3 ≤ p.fails + 1) } } else s)

/-- `INPUT_POWER_GOOD` (R468, R470): the keeper leaves reset and stage 0x00 of a cold start begins. -/
def execInputPowerGood (s : State) : Host.Outcome State Fault Refusal :=
  .next (if s.powerIn.switch = 2 ∧ !s.powerIn.good then
      coldReset true { s with powerIn := { s.powerIn with good := true, failing := false } }
    else s)

/-- `INPUT_OVERVOLTAGE` (R469): both switches open; the power-fail sequence follows as a command of its own. -/
def execInputOvervoltage (s : State) : Host.Outcome State Fault Refusal := .next { s with powerIn := { s.powerIn with switch := 0 } }

/-- `POWER_FAIL_SEQUENCE` (R470): every comb array, spine and segment goes off, eave memory with the segments; the keeper is held in reset and
writes nothing to flash. The module comes back at the next input power good only. -/
def execPowerFailSequence (s : State) : Host.Outcome State Fault Refusal :=
  .next (if !s.powerIn.good then s
    else
      let s := segmentsOff (fun _ => true) (regionsOff s)
      { s with powerIn := { s.powerIn with switch := 0, good := false, failing := true }
               keeper := { s.keeper with inReset := true }, sec := { s.sec with nonce := none } })

/-- `BLADE_IDLE` (R467): the blade carried no current for a whole tick at 1,000 W or more. -/
def execBladeIdle (blade : Fin 2) (s : State) : Host.Outcome State Fault Refusal :=
  .next (if dutiesRun s ∧ 1000 ≤ rget s .TLM_POWER_W then
      raise 50 (heatRec 0x33 (2 ||| blade.val <<< 2 ||| (rget s .TLM_POWER_MV / 10) <<< 16)) s
    else s)

end Sys2Proof.Machine
end

