-- ==== Sys2Proof/Machine/Matrix.lean ====
section
/-! DEFINITION. The matrix operations of a slot (R50). Each row fires the whole slot that performs its operation, the other groups of the slot with it (R42; assumption 1). -/

namespace Sys2Proof.Machine

/-- `MMA` (R65). -/
def execMma (f : Fire) (s : State) : Host.Outcome State Fault Refusal :=
  .next (fireOp f (fun sl => sl.mop == 0x1) s)

/-- `MMAZ` (R50). -/
def execMmaz (f : Fire) (s : State) : Host.Outcome State Fault Refusal :=
  .next (fireOp f (fun sl => sl.mop == 0x2) s)

/-- `DRAIN` (R106). -/
def execDrain (f : Fire) (s : State) : Host.Outcome State Fault Refusal :=
  .next (fireOp f (fun sl => sl.mop == 0x3) s)

/-- `CLEAR` (R50). -/
def execClear (f : Fire) (s : State) : Host.Outcome State Fault Refusal :=
  .next (fireOp f (fun sl => sl.mop == 0x4) s)

end Sys2Proof.Machine
end

