-- ==== Sys2Proof/Machine/Memory.lean ====
section
/-! DEFINITION. The memory operations of a slot (R56). Each row fires the whole slot that performs its operation, the other groups of the slot with it (R42; assumption 1). -/

namespace Sys2Proof.Machine

/-- `LDV` (R56). -/
def execLdv (f : Fire) (s : State) : Host.Outcome State Fault Refusal :=
  .next (fireOp f (fun sl => sl.memop == 0x1) s)

/-- `STV` (R56). -/
def execStv (f : Fire) (s : State) : Host.Outcome State Fault Refusal :=
  .next (fireOp f (fun sl => sl.memop == 0x2) s)

/-- `LDS` (R56). -/
def execLds (f : Fire) (s : State) : Host.Outcome State Fault Refusal :=
  .next (fireOp f (fun sl => sl.memop == 0x3) s)

/-- `STS` (R56). -/
def execSts (f : Fire) (s : State) : Host.Outcome State Fault Refusal :=
  .next (fireOp f (fun sl => sl.memop == 0x4) s)

/-- `CMRD` (R63). -/
def execCmrd (f : Fire) (s : State) : Host.Outcome State Fault Refusal :=
  .next (fireOp f (fun sl => sl.memop == 0x5) s)

/-- `CMWR` (R63). -/
def execCmwr (f : Fire) (s : State) : Host.Outcome State Fault Refusal :=
  .next (fireOp f (fun sl => sl.memop == 0x6) s)

/-- `RTLS` (R56). -/
def execRtls (f : Fire) (s : State) : Host.Outcome State Fault Refusal :=
  .next (fireOp f (fun sl => sl.memop == 0x7) s)

/-- `RTB` (R56). -/
def execRtb (f : Fire) (s : State) : Host.Outcome State Fault Refusal :=
  .next (fireOp f (fun sl => sl.memop == 0x8) s)

/-- `LDB` (R56). -/
def execLdb (f : Fire) (s : State) : Host.Outcome State Fault Refusal :=
  .next (fireOp f (fun sl => sl.memop == 0x9) s)

end Sys2Proof.Machine
end

