-- ==== Sys2Proof/Machine/Messages.lean ====
section
/-! DEFINITION. The sync and message operations of a slot (R59). Each row fires the whole slot that performs its operation, the other groups of the slot with it (R42; assumption 1). -/

namespace Sys2Proof.Machine

/-- `SIG` (R59). -/
def execSig (f : Fire) (s : State) : Host.Outcome State Fault Refusal :=
  .next (fireOp f (fun sl => syncOp sl == 0x1) s)

/-- `WAIT` (R280). -/
def execWait (f : Fire) (s : State) : Host.Outcome State Fault Refusal :=
  .next (fireOp f (fun sl => syncOp sl == 0x2) s)

/-- `RSIG` (R283). -/
def execRsig (f : Fire) (s : State) : Host.Outcome State Fault Refusal :=
  .next (fireOp f (fun sl => syncOp sl == 0x3) s)

/-- `SEND` (R274). -/
def execSend (f : Fire) (s : State) : Host.Outcome State Fault Refusal :=
  .next (fireOp f (fun sl => syncOp sl == 0x4) s)

/-- `POP` (R276). -/
def execPop (f : Fire) (s : State) : Host.Outcome State Fault Refusal :=
  .next (fireOp f (fun sl => syncOp sl == 0x5) s)

end Sys2Proof.Machine
end

