-- ==== Sys2Proof/Machine/Scalar.lean ====
section
/-! DEFINITION. The scalar operations of a slot (R55). Each row fires the whole slot that performs its operation, the other groups of the slot with it (R42; assumption 1). -/

namespace Sys2Proof.Machine

/-- `SCALAR_ADD` (R55). -/
def execScalarAdd (f : Fire) (s : State) : Host.Outcome State Fault Refusal :=
  .next (fireOp f (fun sl => sl.sop == 0x1) s)

/-- `SCALAR_SUB` (R55). -/
def execScalarSub (f : Fire) (s : State) : Host.Outcome State Fault Refusal :=
  .next (fireOp f (fun sl => sl.sop == 0x2) s)

/-- `SCALAR_AND` (R55). -/
def execScalarAnd (f : Fire) (s : State) : Host.Outcome State Fault Refusal :=
  .next (fireOp f (fun sl => sl.sop == 0x3) s)

/-- `SCALAR_OR` (R55). -/
def execScalarOr (f : Fire) (s : State) : Host.Outcome State Fault Refusal :=
  .next (fireOp f (fun sl => sl.sop == 0x4) s)

/-- `SCALAR_XOR` (R55). -/
def execScalarXor (f : Fire) (s : State) : Host.Outcome State Fault Refusal :=
  .next (fireOp f (fun sl => sl.sop == 0x5) s)

/-- `SCALAR_SHL` (R55). -/
def execScalarShl (f : Fire) (s : State) : Host.Outcome State Fault Refusal :=
  .next (fireOp f (fun sl => sl.sop == 0x6) s)

/-- `SCALAR_SHR` (R55). -/
def execScalarShr (f : Fire) (s : State) : Host.Outcome State Fault Refusal :=
  .next (fireOp f (fun sl => sl.sop == 0x7) s)

/-- `SCALAR_SRA` (R55). -/
def execScalarSra (f : Fire) (s : State) : Host.Outcome State Fault Refusal :=
  .next (fireOp f (fun sl => sl.sop == 0x8) s)

/-- `SCALAR_MUL` (R55). -/
def execScalarMul (f : Fire) (s : State) : Host.Outcome State Fault Refusal :=
  .next (fireOp f (fun sl => sl.sop == 0x9) s)

/-- `SCALAR_MIN` (R55). -/
def execScalarMin (f : Fire) (s : State) : Host.Outcome State Fault Refusal :=
  .next (fireOp f (fun sl => sl.sop == 0xA) s)

/-- `SCALAR_MAX` (R55). -/
def execScalarMax (f : Fire) (s : State) : Host.Outcome State Fault Refusal :=
  .next (fireOp f (fun sl => sl.sop == 0xB) s)

/-- `SCALAR_EQ` (R55). -/
def execScalarEq (f : Fire) (s : State) : Host.Outcome State Fault Refusal :=
  .next (fireOp f (fun sl => sl.sop == 0x10) s)

/-- `SCALAR_NE` (R55). -/
def execScalarNe (f : Fire) (s : State) : Host.Outcome State Fault Refusal :=
  .next (fireOp f (fun sl => sl.sop == 0x11) s)

/-- `SCALAR_LT` (R55). -/
def execScalarLt (f : Fire) (s : State) : Host.Outcome State Fault Refusal :=
  .next (fireOp f (fun sl => sl.sop == 0x12) s)

/-- `LTU` (R55). -/
def execLtu (f : Fire) (s : State) : Host.Outcome State Fault Refusal :=
  .next (fireOp f (fun sl => sl.sop == 0x13) s)

/-- `SCALAR_LE` (R55). -/
def execScalarLe (f : Fire) (s : State) : Host.Outcome State Fault Refusal :=
  .next (fireOp f (fun sl => sl.sop == 0x14) s)

/-- `LEU` (R55). -/
def execLeu (f : Fire) (s : State) : Host.Outcome State Fault Refusal :=
  .next (fireOp f (fun sl => sl.sop == 0x15) s)

/-- `MOV` (R55). -/
def execMov (f : Fire) (s : State) : Host.Outcome State Fault Refusal :=
  .next (fireOp f (fun sl => sl.sop == 0x18) s)

/-- `FADD` (R55). -/
def execFadd (f : Fire) (s : State) : Host.Outcome State Fault Refusal :=
  .next (fireOp f (fun sl => sl.sop == 0x20) s)

/-- `FMUL` (R55). -/
def execFmul (f : Fire) (s : State) : Host.Outcome State Fault Refusal :=
  .next (fireOp f (fun sl => sl.sop == 0x21) s)

/-- `FMIN` (R55). -/
def execFmin (f : Fire) (s : State) : Host.Outcome State Fault Refusal :=
  .next (fireOp f (fun sl => sl.sop == 0x22) s)

/-- `FMAX` (R55). -/
def execFmax (f : Fire) (s : State) : Host.Outcome State Fault Refusal :=
  .next (fireOp f (fun sl => sl.sop == 0x23) s)

/-- `MOVE_TO_LOOP_COUNTER` (R55). -/
def execMoveToLoopCounter (f : Fire) (s : State) : Host.Outcome State Fault Refusal :=
  .next (fireOp f (fun sl => sl.sop == 0x28) s)

/-- `MOVE_FROM_LOOP_COUNTER` (R55). -/
def execMoveFromLoopCounter (f : Fire) (s : State) : Host.Outcome State Fault Refusal :=
  .next (fireOp f (fun sl => sl.sop == 0x29) s)

end Sys2Proof.Machine
end

