-- ==== Sys2Proof/Machine/Steering.lean ====
section
/-! DEFINITION. The steering operations of a slot (R71). Each row fires the whole slot that performs its operation, the other groups of the slot with it (R42; assumption 1). -/

namespace Sys2Proof.Machine

/-- `SELECT` (R71). -/
def execSelect (f : Fire) (s : State) : Host.Outcome State Fault Refusal :=
  .next (fireOp f (fun sl => sl.steer == 0x1) s)

/-- `SWITCH` (R71). -/
def execSwitch (f : Fire) (s : State) : Host.Outcome State Fault Refusal :=
  .next (fireOp f (fun sl => sl.steer == 0x2) s)

/-- `MERGE` (R71). -/
def execMerge (f : Fire) (s : State) : Host.Outcome State Fault Refusal :=
  .next (fireOp f (fun sl => sl.steer == 0x3) s)

/-- `GATE` (R71). -/
def execGate (f : Fire) (s : State) : Host.Outcome State Fault Refusal :=
  .next (fireOp f (fun sl => sl.steer == 0x4) s)

/-- `EMIT` (R71). -/
def execEmit (f : Fire) (s : State) : Host.Outcome State Fault Refusal :=
  .next (fireOp f (fun sl => sl.steer == 0x5) s)

/-- `FORWARD` (R71). -/
def execForward (f : Fire) (s : State) : Host.Outcome State Fault Refusal :=
  .next (fireOp f (fun sl => sl.steer == 0x6) s)

end Sys2Proof.Machine
end

