-- ==== Sys2Proof/Machine/Vector.lean ====
section
/-! DEFINITION. The vector operations of a slot (R52). Each row fires the whole slot that performs its operation, the other groups of the slot with it (R42; assumption 1). -/

namespace Sys2Proof.Machine

/-- `VECTOR_ADD` (R52). -/
def execVectorAdd (f : Fire) (s : State) : Host.Outcome State Fault Refusal :=
  .next (fireOp f (fun sl => sl.vop == 0x1) s)

/-- `VECTOR_SUB` (R52). -/
def execVectorSub (f : Fire) (s : State) : Host.Outcome State Fault Refusal :=
  .next (fireOp f (fun sl => sl.vop == 0x2) s)

/-- `VECTOR_MUL` (R52). -/
def execVectorMul (f : Fire) (s : State) : Host.Outcome State Fault Refusal :=
  .next (fireOp f (fun sl => sl.vop == 0x3) s)

/-- `FMA` (R52). -/
def execFma (f : Fire) (s : State) : Host.Outcome State Fault Refusal :=
  .next (fireOp f (fun sl => sl.vop == 0x4) s)

/-- `FMS` (R52). -/
def execFms (f : Fire) (s : State) : Host.Outcome State Fault Refusal :=
  .next (fireOp f (fun sl => sl.vop == 0x5) s)

/-- `VECTOR_MIN` (R108). -/
def execVectorMin (f : Fire) (s : State) : Host.Outcome State Fault Refusal :=
  .next (fireOp f (fun sl => sl.vop == 0x6) s)

/-- `VECTOR_MAX` (R108). -/
def execVectorMax (f : Fire) (s : State) : Host.Outcome State Fault Refusal :=
  .next (fireOp f (fun sl => sl.vop == 0x7) s)

/-- `ABS` (R108). -/
def execAbs (f : Fire) (s : State) : Host.Outcome State Fault Refusal :=
  .next (fireOp f (fun sl => sl.vop == 0x8) s)

/-- `NEG` (R108). -/
def execNeg (f : Fire) (s : State) : Host.Outcome State Fault Refusal :=
  .next (fireOp f (fun sl => sl.vop == 0x9) s)

/-- `IADD` (R52). -/
def execIadd (f : Fire) (s : State) : Host.Outcome State Fault Refusal :=
  .next (fireOp f (fun sl => sl.vop == 0x10) s)

/-- `ISUB` (R52). -/
def execIsub (f : Fire) (s : State) : Host.Outcome State Fault Refusal :=
  .next (fireOp f (fun sl => sl.vop == 0x11) s)

/-- `IMULLO` (R52). -/
def execImullo (f : Fire) (s : State) : Host.Outcome State Fault Refusal :=
  .next (fireOp f (fun sl => sl.vop == 0x12) s)

/-- `IMIN` (R52). -/
def execImin (f : Fire) (s : State) : Host.Outcome State Fault Refusal :=
  .next (fireOp f (fun sl => sl.vop == 0x13) s)

/-- `IMAX` (R52). -/
def execImax (f : Fire) (s : State) : Host.Outcome State Fault Refusal :=
  .next (fireOp f (fun sl => sl.vop == 0x14) s)

/-- `VECTOR_AND` (R52). -/
def execVectorAnd (f : Fire) (s : State) : Host.Outcome State Fault Refusal :=
  .next (fireOp f (fun sl => sl.vop == 0x15) s)

/-- `VECTOR_OR` (R52). -/
def execVectorOr (f : Fire) (s : State) : Host.Outcome State Fault Refusal :=
  .next (fireOp f (fun sl => sl.vop == 0x16) s)

/-- `VECTOR_XOR` (R52). -/
def execVectorXor (f : Fire) (s : State) : Host.Outcome State Fault Refusal :=
  .next (fireOp f (fun sl => sl.vop == 0x17) s)

/-- `VECTOR_SHL` (R52). -/
def execVectorShl (f : Fire) (s : State) : Host.Outcome State Fault Refusal :=
  .next (fireOp f (fun sl => sl.vop == 0x18) s)

/-- `VECTOR_SHR` (R52). -/
def execVectorShr (f : Fire) (s : State) : Host.Outcome State Fault Refusal :=
  .next (fireOp f (fun sl => sl.vop == 0x19) s)

/-- `VECTOR_SRA` (R52). -/
def execVectorSra (f : Fire) (s : State) : Host.Outcome State Fault Refusal :=
  .next (fireOp f (fun sl => sl.vop == 0x1A) s)

/-- `VECTOR_EQ` (R52). -/
def execVectorEq (f : Fire) (s : State) : Host.Outcome State Fault Refusal :=
  .next (fireOp f (fun sl => sl.vop == 0x20) s)

/-- `VECTOR_NE` (R52). -/
def execVectorNe (f : Fire) (s : State) : Host.Outcome State Fault Refusal :=
  .next (fireOp f (fun sl => sl.vop == 0x21) s)

/-- `VECTOR_LT` (R52). -/
def execVectorLt (f : Fire) (s : State) : Host.Outcome State Fault Refusal :=
  .next (fireOp f (fun sl => sl.vop == 0x22) s)

/-- `VECTOR_LE` (R52). -/
def execVectorLe (f : Fire) (s : State) : Host.Outcome State Fault Refusal :=
  .next (fireOp f (fun sl => sl.vop == 0x23) s)

/-- `VECTOR_GT` (R52). -/
def execVectorGt (f : Fire) (s : State) : Host.Outcome State Fault Refusal :=
  .next (fireOp f (fun sl => sl.vop == 0x24) s)

/-- `VECTOR_GE` (R52). -/
def execVectorGe (f : Fire) (s : State) : Host.Outcome State Fault Refusal :=
  .next (fireOp f (fun sl => sl.vop == 0x25) s)

/-- `VECTOR_SFN` (R110). -/
def execVectorSfn (f : Fire) (s : State) : Host.Outcome State Fault Refusal :=
  .next (fireOp f (fun sl => sl.vop == 0x28) s)

/-- `RSUM` (R109). -/
def execRsum (f : Fire) (s : State) : Host.Outcome State Fault Refusal :=
  .next (fireOp f (fun sl => sl.vop == 0x30) s)

/-- `RMAX` (R109). -/
def execRmax (f : Fire) (s : State) : Host.Outcome State Fault Refusal :=
  .next (fireOp f (fun sl => sl.vop == 0x31) s)

/-- `RMIN` (R109). -/
def execRmin (f : Fire) (s : State) : Host.Outcome State Fault Refusal :=
  .next (fireOp f (fun sl => sl.vop == 0x32) s)

/-- `ROT` (R52). -/
def execRot (f : Fire) (s : State) : Host.Outcome State Fault Refusal :=
  .next (fireOp f (fun sl => sl.vop == 0x33) s)

/-- `BCAST` (R52). -/
def execBcast (f : Fire) (s : State) : Host.Outcome State Fault Refusal :=
  .next (fireOp f (fun sl => sl.vop == 0x34) s)

/-- `SEL` (R52). -/
def execSel (f : Fire) (s : State) : Host.Outcome State Fault Refusal :=
  .next (fireOp f (fun sl => sl.vop == 0x35) s)

/-- `VECTOR_CVT` (R105). -/
def execVectorCvt (f : Fire) (s : State) : Host.Outcome State Fault Refusal :=
  .next (fireOp f (fun sl => sl.vop == 0x38) s)

end Sys2Proof.Machine
end

