-- ==== Sys2Proof/Machine/Dispatch.lean ====
section
/-! DEFINITION. One arm for each command: its meaning. -/

namespace Sys2Proof.Machine

def exec (i : Instr) (s : State) : Host.Outcome State Fault Refusal :=
  match i with
  | .inputPowerGood => Sys2Proof.Machine.execInputPowerGood s
  | .softStartFault => Sys2Proof.Machine.execSoftStartFault s
  | .inputOvervoltage => Sys2Proof.Machine.execInputOvervoltage s
  | .powerFailSequence => Sys2Proof.Machine.execPowerFailSequence s
  | .bladeIdle blade => Sys2Proof.Machine.execBladeIdle blade s
  | .perstN => Sys2Proof.Machine.execPerstN s
  | .hotReset => Sys2Proof.Machine.execHotReset s
  | .pfFlr => Sys2Proof.Machine.execPfFlr s
  | .vfFlr f => Sys2Proof.Machine.execVfFlr f s
  | .warmModuleReset => Sys2Proof.Machine.execWarmModuleReset s
  | .contextReset c => Sys2Proof.Machine.execContextReset c s
  | .keeperReset => Sys2Proof.Machine.execKeeperReset s
  | .keeperResume copyOk flashOk retained r => Sys2Proof.Machine.execKeeperResume copyOk flashOk retained r s
  | .referenceLoss => Sys2Proof.Machine.execReferenceLoss s
  | .trip cause => Sys2Proof.Machine.execTrip cause s
  | .hotSet r sensor temp => Sys2Proof.Machine.execHotSet r sensor temp s
  | .combArraySwitchOff r => Sys2Proof.Machine.execCombArraySwitchOff r s
  | .hotOffReturn r => Sys2Proof.Machine.execHotOffReturn r s
  | .spineFault r => Sys2Proof.Machine.execSpineFault r s
  | .combArrayPllLoss r => Sys2Proof.Machine.execCombArrayPllLoss r s
  | .segmentFault seg => Sys2Proof.Machine.execSegmentFault seg s
  | .domainReady d => Sys2Proof.Machine.execDomainReady d s
  | .stageEnd r => Sys2Proof.Machine.execStageEnd r s
  | .stageFail unit => Sys2Proof.Machine.execStageFail unit s
  | .tickBoundary r => Sys2Proof.Machine.execTickBoundary r s
  | .flowLow => Sys2Proof.Machine.execFlowLow s
  | .stepWatchdog c => Sys2Proof.Machine.execStepWatchdog c s
  | .holdTimeout c => Sys2Proof.Machine.execHoldTimeout c s
  | .combSharedLogicFault x y => Sys2Proof.Machine.execCombSharedLogicFault x y s
  | .combFence px py => Sys2Proof.Machine.execCombFence px py s
  | .scoutVerdict px py w v => Sys2Proof.Machine.execScoutVerdict px py w v s
  | .rotationGridPoint => Sys2Proof.Machine.execRotationGridPoint s
  | .pauseSliceGrid => Sys2Proof.Machine.execPauseSliceGrid s
  | .idleSleep r => Sys2Proof.Machine.execIdleSleep r s
  | .regionTestComplete r found => Sys2Proof.Machine.execRegionTestComplete r found s
  | .spareCombTest px py pass => Sys2Proof.Machine.execSpareCombTest px py pass s
  | .portRetrain p => Sys2Proof.Machine.execPortRetrain p s
  | .lifeCounterWrite => Sys2Proof.Machine.execLifeCounterWrite s
  | .serviceLifePrediction => Sys2Proof.Machine.execServiceLifePrediction s
  | .inboxWrite f off data => Sys2Proof.Machine.execInboxWrite f off data s
  | .nop f => Sys2Proof.Machine.execNop f s
  | .grant f => Sys2Proof.Machine.execGrant f s
  | .load f => Sys2Proof.Machine.execLoad f s
  | .imageAccepted c => Sys2Proof.Machine.execImageAccepted c s
  | .loadComplete c => Sys2Proof.Machine.execLoadComplete c s
  | .course f => Sys2Proof.Machine.execCourse f s
  | .reset f => Sys2Proof.Machine.execReset f s
  | .release f => Sys2Proof.Machine.execRelease f s
  | .releaseWipeComplete c => Sys2Proof.Machine.execReleaseWipeComplete c s
  | .warmReset f => Sys2Proof.Machine.execWarmReset f s
  | .coldReset f => Sys2Proof.Machine.execColdReset f s
  | .shutdown f => Sys2Proof.Machine.execShutdown f s
  | .shutdownTestComplete bad => Sys2Proof.Machine.execShutdownTestComplete bad s
  | .hiveWindowRead f off rd => Sys2Proof.Machine.execHiveWindowRead f off rd s
  | .hiveWindowWrite f off data tlp => Sys2Proof.Machine.execHiveWindowWrite f off data tlp s
  | .cqHeadWrite f v => Sys2Proof.Machine.execCqHeadWrite f v s
  | .fqHeadWrite f v => Sys2Proof.Machine.execFqHeadWrite f v s
  | .cqEnable f v => Sys2Proof.Machine.execCqEnable f v s
  | .fqEnable f v => Sys2Proof.Machine.execFqEnable f v s
  | .linkSpeedChange speed width flit => Sys2Proof.Machine.execLinkSpeedChange speed width flit s
  | .completionTimeout h done => Sys2Proof.Machine.execCompletionTimeout h done s
  | .errorCompletion h done => Sys2Proof.Machine.execErrorCompletion h done s
  | .powerStateChange f d3 => Sys2Proof.Machine.execPowerStateChange f d3 s
  | .registerWrite who a bytes v => Sys2Proof.Machine.execRegisterWrite who a bytes v s
  | .rcCounterRead who a bytes => Sys2Proof.Machine.execRcCounterRead who a bytes s
  | .lowHalfRead who a => Sys2Proof.Machine.execLowHalfRead who a s
  | .go who c => Sys2Proof.Machine.execGo who c s
  | .stop who c => Sys2Proof.Machine.execStop who c s
  | .resume who c => Sys2Proof.Machine.execResume who c s
  | .skip who c => Sys2Proof.Machine.execSkip who c s
  | .abort who c => Sys2Proof.Machine.execAbort who c s
  | .preset who c => Sys2Proof.Machine.execPreset who c s
  | .ctxResetRequest who c v => Sys2Proof.Machine.execCtxResetRequest who c v s
  | .wrkDbgHalt who x y w v => Sys2Proof.Machine.execWrkDbgHalt who x y w v s
  | .wrkDbgStep who f => Sys2Proof.Machine.execWrkDbgStep who f s
  | .synObjWrite who x y n v => Sys2Proof.Machine.execSynObjWrite who x y n v s
  | .msgQpopRead who x y w q => Sys2Proof.Machine.execMsgQpopRead who x y w q s
  | .eavCtxCfgWrite who c v => Sys2Proof.Machine.execEavCtxCfgWrite who c v s
  | .prtTopoWrite who v => Sys2Proof.Machine.execPrtTopoWrite who v s
  | .admitOpen who v => Sys2Proof.Machine.execAdmitOpen who v s
  | .mirrorResume who c => Sys2Proof.Machine.execMirrorResume who c s
  | .kprRecovLoad who addr size => Sys2Proof.Machine.execKprRecovLoad who addr size s
  | .getVersion via => Sys2Proof.Machine.execGetVersion via s
  | .getCapabilities via => Sys2Proof.Machine.execGetCapabilities via s
  | .negotiateAlgorithms via offers => Sys2Proof.Machine.execNegotiateAlgorithms via offers s
  | .getDigests via => Sys2Proof.Machine.execGetDigests via s
  | .getCertificate via slot => Sys2Proof.Machine.execGetCertificate via slot s
  | .challenge via slot => Sys2Proof.Machine.execChallenge via slot s
  | .getMeasurements via index => Sys2Proof.Machine.execGetMeasurements via index s
  | .keyExchange via => Sys2Proof.Machine.execKeyExchange via s
  | .finish via good => Sys2Proof.Machine.execFinish via good s
  | .heartbeat via => Sys2Proof.Machine.execHeartbeat via s
  | .keyUpdate via => Sys2Proof.Machine.execKeyUpdate via s
  | .endSession via => Sys2Proof.Machine.execEndSession via s
  | .ideKm via => Sys2Proof.Machine.execIdeKm via s
  | .lcNonce via => Sys2Proof.Machine.execLcNonce via s
  | .provision via tokens burn => Sys2Proof.Machine.execProvision via tokens burn s
  | .ship via tokens burn => Sys2Proof.Machine.execShip via tokens burn s
  | .debugOn via tokens => Sys2Proof.Machine.execDebugOn via tokens s
  | .debugOff via tokens => Sys2Proof.Machine.execDebugOff via tokens s
  | .returnOp via tokens burn => Sys2Proof.Machine.execReturnOp via tokens burn s
  | .refield via tokens burn => Sys2Proof.Machine.execRefield via tokens burn s
  | .scrap via tokens burn => Sys2Proof.Machine.execScrap via tokens burn s
  | .ownerKey via tokens burn => Sys2Proof.Machine.execOwnerKey via tokens burn s
  | .vendorRevoke via tokens burn => Sys2Proof.Machine.execVendorRevoke via tokens burn s
  | .scanOn via tokens => Sys2Proof.Machine.execScanOn via tokens s
  | .setEndpointId via eid => Sys2Proof.Machine.execSetEndpointId via eid s
  | .entdaa addr => Sys2Proof.Machine.execEntdaa addr s
  | .mctpWarmReset via => Sys2Proof.Machine.execMctpWarmReset via s
  | .mctpColdReset via => Sys2Proof.Machine.execMctpColdReset via s
  | .mctpReadStatus via => Sys2Proof.Machine.execMctpReadStatus via s
  | .mctpWriteAlert via v => Sys2Proof.Machine.execMctpWriteAlert via v s
  | .pldmDiscovery via cmd => Sys2Proof.Machine.execPldmDiscovery via cmd s
  | .sensorRead via sensor => Sys2Proof.Machine.execSensorRead via sensor s
  | .requestUpdate via => Sys2Proof.Machine.execRequestUpdate via s
  | .passComponentTable via comp => Sys2Proof.Machine.execPassComponentTable via comp s
  | .firmwareDataReceived image => Sys2Proof.Machine.execFirmwareDataReceived image s
  | .applyComplete readBack => Sys2Proof.Machine.execApplyComplete readBack s
  | .activateFirmware via => Sys2Proof.Machine.execActivateFirmware via s
  | .stepStart run => Sys2Proof.Machine.execStepStart run s
  | .ridgeRelease c => Sys2Proof.Machine.execRidgeRelease c s
  | .ridgeSignal c => Sys2Proof.Machine.execRidgeSignal c s
  | .ridgeComplete c => Sys2Proof.Machine.execRidgeComplete c s
  | .ridgeTimeout c => Sys2Proof.Machine.execRidgeTimeout c s
  | .stepAbandon c => Sys2Proof.Machine.execStepAbandon c s
  | .replayStart run => Sys2Proof.Machine.execReplayStart run s
  | .sumLaneFail x y w thread tile row block => Sys2Proof.Machine.execSumLaneFail x y w thread tile row block s
  | .plausibilityEvent x y w => Sys2Proof.Machine.execPlausibilityEvent x y w s
  | .portParityError x y w port => Sys2Proof.Machine.execPortParityError x y w port s
  | .residueMismatch x y out => Sys2Proof.Machine.execResidueMismatch x y out s
  | .waitSendTimeout x y w thread => Sys2Proof.Machine.execWaitSendTimeout x y w thread s
  | .mma f => Sys2Proof.Machine.execMma f s
  | .mmaz f => Sys2Proof.Machine.execMmaz f s
  | .drain f => Sys2Proof.Machine.execDrain f s
  | .clear f => Sys2Proof.Machine.execClear f s
  | .vectorAdd f => Sys2Proof.Machine.execVectorAdd f s
  | .vectorSub f => Sys2Proof.Machine.execVectorSub f s
  | .vectorMul f => Sys2Proof.Machine.execVectorMul f s
  | .fma f => Sys2Proof.Machine.execFma f s
  | .fms f => Sys2Proof.Machine.execFms f s
  | .vectorMin f => Sys2Proof.Machine.execVectorMin f s
  | .vectorMax f => Sys2Proof.Machine.execVectorMax f s
  | .abs f => Sys2Proof.Machine.execAbs f s
  | .neg f => Sys2Proof.Machine.execNeg f s
  | .iadd f => Sys2Proof.Machine.execIadd f s
  | .isub f => Sys2Proof.Machine.execIsub f s
  | .imullo f => Sys2Proof.Machine.execImullo f s
  | .imin f => Sys2Proof.Machine.execImin f s
  | .imax f => Sys2Proof.Machine.execImax f s
  | .vectorAnd f => Sys2Proof.Machine.execVectorAnd f s
  | .vectorOr f => Sys2Proof.Machine.execVectorOr f s
  | .vectorXor f => Sys2Proof.Machine.execVectorXor f s
  | .vectorShl f => Sys2Proof.Machine.execVectorShl f s
  | .vectorShr f => Sys2Proof.Machine.execVectorShr f s
  | .vectorSra f => Sys2Proof.Machine.execVectorSra f s
  | .vectorEq f => Sys2Proof.Machine.execVectorEq f s
  | .vectorNe f => Sys2Proof.Machine.execVectorNe f s
  | .vectorLt f => Sys2Proof.Machine.execVectorLt f s
  | .vectorLe f => Sys2Proof.Machine.execVectorLe f s
  | .vectorGt f => Sys2Proof.Machine.execVectorGt f s
  | .vectorGe f => Sys2Proof.Machine.execVectorGe f s
  | .vectorSfn f => Sys2Proof.Machine.execVectorSfn f s
  | .rsum f => Sys2Proof.Machine.execRsum f s
  | .rmax f => Sys2Proof.Machine.execRmax f s
  | .rmin f => Sys2Proof.Machine.execRmin f s
  | .rot f => Sys2Proof.Machine.execRot f s
  | .bcast f => Sys2Proof.Machine.execBcast f s
  | .sel f => Sys2Proof.Machine.execSel f s
  | .vectorCvt f => Sys2Proof.Machine.execVectorCvt f s
  | .scalarAdd f => Sys2Proof.Machine.execScalarAdd f s
  | .scalarSub f => Sys2Proof.Machine.execScalarSub f s
  | .scalarAnd f => Sys2Proof.Machine.execScalarAnd f s
  | .scalarOr f => Sys2Proof.Machine.execScalarOr f s
  | .scalarXor f => Sys2Proof.Machine.execScalarXor f s
  | .scalarShl f => Sys2Proof.Machine.execScalarShl f s
  | .scalarShr f => Sys2Proof.Machine.execScalarShr f s
  | .scalarSra f => Sys2Proof.Machine.execScalarSra f s
  | .scalarMul f => Sys2Proof.Machine.execScalarMul f s
  | .scalarMin f => Sys2Proof.Machine.execScalarMin f s
  | .scalarMax f => Sys2Proof.Machine.execScalarMax f s
  | .scalarEq f => Sys2Proof.Machine.execScalarEq f s
  | .scalarNe f => Sys2Proof.Machine.execScalarNe f s
  | .scalarLt f => Sys2Proof.Machine.execScalarLt f s
  | .ltu f => Sys2Proof.Machine.execLtu f s
  | .scalarLe f => Sys2Proof.Machine.execScalarLe f s
  | .leu f => Sys2Proof.Machine.execLeu f s
  | .mov f => Sys2Proof.Machine.execMov f s
  | .fadd f => Sys2Proof.Machine.execFadd f s
  | .fmul f => Sys2Proof.Machine.execFmul f s
  | .fmin f => Sys2Proof.Machine.execFmin f s
  | .fmax f => Sys2Proof.Machine.execFmax f s
  | .moveToLoopCounter f => Sys2Proof.Machine.execMoveToLoopCounter f s
  | .moveFromLoopCounter f => Sys2Proof.Machine.execMoveFromLoopCounter f s
  | .ldv f => Sys2Proof.Machine.execLdv f s
  | .stv f => Sys2Proof.Machine.execStv f s
  | .lds f => Sys2Proof.Machine.execLds f s
  | .sts f => Sys2Proof.Machine.execSts f s
  | .cmrd f => Sys2Proof.Machine.execCmrd f s
  | .cmwr f => Sys2Proof.Machine.execCmwr f s
  | .rtls f => Sys2Proof.Machine.execRtls f s
  | .rtb f => Sys2Proof.Machine.execRtb f s
  | .ldb f => Sys2Proof.Machine.execLdb f s
  | .select f => Sys2Proof.Machine.execSelect f s
  | .switch f => Sys2Proof.Machine.execSwitch f s
  | .merge f => Sys2Proof.Machine.execMerge f s
  | .gate f => Sys2Proof.Machine.execGate f s
  | .emit f => Sys2Proof.Machine.execEmit f s
  | .forward f => Sys2Proof.Machine.execForward f s
  | .sig f => Sys2Proof.Machine.execSig f s
  | .wait f => Sys2Proof.Machine.execWait f s
  | .rsig f => Sys2Proof.Machine.execRsig f s
  | .send f => Sys2Proof.Machine.execSend f s
  | .pop f => Sys2Proof.Machine.execPop f s
  | .nextSeq f => Sys2Proof.Machine.execNextSeq f s
  | .jump f => Sys2Proof.Machine.execJump f s
  | .brt f => Sys2Proof.Machine.execBrt f s
  | .brf f => Sys2Proof.Machine.execBrf f s
  | .loop f => Sys2Proof.Machine.execLoop f s
  | .endStep f => Sys2Proof.Machine.execEndStep f s
  | .courseMarkEmit x y w => Sys2Proof.Machine.execCourseMarkEmit x y w s
  | .workerFlip x y w => Sys2Proof.Machine.execWorkerFlip x y w s
  | .switchFlip x y net => Sys2Proof.Machine.execSwitchFlip x y net s
  | .courseMarkMismatch x y net inp => Sys2Proof.Machine.execCourseMarkMismatch x y net inp s
  | .routeGroupFire x y net inp => Sys2Proof.Machine.execRouteGroupFire x y net inp s
  | .staticLinkCheckFail x y net dir back sent => Sys2Proof.Machine.execStaticLinkCheckFail x y net dir back sent s
  | .crossingWander r side words c => Sys2Proof.Machine.execCrossingWander r side words c s
  | .streamSlot ch k => Sys2Proof.Machine.execStreamSlot ch k s
  | .maintenanceSlot ch k use => Sys2Proof.Machine.execMaintenanceSlot ch k use s
  | .rafterInject ch good => Sys2Proof.Machine.execRafterInject ch good s
  | .rereadVerdict ch entry good => Sys2Proof.Machine.execRereadVerdict ch entry good s
  | .dropArrival x y rsel lane got => Sys2Proof.Machine.execDropArrival x y rsel lane got s
  | .repairAnswer x y late => Sys2Proof.Machine.execRepairAnswer x y late s
  | .rafterLaneTest seg rafter lane faulty => Sys2Proof.Machine.execRafterLaneTest seg rafter lane faulty s
  | .patrolScrubRead ch bad => Sys2Proof.Machine.execPatrolScrubRead ch bad s
  | .cmemRefresh x y bank row found => Sys2Proof.Machine.execCmemRefresh x y bank row found s
  | .rdreqPacket p => Sys2Proof.Machine.execRdreqPacket p s
  | .wrPacket p => Sys2Proof.Machine.execWrPacket p s
  | .rdrspPacket p => Sys2Proof.Machine.execRdrspPacket p s
  | .ackPacket p => Sys2Proof.Machine.execAckPacket p s
  | .nackPacket p => Sys2Proof.Machine.execNackPacket p s
  | .sendPacket p => Sys2Proof.Machine.execSendPacket p s
  | .creditPacket p => Sys2Proof.Machine.execCreditPacket p s
  | .sigPacket p => Sys2Proof.Machine.execSigPacket p s
  | .sigackPacket p => Sys2Proof.Machine.execSigackPacket p s
  | .ridgePacket p => Sys2Proof.Machine.execRidgePacket p s
  | .mgmtPacket p c delays => Sys2Proof.Machine.execMgmtPacket p c delays s
  | .faultPacket unit => Sys2Proof.Machine.execFaultPacket unit s
  | .packetAgeDrop x y p => Sys2Proof.Machine.execPacketAgeDrop x y p s
  | .meshLinkCheckFail x y f => Sys2Proof.Machine.execMeshLinkCheckFail x y f s
  | .windowTimeout ep flow => Sys2Proof.Machine.execWindowTimeout ep flow s
  | .openRetry ep flow => Sys2Proof.Machine.execOpenRetry ep flow s
  | .multicastAckTimeout c => Sys2Proof.Machine.execMulticastAckTimeout c s
  | .descriptorStart c => Sys2Proof.Machine.execDescriptorStart c s
  | .dmaTransferError c cause done => Sys2Proof.Machine.execDmaTransferError c cause done s
  | .descriptorComplete c => Sys2Proof.Machine.execDescriptorComplete c s
  | .portTraining p r => Sys2Proof.Machine.execPortTraining p r s
  | .idleBlock p b => Sys2Proof.Machine.execIdleBlock p b s
  | .packetBlock p b good => Sys2Proof.Machine.execPacketBlock p b good s
  | .streamBlock p b good => Sys2Proof.Machine.execStreamBlock p b good s
  | .creditRecord p v => Sys2Proof.Machine.execCreditRecord p v s
  | .resendRecord p v late => Sys2Proof.Machine.execResendRecord p v late s
  | .spareRecord p v => Sys2Proof.Machine.execSpareRecord p v s
  | .spareackRecord p v => Sys2Proof.Machine.execSpareackRecord p v s
  | .identRecord p v => Sys2Proof.Machine.execIdentRecord p v s
  | .downRecord p v => Sys2Proof.Machine.execDownRecord p v s
  | .laneFault p lane fibre => Sys2Proof.Machine.execLaneFault p lane fibre s
  | .lossOfLight p => Sys2Proof.Machine.execLossOfLight p s
  | .portSilent p => Sys2Proof.Machine.execPortSilent p s
  | .mirrorWaitTimeout c => Sys2Proof.Machine.execMirrorWaitTimeout c s
  | .softStart mv => Sys2Proof.Machine.execSoftStart mv s
  | .inputSwitchClose => Sys2Proof.Machine.execInputSwitchClose s
  | .housekeepingSlice px py pass => Sys2Proof.Machine.execHousekeepingSlice px py pass s
  | .returnWipeComplete => Sys2Proof.Machine.execReturnWipeComplete s
  | .ideIntegrityFailure => Sys2Proof.Machine.execIdeIntegrityFailure s

end Sys2Proof.Machine
end

