-- ==== Sys2Proof/Machine/Idle.lean ====
section
/-! DEFINITION. What happens when no command waits. -/

namespace Sys2Proof.Machine

/-- One cycle passes: the cycle counter counts (R9, R224; assumption 3). -/
def idle (s : State) : State := { s with cycle := (s.cycle + 1) % 2 ^ 64 }

end Sys2Proof.Machine
end

