-- ==== Sys2Proof/WellFormed.lean ====
section
/-! DEFINITION. Well-formed commands: what a sender keeps to beyond the operand types. The meanings are total and do not rely on it. -/

namespace Sys2Proof

/-- A payload of whole 32-byte flits, 0 to 16 of them (R258). -/
def flits (p : Packet) : Bool := p.payload.length % 32 == 0 && p.payload.length ≤ 512

/-- What every operand of a command must satisfy beyond its type. -/
def wellFormed : Instr → Bool
  | .inputPowerGood => true
  | .softStartFault => true
  | .inputOvervoltage => true
  | .powerFailSequence => true
  | .bladeIdle _ => true
  | .perstN => true
  | .hotReset => true
  | .pfFlr => true
  | .vfFlr _ => true
  | .warmModuleReset => true
  | .contextReset _ => true
  | .keeperReset => true
  | .keeperResume _ _ _ _ => true
  | .referenceLoss => true
  | .trip _ => true
  | .hotSet _ _ _ => true
  | .combArraySwitchOff _ => true
  | .hotOffReturn _ => true
  | .spineFault _ => true
  | .combArrayPllLoss _ => true
  | .segmentFault _ => true
  | .domainReady _ => true
  | .stageEnd _ => true
  | .stageFail _ => true
  | .tickBoundary _ => true
  | .flowLow => true
  | .stepWatchdog _ => true
  | .holdTimeout _ => true
  | .combSharedLogicFault _ _ => true
  | .combFence _ _ => true
  | .scoutVerdict _ _ _ _ => true
  | .rotationGridPoint => true
  | .pauseSliceGrid => true
  | .idleSleep _ => true
  | .regionTestComplete _ _ => true
  | .spareCombTest _ _ _ => true
  | .portRetrain _ => true
  | .lifeCounterWrite => true
  | .serviceLifePrediction => true
  | .inboxWrite _ _ _ => true
  | .nop _ => true
  | .grant _ => true
  | .load _ => true
  | .imageAccepted _ => true
  | .loadComplete _ => true
  | .course _ => true
  | .reset _ => true
  | .release _ => true
  | .releaseWipeComplete _ => true
  | .warmReset _ => true
  | .coldReset _ => true
  | .shutdown _ => true
  | .shutdownTestComplete _ => true
  | .hiveWindowRead _ _ _ => true
  | .hiveWindowWrite _ _ _ _ => true
  | .cqHeadWrite _ _ => true
  | .fqHeadWrite _ _ => true
  | .cqEnable _ _ => true
  | .fqEnable _ _ => true
  | .linkSpeedChange _ _ _ => true
  | .completionTimeout _ _ => true
  | .errorCompletion _ _ => true
  | .powerStateChange _ _ => true
  | .registerWrite _ _ _ _ => true
  | .rcCounterRead _ _ _ => true
  | .lowHalfRead _ _ => true
  | .go _ _ => true
  | .stop _ _ => true
  | .resume _ _ => true
  | .skip _ _ => true
  | .abort _ _ => true
  | .preset _ _ => true
  | .ctxResetRequest _ _ _ => true
  | .wrkDbgHalt _ _ _ _ _ => true
  | .wrkDbgStep _ _ => true
  | .synObjWrite _ _ _ _ _ => true
  | .msgQpopRead _ _ _ _ _ => true
  | .eavCtxCfgWrite _ _ _ => true
  | .prtTopoWrite _ _ => true
  | .admitOpen _ _ => true
  | .mirrorResume _ _ => true
  | .kprRecovLoad _ _ _ => true
  | .getVersion _ => true
  | .getCapabilities _ => true
  | .negotiateAlgorithms _ _ => true
  | .getDigests _ => true
  | .getCertificate _ _ => true
  | .challenge _ _ => true
  | .getMeasurements _ _ => true
  | .keyExchange _ => true
  | .finish _ _ => true
  | .heartbeat _ => true
  | .keyUpdate _ => true
  | .endSession _ => true
  | .ideKm _ => true
  | .lcNonce _ => true
  | .provision _ _ _ => true
  | .ship _ _ _ => true
  | .debugOn _ _ => true
  | .debugOff _ _ => true
  | .returnOp _ _ _ => true
  | .refield _ _ _ => true
  | .scrap _ _ _ => true
  | .ownerKey _ _ _ => true
  | .vendorRevoke _ _ _ => true
  | .scanOn _ _ => true
  | .setEndpointId _ _ => true
  | .entdaa _ => true
  | .mctpWarmReset _ => true
  | .mctpColdReset _ => true
  | .mctpReadStatus _ => true
  | .mctpWriteAlert _ _ => true
  | .pldmDiscovery _ _ => true
  | .sensorRead _ _ => true
  | .requestUpdate _ => true
  | .passComponentTable _ _ => true
  | .firmwareDataReceived _ => true
  | .applyComplete _ => true
  | .activateFirmware _ => true
  | .stepStart _ => true
  | .ridgeRelease _ => true
  | .ridgeSignal _ => true
  | .ridgeComplete _ => true
  | .ridgeTimeout _ => true
  | .stepAbandon _ => true
  | .replayStart _ => true
  | .sumLaneFail _ _ _ _ _ _ _ => true
  | .plausibilityEvent _ _ _ => true
  | .portParityError _ _ _ _ => true
  | .residueMismatch _ _ _ => true
  | .waitSendTimeout _ _ _ _ => true
  | .mma _ => true
  | .mmaz _ => true
  | .drain _ => true
  | .clear _ => true
  | .vectorAdd _ => true
  | .vectorSub _ => true
  | .vectorMul _ => true
  | .fma _ => true
  | .fms _ => true
  | .vectorMin _ => true
  | .vectorMax _ => true
  | .abs _ => true
  | .neg _ => true
  | .iadd _ => true
  | .isub _ => true
  | .imullo _ => true
  | .imin _ => true
  | .imax _ => true
  | .vectorAnd _ => true
  | .vectorOr _ => true
  | .vectorXor _ => true
  | .vectorShl _ => true
  | .vectorShr _ => true
  | .vectorSra _ => true
  | .vectorEq _ => true
  | .vectorNe _ => true
  | .vectorLt _ => true
  | .vectorLe _ => true
  | .vectorGt _ => true
  | .vectorGe _ => true
  | .vectorSfn _ => true
  | .rsum _ => true
  | .rmax _ => true
  | .rmin _ => true
  | .rot _ => true
  | .bcast _ => true
  | .sel _ => true
  | .vectorCvt _ => true
  | .scalarAdd _ => true
  | .scalarSub _ => true
  | .scalarAnd _ => true
  | .scalarOr _ => true
  | .scalarXor _ => true
  | .scalarShl _ => true
  | .scalarShr _ => true
  | .scalarSra _ => true
  | .scalarMul _ => true
  | .scalarMin _ => true
  | .scalarMax _ => true
  | .scalarEq _ => true
  | .scalarNe _ => true
  | .scalarLt _ => true
  | .ltu _ => true
  | .scalarLe _ => true
  | .leu _ => true
  | .mov _ => true
  | .fadd _ => true
  | .fmul _ => true
  | .fmin _ => true
  | .fmax _ => true
  | .moveToLoopCounter _ => true
  | .moveFromLoopCounter _ => true
  | .ldv _ => true
  | .stv _ => true
  | .lds _ => true
  | .sts _ => true
  | .cmrd _ => true
  | .cmwr _ => true
  | .rtls _ => true
  | .rtb _ => true
  | .ldb _ => true
  | .select _ => true
  | .switch _ => true
  | .merge _ => true
  | .gate _ => true
  | .emit _ => true
  | .forward _ => true
  | .sig _ => true
  | .wait _ => true
  | .rsig _ => true
  | .send _ => true
  | .pop _ => true
  | .nextSeq _ => true
  | .jump _ => true
  | .brt _ => true
  | .brf _ => true
  | .loop _ => true
  | .endStep _ => true
  | .courseMarkEmit _ _ _ => true
  | .workerFlip _ _ _ => true
  | .switchFlip _ _ _ => true
  | .courseMarkMismatch _ _ _ _ => true
  | .routeGroupFire _ _ _ _ => true
  | .staticLinkCheckFail _ _ _ _ _ _ => true
  | .crossingWander _ _ _ _ => true
  | .streamSlot _ _ => true
  | .maintenanceSlot _ _ _ => true
  | .rafterInject _ _ => true
  | .rereadVerdict _ _ _ => true
  | .dropArrival _ _ _ _ _ => true
  | .repairAnswer _ _ _ => true
  | .rafterLaneTest _ _ _ _ => true
  | .patrolScrubRead _ _ => true
  | .cmemRefresh _ _ _ _ _ => true
  | .rdreqPacket p => p.pkt.payload.isEmpty
  | .wrPacket p => flits p
  | .rdrspPacket p => flits p
  | .ackPacket p => p.payload.isEmpty
  | .nackPacket p => p.payload.isEmpty
  | .sendPacket p => p.payload.length == 32
  | .creditPacket p => p.payload.isEmpty
  | .sigPacket p => p.payload.isEmpty
  | .sigackPacket p => p.payload.isEmpty
  | .ridgePacket p => p.payload.isEmpty
  | .mgmtPacket p _ _ => flits p
  | .faultPacket _ => true
  | .packetAgeDrop _ _ _ => true
  | .meshLinkCheckFail _ _ _ => true
  | .windowTimeout _ _ => true
  | .openRetry _ _ => true
  | .multicastAckTimeout _ => true
  | .descriptorStart _ => true
  | .dmaTransferError _ _ _ => true
  | .descriptorComplete _ => true
  | .portTraining _ _ => true
  | .idleBlock _ _ => true
  | .packetBlock _ _ _ => true
  | .streamBlock _ _ _ => true
  | .creditRecord _ _ => true
  | .resendRecord _ _ _ => true
  | .spareRecord _ _ => true
  | .spareackRecord _ _ => true
  | .identRecord _ _ => true
  | .downRecord _ _ => true
  | .laneFault _ _ _ => true
  | .lossOfLight _ => true
  | .portSilent _ => true
  | .mirrorWaitTimeout _ => true
  | .softStart _ => true
  | .inputSwitchClose => true
  | .housekeepingSlice _ _ _ => true
  | .returnWipeComplete => true
  | .ideIntegrityFailure => true

end Sys2Proof
end

