-- ==== Sys2Proof/Safety.lean ====
section
/-! DEFINITION. The terms in which the claims about the module are stated: the invariant of every step, and what a firing slot reads, consumes and
leaves behind. -/

namespace Sys2Proof.Machine

/-- The invariant of every step: memory stays canonical, and every command that waits is well-formed. -/
def Inv (s : State) : Prop := Memory.wf s.mem = true ∧ ∀ c ∈ s.pending, wellFormed c = true

/-! ### A firing slot (R41 to R48) -/

/-- The thread that a slot row names, and its slot. -/
def thNow (f : Fire) (s : State) : Thread := (wGet s (fireWk f)).thr f.thread.val

def slotNow (f : Fire) (s : State) : Slot := slotOf (thNow f s).slot

/-- The named worker runs, R42 picks the named thread in this cycle, and its slot's predicate condition holds (R46). -/
def issues (f : Fire) (s : State) : Bool :=
  workerRuns s (fireWk f) (wGet s (fireWk f)) && pick s (fireWk f) (wGet s (fireWk f)) == some f.thread.val && predOk (slotNow f s) (thNow f s)

/-- The groups of a slot other than the named one do nothing. -/
def onlyMatrix (sl : Slot) : Bool :=
  sl.vop == 0 && sl.sop == 0 && sl.memop == 0 && sl.steer == 0 && sl.token == 0 && sl.syncf == 0 && !needsMQ sl

def onlyVector (sl : Slot) : Bool :=
  sl.mop == 0 && sl.sop == 0 && sl.memop == 0 && sl.steer == 0 && sl.token == 0 && sl.syncf == 0 && !needsMQ sl

def onlyScalar (sl : Slot) : Bool :=
  sl.mop == 0 && sl.vop == 0 && sl.memop == 0 && sl.steer == 0 && sl.token == 0 && sl.syncf == 0 && !needsMQ sl

def onlyMemory (sl : Slot) : Bool :=
  sl.mop == 0 && sl.vop == 0 && sl.sop == 0 && sl.steer == 0 && sl.token == 0 && sl.syncf == 0 && !needsMQ sl

def onlySteer (sl : Slot) : Bool :=
  sl.mop == 0 && sl.vop == 0 && sl.sop == 0 && sl.memop == 0 && sl.syncf == 0 && !needsMQ sl

def onlySync (sl : Slot) : Bool :=
  sl.mop == 0 && sl.vop == 0 && sl.sop == 0 && sl.memop == 0 && sl.steer == 0 && sl.token == 0 && sl.syncf == 1

/-- The slot has next-slot control alone. -/
def onlyNext (sl : Slot) : Bool :=
  sl.mop == 0 && sl.vop == 0 && sl.sop == 0 && sl.memop == 0 && sl.steer == 0 && sl.token == 0 && sl.syncf == 0 && !needsMQ sl

/-- The firing is counted, and a breakpoint is met (R79). -/
def counted (f : Fire) (s : State) : State :=
  breakpoint (fireWk f) f.thread.val (thNow f s).ptr (countFire (fireWk f) f.thread.val s)

/-- The state in which the groups of the slot run: the firing is counted, a breakpoint is met, and the inputs that NEED names are consumed. -/
def issued (f : Fire) (s : State) : State :=
  wMod (fireWk f) (consume (slotNow f s)) (counted f s)

/-- The thread takes its next-slot control. -/
def goesOn (f : Fire) (s0 s : State) : State := advance (fireWk f) f.thread.val (slotNow f s0) f.ecc s

/-- Changes the firing thread. -/
def thPut (f : Fire) (g : Thread → Thread) (s : State) : State := thMod (fireWk f) f.thread.val g s

/-! ### The scalar group (R55) -/

/-- The two operands of a scalar operation. -/
def scalarA (f : Fire) (s : State) : Word :=
  let sl := slotNow f s
  if sl.sin = 0 then wordAt (thNow f s).s sl.ssrca
  else match (wGet s (fireWk f)).head (1 + sl.sin) with
    | some n => wordAt n.data 0
    | none => 0

def scalarB (f : Fire) (s : State) : Word :=
  let sl := slotNow f s
  if sl.imm = 1 then BitVec.ofNat 32 sl.immw else wordAt (thNow f s).s sl.ssrcb

/-- A result is sent on SO0 when `SOUT` is 1. -/
def scalarOut (f : Fire) (s0 : State) (r : Word) (s : State) : State :=
  if (slotNow f s0).sout = 1 then portSend (fireWk f) 2 [r] s else s

/-- A slot whose scalar operation writes `r` to `s[DST]`. -/
def scalarTo (f : Fire) (s : State) (r : Word) : State :=
  goesOn f s (scalarOut f s r (thPut f (fun th => { th with s := th.s.set (slotNow f s).sdst r }) (issued f s)))

/-- A slot whose compare writes `p[PDST]`. -/
def scalarFlag (f : Fire) (s : State) (r : Bool) : State :=
  goesOn f s (scalarOut f s (BitVec.ofNat 32 (b2n r)) (thPut f (fun th => setPred th (slotNow f s).pdst r) (issued f s)))

/-! ### The vector group (R51 to R54) -/

def lanes (g : Nat → Word) : List Word := (List.range 32).map g

/-- Operand `SRCA`, `SRCB` or `SRCC` of a vector operation. -/
def vecA (f : Fire) (s : State) : List Word := vecSrc s (fireWk f) (wGet s (fireWk f)) (slotNow f s) (thNow f s) 0 (slotNow f s).vsrca f.drainRow.val
def vecB (f : Fire) (s : State) : List Word := vecSrc s (fireWk f) (wGet s (fireWk f)) (slotNow f s) (thNow f s) 1 (slotNow f s).vsrcb f.drainRow.val
def vecC (f : Fire) (s : State) : List Word := vecSrc s (fireWk f) (wGet s (fireWk f)) (slotNow f s) (thNow f s) 2 (slotNow f s).vsrcc f.drainRow.val

/-- The mask that `MSEL` selects: all lanes, or m[MSEL − 1]. -/
def vecMask (f : Fire) (s : State) : Word :=
  if (slotNow f s).msel = 0 then 0xFFFFFFFF#32 else wordAt (thNow f s).m ((slotNow f s).msel - 1)

/-- The local-store access of the slot, if it makes one, is aligned and inside the store (R57). -/
def vecLsOk (f : Fire) (s : State) (writes : Bool) : Bool :=
  let sl := slotNow f s
  !(sl.vsrca == 6 || (vReadsB sl.vop && sl.vsrcb == 6) || (writes && sl.vdst == 6)) || lsOk (wordAt (thNow f s).s sl.vareg).toNat 128

/-- The draws that the operation takes for stochastic rounding, and the generator after them (R100, R101); a special function holds its unit for
4 cycles (R62). -/
def vecDraw (f : Fire) (s : State) : List Nat × List Word :=
  drawsFor (roundOf (slotNow f s).vround) (vecDraws (slotNow f s)) (thNow f s).rng

def vecDrawn (f : Fire) (s : State) : State :=
  let t := if vecDraws (slotNow f s) = 0 then issued f s else thPut f (fun th => { th with rng := (vecDraw f s).2 }) (issued f s)
  if (slotNow f s).vop = 0x28 then wMod (fireWk f) (fun w => { w with sfnFree := t.cycle + 4 }) t else t

/-- The 32 lanes go to a vector register, VO0 or VO1, or the local store: a lane that is masked off keeps its old value in a register and
is written as 0 elsewhere (R53). -/
def vecTo (f : Fire) (s : State) (mask : Word) (res : List Word) : State :=
  let sl := slotNow f s
  let zeroed := lanes fun i => if bit mask.toNat i then wordAt res i else 0
  goesOn f s
    (if sl.vdst < 4 then
      thPut f (fun th => { th with v := th.v.set sl.vdst (lanes fun i =>
        if bit mask.toNat i then wordAt res i else wordAt (th.v.getD sl.vdst zeroVec) i) }) (vecDrawn f s)
    else if sl.vdst = 6 then lsWrite (fireWk f) (wordAt (thNow f s).s sl.vareg).toNat (bytesOf zeroed) (vecDrawn f s)
    else sendVO (fireWk f) (sl.vdst - 4) sl f.thread.val (thNow f s).ptr zeroed (vecDrawn f s))

/-- A lane-wise operation: on the 32 lanes as integers, or on each element of the format, with the rounding of that element (R52, R107). -/
def lanewise (f : Fire) (s : State) (gi : Word → Word → Word → Word) (gf : Fmt → (FVal → Nat) → Nat → Nat → Nat → Nat) : List Word :=
  let vf := vfOf (slotNow f s).vfmt
  let rd (j : Nat) : FVal → Nat := roundF (vfFmt vf) (roundOf (slotNow f s).vround) false ((vecDraw f s).1.getD j 0)
  lanes fun i => match vf with
    | .i32 => gi (wordAt (vecA f s) i) (wordAt (vecB f s) i) (wordAt (vecC f s) i)
    | _ => laneMap vf i (fun j x y z => gf (vfFmt vf) (rd j) x y z) (wordAt (vecA f s) i) (wordAt (vecB f s) i) (wordAt (vecC f s) i)

/-- A compare writes a mask register (R52, R53). -/
def vecFlags (f : Fire) (s : State) (m : Word) (s1 : State) : State :=
  goesOn f s (thPut f (fun th => { th with m := th.m.set ((slotNow f s).vdst % 4) m }) s1)

/-- The mask whose bit i tells whether lane i is selected and compares as `p` says: `p lt eq unordered` (R52, R108). -/
def cmpBits (f : Fire) (s : State) (p : Bool → Bool → Bool → Bool) : Word :=
  BitVec.ofNat 32 (packEls 1 ((List.range 32).map fun i =>
    let a := wordAt (vecA f s) i
    let b := wordAt (vecB f s) i
    b2n (bit (vecMask f s).toNat i && match vfOf (slotNow f s).vfmt with
      | .i32 => p (a.slt b) (a == b) false
      | _ => p (decide (fvCmp (f32 a) (f32 b) < 0)) (decide (fvCmp (f32 a) (f32 b) = 0)) (fvIsNan (f32 a) || fvIsNan (f32 b)))))

/-! ### The matrix group (R50, R65, R91, R106) -/

/-- The tile that the slot names. -/
def tileNow (f : Fire) (s : State) : Tile := (wGet s (fireWk f)).tiles.getD (slotNow f s).tile tile0

/-- Address, K-steps and bytes per K-step of an MMA whose A words are in the local store. -/
def mmaAddr (f : Fire) (s : State) : Nat := (wordAt (thNow f s).s (slotNow f s).areg).toNat
def mmaSteps (f : Fire) (s : State) : Nat := (slotNow f s).ksteps + 1
def mmaBytes (f : Fire) (s : State) : Nat := 16 * kStep (slotNow f s).bfmt * aBytes (slotNow f s).afmt

/-- The rows whose block check fails on the words `aw` of A, as events still to be raised (R67). -/
def blockEvents (f : Fire) (s : State) (aw : List Nat) : List SumEv :=
  (blockFails (slotNow f s) aw (fun _ => (wGet s (fireWk f)).wbuf) (tileNow f s)).map fun r =>
    ⟨true, (slotNow f s).tile, r, f.thread.val, (thNow f s).ptr⟩

/-- The tile after the operation takes the words `aw` of A; the matrix unit is held for the operation's cycles (R61). -/
def mmaTo (f : Fire) (s : State) (aw : List Nat) : State :=
  goesOn f s (wMod (fireWk f) (fun w => { w with
      tiles := w.tiles.set (slotNow f s).tile (mmaTile (slotNow f s) aw w.wbuf (tileNow f s)), mma := none
      mmaTill := ((slotNow f s).tile, (issued f s).cycle + mmaCycles (slotNow f s)), sumEv := w.sumEv ++ blockEvents f s aw }) (issued f s))

/-! ### The memory group (R56, R57) -/

/-- The base address of a memory operation, and its operand. -/
def memBase (f : Fire) (s : State) : Nat := (wordAt (thNow f s).s (slotNow f s).mareg).toNat

/-- The post-increment, and the thread goes on. -/
def memTo (f : Fire) (s : State) (bytes : Nat) (s1 : State) : State :=
  goesOn f s (postAdd (fireWk f) f.thread.val (slotNow f s) bytes s1)

/-! ### Steering (R58, R71, R72) -/

/-- The token at the head of the slot's control input, and the state without it. -/
def tokNow (f : Fire) (s : State) : Nat := ((wGet (issued f s) (fireWk f)).token (slotNow f s).sctl).getD 0

def tokTaken (f : Fire) (s : State) : State := wMod (fireWk f) (fun w => w.popIn (4 + (slotNow f s).sctl)) (issued f s)

/-- The head entry of a data input moves to an output, 0 VO0, 1 VO1, 2 SO0; the slot's own token goes out on CO0, and the thread goes on. -/
def steerTo (f : Fire) (s : State) (s1 : State) : State :=
  goesOn f s (if (slotNow f s).token ≠ 0 then portSend (fireWk f) 3 [BitVec.ofNat 32 (slotNow f s).token] s1 else s1)

def moves (f : Fire) (s : State) (input out : Nat) (s1 : State) : State :=
  steerMove (fireWk f) f.thread.val (thNow f s).ptr (slotNow f s) input out s1

/-! ### Sync and messages (R59, R60) -/

/-- Word `REG` of the thread, its timeout, and the comb of the worker. -/
def syncReg (f : Fire) (s : State) : Word := wordAt (thNow f s).s (slotNow f s).yreg
def syncTmo (f : Fire) (s : State) : Nat := (wordAt (thNow f s).s (slotNow f s).ytreg).toNat % 2 ^ 24
def combNow (f : Fire) : Nat := fireWk f / 32

/-- The thread sets p3 and goes on. -/
def syncTo (f : Fire) (s : State) (p3 : Bool) (s1 : State) : State := goesOn f s (thPut f (fun th => setPred th 3 p3) s1)

/-! ### Next-slot control (R48) -/

/-- The thread takes `g` as its next-slot control from state `s1`, and the slot that its pointer then names is read and checked. -/
def nextTo (f : Fire) (g : Thread → Thread) (s1 : State) : State :=
  slotCheck (fireWk f) f.thread.val f.ecc (wMod (fireWk f) (fun w => w.setThr f.thread.val (reread w (g (w.thr f.thread.val)))) s1)

/-! ### Frames -/

/-- `t` differs from `s` in the workers and the register fields alone; of the fields, only those that `p` names, and of the workers only `wk`,
of which only thread `th` differs. -/
def ThreadFrame (s t : State) (wk th : Nat) (p : F → Nat → Prop) : Prop :=
  t = { s with workers := t.workers, flds := t.flds } ∧
  (∀ g i j, ¬ p g i → rget t g i j = rget s g i j) ∧
  (∀ k, k ≠ wk → wGet t k = wGet s k) ∧
  (∀ k, k ≠ th → thGet t wk k = thGet s wk k)

/-- The fields that every firing may change: the count of firings, and HALT at a breakpoint (R79). -/
def firingFields (f : Fire) (g : F) (i : Nat) : Prop := i = fireWk f ∧ (g = .WRK_ISSUED_COUNT ∨ g = .WRK_DBG_HALT)

/-! ### Host commands (R396, R399) -/

/-- The command that a row acts on is admitted: it breaks no rule of R399, and no warm module reset holds it back. -/
def admitted (s : State) (f op : Nat) (h : HostCmd) : Prop := findCmd s f op = some h ∧ cmdFail s h = none ∧ warming s = false

/-- One record more waits at a unit, and nothing else differs. -/
def Records (unit : Nat) (s t : State) (r : FaultRec) : Prop :=
  t = { s with faultBuf := tset s.faultBuf unit (tget [] s.faultBuf unit ++ [{ r with tick := s.tick, cycle := s.cycle }]) }

end Sys2Proof.Machine
end

