-- ==== Sys2Proof/Certificates/Slice0/Obligations.lean ====
section
/-! DEFINITION. The statements for the provers. -/

open Sys2Proof Sys2Proof.Machine

/-! ### The scalar group -/

/-- O1. Each integer operation of the scalar group completes and leaves its result in `s[DST]`, on SO0 too when `SOUT` is 1 (R55). -/
def Obligations.ScalarIntegerResults : Prop :=
  ∀ (f : Fire) (s : State), issues f s = true → onlyScalar (slotNow f s) = true →
    let a := scalarA f s
    let b := scalarB f s
    let op := (slotNow f s).sop
    (op = 0x01 → exec (.scalarAdd f) s = .next (scalarTo f s (a + b))) ∧
    (op = 0x02 → exec (.scalarSub f) s = .next (scalarTo f s (a - b))) ∧
    (op = 0x03 → exec (.scalarAnd f) s = .next (scalarTo f s (a &&& b))) ∧
    (op = 0x04 → exec (.scalarOr f) s = .next (scalarTo f s (a ||| b))) ∧
    (op = 0x05 → exec (.scalarXor f) s = .next (scalarTo f s (a ^^^ b))) ∧
    (op = 0x06 → exec (.scalarShl f) s = .next (scalarTo f s (a <<< (b.toNat % 32)))) ∧
    (op = 0x07 → exec (.scalarShr f) s = .next (scalarTo f s (a >>> (b.toNat % 32)))) ∧
    (op = 0x08 → exec (.scalarSra f) s = .next (scalarTo f s (a.sshiftRight (b.toNat % 32)))) ∧
    (op = 0x09 → exec (.scalarMul f) s = .next (scalarTo f s (BitVec.ofNat 32 (a.toNat * b.toNat)))) ∧
    (op = 0x0A → exec (.scalarMin f) s = .next (scalarTo f s (if a.toInt ≤ b.toInt then a else b))) ∧
    (op = 0x0B → exec (.scalarMax f) s = .next (scalarTo f s (if a.toInt ≤ b.toInt then b else a)))

/-- O2. Each compare of the scalar group completes and leaves its verdict in `p[PDST]`; MOV, the moves to and from a loop counter, and the FP32
operations complete with their results (R55). -/
def Obligations.ScalarCompareMoveAndFloatResults : Prop :=
  ∀ (f : Fire) (s : State), issues f s = true → onlyScalar (slotNow f s) = true →
    let a := scalarA f s
    let b := scalarB f s
    let sl := slotNow f s
    let op := sl.sop
    (op = 0x10 → exec (.scalarEq f) s = .next (scalarFlag f s (decide (a = b)))) ∧
    (op = 0x11 → exec (.scalarNe f) s = .next (scalarFlag f s (decide (a ≠ b)))) ∧
    (op = 0x12 → exec (.scalarLt f) s = .next (scalarFlag f s (decide (a.toInt < b.toInt)))) ∧
    (op = 0x13 → exec (.ltu f) s = .next (scalarFlag f s (decide (a.toNat < b.toNat)))) ∧
    (op = 0x14 → exec (.scalarLe f) s = .next (scalarFlag f s (decide (a.toInt ≤ b.toInt)))) ∧
    (op = 0x15 → exec (.leu f) s = .next (scalarFlag f s (decide (a.toNat ≤ b.toNat)))) ∧
    (sl.sop = 0x18 → exec (.mov f) s = .next (scalarTo f s (if sl.imm = 1 then b else a))) ∧
    (sl.sop = 0x20 → exec (.fadd f) s = .next (scalarTo f s (toF32 (fvAdd (f32 a) (f32 b))))) ∧
    (sl.sop = 0x21 → exec (.fmul f) s = .next (scalarTo f s (toF32 (fvMul (f32 a) (f32 b))))) ∧
    (sl.sop = 0x22 → exec (.fmin f) s = .next (scalarTo f s (BitVec.ofNat 32 (minMaxF fp32 false a.toNat b.toNat)))) ∧
    (sl.sop = 0x23 → exec (.fmax f) s = .next (scalarTo f s (BitVec.ofNat 32 (minMaxF fp32 true a.toNat b.toNat)))) ∧
    (sl.sop = 0x28 → exec (.moveToLoopCounter f) s =
      .next (goesOn f s (scalarOut f s (a &&& 0xFFFF#32)
        (thPut f (fun th => { th with l := th.l.set (sl.ssrcb % 4) (a.toNat % 65536) }) (issued f s))))) ∧
    (sl.sop = 0x29 → exec (.moveFromLoopCounter f) s =
      .next (scalarTo f s (BitVec.ofNat 32 ((thNow f s).l.getD (sl.ssrca % 4) 0))))

/-! ### The vector group -/

/-- O3. The integer operations of the vector group complete lane by lane (R52, R53). -/
def Obligations.VectorIntegerResults : Prop :=
  ∀ (f : Fire) (s : State), issues f s = true → onlyVector (slotNow f s) = true → vecLsOk f s true = true →
    let done (g : Word → Word → Word) : Host.Outcome State Fault Refusal :=
      .next (vecTo f s (vecMask f s) (lanes fun i => g (wordAt (vecA f s) i) (wordAt (vecB f s) i)))
    let op := (slotNow f s).vop
    (op = 0x10 → exec (.iadd f) s = done (fun a b => a + b)) ∧
    (op = 0x11 → exec (.isub f) s = done (fun a b => a - b)) ∧
    (op = 0x12 → exec (.imullo f) s = done (fun a b => BitVec.ofNat 32 (a.toNat * b.toNat))) ∧
    (op = 0x13 → exec (.imin f) s = done (fun a b => if a.toInt ≤ b.toInt then a else b)) ∧
    (op = 0x14 → exec (.imax f) s = done (fun a b => if a.toInt ≤ b.toInt then b else a)) ∧
    (op = 0x15 → exec (.vectorAnd f) s = done (fun a b => a &&& b)) ∧
    (op = 0x16 → exec (.vectorOr f) s = done (fun a b => a ||| b)) ∧
    (op = 0x17 → exec (.vectorXor f) s = done (fun a b => a ^^^ b)) ∧
    (op = 0x18 → exec (.vectorShl f) s = done (fun a b => a <<< (b.toNat % 32))) ∧
    (op = 0x19 → exec (.vectorShr f) s = done (fun a b => a >>> (b.toNat % 32))) ∧
    (op = 0x1A → exec (.vectorSra f) s = done (fun a b => a.sshiftRight (b.toNat % 32)))

/-- O4. The arithmetic operations of the vector group complete lane by lane, on INT32 with wrapping arithmetic and on the floating-point formats
with one rounding of the exact result (R52, R107, R108). -/
def Obligations.VectorArithmeticResults : Prop :=
  ∀ (f : Fire) (s : State), issues f s = true → onlyVector (slotNow f s) = true → vecLsOk f s true = true →
    let done (gi : Word → Word → Word → Word) (gf : Fmt → (FVal → Nat) → Nat → Nat → Nat → Nat) : Host.Outcome State Fault Refusal :=
      .next (vecTo f s (vecMask f s) (lanewise f s gi gf))
    let op := (slotNow f s).vop
    (op = 0x01 → exec (.vectorAdd f) s = done (fun a b _ => a + b) (fun m rd x y _ => rd (fvAdd (decodeF m x) (decodeF m y)))) ∧
    (op = 0x02 → exec (.vectorSub f) s = done (fun a b _ => a - b) (fun m rd x y _ => rd (fvAdd (decodeF m x) (fvNeg (decodeF m y))))) ∧
    (op = 0x03 → exec (.vectorMul f) s = done (fun a b _ => a * b) (fun m rd x y _ => rd (fvMul (decodeF m x) (decodeF m y)))) ∧
    (op = 0x04 → exec (.fma f) s =
      done (fun a b c => a * b + c) (fun m rd x y z => rd (fvAdd (fvMul (decodeF m x) (decodeF m y)) (decodeF m z)))) ∧
    (op = 0x05 → exec (.fms f) s =
      done (fun a b c => a * b - c) (fun m rd x y z => rd (fvAdd (fvMul (decodeF m x) (decodeF m y)) (fvNeg (decodeF m z))))) ∧
    (op = 0x06 → exec (.vectorMin f) s = done (fun a b _ => if a.toInt ≤ b.toInt then a else b) (fun m _ x y _ => minMaxF m false x y)) ∧
    (op = 0x07 → exec (.vectorMax f) s = done (fun a b _ => if a.toInt ≤ b.toInt then b else a) (fun m _ x y _ => minMaxF m true x y)) ∧
    (op = 0x08 → exec (.abs f) s = done (fun a _ _ => if a.toInt < 0 then -a else a) (fun m _ x _ _ => x % 2 ^ (m.width - 1))) ∧
    (op = 0x09 → exec (.neg f) s = done (fun a _ _ => -a)
      (fun m _ x _ _ => if bit x (m.width - 1) then x % 2 ^ (m.width - 1) else x + 2 ^ (m.width - 1)))

/-- O5. Each compare of the vector group completes and writes its lane mask, 0 in lanes that `MSEL` masks off (R52, R53, R108). On packed
elements, whose mask the manual does not state, the mask is a free value of the operation and its operands under the select mask (assumption 10). -/
def Obligations.VectorCompareResults : Prop :=
  ∀ (f : Fire) (s : State), issues f s = true → onlyVector (slotNow f s) = true → vecLsOk f s false = true →
    let done (p : Bool → Bool → Bool → Bool) : Host.Outcome State Fault Refusal :=
      .next (if vfPacked (vfOf (slotNow f s).vfmt) = true then
          vecFlags f s (Config.packedCompare (slotNow f s).vop (slotNow f s).vfmt (vecA f s) (vecB f s) &&& vecMask f s) (issued f s)
        else vecFlags f s (cmpBits f s p) (issued f s))
    let op := (slotNow f s).vop
    (op = 0x20 → exec (.vectorEq f) s = done (fun _ eq un => eq && !un)) ∧
    (op = 0x21 → exec (.vectorNe f) s = done (fun _ eq un => !eq || un)) ∧
    (op = 0x22 → exec (.vectorLt f) s = done (fun lt _ un => lt && !un)) ∧
    (op = 0x23 → exec (.vectorLe f) s = done (fun lt eq un => (lt || eq) && !un)) ∧
    (op = 0x24 → exec (.vectorGt f) s = done (fun lt eq un => !lt && !eq && !un)) ∧
    (op = 0x25 → exec (.vectorGe f) s = done (fun lt _ un => !lt && !un))

/-- O6. The lane moves, the reductions, the special functions and the conversion complete (R52, R53, R104 to R106). -/
def Obligations.VectorLaneResults : Prop :=
  ∀ (f : Fire) (s : State), issues f s = true → onlyVector (slotNow f s) = true → vecLsOk f s true = true →
    let sl := slotNow f s
    let done (r : List Word) : Host.Outcome State Fault Refusal := .next (vecTo f s (vecMask f s) r)
    let a (i : Nat) : Word := wordAt (vecA f s) i
    let md := roundOf sl.vround
    (sl.vop = 0x28 → exec (.vectorSfn f) s =
      done (lanes fun i => BitVec.ofNat 32 (roundF fp32 md false ((vecDraw f s).1.getD i 0) (sfnVal sl.sfn (f32 (a i)))))) ∧
    (sl.vop = 0x30 → exec (.rsum f) s = done (reduceOp 0x30 (vfOf sl.vfmt) md (vecDraw f s).1 (vecA f s) :: List.replicate 31 0)) ∧
    (sl.vop = 0x31 → exec (.rmax f) s = done (reduceOp 0x31 (vfOf sl.vfmt) md (vecDraw f s).1 (vecA f s) :: List.replicate 31 0)) ∧
    (sl.vop = 0x32 → exec (.rmin f) s = done (reduceOp 0x32 (vfOf sl.vfmt) md (vecDraw f s).1 (vecA f s) :: List.replicate 31 0)) ∧
    (sl.vop = 0x33 → exec (.rot f) s = done (lanes fun i => a ((i + sl.ctrl % 32) % 32))) ∧
    (sl.vop = 0x34 → exec (.bcast f) s = done (lanes fun _ => a (sl.ctrl % 32))) ∧
    (sl.vop = 0x35 → exec (.sel f) s =
      .next (vecTo f s 0xFFFFFFFF#32 (lanes fun i => if bit (vecMask f s).toNat i then a i else wordAt (vecB f s) i))) ∧
    (sl.vop = 0x38 → exec (.vectorCvt f) s = done (cvt (fld sl.ctrl 0 4) (fld sl.ctrl 4 4) md (vecDraw f s).1 (vecA f s)))

/-! ### The matrix group -/

/-- O7. CLEAR, MMA and MMAZ with A in the local store, and a one-step MMA or MMAZ from a vector input, complete on their tile, when the
weights hold no invalid TN byte (R50, R65, R91, R94). An MMA accepts a tile without a type or of its pair's type (R96). -/
def Obligations.MatrixTileResults : Prop :=
  ∀ (f : Fire) (s : State), issues f s = true → onlyMatrix (slotNow f s) = true →
    let sl := slotNow f s
    let aw := aWords s (fireWk f) (mmaAddr f s) (mmaSteps f s) (mmaBytes f s)
    let good := badTn sl (wGet s (fireWk f)).wbuf (tileNow f s) = []
    (sl.mop = 4 → exec (.clear f) s =
      .next (goesOn f s (wMod (fireWk f) (fun w => { w with tiles := w.tiles.set sl.tile tile0 }) (issued f s)))) ∧
    (sl.asrc = 0 → good → mmaAddr f s + mmaSteps f s * mmaBytes f s ≤ lsSize →
      (sl.mop = 1 → (tileNow f s).ty = .none ∨ (tileNow f s).ty = pairTy sl → exec (.mma f) s = .next (mmaTo f s aw)) ∧
      (sl.mop = 2 → exec (.mmaz f) s = .next (mmaTo f s aw))) ∧
    (∀ n, sl.asrc ≠ 0 → good → sl.ksteps = 0 → (wGet s (fireWk f)).head (sl.asrc - 1) = some n →
      (sl.mop = 1 → (tileNow f s).ty = .none ∨ (tileNow f s).ty = pairTy sl → exec (.mma f) s = .next (mmaTo f s [ofLanes n.data])) ∧
      (sl.mop = 2 → exec (.mmaz f) s = .next (mmaTo f s [ofLanes n.data])))

/-- O8. An MMA on a tile of the other type is refused: its thread parks until the step ends, and a schedule fault record names the worker
(R96). -/
def Obligations.MmaOnOtherTypeIsRefused : Prop :=
  ∀ (f : Fire) (s : State), issues f s = true → onlyMatrix (slotNow f s) = true → (slotNow f s).mop = 1 →
    (tileNow f s).ty ≠ .none → (tileNow f s).ty ≠ pairTy (slotNow f s) →
    exec (.mma f) s = .next (refuse (fireWk f) f.thread.val (slotNow f s) 2 s)

/-- O9. MMAZ forgets the tile: its result is the same whatever accumulators, sums and type the tile held (R50). -/
def Obligations.MmazForgetsTheTile : Prop :=
  ∀ (sl : Slot) (aw wbuf : List Nat) (t u : Tile), sl.mop = 2 → mmaTile sl aw wbuf t = mmaTile sl aw wbuf u

/-- O10. DRAIN converts the tile row by row: to the local store, 16 rows of 64 bytes from `s[DREG]`, or to a vector output; the tile keeps its
value (R50, R106). -/
def Obligations.DrainResults : Prop :=
  ∀ (f : Fire) (s : State), issues f s = true → onlyMatrix (slotNow f s) = true → (slotNow f s).mop = 3 →
    let sl := slotNow f s
    let a := (wordAt (thNow f s).s sl.dreg).toNat
    (sl.mdst = 2 → a + 1024 ≤ lsSize → ∃ t, exec (.drain f) s = .next (goesOn f s t) ∧
      (wGet t (fireWk f)).tiles = (wGet s (fireWk f)).tiles ∧
      t.mem = mputs s.mem (lsKey (fireWk f) a) ((List.range 16).flatMap fun r =>
        toLe 64 (drainRow sl (tileNow f s) (drawsFor (roundOf sl.mround) 256 (thNow f s).rng).1 r))) ∧
    (sl.mdst < 2 → ∃ t, exec (.drain f) s = .next (goesOn f s t) ∧
      (wGet t (fireWk f)).tiles = (wGet s (fireWk f)).tiles ∧ t.mem = s.mem ∧
      (wGet t (fireWk f)).lastDrain = (List.range 16).map fun r =>
        drainRow sl (tileNow f s) (drawsFor (roundOf sl.mround) 256 (thNow f s).rng).1 r)

/-! ### The memory group -/

/-- O11. Loads and stores of vector and scalar registers complete on an aligned address inside the local store (R56, R57). -/
def Obligations.LocalStoreResults : Prop :=
  ∀ (f : Fire) (s : State), issues f s = true → onlyMemory (slotNow f s) = true →
    let sl := slotNow f s
    let wk := fireWk f
    let va := memBase f s + 128 * sl.offset
    let sa := memBase f s + 4 * sl.offset
    (sl.memop = 1 → lsOk va 128 = true → exec (.ldv f) s =
      .next (memTo f s 128 (thPut f (fun th => { th with v := th.v.set (sl.reg % 4) (lanesOf (lsRead s wk va 128)) }) (issued f s)))) ∧
    (sl.memop = 2 → lsOk va 128 = true → exec (.stv f) s =
      .next (memTo f s 128 (lsWrite wk va (bytesOf ((thNow f s).v.getD (sl.reg % 4) zeroVec)) (issued f s)))) ∧
    (sl.memop = 3 → lsOk sa 4 = true → exec (.lds f) s =
      .next (memTo f s 4 (thPut f (fun th => { th with s := th.s.set sl.reg (BitVec.ofNat 32 (ofLe (lsRead s wk sa 4))) }) (issued f s)))) ∧
    (sl.memop = 4 → lsOk sa 4 = true → exec (.sts f) s =
      .next (memTo f s 4 (lsWrite wk sa (toLe 4 (wordAt (thNow f s).s sl.reg).toNat) (issued f s))))

/-- O12. The rafter tap's beat goes to the local store or the weight buffer, and LDB fills a weight-buffer entry from the local store
(R56). -/
def Obligations.TapAndWeightBufferResults : Prop :=
  ∀ (f : Fire) (s : State), issues f s = true → onlyMemory (slotNow f s) = true →
    let sl := slotNow f s
    let wk := fireWk f
    let beat := (wGet s wk).tap.headD 0
    let va := memBase f s + 128 * sl.offset
    (sl.memop = 7 → lsOk (128 * sl.offset) 512 = true → exec (.rtls f) s =
      .next (memTo f s 512 (lsWrite wk (128 * sl.offset) (toLe 512 beat) (issued f s)))) ∧
    (sl.memop = 8 → exec (.rtb f) s = .next (memTo f s 512 (wMod wk (fun w => { w with wbuf := w.wbuf.set sl.reg beat }) (issued f s)))) ∧
    (sl.memop = 9 → lsOk va 512 = true → exec (.ldb f) s =
      .next (memTo f s 512 (wMod wk (fun w => { w with wbuf := w.wbuf.set sl.reg (ofLe (lsRead s wk va 512)) }) (issued f s))))

/-- Whether the check of a block finds it lost, and whether a re-read mended it. -/
def crcFailed : BlockCrc → Bool
  | .failed _ => true
  | _ => false

def crcPassed : BlockCrc → Bool
  | .reread _ => true
  | _ => false

/-- O13. With its tags free, CMRD copies blocks of the comb's memory into the local store, and CMWR the other way, byte for byte; a poisoned
block, or one whose re-read fails, reads as 0 and bears the mark; a re-read that passes is counted; a block that a drop still waits for holds its tag
and reaches the local store later; a full-block write clears the mark; every other byte of memory stays (R56, R57, R63, R244, R316). -/
def Obligations.CombMemoryResults : Prop :=
  ∀ (f : Fire) (s : State), issues f s = true → onlyMemory (slotNow f s) = true →
    let sl := slotNow f s
    let wk := fireWk f
    let cb := combNow f
    let a := memBase f s
    let bytes := 128 * (sl.blocks + 1)
    let ls := 128 * sl.offset
    let pend (j : Nat) : Option Nat := pendingBlock s cb (a + 128 * j)
    a % 128 = 0 → a + bytes ≤ cmSize → absentComb s cb = false → ls + bytes ≤ lsSize → tagsOk s wk (sl.blocks + 1) = true →
      Memory.wf s.mem = true →
      (sl.memop = 5 → ∃ t, exec (.cmrd f) s = .next (memTo f s bytes t) ∧
        (∀ i, i < bytes → pend (i / 128) = none → mget t.mem (lsKey wk (ls + i)) =
          if s.poison.contains (cmBlock cb (a + i)) || crcFailed (f.crc.getD (i / 128) .good) then 0 else mget s.mem (cmKey cb (a + i))) ∧
        (∀ i, i < bytes → t.poison.contains (cmBlock cb (a + i)) =
          (s.poison.contains (cmBlock cb (a + i)) || ((pend (i / 128)).isNone && crcFailed (f.crc.getD (i / 128) .good)))) ∧
        (∀ j id, j ≤ sl.blocks → pend j = some id → (∀ i, i < 128 → mget t.mem (lsKey wk (ls + 128 * j + i)) = mget s.mem (lsKey wk (ls + 128 * j + i))) ∧
          ∃ g ∈ t.tags, g.comb = cb ∧ g.owner = some (wk, f.thread.val) ∧ g.read = true ∧ g.pending = some id ∧ g.ls = ls + 128 * j) ∧
        (rget s .TND_EVT_COUNT cb 0 + sl.blocks + 1 ≤ 0xFFFFFFFF → rget t .TND_EVT_COUNT cb 0 = rget s .TND_EVT_COUNT cb 0 +
          ((List.range (sl.blocks + 1)).filter fun j => (pend j).isNone && !s.poison.contains (cmBlock cb (a + 128 * j)) &&
            crcPassed (f.crc.getD j .good)).length) ∧
        (∀ k, (∀ i, i < bytes → k ≠ lsKey wk (ls + i)) → mget t.mem k = mget s.mem k)) ∧
      (sl.memop = 6 → ∃ t, exec (.cmwr f) s = .next (memTo f s bytes t) ∧
        (∀ i, i < bytes → mget t.mem (cmKey cb (a + i)) = mget s.mem (lsKey wk (ls + i)) ∧ t.poison.contains (cmBlock cb (a + i)) = false) ∧
        (∀ k, (∀ i, i < bytes → k ≠ cmKey cb (a + i)) → mget t.mem k = mget s.mem k))

/-- O14. A local-store access that is misaligned or reaches beyond the store, and a comb-memory access that does so or whose comb is absent, is not
made: the worker's fault register and a record name an address fault (R29, R57). -/
def Obligations.LocalStoreFaults : Prop :=
  ∀ (f : Fire) (s : State), issues f s = true → onlyMemory (slotNow f s) = true →
    let sl := slotNow f s
    let bad (a : Nat) : Host.Outcome State Fault Refusal :=
      .next (goesOn f s (addrFault (fireWk f) f.thread.val (thNow f s).ptr (lsAddr (fireWk f) a) (issued f s)))
    let va := memBase f s + 128 * sl.offset
    let sa := memBase f s + 4 * sl.offset
    (sl.memop = 1 → lsOk va 128 = false → exec (.ldv f) s = bad va) ∧
    (sl.memop = 2 → lsOk va 128 = false → exec (.stv f) s = bad va) ∧
    (sl.memop = 3 → lsOk sa 4 = false → exec (.lds f) s = bad sa) ∧
    (sl.memop = 4 → lsOk sa 4 = false → exec (.sts f) s = bad sa) ∧
    (sl.memop = 7 → lsOk (128 * sl.offset) 512 = false → exec (.rtls f) s = bad (128 * sl.offset)) ∧
    (sl.memop = 9 → lsOk va 512 = false → exec (.ldb f) s = bad va) ∧
    (memBase f s % 128 ≠ 0 ∨ cmSize < memBase f s + 128 * (sl.blocks + 1) ∨ absentComb s (combNow f) = true →
      let badCm : Host.Outcome State Fault Refusal := .next (goesOn f s
        (addrFault (fireWk f) f.thread.val (thNow f s).ptr (cmAddr (combNow f) (memBase f s)) (issued f s)))
      (sl.memop = 5 → exec (.cmrd f) s = badCm) ∧ (sl.memop = 6 → exec (.cmwr f) s = badCm))

/-! ### Steering -/

/-- O15. Each steering operation that is ready completes: SELECT, SWITCH, MERGE and GATE move entries by their token, EMIT sends the slot's own
token alone, and FORWARD sends the token it takes (R58, R71, R72). -/
def Obligations.SteeringResults : Prop :=
  ∀ (f : Fire) (s : State), issues f s = true → onlySteer (slotNow f s) = true →
    readyOf s (fireWk f) (wGet s (fireWk f)) f.thread.val = .fire →
    let sl := slotNow f s
    let isTrue : Bool := tokNow f s % 8 == 3
    let w := wGet (issued f s) (fireWk f)
    (sl.steer = 1 → exec (.select f) s =
      .next (steerTo f s (moves f s (if isTrue then sl.sia else sl.sib) sl.stout (tokTaken f s)))) ∧
    (sl.steer = 2 → exec (.switch f) s =
      .next (steerTo f s (moves f s sl.sia (if sl.stout = 0 then (if isTrue then 0 else 1) else (if isTrue then 1 else 0)) (tokTaken f s)))) ∧
    (sl.steer = 3 → exec (.merge f) s = .next (steerTo f s (moves f s
      (match w.head (steerIn sl.sia), w.head (steerIn sl.sib) with
        | some x, some y => if y.cyc < x.cyc then sl.sib else sl.sia
        | some _, none => sl.sia
        | none, _ => sl.sib) sl.stout (issued f s)))) ∧
    (sl.steer = 4 → exec (.gate f) s = .next (steerTo f s
      (if isTrue then moves f s sl.sia sl.stout (tokTaken f s)
       else wMod (fireWk f) (fun w => w.popIn (steerIn sl.sia)) (tokTaken f s)))) ∧
    (sl.steer = 5 → exec (.emit f) s = .next (steerTo f s (issued f s))) ∧
    (sl.steer = 6 → exec (.forward f) s = .next (steerTo f s (portSend (fireWk f) 3 [BitVec.ofNat 32 (tokNow f s)] (tokTaken f s))))

/-- O16. A SELECT, SWITCH or GATE whose token is of kind valid or last, with its other conditions met, is refused (R72). -/
def Obligations.TokenIsRefused : Prop :=
  ∀ (f : Fire) (s : State), issues f s = true →
    readyOf s (fireWk f) (wGet s (fireWk f)) f.thread.val = .tokenRefused →
    let done : Host.Outcome State Fault Refusal := .next (refuse (fireWk f) f.thread.val (slotNow f s) 1 s)
    ((slotNow f s).steer = 1 → exec (.select f) s = done) ∧
    ((slotNow f s).steer = 2 → exec (.switch f) s = done) ∧
    ((slotNow f s).steer = 4 → exec (.gate f) s = done)

/-! ### Sync and messages -/

/-- O17. SIG signals the local object, RSIG sends a signal through its binding and counts it until the answer, or takes an address fault when the
binding's comb is absent, and POP moves a received tuple into registers and returns a credit (R29, R59, R276, R280, R283). -/
def Obligations.SignalAndPopResults : Prop :=
  ∀ (f : Fire) (s : State), issues f s = true → onlySync (slotNow f s) = true →
    let sl := slotNow f s
    let wk := fireWk f
    let v := (syncReg f s).toNat % 65536
    (sl.yop = 1 → needsMQ sl = false → exec (.sig f) s = .next (goesOn f s (signal (combNow f) sl.yobj v (issued f s)))) ∧
    (∀ q, sl.yop = 3 → needsMQ sl = false → sbind (wGet (issued f s) wk) sl.ybind = some q → absentComb s (cbOf q.x q.y) = true →
      exec (.rsig f) s = .next (goesOn f s (addrFault wk f.thread.val (thGet (issued f s) wk f.thread.val).ptr (soAddr q.x q.y q.obj) (issued f s)))) ∧
    (∀ q, sl.yop = 3 → needsMQ sl = false → sbind (wGet (issued f s) wk) sl.ybind = some q → absentComb s (cbOf q.x q.y) = false → ∃ t p,
      exec (.rsig f) s = .next (goesOn f s t) ∧ t.flight = s.flight ++ [p] ∧ p.op = 8 ∧ p.value.toNat = v ∧
      p.addr.toNat = soAddr q.x q.y q.obj % 2 ^ 64 ∧
      (wGet t wk).unacked.getD sl.ybind 0 =
        (if sl.ybind < (wGet (issued f s) wk).unacked.length then (wGet (issued f s) wk).unacked.getD sl.ybind 0 + 1 else 0)) ∧
    (∀ e, sl.yop = 5 → needsMQ sl = true → ((wGet s wk).queues.getD sl.qsel []).head? = some e → exec (.pop f) s =
      .next (goesOn f s (thPut f (fun th => { th with s := (List.range 4).foldl (fun l i => l.set ((sl.yreg + i) % 16) (wordAt e.words i)) th.s })
        (creditBack wk e (issued f s)))))

/-- O18. A WAIT that its object lets pass sets p3 to 1 and goes on; one that does not pass parks its thread, or, with a timeout of 0, sets p3 to 0
and reports (R13, R60, R280). -/
def Obligations.WaitResults : Prop :=
  ∀ (f : Fire) (s : State), issues f s = true → onlySync (slotNow f s) = true → (slotNow f s).yop = 2 → needsMQ (slotNow f s) = false →
    let wk := fireWk f
    let n := (slotNow f s).yobj
    let r := objWait (objGet s (combNow f) n) ⟨wk, f.thread.val, syncReg f s⟩
    let kept := { r.2.2 with waiters := r.2.2.waiters.filter (fun w => !(w.worker == wk && w.thread == f.thread.val)) }
    (r.1 = true → exec (.wait f) s =
      .next (syncTo f s true (wakeAll r.2.1 true (objSet (combNow f) n r.2.2 (issued f s))))) ∧
    (r.1 = false → syncTmo f s ≠ 0 → exec (.wait f) s =
      .next (thPut f (fun th => { th with park := .wait n (syncReg f s) }) (objSet (combNow f) n r.2.2 (issued f s)))) ∧
    (r.1 = false → syncTmo f s = 0 → exec (.wait f) s =
      .next (syncTo f s false (timeoutEnd wk f.thread.val n (soAddr (cbX (combNow f)) (cbY (combNow f)) n) true
        (objSet (combNow f) n kept (issued f s)))))

/-- O19. A SEND that finds a credit takes it, sends its tuple and sets p3 to 1; on a gone binding it fails, and one to an absent comb is an address
fault; without a credit it parks its thread, or, with a timeout of 0, sets p3 to 0 and reports (R29, R60, R274, R278). -/
def Obligations.SendResults : Prop :=
  ∀ (f : Fire) (s : State) (q : QTarget), issues f s = true → onlySync (slotNow f s) = true → (slotNow f s).yop = 4 →
    needsMQ (slotNow f s) = false →
    let wk := fireWk f
    let b := (slotNow f s).ybind
    let w := wGet (issued f s) wk
    let tuple := tupleOf (thNow f s) (slotNow f s).yreg (slotNow f s).ylen
    qbind w b = some q →
    (absentComb s (cbOf q.x q.y) = true → exec (.send f) s = .next (syncTo f s false
      (addrFault wk f.thread.val (thGet (issued f s) wk f.thread.val).ptr (quAddr q.x q.y q.w q.q) (issued f s)))) ∧
    (absentComb s (cbOf q.x q.y) = false →
    (w.gone.getD b false = true → exec (.send f) s = .next (syncTo f s false (goneFail wk f.thread.val q (issued f s)))) ∧
    (w.gone.getD b false = false → 0 < w.cred.getD b 0 → exec (.send f) s = .next (syncTo f s true (sendNow wk b q tuple (issued f s)))) ∧
    (w.gone.getD b false = false → w.cred.getD b 0 = 0 → syncTmo f s ≠ 0 →
      exec (.send f) s = .next (thPut f (fun th => { th with park := .credit b tuple }) (issued f s))) ∧
    (w.gone.getD b false = false → w.cred.getD b 0 = 0 → syncTmo f s = 0 →
      exec (.send f) s = .next (syncTo f s false (timeoutEnd wk f.thread.val q.q (quAddr q.x q.y q.w q.q) false (issued f s)))))

/-! ### Next-slot control -/

/-- O20. Next-slot control: a slot without other work moves its thread's pointer as the table says; LOOP counts down and never wraps; END ends
the thread, which is parked until the step ends and resumes at `TARGET` at the next step start (R48). -/
def Obligations.NextSlotResults : Prop :=
  (∀ (f : Fire) (s : State), issues f s = true → onlyNext (slotNow f s) = true →
    let sl := slotNow f s
    let bits := (thNow f s).slot.toNat
    let done (g : Thread → Thread) : Host.Outcome State Fault Refusal := .next (nextTo f g (issued f s))
    let p (th : Thread) : Bool := predOf th sl.bpsel
    let n (th : Thread) : Nat := th.l.getD sl.lsel 0
    (sl.next = bits / 2 ^ 237 % 8 ∧ sl.target = bits / 2 ^ 228 % 512 ∧ sl.bpsel = bits / 2 ^ 226 % 4 ∧ sl.lsel = bits / 2 ^ 224 % 4) ∧
    (sl.next = 0 → exec (.nextSeq f) s = done (fun th => { th with ptr := (th.ptr + 1) % 512 })) ∧
    (sl.next = 1 → exec (.jump f) s = done (fun th => { th with ptr := sl.target })) ∧
    (sl.next = 2 → exec (.brt f) s = done (fun th => { th with ptr := if p th then sl.target else (th.ptr + 1) % 512 })) ∧
    (sl.next = 3 → exec (.brf f) s = done (fun th => { th with ptr := if p th then (th.ptr + 1) % 512 else sl.target })) ∧
    (sl.next = 4 → exec (.loop f) s = done (fun th =>
      if n th = 0 then { th with ptr := (th.ptr + 1) % 512 }
      else { th with l := th.l.set sl.lsel (n th - 1), ptr := if n th - 1 = 0 then (th.ptr + 1) % 512 else sl.target })) ∧
    (sl.next = 5 → exec (.endStep f) s = done (fun th => { th with ptr := sl.target, ended := true }))) ∧
  (∀ (w : Worker) (t cyc : Nat), t ∈ w.actives →
    ((w.thr t).ended = true → ∀ s wk, readyOf s wk w t = .no) ∧
    ((Worker.start cyc w).thr t).ptr = (w.thr t).ptr ∧ ((Worker.start cyc w).thr t).ended = false)

/-- O21. A slot whose predicate condition fails fires as an empty slot: it is ready without waiting for its `NEED` inputs, it consumes nothing, writes
nothing and starts nothing, whatever its groups say, and its next-slot control still applies in full (R47). -/
def Obligations.FailedPredicateFiresEmpty : Prop :=
  (∀ (s : State) (wk : Nat) (w : Worker) (t : Nat), (w.thr t).ended = false → (w.thr t).park = .none →
    predOk (slotOf (w.thr t).slot) (w.thr t) = false → readyOf s wk w t = .fire) ∧
  (∀ (f : Fire) (s : State), workerRuns s (fireWk f) (wGet s (fireWk f)) = true →
    pick s (fireWk f) (wGet s (fireWk f)) = some f.thread.val → predOk (slotNow f s) (thNow f s) = false →
    let sl := slotNow f s
    let done : Host.Outcome State Fault Refusal := .next (nextTo f (nextSlot sl) (counted f s))
    (sl.next = 0 → exec (.nextSeq f) s = done) ∧ (sl.next = 1 → exec (.jump f) s = done) ∧ (sl.next = 2 → exec (.brt f) s = done) ∧
    (sl.next = 3 → exec (.brf f) s = done) ∧ (sl.next = 4 → exec (.loop f) s = done) ∧ (sl.next = 5 → exec (.endStep f) s = done))

/-- O22. A worker's part of a step is done when every active thread has taken END, the ridge of its context waits for that report of every worker, and
a thread that has taken END fires nothing more in the step: whatever slot row names it leaves the state as it is (R49). -/
def Obligations.EndedThreadFiresNothing : Prop :=
  (∀ w : Worker, w.done = true ↔ ∀ t ∈ w.actives, (w.thr t).ended = true) ∧
  (∀ (c wk : Nat) (s : State), workersDone s c = true → ctxHas s c (wk / 32) = true → (wGet s wk).done = true) ∧
  (∀ (c : Fin 16) (s : State), workersDone s c.val = false → exec (.ridgeRelease c) s = .next s) ∧
  (∀ (f : Fire) (s : State), (thNow f s).ended = true →
    (∀ sel, fireOp f sel s = s) ∧
    exec (.mma f) s = .next s ∧ exec (.vectorAdd f) s = .next s ∧ exec (.scalarAdd f) s = .next s ∧ exec (.ldv f) s = .next s ∧
    exec (.select f) s = .next s ∧ exec (.sig f) s = .next s ∧ exec (.nextSeq f) s = .next s ∧ exec (.endStep f) s = .next s)

/-! ### Frames of the slots -/

/-- O23. A scalar operation that sends nothing changes its thread alone, and of the register fields only the firing count and HALT. -/
def Obligations.ScalarFrame : Prop :=
  ∀ (f : Fire) (s : State), onlyScalar (slotNow f s) = true → (slotNow f s).sout = 0 → f.ecc = .good → (wGet s (fireWk f)).upsets = [] →
    ∀ c ∈ [Instr.scalarAdd f, .scalarSub f, .scalarAnd f, .scalarOr f, .scalarXor f, .scalarShl f, .scalarShr f, .scalarSra f, .scalarMul f,
      .scalarMin f, .scalarMax f, .scalarEq f, .scalarNe f, .scalarLt f, .ltu f, .scalarLe f, .leu f, .mov f, .fadd f, .fmul f, .fmin f,
      .fmax f, .moveToLoopCounter f, .moveFromLoopCounter f],
    ∃ t, exec c s = .next t ∧ ThreadFrame s t (fireWk f) f.thread.val (firingFields f)

/-- O24. A vector operation into a register, with no local-store operand, changes its thread alone, and of the register fields only the firing
count and HALT. -/
def Obligations.VectorFrame : Prop :=
  ∀ (f : Fire) (s : State), onlyVector (slotNow f s) = true → (slotNow f s).vdst < 4 → (slotNow f s).vsrca ≠ 6 → (slotNow f s).vsrcb ≠ 6 →
    f.ecc = .good → (wGet s (fireWk f)).upsets = [] →
    ∀ c ∈ [Instr.vectorEq f, .vectorNe f, .vectorLt f, .vectorLe f, .vectorGt f, .vectorGe f, .vectorAdd f, .vectorSub f, .vectorMul f, .fma f,
      .fms f, .vectorMin f, .vectorMax f, .abs f, .neg f, .iadd f, .isub f, .imullo f,
      .imin f, .imax f, .vectorAnd f, .vectorOr f, .vectorXor f, .vectorShl f, .vectorShr f, .vectorSra f, .vectorSfn f, .rsum f, .rmax f, .rmin f,
      .rot f, .bcast f, .sel f, .vectorCvt f],
    ∃ t, exec c s = .next t ∧ ThreadFrame s t (fireWk f) f.thread.val (firingFields f)

/-- O25. The memory operations of a slot: a load changes no byte of memory, and a store only the bytes it stores to; the post-increment and the
destination register aside, no other thread changes (R56, R57). -/
def Obligations.LocalStoreFrame : Prop :=
  ∀ (f : Fire) (s : State), Memory.wf s.mem = true → issues f s = true → onlyMemory (slotNow f s) = true → f.ecc = .good →
    (wGet s (fireWk f)).upsets = [] →
    let sl := slotNow f s
    let wk := fireWk f
    let va := memBase f s + 128 * sl.offset
    let sa := memBase f s + 4 * sl.offset
    let same (c : Instr) (a k : Nat) : Prop := ∃ t, exec c s = .next t ∧
      t = { s with workers := t.workers, flds := t.flds, mem := t.mem } ∧
      (∀ g i j, ¬ firingFields f g i → rget t g i j = rget s g i j) ∧
      (∀ key, (∀ i, i < k → key ≠ lsKey wk (a + i)) → mget t.mem key = mget s.mem key) ∧
      (∀ n, n ≠ wk → wGet t n = wGet s n) ∧ (∀ n, n ≠ f.thread.val → thGet t wk n = thGet s wk n)
    (sl.memop = 1 → lsOk va 128 = true → same (.ldv f) 0 0) ∧
    (sl.memop = 2 → lsOk va 128 = true → same (.stv f) va 128) ∧
    (sl.memop = 3 → lsOk sa 4 = true → same (.lds f) 0 0) ∧
    (sl.memop = 4 → lsOk sa 4 = true → same (.sts f) sa 4) ∧
    (sl.memop = 7 → lsOk (128 * sl.offset) 512 = true → same (.rtls f) (128 * sl.offset) 512) ∧
    (sl.memop = 8 → same (.rtb f) 0 0) ∧
    (sl.memop = 9 → lsOk va 512 = true → same (.ldb f) 0 0)

/-! ### Input power -/

/-- O26. The input switches, the soft start and its three failures, input power good, the power-fail sequence, and a blade that carries no current
(R467 to R470). -/
def Obligations.InputPowerResults : Prop :=
  ∀ s : State,
    let p := s.powerIn
    (∀ mv, 44000 ≤ mv → mv ≤ 60000 → p.switch = 0 → p.locked = false →
      exec (.softStart mv) s = .next { s with powerIn := { p with switch := 1 } }) ∧
    (p.switch = 1 → exec .inputSwitchClose s = .next { s with powerIn := { p with switch := 2, fails := 0 } }) ∧
    (p.switch = 1 → exec .softStartFault s =
      .next { s with powerIn := { p with switch := 0, fails := p.fails + 1, locked := decide (3 ≤ p.fails + 1) } }) ∧
    (p.switch = 2 → p.good = false → ∃ t, exec .inputPowerGood s = .next t ∧ t.powerIn.good = true ∧ t.keeper.inReset = false ∧
      rget t .HST_STATUS_STAGE = 0 ∧ rget t .FUS_START_CAUSE = 0 ∧ t.pending = s.pending) ∧
    (exec .inputOvervoltage s = .next { s with powerIn := { p with switch := 0 } }) ∧
    (p.good = true → ∃ t, exec .powerFailSequence s = .next t ∧ t.powerIn = { p with switch := 0, good := false, failing := true } ∧
      t.keeper.inReset = true ∧ t.sec.nonce = none ∧ t.flash = s.flash ∧
      (∀ ch off, ch < 2048 → off < 2 ^ 32 → mget t.mem (emKey ch off) = 0) ∧
      (∀ r, r < 42 → rget t .PWR_RSTAT_CA_STATE r = 3 ∧ rget t .PWR_RSTAT_SP_STATE r = 2)) ∧
    (∀ blade : Fin 2, dutiesRun s = true → 1000 ≤ rget s .TLM_POWER_W → ∃ t, exec (.bladeIdle blade) s = .next t ∧
      Records 50 s t (heatRec 0x33 (2 ||| blade.val <<< 2 ||| (rget s .TLM_POWER_MV / 10) <<< 16)))

/-! ### The host interface -/

/-- O27. A whole command written into an inbox with room is accepted and counted; the ring pointers take the host's value; enabling a ring that is
disabled sets its `HEAD` and `TAIL` to 0; the link's rate and width show in `HST_STATUS`; a failed read of host memory halts its DMA channel; a
function's power state is kept (R385, R386, R394, R395, R402, R403, R405, R407). -/
def Obligations.HostInterfaceResults : Prop :=
  (∀ (f : Fin 16) (s : State),
    let n := f.val
    (∀ off data, (hostGet s n).d3 = false → off < 0x1000 → off % 64 = 0 → data.length = 64 →
      (rget s .HST_INBOX_ACCEPTED n + 65536 - rget s .HST_INBOX_RETURNED n) % 65536 < 64 →
      ∃ t, exec (.inboxWrite f off data) s = .next t ∧ rget t .HST_INBOX_ACCEPTED n = (rget s .HST_INBOX_ACCEPTED n + 1) % 65536 ∧
        (hostGet t n).inbox = (hostGet s n).inbox ++ [hostCmdOf n data] ∧ t.mem = s.mem ∧ (∀ k, k ≠ n → hostGet t k = hostGet s k)) ∧
    (∀ v : BitVec 16, exec (.cqHeadWrite f v) s = .next (ringRoom n (rset .HST_CQ_PTR_HEAD n 0 v.toNat s))) ∧
    (∀ v : BitVec 16, exec (.fqHeadWrite f v) s = .next (rset .HST_FQ_PTR_HEAD n 0 v.toNat s)) ∧
    (∀ v : BitVec 32, v.getLsbD 31 = true → rget s .HST_CQ_CFG_ENABLE n = 0 → ∃ u, exec (.cqEnable f v) s = .next (ringRoom n u) ∧
      rget u .HST_CQ_CFG_ENABLE n = 1 ∧ rget u .HST_CQ_PTR_HEAD n = 0 ∧ rget u .HST_CQ_PTR_TAIL n = 0 ∧
      rget u .HST_CQ_CFG_LOG2 n = max 6 (min 16 (v.toNat % 32)) ∧ (hostGet u n).cqPhase = true ∧ u.mem = s.mem) ∧
    (∀ v : BitVec 32, v.getLsbD 31 = true → rget s .HST_FQ_CFG_ENABLE n = 0 → ∃ u, exec (.fqEnable f v) s = .next u ∧
      rget u .HST_FQ_CFG_ENABLE n = 1 ∧ rget u .HST_FQ_PTR_HEAD n = 0 ∧ rget u .HST_FQ_PTR_TAIL n = 0 ∧
      rget u .HST_FQ_CFG_LOG2 n = max 6 (min 16 (v.toNat % 32)) ∧ u = { s with flds := u.flds })) ∧
  (∀ s : State,
    (∀ (v : BitVec 3) (w : BitVec 2) (flit : Bool), v.toNat < 6 → w.toNat < 3 → ∃ t, exec (.linkSpeedChange v w flit) s = .next t ∧
      rget t .HST_STATUS_SPEED = v.toNat ∧ rget t .HST_STATUS_WIDTH = w.toNat ∧ rget t .HST_STATUS_LINK_SLOW = b2n (decide (v.toNat < 3)) ∧
      rget t .HST_STATUS_FLIT = b2n (flit && decide (4 ≤ v.toNat)) ∧ t.mem = s.mem) ∧
    (∀ (h : Fin 16) (done : Nat), let c := 64 + h.val
      rget s .DMA_STATUS_STATE c = 1 → (dmGet s c).record = none → (dmGet s c).fetch = false → fld (dSrc (dmGet s c).desc) 60 4 = 8 →
      done < dLen (dmGet s c).desc →
      exec (.errorCompletion h done) s = .next (dmaError c 0x10 1 done s) ∧
      exec (.completionTimeout h done) s = .next (raise 43 (withCtx s (dmaCtx s c)
        { cls := 0x44, outcome := 2, lsite := 63 <<< 16, psite := psiteS 1, detail := c }) (dmaError c 0x10 1 done s))) ∧
    (∀ (f : Fin 16) (d3 : Bool), ∃ t, exec (.powerStateChange f d3) s = .next t ∧ (hostGet t f.val).d3 = d3 ∧ t.mem = s.mem ∧ t.flds = s.flds))

/-- O28. A PCIe reset of the device by pin, link or function 0 puts the `HST_` registers of every function to their Cold values, the start's own fields and
the bindings apart, drops every command, and asks for the warm module reset: a start in progress takes it in, but for one that a trip has stopped, and after
a SHUTDOWN it is a cold reset. A function reset of a virtual function does so for that function alone and asks for a reset of its context. The warm module
reset is made when it is due, and begins its stages anew from stage 0x06 with no packet, tag, lane block or command of a DMA channel left (R387, R342, R412). -/
def Obligations.DeviceResets : Prop :=
  (∀ (s : State) (p : Nat → Bool), let u := resetHst p s
    u.mem = s.mem ∧ u.workers = s.workers ∧ u.start = s.start ∧ u.taken = s.taken.filter (fun h => !p h.func) ∧
    (∀ k, hostGet u k = if p k then host0 else hostGet s k) ∧
    ∀ f i j, rget u f i j = if domOf f = some .host ∧ p i = true ∧ hstKept f = false then coldOf ⟨f, i, j⟩ else rget s f i j) ∧
  (∀ s : State, let u := resetHst (fun _ => true) s
    ∀ c ∈ [Instr.perstN, .hotReset, .pfFlr],
      (s.start.shutdown.isSome = true → exec c s = .next (coldReset false u)) ∧
      (s.start.shutdown = none → rget s .HST_STATUS_STAGE < 14 → rget s .PWR_HEAT_TRIPPED = 0 → exec c s = .next u) ∧
      (s.start.shutdown = none → 14 ≤ rget s .HST_STATUS_STAGE ∨ rget s .PWR_HEAT_TRIPPED ≠ 0 →
        exec c s = .next { u with start := { s.start with warmDue := true } })) ∧
  (∀ (s : State) (f : Fin 16), let v := resetHst (· == f.val) s
    (f.val = 0 → exec (.vfFlr f) s = .next s) ∧
    (f.val ≠ 0 → boundCtx s f.val = none → exec (.vfFlr f) s = .next v) ∧
    (∀ c, f.val ≠ 0 → boundCtx s f.val = some c → exec (.vfFlr f) s = .next (ctxResetReq c none v))) ∧
  (∀ s : State,
    (warmReady s = false → exec .warmModuleReset s = .next s) ∧
    (warmReady s = true → ∃ u, exec .warmModuleReset s = .next (goStages [6, 7, 8, 9, 10, 13, 14] u) ∧
      rget u .FUS_START_CAUSE = 2 ∧ rget u .HST_STATUS_ATTEMPT = 0 ∧ u.start.warmDue = false ∧ u.start.warm = true ∧
      u.flight = [] ∧ u.egress = [] ∧ u.tags = [] ∧ u.lane = [] ∧ u.dmas = []))

/-- O29. The commands about the whole module complete or start: NOP with status 0, WARM_RESET waits for the start, COLD_RESET resets, SHUTDOWN of
an empty module closes it, and a test that SHUTDOWN asked for ends it (R332, R398, R412). -/
def Obligations.ModuleCommandResults : Prop :=
  ∀ (f : Fin 16) (h : HostCmd) (s : State),
    (admitted s f.val 1 h → exec (.nop f) s = .next (endCmd h none 0 0 s)) ∧
    (admitted s f.val 7 h → tripHot s = false → rget s .HST_STATUS_STAGE = 14 → s.start.shutdown = none → ∃ t, exec (.warmReset f) s = .next t ∧
      t.start = { s.start with warmDue := true, warmTags := s.start.warmTags ++ [{ h with started := true }] } ∧
      t.taken = replFirst (fun k => k == h) (fun k => { k with started := true }) s.taken) ∧
    (admitted s f.val 8 h → writingImage s = false → exec (.coldReset f) s = .next (coldReset false s)) ∧
    (admitted s f.val 9 h → (∀ c, c < 16 → rget s .CTX_STATE_STATE c = 0) → h.arg0 ≠ 1 → ∃ u, exec (.shutdown f) s = .next (endCmd h none 0 0 u) ∧
      u.start.shutdown = some (0, s.keeper.island, s.keeper.island) ∧ u.flash.life = lifeNow s) ∧
    (admitted s f.val 9 h → (∀ c, c < 16 → rget s .CTX_STATE_STATE c = 0) → h.arg0 = 1 → ∃ u, exec (.shutdown f) s = .next u ∧
      u.start.shutTest = some ({ h with started := true }, h.arg1)) ∧
    (∀ bad t, s.start.shutTest = some (h, t) → ∃ u, exec (.shutdownTestComplete bad) s = .next (endCmd h none 0 0 u) ∧ u.start.shutTest = none ∧
      (rget s .SEC_STATE_KEY_OK = 1 → bad.length ≤ 8184 → u.flash.sealed.isSome = true ∧ u.flash.standby = none))

/-! ### Contexts -/

/-- O30. The life of a context: a grant that passes its checks makes the lowest free context IDLE in its next generation, once a generation may change; a
write of `CTX_CTRL` sets `HOLD_TICKS` and may request a reset, which names its generation or takes the next one, and a context held for `HOLD_TICKS` boundaries
is reset; a due reset leaves the context IDLE, or in RELEASE where one waits for it, with step 0 and no thatch, after its waiting comb moves; RESET and RELEASE
request one, and the end of the wipe leaves the context FREE (R337, R340, R341, R343, R344, R347, R354, R355). -/
def Obligations.ContextLifeResults : Prop :=
  ∀ (s : State),
    (∀ (f : Fin 16) (h : HostCmd) (g : GrantReq) (c : Nat), admitted s f.val 2 h → grantBlock s h.arg0 = some g → rget s .HST_STATUS_LINK_SLOW = 0 →
      grantCheck s g = none → grantEarly s = false → (List.range 16).find? (fun c => rget s .CTX_STATE_STATE c == 0) = some c →
      ∃ t, exec (.grant f) s = .next t ∧ t = grant h g s ∧ rget t .CTX_STATE_STATE c = 1 ∧ rget t .CTX_STATE_FUNC c = g.al.func ∧
        genOf t c = (genOf s c + 1) % 256 ∧ (ctxGet t c).allot.isSome = true) ∧
    (∀ (who : Requester) (c : Fin 16) (v : BitVec 32),
      let u := rset .CTX_CTRL_HOLD_TICKS c.val 0 (max 1 (v.toNat % 256)) s
      let gen := if v.getLsbD 30 then some (v.toNat / 2 ^ 22 % 256) else none
      (∀ k, actsFor s who = some k → k ≠ c.val → exec (.ctxResetRequest who c v) s = .next s) ∧
      (actsFor s who = none ∨ actsFor s who = some c.val →
        (v.getLsbD 31 = false → exec (.ctxResetRequest who c v) s = .next u) ∧
        (v.getLsbD 31 = true → gen = some (genOf s c.val) → exec (.ctxResetRequest who c v) s = .next u) ∧
        (v.getLsbD 31 = true → gen ≠ some (genOf s c.val) → ∃ t, exec (.ctxResetRequest who c v) s = .next t ∧ t = { u with ctxs := t.ctxs } ∧
          (rget s .CTX_STATE_STATE c.val ≠ 0 → rget s .CTX_STATE_STATE c.val ≠ 5 →
            (ctxGet t c.val).resetReq = some ((ctxGet s c.val).resetReq.getD gen)) ∧
          (rget s .CTX_STATE_STATE c.val = 0 ∨ rget s .CTX_STATE_STATE c.val = 5 → (ctxGet t c.val).resetReq = (ctxGet s c.val).resetReq)))) ∧
    (∀ c : Fin 16, rget s .CTX_STATE_STATE c.val = 3 → rget s .CTX_CTRL_HOLD_TICKS c.val ≤ (ctxGet s c.val).heldTicks → s.keeper.inReset = false →
      ∃ t, exec (.holdTimeout c) s = .next t ∧ (ctxGet t c.val).resetReq.isSome = true ∧ t = { s with ctxs := t.ctxs }) ∧
    (∀ (c : Fin 16) (g : Option Nat), (ctxGet s c.val).resetReq = some g → resetDue s c.val = true →
      (movesDue s c.val = [] → ∃ t, exec (.contextReset c) s = .next t ∧ t = contextReset c.val g s ∧
        rget t .CTX_STATE_STATE c.val = (if (ctxGet s c.val).releasing then 5 else 1) ∧ rget t .CTX_STEP_COUNT c.val = 0 ∧
        rget t .CTX_STATE_HOLD_CLASS c.val = 0 ∧ genOf t c.val = (match g with | some n => n % 256 | none => (genOf s c.val + 1) % 256) ∧
        (ctxGet t c.val).active = none) ∧
      (movesDue s c.val ≠ [] → let u := endMoves c.val s
        exec (.contextReset c) s = .next (if movesDue u c.val = [] then contextReset c.val g u else u))) ∧
    (∀ (f : Fin 16) (h : HostCmd), admitted s f.val 5 h →
      let gen := if bit h.arg0 8 then some (h.arg0 % 256) else none
      (rget s .CTX_STATE_STATE h.ctx = 5 → exec (.reset f) s = .next (endCmd h (some h.ctx) 0x38 0 s)) ∧
      (rget s .CTX_STATE_STATE h.ctx ≠ 5 → gen = some (genOf s h.ctx) → exec (.reset f) s = .next (endCmd h (some h.ctx) 0x39 0 s)) ∧
      (rget s .CTX_STATE_STATE h.ctx ≠ 5 → rget s .CTX_STATE_STATE h.ctx ≠ 0 → gen ≠ some (genOf s h.ctx) → ∃ u,
        exec (.reset f) s = .next (startCmd h u) ∧ u = { s with ctxs := u.ctxs } ∧
        (ctxGet u h.ctx).resetReq = some ((ctxGet s h.ctx).resetReq.getD gen))) ∧
    (∀ (f : Fin 16) (h : HostCmd), admitted s f.val 6 h →
      (rget s .CTX_STATE_STATE h.ctx = 1 → (ctxGet s h.ctx).resetReq = none → ∃ t, exec (.release f) s = .next t ∧ rget t .CTX_STATE_STATE h.ctx = 5) ∧
      (rget s .CTX_STATE_STATE h.ctx ∉ [0, 5] → rget s .CTX_STATE_STATE h.ctx ≠ 1 ∨ (ctxGet s h.ctx).resetReq.isSome = true → ∃ t,
        exec (.release f) s = .next t ∧ (ctxGet t h.ctx).releasing = true ∧ (ctxGet t h.ctx).resetReq.isSome = true ∧
        rget t .CTX_STATE_STATE h.ctx = rget s .CTX_STATE_STATE h.ctx)) ∧
    (∀ c : Fin 16,
      (rget s .CTX_STATE_STATE c.val ≠ 5 → exec (.releaseWipeComplete c) s = .next s) ∧
      (rget s .CTX_STATE_STATE c.val = 5 → (ctxGet s c.val).allot.isSome = true → ∃ t, exec (.releaseWipeComplete c) s = .next t ∧
        rget t .CTX_STATE_STATE c.val = 0 ∧ rget t .CTX_STATE_FUNC c.val = 31 ∧ (ctxGet t c.val).allot = none))

/-- O31. Loading and coursing: the first LOAD of all that wait opens a load, an image that passes its check is accepted with the next load sequence and
displaces the thatch that waits, one that fails it ends the load and leaves shadows and waiting thatch as they were, a load whose deliveries are all made
leaves the thatch waiting, and COURSE lets it take effect in a context without an active one (R160 to R166). -/
def Obligations.LoadAndCourseResults : Prop :=
  ∀ (s : State),
    (∀ (f : Fin 16) (h : HostCmd), admitted s f.val 3 h → loadTurn s f.val = true → (∀ k, k < 16 → (ctxGet s k).load = none) → h.ctx < 16 →
      (ctxGet s h.ctx).arm = .none →
      rget s .CTX_STATE_RESTART_BLOCKED h.ctx = 0 → h.arg0 % 4096 = 0 → h.arg0 + h.arg1 ≤ aperture s (.ctx h.ctx) →
      (heldRanges s h.ctx).any (overlaps h.arg0 h.arg1) = false → ∃ t j, exec (.load f) s = .next t ∧ (ctxGet t h.ctx).load = some j ∧
        j.addr = h.arg0 ∧ j.bytes = h.arg1 ∧ j.accepted = false ∧ t.mem = s.mem) ∧
    (∀ (c : Fin 16) (j : LoadJob), (ctxGet s c.val).load = some j → j.accepted = false → s.keeper.inReset = false →
      let img := emRead s (.ctx c.val) j.addr j.bytes
      (checkImage s c.val j.addr j.bytes img = none → ∃ t, exec (.imageAccepted c) s = .next t ∧
        (ctxGet t c.val).loadSeq = ((ctxGet s c.val).loadSeq + 1) % 65536 ∧ (ctxGet t c.val).waiting = none ∧
        (ctxGet t c.val).load = some { j with accepted := true, thatch := some (thatchOf img (ctxGet s c.val).loadSeq j.addr) }) ∧
      (∀ r, checkImage s c.val j.addr j.bytes img = some r → ∃ t, exec (.imageAccepted c) s = .next t ∧
        (ctxGet t c.val).load = none ∧ (ctxGet t c.val).waiting = (ctxGet s c.val).waiting ∧ (ctxGet t c.val).loadSeq = (ctxGet s c.val).loadSeq ∧
        t.workers = s.workers ∧ t.switches = s.switches ∧ t.drops = s.drops ∧ t.chans = s.chans)) ∧
    (∀ (c : Fin 16) (j : LoadJob) (th : Thatch), (ctxGet s c.val).load = some j → j.accepted = true → j.thatch = some th → s.keeper.inReset = false →
      (∀ d ∈ deliveries (emRead s (.ctx c.val) j.addr j.bytes), j.got.contains d = true) → (∀ e ∈ j.mwin, e.2.1 = e.2.2) →
      ∃ t, exec (.loadComplete c) s = .next t ∧ (ctxGet t c.val).load = none ∧ (ctxGet t c.val).waiting = some th) ∧
    (∀ (f : Fin 16) (h : HostCmd) (th : Thatch), admitted s f.val 4 h → (ctxGet s h.ctx).waiting = some th → th.pred = 0 →
      (ctxGet s h.ctx).arm = .none → (ctxGet s h.ctx).load = none → (ctxGet s h.ctx).active = none → ∃ u, exec (.course f) s =
        .next (endCmd h (some h.ctx) 0 (rget u .CTX_STEP_COUNT h.ctx) u) ∧ rget u .CTX_STATE_STATE h.ctx = 2 ∧ (ctxGet u h.ctx).active = some th ∧
        (ctxGet u h.ctx).waiting = none)


/-! ### Steps and ridges -/

/-- O32. The life of a step: it starts in the work phase when its pause has ended, a replay runs from the step-entry copies, the ridge is released when
nothing is left to do, a comb move that waits is made before its signal goes out, and its completion advances the step counter and begins the pause
(R25, R178, R183, R185, R187, R198, R217). -/
def Obligations.StepLifeResults : Prop :=
  ∀ (c : Fin 16) (s : State),
    let n := c.val
    let x := ctxGet s n
    rget s .CTX_STATE_STATE n = 2 →
    (∀ ups, x.phase = .idle → x.active.isSome = true → movesDue s n = [] → ∃ t, exec (.stepStart ⟨c, ups⟩) s = .next t ∧ t.cycle = pauseEnd s n % 2 ^ 64 ∧
      (ctxGet t n).phase = .work ∧ (ctxGet t n).start = t.cycle ∧ (ctxGet t n).replayed = false ∧ (ctxGet t n).pauseDue = 0 ∧
      (ctxGet t n).pauseAt = none ∧ t.mem = s.mem) ∧
    (∀ at', x.pauseAt = some at' → pauseEnd s n = max s.cycle (at' + x.pauseDue)) ∧
    (x.pauseAt = none → pauseEnd s n = s.cycle + (x.pauseDue + pauseOf s n)) ∧
    (∀ ups, x.phase = .abandoned → movesDue s n = [] → ∃ u, exec (.replayStart ⟨c, ups⟩) s =
      .next (readSlots n ups (dmaRewind n (runAttempt n u))) ∧ (ctxGet u n).replayed = true ∧ u.cycle = s.cycle ∧
      u.mem = s.mem ∧ rget u .BST_EVT_COUNT 0 0 = min 0xFFFFFFFF (rget s .BST_EVT_COUNT 0 0 + 1)) ∧
    (x.phase = .work → x.failed = false → x.schedFault = false → workersDone s n = true → programsPast s n = true → unitsFlipped s n = true →
      ∃ u, exec (.ridgeRelease c) s = .next (mirrorAppend n (dmaRidge n (releaseEgress n u))) ∧ (ctxGet u n).phase = .released) ∧
    (x.phase = .released → x.failed = false → dmaRidgeDone s n = true → mirrorClear s n = true → movesDue s n ≠ [] →
      exec (.ridgeSignal c) s = .next (movesAtRidge n (ridgeDiscard n s))) ∧
    (x.phase = .released → x.failed = false → dmaRidgeDone s n = true → mirrorClear s n = true → movesDue s n = [] →
      ∃ u, exec (.ridgeSignal c) s = .next (slicesAtRidge n (swapsAtRidge n (sendRidge n u))) ∧ (ctxGet u n).phase = .wait ∧
        (ctxGet u n).signalAt = s.cycle) ∧
    (x.phase = .wait → x.failed = false → (∀ m ∈ spanPeers s n, x.peers.contains m = true) →
      ∃ u, let w := ridgePause n (ridgeRepin n (ridgeCourse n u))
        exec (.ridgeComplete c) s = .next (if rget s .CTX_STEP_COUNT n = 0 ∧ w.keeper.joining = true ∧ rget w .PRT_TWIN_ADMIT = 1 ∧
          rget w .PRT_SPAN_VALID 0 n = 1 then setAdmit 3 { w with keeper := { w.keeper with joining := false } } else w) ∧
        rget u .CTX_STEP_COUNT n = (rget s .CTX_STEP_COUNT n + 1) % 2 ^ 48 ∧ (ctxGet u n).phase = .idle ∧ (ctxGet u n).peers = [] ∧
        rget u .CTX_STEPSTAT_LAST_WAIT n = min (s.cycle - x.signalAt) 0xFFFFFFFF)

/-- O33. A ridge that times out holds its context and names the lowest module whose signal is missing; a failed attempt is abandoned while it is
still masked; the first hang of a step fails it and the second is a schedule fault; a failed check of a product fails the step (R67, R68,
R188, R200, R322, R346). -/
def Obligations.StepFailureResults : Prop :=
  (∀ (c : Fin 16) (m : Nat) (l : List Nat) (s : State),
    let n := c.val
    let x := ctxGet s n
    rget s .CTX_STATE_STATE n = 2 →
    (((spanPeers s n).filter fun m => !x.peers.contains m) = m :: l → x.phase = .wait →
      exec (.ridgeTimeout c) s = .next (hold n 0x23 (some (recX s n 0x23 5 m)) (raise 50 (recX s n 0x23 5 m) s))) ∧
    (x.failed = true → x.phase = .work → maskingEnds s n = none → ∃ t, exec (.stepAbandon c) s = .next t ∧ (ctxGet t n).phase = .abandoned) ∧
    (∀ cls, x.failed = true → x.phase = .released ∨ x.phase = .wait → maskingEnds s n = some cls →
      exec (.stepAbandon c) s = .next (maskEnd n cls (fenceNamed n s))) ∧
    (x.phase = .work → lapsed s n = false → s.keeper.inReset = false → x.hangs ≠ 0 → ∃ u, exec (.stepWatchdog c) s =
      .next (schedFault n (recX u n 0x19 5 0) (raise 50 (recX u n 0x19 5 0) u)) ∧ (ctxGet u n).hangs = x.hangs + 1 ∧ u.mem = s.mem) ∧
    (x.phase = .work → lapsed s n = false → s.keeper.inReset = false → x.hangs = 0 → ∃ t, exec (.stepWatchdog c) s = .next t ∧
      (ctxGet t n).failed = true ∧ (ctxGet t n).hangs = 1 ∧ t.mem = s.mem)) ∧
  (∀ (x : Fin 28) (y : Fin 24) (w : Fin 32) (th : Fin 128) (tile : Fin 4) (row : Fin 16) (block : Bool) (s : State),
    let wk := wkOf x.val y.val w.val
    ∃ t, exec (.sumLaneFail x y w th tile row block) s = .next t ∧ rget t .WRK_STATUS_STEP_FAILED wk = 1 ∧
      (∀ c, ctxOfComb s (wk / 32) = some c → (ctxGet t c).failed = true) ∧
      rget t .WRK_EVT_COUNT wk 0 = min 0xFFFFFFFF (rget s .WRK_EVT_COUNT wk 0 + 1) ∧ t.mem = s.mem) ∧
  (∀ (x : Fin 28) (y : Fin 24) (w : Fin 32) (c : Nat) (e : PlausEv) (rest : List PlausEv) (s : State),
    let wk := wkOf x.val y.val w.val
    (wGet s wk).plaus = e :: rest → ctxOfComb s (wk / 32) = some c → (ctxGet s c).replayed = false → ∃ t, exec (.plausibilityEvent x y w) s = .next t ∧
      (wGet t wk).plaus = rest ∧ rget t .WRK_STATUS_STEP_FAILED wk = 1 ∧ (ctxGet t c).failed = true ∧ t.mem = s.mem)

/-! ### The keeper and its management messages -/

/-- O34. The keeper's tick, its coolant and life-counter duties, its reset and its return (R433, R444, R447, R456, R473, R474). -/
def Obligations.KeeperResults : Prop :=
  ∀ (r : Readings) (s : State),
    (s.powerIn.good = true → dutiesRun (tickHardware r s) = false → exec (.tickBoundary r) s = .next (tickHardware r s)) ∧
    (s.powerIn.good = true → dutiesRun (tickHardware r s) = true → ∃ t, exec (.tickBoundary r) s = .next t ∧ t = duties r (tickHardware r s) ∧
      rget t .TLM_POWER_MV = r.mv.toNat ∧ rget t .TLM_POWER_DA = r.da.toNat ∧ rget t .TLM_POWER_W = r.w.toNat ∧
      rget t .TLM_COOL_INLET = r.inlet.toNat ∧ rget t .TLM_COOL_OUTLET = r.outlet.toNat) ∧
    ((tickHardware r s).tick = s.tick + 1 ∧ rget (tickHardware r s) .PWR_ENERGY_UJ = (rget s .PWR_ENERGY_UJ + r.uj.toNat) % 2 ^ 64 ∧
      (∀ i, i < 42 → rget (tickHardware r s) .PWR_RSTAT_TMAX i = regionTemp r i) ∧ (tickHardware r s).mem = s.mem) ∧
    (s.keeper.flowBad = false → 8 ≤ s.keeper.flowLow → dutiesRun s = true → ∃ t, exec .flowLow s = .next t ∧ t.keeper.flowBad = true ∧
      rget t .BST_HEALTH_PROMISE = 0 ∧ t.mem = s.mem ∧
      ∃ d, tget [] t.faultBuf 50 = tget [] s.faultBuf 50 ++ [{ heatRec 0x34 d with tick := s.tick, cycle := s.cycle }]) ∧
    (800000 ≤ s.keeper.hotHours.2.2 → dutiesRun s = true → exec .lifeCounterWrite s =
      .next { s with keeper := { s.keeper with hotHours := (s.keeper.hotHours.1, s.keeper.hotHours.2.1, 0) }
                     flash := { s.flash with life := lifeNow s } }) ∧
    (s.keeper.inReset = false → s.powerIn.good = true → ∃ t, exec .keeperReset s = .next t ∧ t.keeper = { s.keeper with inReset := true } ∧
      t.sec = { s.sec with nonce := none } ∧ rget t .KPR_STATUS_KRESET = 1 ∧ rget t .KPR_ALERT_KRESET = 1 ∧
      rget t .KPR_EVT_COUNT 0 0 = min 0xFFFFFFFF (rget s .KPR_EVT_COUNT 0 0 + 1) ∧ t.workers = s.workers ∧ t.ctxs = s.ctxs ∧ t.mem = s.mem) ∧
    (s.keeper.inReset = true → s.powerIn.good = true → s.keeper.refPending = false →
      let u := rset .KPR_STATUS_KRESET 0 0 0 { s with keeper := { s.keeper with inReset := false } }
      (stageOpen u = true → exec (.keeperResume true true true r) s = .next (failStage 1 none u)) ∧
      (stageOpen u = false → dutiesRun u = true → exec (.keeperResume true true true r) s = .next (duties r u)) ∧
      exec (.keeperResume true true false r) s = .next (coldReset true s))

/-- O35. Management messages over MCTP: endpoint numbers and the I3C address, resets (a cold one waits while an image is written), status and alerts,
PLDM discovery and sensors (R448, R449, R450, R452, R458). The answers' names and codes are the model's (assumption 32). -/
def Obligations.ManagementResults : Prop :=
  ∀ (via : Binding) (s : State), keeperUp s = true → mctpPath via = true →
    let ok (d : List Byte) (t : State) : Host.Outcome State Fault Refusal := .next { t with reply := some ⟨"SUCCESS", 0, d⟩ }
    (∀ e : BitVec 8, exec (.setEndpointId via e) s =
      ok [e] { s with keeper := { s.keeper with eids := (s.keeper.eids.filter fun k => k.1 != via) ++ [(via, e.toNat)] } }) ∧
    (∀ a : BitVec 7, exec (.entdaa a) s = .next { s with keeper := { s.keeper with i3c := a.toNat } }) ∧
    (tripHot s = false → s.start.shutdown = none → rget s .HST_STATUS_STAGE = 14 →
      exec (.mctpWarmReset via) s = ok [] { s with start := { s.start with warmDue := true } }) ∧
    (writingImage s = false → exec (.mctpColdReset via) s = .next (coldReset false { s with reply := some ⟨"SUCCESS", 0, []⟩ })) ∧
    (writingImage s = true → exec (.mctpColdReset via) s = .next { s with keeper := { s.keeper with coldAsk := true } }) ∧
    (exec (.mctpReadStatus via) s = ok (regLe s .KPR_STATUS 0 0 4 ++ regLe s .KPR_ALERT 0 0 4) s) ∧
    (∀ v : BitVec 32, ∃ t, exec (.mctpWriteAlert via v) s = ok [] t ∧ t = { s with flds := t.flds } ∧
      ∀ e ∈ [(F.KPR_ALERT_HEAT, 31), (.KPR_ALERT_TRIP, 30), (.KPR_ALERT_DEGRADED, 29), (.KPR_ALERT_HOLD, 28), (.KPR_ALERT_KRESET, 27),
        (.KPR_ALERT_FWUPD, 26)], rget t e.1 = rget s e.1 - (rget s e.1 &&& fld v.toNat e.2 1)) ∧
    (∀ cmd : BitVec 8, 1 ≤ cmd.toNat → cmd.toNat ≤ 5 → exec (.pldmDiscovery via cmd) s = ok (if cmd = 4 then [0x25] else []) s) ∧
    (∀ (n : BitVec 16) (v : Nat), sensorValue s n.toNat = some v → exec (.sensorRead via n) s = ok (toLe 8 v) s)

/-! ### Power, clocks and heat -/

/-- O36. A hot region: `HOT` sets at 108.0 °C in whatever state its comb array is, the comb array goes off at the second boundary with a record, and comes
back once cool; a trip stops every region, beside the switch-offs that fall in its cycle, and a lost reference waits for the keeper or stops the
module (R205, R216, R219 to R222). -/
def Obligations.HeatResults : Prop :=
  (∀ (r : Fin 42) (g : Fin 8) (temp : Nat) (s : State), 864 ≤ temp → rget s .PWR_RSTAT_HOT r.val ≠ 1 →
    ∃ t, exec (.hotSet r g temp) s = .next t ∧ rget t .PWR_RSTAT_HOT r.val = 1 ∧ rget t .PWR_RSTAT_HOT_TICKS r.val = 0 ∧
      rget t .PWR_RTEMP_TEMP r.val g.val = min 255 (temp / 4) ∧ rget t .PWR_RSTAT_TMAX r.val = min 1023 temp ∧ t = { s with flds := t.flds } ∧
      rget t .PWR_REVT_COUNT r.val 0 = min 0xFFFFFFFF (rget s .PWR_REVT_COUNT r.val 0 + 1)) ∧
  (∀ (r : Fin 42) (s : State), rget s .PWR_RSTAT_HOT r.val = 1 → rget s .PWR_RSTAT_HOT_TICKS r.val = 2 → 848 ≤ rget s .PWR_RSTAT_TMAX r.val →
    rget s .PWR_RSTAT_CA_STATE r.val < 3 → ∃ u, exec (.combArraySwitchOff r) s = .next (leaveRegion r.val (offRecord r.val u)) ∧
      rget u .PWR_RSTAT_CA_STATE r.val = 4 ∧ rget u .PWR_RSTAT_CPLL_LOCK r.val = 0 ∧ rget u .PWR_RSTAT_MCLK_LOCK r.val = 0 ∧
      u.keeper.waking.contains r.val = false ∧ u.keeper.testing.contains r.val = false ∧ tget 0 u.keeper.cool r.val = 0) ∧
  (∀ (r : Fin 42) (s : State), rget s .PWR_RSTAT_CA_STATE r.val = 4 → 8 ≤ tget 0 s.keeper.cool r.val → s.keeper.inReset = false →
    s.keeper.waking.contains r.val = false →
    exec (.hotOffReturn r) s = .next { s with keeper := { s.keeper with waking := s.keeper.waking ++ [r.val] } }) ∧
  (∀ (cause : TripCause) (s : State),
    (rget s .PWR_HEAT_TRIPPED = 1 → exec (.trip cause) s = .next s) ∧
    (cause = .coolant → s.keeper.inReset = true → exec (.trip cause) s = .next s) ∧
    (rget s .PWR_HEAT_TRIPPED ≠ 1 → cause = .sensor ∨ s.keeper.inReset = false → exec (.trip cause) s =
      .next (raise 50 (heatRec 0x32 0) (tripNow (((List.range 42).filter (offDue s)).foldl (fun s i => offRecord i s) s))))) ∧
  (∀ (s : State) (r : Nat), r < 42 → rget (tripRegions s) .PWR_RSTAT_CA_STATE r = 5 ∧ rget (tripRegions s) .PWR_RSTAT_SP_STATE r = 2) ∧
  (∀ s : State, rget s .CLK_STATUS_RC_ACTIVE ≠ 1 → ∃ u, rget u .CLK_STATUS_REF_OK = 0 ∧ rget u .CLK_STATUS_RC_ACTIVE = 1 ∧ u = { s with flds := u.flds } ∧
    exec .referenceLoss s = .next (if s.keeper.inReset then { u with keeper := { s.keeper with refPending := true } } else referenceGone u))

/-- O37. Domains: a spine fault, a comb-array PLL that loses lock, a segment fault, a domain that comes on in its turn, a region that goes to sleep, and a
mesh link whose fourth failure of one flit is a spine fault (R206, R211, R212, R214, R250, R262). -/
def Obligations.DomainResults : Prop :=
  (∀ (r : Fin 42) (s : State), rget s .PWR_RSTAT_SP_STATE r.val ≠ 2 →
    let s1 := bump .PWR_REVT_COUNT .PWR_ROVF_OVF r.val 1 1 s
    exec (.spineFault r) s = .next (spineFault r.val s1) ∧
    ∃ u, spineFault r.val s1 = leaveRegion r.val (resetCtxs ((List.range 16).filter fun c => routesThrough s1 c r.val).contains u) ∧
      rget u .PWR_RSTAT_SP_STATE r.val = 2 ∧ rget u .PWR_RSTAT_SPLL_LOCK r.val = 0 ∧ rget u .PWR_RSTAT_CA_STATE r.val = 3 ∧
      u.keeper.spineBad = r.val :: s.keeper.spineBad ∧ u.keeper.waking.contains r.val = false) ∧
  (∀ (r : Fin 42) (s : State), rget s .PWR_RSTAT_CA_STATE r.val < 2 → ∃ u, exec (.combArrayPllLoss r) s = .next (leaveRegion r.val u) ∧
    rget u .PWR_RSTAT_CA_STATE r.val = 3 ∧ rget u .PWR_RSTAT_CPLL_LOCK r.val = 0 ∧ u.keeper.waking.contains r.val = false ∧
    rget u .PWR_REVT_COUNT r.val 1 = min 0xFFFFFFFF (rget s .PWR_REVT_COUNT r.val 1 + 1)) ∧
  (∀ (g : Fin 8) (s : State), rget s .EAV_SEG_STATE g.val ≠ 3 → ∃ u,
    exec (.segmentFault g) s = .next (resetCtxs ((List.range 16).filter (holdsSegment s g.val)).contains u) ∧ rget u .EAV_SEG_STATE g.val = 3 ∧
    rget u .EAV_SEG_TRANSIT g.val = 0 ∧ rget u .EAV_SEG_IN_SERVICE g.val = 0 ∧
    (∀ i, i < 256 → rget u .MEM_CHSTAT_STATE g.val i = 2)) ∧
  (∀ (d : Fin 93) (s : State), rget s .CLK_STATUS_RC_ACTIVE ≠ 1 →
    (1 ≤ d.val → d.val ≤ 8 → rget s .HST_STATUS_STAGE = (if d.val = 2 then 2 else 4) →
      (d.val ≠ 2 → ∀ h ∈ segsBefore (d.val - 1), rget s .EAV_SEG_STATE h ≠ 2) → rget s .EAV_SEG_STATE (d.val - 1) = 2 →
      exec (.domainReady d) s = .next (rset .EAV_SEG_TRANSIT (d.val - 1) 0 1 (rset .EAV_SEG_STATE (d.val - 1) 0 0 s))) ∧
    (8 < d.val → d.val ≤ 50 → rget s .HST_STATUS_STAGE = 6 → rget s .PWR_HEAT_TRIPPED = 0 → rget s .PWR_RSTAT_SP_STATE (d.val - 9) = 2 →
      s.keeper.spineBad.contains (d.val - 9) = false → (∀ r, r < d.val - 9 → spineOver s r = true) →
      exec (.domainReady d) s = .next (rset .PWR_RSTAT_SPLL_LOCK (d.val - 9) 0 1 (rset .PWR_RSTAT_SP_STATE (d.val - 9) 0 0 s))) ∧
    (50 < d.val → rget s .HST_STATUS_STAGE = 6 → rget s .PWR_HEAT_TRIPPED = 0 → rget s .PWR_RSTAT_CA_STATE (d.val - 51) = 3 →
      rget s .PWR_RSTAT_SP_STATE (d.val - 51) = 0 → rget s .CMB_RMAP_WITHDRAWN (d.val - 51) = 0 → (∀ r, r < 42 → spineOver s r = true) →
      (∀ r, r < d.val - 51 → arrayOver s r = true) → exec (.domainReady d) s = .next (combArrayOn (d.val - 51) s)) ∧
    (50 < d.val → wakes s (d.val - 51) = true → exec (.domainReady d) s = .next (combArrayOn (d.val - 51) s))) ∧
  (∀ (r : Fin 42) (s : State), (∀ c a, c < 16 → (ctxGet s c).allot = some a → a.hasRegion r.val = false) → rget s .PWR_CTRL_AUTO_SLEEP = 1 →
    rget s .PWR_CTRL_IDLE_TICKS ≤ tget 0 s.keeper.idle r.val → rget s .PWR_RSTAT_CA_STATE r.val = 0 → s.keeper.inReset = false →
    s.keeper.testing.contains r.val = false → exec (.idleSleep r) s =
      .next (rset .PWR_RSTAT_CA_STATE r.val 0 2 (rset .PWR_RSTAT_CPLL_LOCK r.val 0 0 (rset .PWR_RSTAT_MCLK_LOCK r.val 0 0 s)))) ∧
  (∀ (x : Fin 28) (y : Fin 24) (dir : Fin 4) (again : Bool) (s : State),
    let cb := cbOf x.val y.val
    let k := meshKey cb dir.val
    let fails := if again then (tget link0 s.links k).fails + 1 else 1
    let u := bump .MSH_EVT_COUNT .MSH_OVF_OVF cb 3 1 { s with links := tset s.links k ⟨fails, decide (4 ≤ fails)⟩ }
    (fails < 4 → exec (.meshLinkCheckFail x y ⟨dir, again⟩) s = .next u) ∧
    (4 ≤ fails → exec (.meshLinkCheckFail x y ⟨dir, again⟩) s = .next (spineFault (regionOf cb) u)))

/-! ### Bring-up and firmware -/

/-- O38. A stage that has done its work ends and the next begins; stage 0x00 leaves the reference and the keeper PLL running; a stage whose limit
passes fails (R204, R408, R420, R421). -/
def Obligations.StageResults : Prop :=
  ∀ (r : StageResult) (s : State), stageOpen s = true →
    (∀ u, stageWork (stageOf s) r s = some u → (stageOf s = 2 → rget s .EAV_SEG_STATE 1 = 0) →
      exec (.stageEnd r) s = .next (nextStage (stageOf s) (jrn (stageOf s) 2 0 0 0 u))) ∧
    (stageOf s = 0 → ∃ u, exec (.stageEnd r) s = .next (goStages (stagesAfter u 0) u) ∧ rget u .CLK_STATUS_REF_OK = 1 ∧ rget u .CLK_STATUS_KPLL_LOCK = 1 ∧
      u = { s with flds := u.flds, flash := u.flash }) ∧
    (stageOf s = 1 → fwCheck s s.flash.image ≠ 0 → s.flash.pendingImage = none → exec (.stageEnd r) s = .next (failStage 0 none s)) ∧
    (stageOf s = 3 → r.fuseEcc.isSome = true → exec (.stageEnd r) s = .next (holdFuses r s)) ∧
    (∀ unit, stageOf s ≠ 0 → exec (.stageFail unit) s = .next (failStage 0 unit s))

/-- O39. The firmware update over PLDM, and recovery: the image is received, checked, applied and waits for a cold reset; in recovery an image
from host memory is checked and starts cold (R458, R459). The answers' names and codes are the model's (assumption 32). -/
def Obligations.FirmwareResults : Prop :=
  (∀ (via : Binding) (s : State), keeperUp s = true → mctpPath via = true →
    let ok (name : String) (code : Nat) (t : State) : Host.Outcome State Fault Refusal := .next { t with reply := some ⟨name, code, []⟩ }
    (s.keeper.update = none → ∃ t, exec (.requestUpdate via) s = ok "SUCCESS" 0 t ∧ t.keeper.update = some none ∧ rget t .KPR_FWUPD_ACTIVE = 1 ∧
      t.flash = s.flash ∧ t.mem = s.mem) ∧
    (∀ comp, s.keeper.update.isSome = true → exec (.passComponentTable via comp) s = ok "SUCCESS" 0 s) ∧
    (∀ img : FwImage, s.keeper.update = some none → fwCheck s img.bytes = 0 → exec (.firmwareDataReceived img) s =
      ok "VerifyComplete success" 0 { s with keeper := { s.keeper with update := some (some (fwBytes img.bytes)) } }) ∧
    (∀ img : FwImage, s.keeper.update = some none → fwCheck s img.bytes ≠ 0 → ∃ t, exec (.firmwareDataReceived img) s = ok "VerifyComplete failure" 1 t ∧
      t.flash = s.flash ∧ t.keeper.update = none ∧ rget t .KPR_FWUPD_ACTIVE = 0) ∧
    (∀ img, s.keeper.update = some (some img) → ∃ t, t.reply = some ⟨"ApplyComplete success", 0, []⟩ ∧
      exec (.applyComplete true) s = .next (if s.keeper.coldAsk then coldReset false t else t) ∧
      t.flash = { s.flash with pendingImage := some img } ∧ rget t .KPR_FWUPD_PENDING = 1 ∧ rget t .KPR_FWUPD_NEW_SVN = fwSvn img ∧
      rget t .KPR_FWUPD_ACTIVE = 0 ∧ rget t .KPR_ALERT_FWUPD = 1 ∧ t.keeper.update = none) ∧
    (rget s .KPR_FWUPD_PENDING = 1 → exec (.activateFirmware via) s = ok "SUCCESS" 0 s)) ∧
  (∀ (who : Requester) (a : BitVec 52) (n : BitVec 9) (s : State), isPf who = true → rget s .KPR_STATUS_RECOVERY ≠ 0 →
    let u := rset .KPR_RECOV_ADDR 0 0 a.toNat s
    let b := mread u (hmKey (a.toNat * 4096)) (n.toNat * 16384)
    (2 ^ 57 < a.toNat * 4096 + n.toNat * 16384 → exec (.kprRecovLoad who a n) s = .next (rset .KPR_RECOV_RESULT 0 0 4 u)) ∧
    (a.toNat * 4096 + n.toNat * 16384 ≤ 2 ^ 57 → fwCheck u b = 0 →
      exec (.kprRecovLoad who a n) s = .next (coldReset false { u with flash := { u.flash with image := fwBytes b, pendingImage := none } })) ∧
    (a.toNat * 4096 + n.toNat * 16384 ≤ 2 ^ 57 → fwCheck u b ≠ 0 →
      exec (.kprRecovLoad who a n) s = .next (rset .KPR_RECOV_RESULT 0 0 (fwCheck u b) u)))

/-! ### Self-test and repair -/

/-- O40. Rotation and pause grids, scout verdicts on the worker under test and on those of a pause slice, comb faults, fences and tests, the heartbeat of
each physical comb, region tests, and the life prediction (R306, R307, R310, R312, R315, R324 to R326, R334). -/
def Obligations.RepairResults : Prop :=
  (∀ s : State, s.keeper.inReset = false → rget s .BST_CTRL_ROTATION ≠ 0 →
    exec .rotationGridPoint s = .next { s with keeper := { s.keeper with grid := s.keeper.grid + 1 } } ∧
    (rget s .BST_CTRL_SCOUTS ≠ 0 → ∃ l, exec .pauseSliceGrid s = .next { s with keeper := { s.keeper with pauseArm := s.keeper.pauseArm ++ l } } ∧
      ∀ pc, pc ∈ l ↔ pc ∈ s.pcombs.map (·.1) ∧ (pcGet s pc).good = true ∧ (pcGet s pc).goods.length = 32 ∧ (pcCtx s pc).isSome = true ∧
        pc ∉ s.keeper.pauseArm)) ∧
  (∀ (px : Fin 35) (py : Fin 24) (w : Fin 34) (s : State),
    let pc := pcIx px.val py.val
    let testing : Bool := (pcGet s pc).test == w.val && suiteRuns s pc
    let slice : Bool := s.keeper.slicing.contains pc && ((pcGet s pc).serves w.val).isSome
    let u := pcMod pc (fun k => { k with scouts := k.scouts + 1 }) s
    let counted : State := match lcOf u pc with
      | some cb => bump .ASY_EVT_COUNT .ASY_OVF_OVF cb 1 1 u
      | none => u
    (pcGet s pc).good = true → testing || slice → rget s .BST_CTRL_SCOUTS ≠ 0 → s.keeper.inReset = false → s.keeper.scoutBad = false →
      (∃ t, exec (.scoutVerdict px py w .pass) s = .next t ∧ (testing = true → (pcGet t pc).suiteDone = true) ∧
        tget 0 (pcGet t pc).lastPass w.val = s.tick ∧ t.keeper.verdicts = tdrop s.keeper.verdicts (· == pc * 64 + w.val)) ∧
      (∀ kernel, exec (.scoutVerdict px py w (.nominal kernel)) s = .next (fenceWorker pc w.val (suspectReport pc w.val 0x16 (scoutDetail kernel.toNat 0)
        (raise (pcRegion pc) (recP u pc w.val 0x16 2 (scoutDetail kernel.toNat 0)) counted)))) ∧
      (∀ kernel hot, rget s (if hot then .BST_CTRL_HOT else .BST_CTRL_MARGIN) ≠ 0 → slice = false →
        exec (.scoutVerdict px py w (.stress kernel hot)) s = .next (stressFail pc w.val kernel.toNat (if hot then 2 else 1) counted))) ∧
  (∀ (px : Fin 35) (py : Fin 24) (cb : Nat) (s : State),
    let pc := pcIx px.val py.val
    s.combFaults.find? (fun k => pcOf s k == pc) = some cb → s.keeper.inReset = false → (pcGet s pc).good = true → ∃ u,
      (pcGet u pc).good = false ∧ (pcGet u pc).fault = true ∧ u.combFaults.contains cb = false ∧ u.ctxs = s.ctxs ∧ u.mem = s.mem ∧
      (absentComb s cb = true → exec (.combFence px py) s = .next (writeRmap (pcRegion pc) u)) ∧
      (absentComb s cb = false →
        let v := match ctxOfComb s cb with
          | some c => if (ctxGet s c).phase = .work then ctxMod c (fun x => { x with phase := .abandoned }) (discardTraffic c u) else u
          | none => u
        let a := armMove pc cb v
        exec (.combFence px py) s = .next (makeMoves ((waitingMoves a).filter fun e => e.1 == pc && moveOpen a cb) a))) ∧
  (∀ (x : Fin 28) (y : Fin 24) (s : State),
    let cb := cbOf x.val y.val
    absentComb s cb = false →
      ∃ t, exec (.combSharedLogicFault x y) s = .next t ∧ t.combFaults.contains cb = true ∧ ∀ c, ctxOfComb s cb = some c → (ctxGet t c).failed = true) ∧
  (∀ (px : Fin 35) (py : Fin 24) (s : State),
    let pc := pcIx px.val py.val
    let beat (bad : Bool) := pcMod pc (fun k => { k with beat := seqNext k.beat, fault := bad }) s
    (tenderRuns s pc = false → ∀ pass, exec (.housekeepingSlice px py pass) s = .next s) ∧
    (tenderRuns s pc = true → exec (.housekeepingSlice px py true) s = .next (beat false) ∧
      exec (.housekeepingSlice px py false) s = .next (sharedFault pc (beat true))) ∧
    (∀ cb, lcOf s pc = some cb → (sharedFault pc s).combFaults.contains cb = true) ∧
    (lcOf s pc = none → (pcGet s pc).good = true → (pcGet (sharedFault pc s) pc).good = false)) ∧
  (∀ (px : Fin 35) (py : Fin 24) (s : State), lcOf s (pcIx px.val py.val) = none → (pcGet s (pcIx px.val py.val)).good = true →
    ∃ t, exec (.spareCombTest px py false) s = .next t ∧ t = loseSpare (pcIx px.val py.val) 3 s ∧ (pcGet t (pcIx px.val py.val)).good = false) ∧
  (∀ (r : Fin 42) (bad : List (BitVec 64)) (bins : List (BitVec 24 × Fin 2)) (s : State), s.keeper.testing.contains r.val = true → ∃ u,
    exec (.regionTestComplete r ⟨bad, bins⟩) s = .next (endGrants (refreshRegions (if rget u .CMB_RMAP_WITHDRAWN r.val = 1 then writeRmap r.val u
      else countMaps s ((regionCombs r.val).filter fun cb => !absentComb u cb) (placeRegion r.val u)))) ∧
    u.keeper.testing.contains r.val = false) ∧
  (∀ s : State, s.keeper.inReset = false → ∃ t, exec .serviceLifePrediction s = .next t ∧
    (∀ r, r < 42 → regionOut s r = false → rget t .BST_LIFE_DAYS ≤ regionDays s r) ∧ rget t .BST_LIFE_DAYS ≤ 65535 ∧
    ((∀ r, r < 42 → regionOut s r = true) ∧ rget t .BST_LIFE_REGION = 63 ∧ rget t .BST_LIFE_DAYS = 65535 ∨
      ∃ r, r < 42 ∧ regionOut s r = false ∧ rget t .BST_LIFE_REGION = r ∧ rget t .BST_LIFE_DAYS = min 65535 (regionDays s r)))

/-! ### Fabric ports -/

/-- O41. Blocks and records on a port: acknowledgements free the retry buffer, a good block in sequence is taken and its credit returned, or waits for a
mesh flow, one that comes early waits for its turn, a bad one starts discarding, and credits and re-sends are counted (R360, R361, R363, R364). -/
def Obligations.PortBlockResults : Prop :=
  ∀ (p : Fin 6) (s : State),
    let q := p.val
    (∀ b : Block, 2 ≤ rget s .PRT_STATUS_STATE q → exec (.idleBlock p b) s = .next (ackRetry q b.ack.toNat s)) ∧
    (∀ (b : Block) (stream : Bool),
      let c := if stream then Instr.streamBlock p b else .packetBlock p b
      let u := ackRetry q b.ack.toNat s
      let x := portGet u q
      let v := portMod q (fun x => { x with discard := false, fails := 0, rxSeq := seqNext x.rxSeq, ctl := x.ctl.filter fun r => fld r 56 8 != 2 }) u
      (portLive s q = false → ∀ good, exec (c good) s = .next s) ∧
      (portLive s q = true →
        (b.seq.toNat = x.rxSeq → exec (c true) s = .next (takeEarly q x.early.length (inSeq q stream b u))) ∧
        (b.seq.toNat = x.rxSeq → x.early = [] →
          (waitsFlow v q stream b = false → exec (c true) s = .next (giveCredit q b (takeBlock q stream b v))) ∧
          (waitsFlow v q stream b = true → exec (c true) s = .next (portMod q (fun x => { x with stall := x.stall ++ [(stream, b)] }) v))) ∧
        (b.seq.toNat ≠ x.rxSeq → x.discard = true ∨ seqLater b.seq.toNat x.rxSeq = false ∨ (stream, b) ∈ x.early → exec (c true) s = .next u) ∧
        (b.seq.toNat ≠ x.rxSeq → x.discard = false → seqLater b.seq.toNat x.rxSeq = true → (stream, b) ∉ x.early →
          exec (c true) s = .next (portMod q (fun x => { x with early := x.early ++ [(stream, b)] }) u)) ∧
        (x.fails + 1 < 16 → ∃ t, exec (c false) s = .next t ∧ (portGet t q).discard = true ∧ (portGet t q).fails = x.fails + 1 ∧
          (portGet t q).early = [] ∧ (portGet t q).ctl = x.ctl ++ [0x02 <<< 56 ||| x.rxSeq] ∧ t.mem = s.mem) ∧
        (16 ≤ x.fails + 1 → ∃ w, exec (c false) s = .next (portDown q 3 w)))) ∧
    (∀ v : BitVec 64, 2 ≤ rget s .PRT_STATUS_STATE q → exec (.creditRecord p v) s = .next (pump q (portMod q (fun x =>
      { x with returned := tset x.returned (fld v.toNat 48 3 * 2 + fld v.toNat 47 1) (v.toNat % 65536) }) s))) ∧
    (∀ (v : BitVec 64) (late : Nat), 2 ≤ rget s .PRT_STATUS_STATE q → (∃ e ∈ (portGet s q).retry, e.2.seq.toNat = v.toNat % 65536) →
      ((portGet s q).resends.1 = v.toNat % 65536 → (portGet s q).resends.2 < 15) → ∃ t, exec (.resendRecord p v late) s = .next t ∧
        (portGet t q).resends.1 = v.toNat % 65536 ∧ (portGet t q).retry = (portGet s q).retry ∧
        rget t .PRT_EVT_COUNT q 1 = min 0xFFFFFFFF (rget s .PRT_EVT_COUNT q 1 + 1) ∧ t.mem = s.mem) ∧
    (∀ (v : BitVec 64) (late : Nat), 2 ≤ rget s .PRT_STATUS_STATE q → (∃ e ∈ (portGet s q).retry, e.2.seq.toNat = v.toNat % 65536) →
      (portGet s q).resends.1 = v.toNat % 65536 → 15 ≤ (portGet s q).resends.2 → ∃ u, exec (.resendRecord p v late) s = .next (portDown q 3 u))

/-- O42. Lanes, link state and topology: sparing and lane removal, identification, going down and training with its failures, mirroring, admission and the
topology register (R357, R361, R365, R366, R368 to R370, R381, R382). -/
def Obligations.PortLinkResults : Prop :=
  ∀ (p : Fin 6) (s : State),
    let q := p.val
    (∀ v : BitVec 64, 2 ≤ rget s .PRT_STATUS_STATE q → fld v.toNat 46 2 < 2 → ∃ t, exec (.spareRecord p v) s = .next t ∧
      (portGet t q).ctl = (portGet s q).ctl ++ [0x04 <<< 56 ||| fld v.toNat 0 56] ∧ t.mem = s.mem ∧
      (fld v.toNat 46 2 = 1 → rget t .PRT_LANES_TX_FSP q = 1 ∧ rget t .PRT_LANES_TX_FSP_FOR q = fld v.toNat 48 5 % 16 / 8) ∧
      (fld v.toNat 46 2 = 0 → rget t (if fld v.toNat 48 5 % 16 < 8 then .PRT_LANES_TX_W0SP else .PRT_LANES_TX_W1SP) q = fld v.toNat 48 5 % 8)) ∧
    (∀ v : BitVec 64, 2 ≤ rget s .PRT_STATUS_STATE q → fld v.toNat 46 2 = 2 → ∃ u,
      exec (.spareRecord p v) s = .next (afterRemoval q (rget u .PRT_STATUS_TX_LANES q) u) ∧
      rget u .PRT_LANES_TX_OK q = setFld (rget s .PRT_LANES_TX_OK q) (fld v.toNat 48 5 % 16) 1 0 ∧
      rget u .PRT_STATUS_TX_LANES q = laneCount (rget u .PRT_LANES_TX_OK q)) ∧
    (∀ v : BitVec 64, exec (.spareackRecord p v) s = .next (portMod q (fun x =>
      { x with ctl := x.ctl.filter fun r => !(fld r 56 8 == 3 && fld r 0 56 == fld v.toNat 0 56) }) s)) ∧
    (∀ lane : Fin 16, 2 ≤ rget s .PRT_STATUS_STATE q → bit (rget s .PRT_LANES_RX_OK q) lane.val = true →
      rget s (if lane.val < 8 then .PRT_LANES_RX_W0SP else .PRT_LANES_RX_W1SP) q = 15 → ∃ t, exec (.laneFault p lane false) s = .next t ∧
        rget t (if lane.val < 8 then .PRT_LANES_RX_W0SP else .PRT_LANES_RX_W1SP) q = lane.val % 8 ∧
        (portGet t q).ctl = (portGet s q).ctl ++ [0x03 <<< 56 ||| lane.val <<< 48 ||| (portGet s q).rxSeq] ∧ t.mem = s.mem) ∧
    (∀ v : BitVec 64, rget s .PRT_STATUS_STATE q ≠ 0 → ∃ u, exec (.identRecord p v) s = .next (wiring q u) ∧
      rget u .PRT_STATUS_PEER q = fld v.toNat 38 10 ∧ rget u .PRT_STATUS_PEER_VALID q = 1 ∧ (portGet u q).peerPort = v.toNat % 8) ∧
    (∀ v : BitVec 64, exec (.downRecord p v) s = .next (portDown q 4 s) ∧ exec (.lossOfLight p) s = .next (portDown q 1 s) ∧
      exec (.portSilent p) s = .next (portDown q 2 s)) ∧
    (∀ cause, (rget s .PRT_STATUS_STATE q = 0 → portDown q cause s = s) ∧
      (rget s .PRT_STATUS_STATE q ≠ 0 → let t := portDown q cause s
        rget t .PRT_STATUS_STATE q = 0 ∧ rget t .PRT_STATUS_CAUSE q = cause ∧ rget t .PRT_STATUS_PEER_VALID q = 0 ∧
        (portGet t q).retry = [] ∧ (portGet t q).waiting = [] ∧ (portGet t q).early = [] ∧ (portGet t q).ctl = [0x06 <<< 56 ||| cause] ∧ t.mem = s.mem)) ∧
    (rget s .PRT_STATUS_STATE q = 0 → portPowered s q = true → exec (.portRetrain p) s = .next (rset .PRT_STATUS_STATE q 0 1 s)) ∧
    (∀ r : TrainResult, rget s .PRT_STATUS_STATE q < 2 → portPowered s q = true →
      let tx := lanesUp s q (rget s .PRT_LANES_TX_OK q) r.tx.toNat
      let rx := lanesUp s q (rget s .PRT_LANES_RX_OK q) r.rx.toNat
      (r.ok = false → (portGet s q).trainFails < 2 → ∃ t, exec (.portTraining p r) s = .next t ∧ rget t .PRT_STATUS_STATE q = 1 ∧
        (portGet t q).trainFails = (portGet s q).trainFails + 1 ∧ t.mem = s.mem) ∧
      (r.ok = false → 2 ≤ (portGet s q).trainFails → ∃ u, exec (.portTraining p r) s = .next (portDown q 5 u)) ∧
      (r.ok = true → 300 < r.fibre.toNat → exec (.portTraining p r) s = .next (portDown q 6 (rset .PRT_STATUS_STATE q 0 1 s))) ∧
      (r.ok = true → r.fibre.toNat ≤ 300 → ∃ u,
        exec (.portTraining p r) s = .next (if laneCount tx = 0 ∨ laneCount rx = 0 then portDown q 1 u else wiring q (sendCtl q (identRec u q) u)) ∧
        rget u .PRT_LAT_PINNED q = 1 ∧ rget u .PRT_LAT_LAT q = 160 + 4 * ((r.fibre.toNat + 9) / 10) ∧ rget u .PRT_LANES_TX_OK q = tx ∧
        rget u .PRT_LANES_RX_OK q = rx ∧ rget u .PRT_STATUS_STATE q = (if laneCount tx = 16 ∧ laneCount rx = 16 then 2 else 3))) ∧
    (∀ c : Fin 16, (mirrorClear s c.val = true → exec (.mirrorWaitTimeout c) s = .next s) ∧
      (mirrorClear s c.val = false → rget s .PRT_MIRSTAT_SUSPENDED 0 c.val ≠ 1 → ∃ t, exec (.mirrorWaitTimeout c) s = .next t ∧
        rget t .PRT_MIRSTAT_SUSPENDED 0 c.val = 1 ∧ rget t .PRT_MIRSTAT_CAUSE 0 c.val = 3 ∧ rget t .PRT_MIRSTAT_FULL 0 c.val = 0 ∧
        mirrorClear t c.val = true ∧ t.mem = s.mem)) ∧
    (∀ (who : Requester) (c : Fin 16), isPf who = true → ∃ t, exec (.mirrorResume who c) s = .next t ∧ rget t .PRT_MIRSTAT_SUSPENDED 0 c.val = 0 ∧
      rget t .PRT_MIRSTAT_COVER 0 c.val = 0 ∧ rget t .PRT_MIRSTAT_FULL 0 c.val = 0 ∧ t = { s with flds := t.flds }) ∧
    (∀ (who : Requester) (v : Bool), isPf who = true → ∃ t, exec (.admitOpen who v) s = .next t ∧ rget t .PRT_TWIN_ADMIT_OPEN = b2n v ∧
      (v = true → rget s .PRT_TWIN_ADMIT = 1 ∨ rget s .PRT_TWIN_ADMIT = 3 → rget t .PRT_TWIN_ADMIT = 2) ∧
      (v = false → rget s .PRT_TWIN_ADMIT = 2 → rget t .PRT_TWIN_ADMIT = 1) ∧ t.mem = s.mem) ∧
    (∀ (who : Requester) (v : BitVec 32), isPf who = true → (∀ c, c < 16 → runOrHeld s c = false) → (∀ k, k < 6 → rget s .PRT_STATUS_STATE k < 2) →
      ∃ t, exec (.prtTopoWrite who v) s = .next t ∧ t = { s with flds := t.flds, hosts := t.hosts } ∧ rget t .PRT_TOPO_X = fld v.toNat 18 4 ∧
        rget t .PRT_TOPO_Y = fld v.toNat 14 4 ∧ rget t .PRT_TOPO_P = fld v.toNat 30 1 ∧
        rget t .PRT_TOPO_MODULE = 256 * fld v.toNat 30 1 + 16 * fld v.toNat 14 4 + fld v.toNat 18 4 ∧
        rget t .PRT_TOPO_VALID = (if fld v.toNat 18 4 ≤ fld v.toNat 26 4 ∧ fld v.toNat 14 4 ≤ fld v.toNat 22 4 then fld v.toNat 31 1 else 0)) ∧
    (∀ (who : Requester) (v : BitVec 32) (c : Nat), isPf who = true → c < 16 → runOrHeld s c = true →
      exec (.prtTopoWrite who v) s = .next (portEvt 0 5 s))

/-! ### Registers -/

/-- O43. Register accesses: a write that is permitted writes the row, any other, or one into a part of BAR0 that is read-only, leaves everything; a read
answers the value the requester sees and clears counters; a read of a low half latches the high half; in FIELD_DEBUG a worker halts and steps, a sync
object is set and a queue is popped by hand (R2, R8, R10, R79, R80, R284, R288, R390). -/
def Obligations.RegisterAccessResults : Prop :=
  (∀ (who : Requester) (a : BitVec 64) (s : State) (r : RegRow) (i k off : Nat), regHit s who a.toNat = .reg r i k off →
    (∀ (bytes : Nat) (v : BitVec 64), writeBarred who a.toNat = false → accessOk r off bytes = true → canWrite s who r i k = true →
      exec (.registerWrite who a bytes v) s =
      .next (rowWrite who r i k (setFld (writable s r i k) (8 * off) (8 * bytes) v.toNat) (fld v.toNat 0 (8 * bytes) <<< (8 * off)) (off == 0) s)) ∧
    (∀ (bytes : Nat) (v : BitVec 64), writeBarred who a.toNat = true ∨ accessOk r off bytes = false ∨ canWrite s who r i k = false →
      exec (.registerWrite who a bytes v) s = .next s) ∧
    (∀ bytes, accessOk r off bytes = true → r.r ≠ .MSG_QPOP → bytes = 8 ∨ r.bits = 32 → exec (.rcCounterRead who a bytes) s =
      .next { (if canRead s who r i k then clearRc r i k s else s) with readData := regValue s who r i k }) ∧
    (off = 0 → r.bits = 64 → r.r ≠ .MSG_QPOP → latches r = true → ∃ t, exec (.lowHalfRead who a) s = .next t ∧
      t.readData = regValue s who r i k % 2 ^ 32 ∧ t.latch.head? = some (who, a.toNat, regValue s who r i k / 2 ^ 32) ∧ t.mem = s.mem)) ∧
  (∀ (who : Requester) (s : State),
    (∀ (x : Fin 28) (y : Fin 24) (w : Fin 32) (v : BitVec 32), dbgReach s who (cbOf x.val y.val) = true → v.getLsbD 30 = false → ∃ t,
      exec (.wrkDbgHalt who x y w v) s = .next t ∧ t = { s with flds := t.flds, ctxs := t.ctxs } ∧
      (∀ c, dbgHalted s (wkOf x.val y.val w.val) = true → ctxOfComb s (cbOf x.val y.val) = some c → (ctxGet t c).lapsed = true) ∧
      rget t .WRK_DBG_HALT (wkOf x.val y.val w.val) = fld v.toNat 31 1 ∧ rget t .WRK_DBG_THREAD (wkOf x.val y.val w.val) = fld v.toNat 23 7 ∧
      rget t .WRK_DBG_BREAK (wkOf x.val y.val w.val) = fld v.toNat 14 9 ∧ rget t .WRK_DBG_BREAK_EN (wkOf x.val y.val w.val) = fld v.toNat 13 1) ∧
    (∀ (f : Fire) (c t : Nat),
      let wk := fireWk f
      dbgReach s who (wk / 32) = true → (wGet s wk).act.present = true → (wGet s wk).stopped = false → rget s .WRK_DBG_HALT wk = 1 →
      ctxOfComb s (wk / 32) = some c → stepping s c = true → pick s wk (wGet s wk) = some t → exec (.wrkDbgStep who f) s = .next (doFire wk t f s)) ∧
    (∀ (x : Fin 28) (y : Fin 24) (n : Fin 4096) (v : BitVec 32),
      let cb := cbOf x.val y.val
      let o := objGet s cb n.val
      isPf who = true → dbgReach s who cb = true → o.ty = 0 → ∃ t, exec (.synObjWrite who x y n v) s = .next t ∧
        (objGet t cb n.val).value = v.toNat ∧ (∀ w ∈ (objGet t cb n.val).waiters, counterOk v.toNat w.threshold = false) ∧
        rget t .SYN_EVT_COUNT cb 3 = min 0xFFFFFFFF (rget s .SYN_EVT_COUNT cb 3 + 1) ∧ t.mem = s.mem) ∧
    (∀ (x : Fin 28) (y : Fin 24) (w : Fin 32) (q : Fin 8) (e : QEntry) (rest : List QEntry),
      let wk := wkOf x.val y.val w.val
      fieldDebug s = true → isPf who = true → viaBar0 who = false → absentComb s (cbOf x.val y.val) = false → (wGet s wk).queues.getD q.val [] = e :: rest →
      ∃ u, exec (.msgQpopRead who x y w q) s = .next { creditBack wk e u with readData := (wordAt e.words 0).toNat } ∧
        rget u .MSG_QSTAT_POPVALID wk q.val = 1 ∧ rget u .MSG_QSTAT_POPLEN wk q.val = e.words.length - 1 ∧
        rget u .MSG_QW1_WORD wk q.val = (wordAt e.words 1).toNat ∧ (wGet u wk).queues.getD q.val [] = rest))

/-- O44. The hive window: a read answers the bytes of memory, each block checked, or a register; a write stores them, or writes a register; a fault is
latched and answers ones, a poisoned write is discarded, and a function in D3hot answers nothing (R305, R385, R391, R392, R405). -/
def Obligations.HiveWindowResults : Prop :=
  ∀ (f : Fin 16) (off : BitVec 36) (s : State),
    let who := funcReq f
    let act := actsFor s who
    let a := windowAddr s f.val off.toNat
    ((hostGet s f.val).d3 = true → ∀ bytes crc data tlp,
      exec (.hiveWindowRead f off ⟨bytes, crc⟩) s = .next s ∧ exec (.hiveWindowWrite f off data tlp) s = .next s) ∧
    ((hostGet s f.val).d3 = false →
    (∀ bytes crc, windowFault s who a bytes false = false → fld a 60 4 < 3 →
      let u := checkRead act a bytes crc s
      exec (.hiveWindowRead f off ⟨bytes, crc⟩) s = .next { poisonReads act a bytes u with readData := ofLe (locRead u act a bytes) } ∧
        (poisonReads act a bytes u).mem = s.mem) ∧
    (∀ bytes crc, windowFault s who a bytes false = false → 3 ≤ fld a 60 4 →
      exec (.hiveWindowRead f off ⟨bytes, crc⟩) s = .next (readTo (regRead who a bytes s) bytes)) ∧
    (∀ bytes crc, windowFault s who a bytes false = true → ∃ t, exec (.hiveWindowRead f off ⟨bytes, crc⟩) s = .next t ∧ t.readData = 2 ^ (8 * bytes) - 1 ∧
      rget t .HST_EVT_COUNT f.val 2 = min 0xFFFFFFFF (rget s .HST_EVT_COUNT f.val 2 + 1) ∧ rget t .HST_AFINFO_VALID f.val = 1 ∧ t.mem = s.mem ∧
      (rget s .HST_AFINFO_VALID f.val ≠ 1 → rget t .HST_AFAULT_ADDR f.val = a)) ∧
    (∀ data, windowFault s who a data.length true = false → fld a 60 4 < 3 →
      exec (.hiveWindowWrite f off data .good) s = .next (locWrite act a data s)) ∧
    (∀ data, windowFault s who a data.length true = false → 3 ≤ fld a 60 4 → (∀ g o, regHit s who a ≠ .inbox g o) →
      exec (.hiveWindowWrite f off data .good) s = .next (regWrite who a data.length (ofLe data) s)) ∧
    (∀ data g o, windowFault s who a data.length true = false → 3 ≤ fld a 60 4 → regHit s who a = .inbox g o →
      exec (.hiveWindowWrite f off data .good) s = .next (inboxWrite g o data s)) ∧
    (∀ data, windowFault s who a data.length true = true → ∃ t, exec (.hiveWindowWrite f off data .good) s = .next t ∧ t.mem = s.mem ∧
      rget t .HST_AFINFO_VALID f.val = 1 ∧ (rget s .HST_AFINFO_VALID f.val ≠ 1 → rget t .HST_AFINFO_DIR f.val = 1)) ∧
    (∀ data, ∀ tlp ∈ [Tlp.poisoned, .poisonedBar0], ∃ t, exec (.hiveWindowWrite f off data tlp) s = .next t ∧
      t = { s with flds := t.flds, faultBuf := t.faultBuf }))

/-! ### DMA -/

/-- O45. A descriptor: it is fetched from memory or from the presets and checked, a fetch or a check that fails halts its channel with the cause, a channel
that stalled goes on, a completion is reported or not as the descriptor asks, and a transfer error halts the channel, which gives up the bytes from the
error on and counts the others as they are acknowledged (R291, R295, R297 to R299, R303). -/
def Obligations.DescriptorResults : Prop :=
  (∀ (c : Fin 80) (s : State),
    let n := c.val
    let a := rget s .DMA_CUR_ADDR n
    let who := dmaCtx s n
    let x := dmGet s n
    let u := rset .DMA_DONE_BYTES n 0 0 s
    let got : Option (List Byte) := match x.presetAt with
      | some i => some (x.last.getD (x.presets.getD i []))
      | none => if a % 64 = 0 ∧ dmaFault u who false a 64 = none ∧ locPoisoned u who a 64 = false then some (locRead u who a 64) else none
    rget s .DMA_STATUS_STATE n = 1 → x.record = none →
      (x.fetch = false → exec (.descriptorStart c) s = .next (dmaPump n s)) ∧
      (x.fetch = true → got = none →
        exec (.descriptorStart c) s = .next (dmaHalt n 9 0 a 0 true (dmMod n (fun x => { x with desc := [], sent := 0 }) u))) ∧
      (∀ d, x.fetch = true → got = some d →
        let v := dmMod n (fun x => { x with desc := d, sent := 0, opened := [], out := [] }) u
        (dCheck v n a d = none → exec (.descriptorStart c) s = .next (dmaPump n (dmMod n (fun x => { x with fetch := false }) v))) ∧
        (∀ cause dir at', dCheck v n a d = some (cause, dir, at') → exec (.descriptorStart c) s = .next (dmaHalt n cause dir at' 0 true v)))) ∧
  (∀ (c : Fin 80) (s : State),
    let n := c.val
    let x := dmGet s n
    rget s .DMA_STATUS_STATE n = 1 → x.fetch = false → x.record = none → rget s .DMA_DONE_BYTES n = dLen x.desc →
      (dNotify x.desc = false → exec (.descriptorComplete c) s = .next (dmaAfter n 0 s)) ∧
      (dNotify x.desc = true → dmaPlace s (dmaFunc s n) = true →
        exec (.descriptorComplete c) s = .next (dmaAfter n 0 (post (dmaFunc s n) (dmaRecord s n 0) s))) ∧
      (dNotify x.desc = true → dmaPlace s (dmaFunc s n) = false →
        exec (.descriptorComplete c) s = .next (dmMod n (fun x => { x with record := some (dmaRecord s n 0) }) s))) ∧
  (∀ (c : Fin 80) (cause : DmaErr) (done : Nat) (s : State),
    let n := c.val
    let x := dmGet s n
    let who := dmaCtx s n
    let src := dSrc x.desc + done
    let u := if cause.toNat = 0x12 then poisonReads who src 1 (checkRead who src 1 [.failed 0] s) else s
    rget s .DMA_STATUS_STATE n = 1 → x.fetch = false → x.record = none → 0x10 ≤ cause.toNat → cause.toNat ≤ 0x14 → done < dLen x.desc →
      (cause.toNat = 0x12 → locPoisoned u who src 1 = true) → ∃ t, exec (.dmaTransferError c cause done) s = .next t ∧
        t = dmaError n cause.toNat (if cause.toNat = 0x10 ∨ cause.toNat = 0x12 then 1 else 2) done u ∧ rget t .DMA_STATUS_STATE n = 3 ∧
        rget t .DMA_STATUS_CAUSE n = cause.toNat ∧ rget t .DMA_FINFO_VALID n = 1 ∧ t.mem = s.mem) ∧
  (∀ (n cause dir a limit : Nat) (chk : Bool) (s : State),
    let t := dmaHalt n cause dir a limit chk s
    rget t .DMA_STATUS_STATE n = 3 ∧ rget t .DMA_STATUS_CAUSE n = cause ∧ rget t .DMA_FAIL_ADDR n = a ∧ rget t .DMA_FINFO_DIR n = dir ∧
      rget t .DMA_DONE_BYTES n = min limit (dmGet s n).sent - dmaBusy t n ∧ (∀ o ∈ (dmGet t n).out, o.off < limit) ∧
      (dmGet t n).sent = min limit (dmGet s n).sent ∧ t.mem = s.mem)

/-- O46. The controls of a DMA channel: GO, STOP, RESUME, SKIP, ABORT and PRESET in the states in which they act; a channel of a failed segment does not
start (R250, R300, R301, R303, R304). -/
def Obligations.DmaControlResults : Prop :=
  ∀ (who : Requester) (c : Fin 80) (s : State), dmaOwned s who c.val = true →
    let n := c.val
    let x := dmGet s n
    let st := rget s .DMA_STATUS_STATE n
    let cause := rget s .DMA_STATUS_CAUSE n
    let u := rset .DMA_STATUS_STATE n 0 1 (rset .DMA_STATUS_CAUSE n 0 0 s)
    (dmaOut s n = true → exec (.go who c) s = .next s ∧ exec (.preset who c) s = .next s) ∧
    (dmaOut s n = false → st = 0 → exec (.go who c) s = .next (dmMod n (fun x => { x with fetch := true, presetAt := none, last := none, ridge := false })
      (rset .DMA_STATUS_STATE n 0 1 (rset .DMA_CUR_ADDR n 0 (rget s .DMA_DESC_ADDR n) s)))) ∧
    (dmaOut s n = false → st = 2 → exec (.go who c) s = .next (rset .DMA_STATUS_STATE n 0 1 s)) ∧
    (st = 1 → exec (.stop who c) s = .next (rset .DMA_STATUS_STOP_PEND n 0 1 s)) ∧
    (st = 3 → x.record = none →
        (x.checkFail = true → exec (.resume who c) s = .next (dmMod n (fun x => { x with fetch := true, checkFail := false }) u)) ∧
        (x.checkFail = false → exec (.resume who c) s = .next (dmaPump n u))) ∧
    (st = 3 → x.record = none →
      exec (.skip who c) s = .next (dmaReport n (if cause = 9 then 0x20 else cause) (dmaDiscard n 0 s)) ∧
      exec (.abort who c) s = .next (dmaReport n 0x20 (dmaDiscard n 0 s))) ∧
    (dmaOut s n = false → st = 0 → x.presets ≠ [] → dRidge (x.presets.headD []) = false → exec (.preset who c) s = .next (dmaPreset n 0 false s) ∧
      rget (dmaPreset n 0 false s) .DMA_STATUS_STATE n = 1 ∧ rget (dmaPreset n 0 false s) .DMA_CUR_ADDR n = 0xF000000000000000)

/-! ### Eave memory, rafters and drops -/

/-- O47. A channel's slots: the first data slot of a block takes a read entry, or is the loss overrun EAVE with 32 outstanding, and the second one hands the
block to the feed; the feed injects its oldest block good, pending or dead, and a re-read, or the partner copy, repairs or poisons it (R195, R231, R235,
R236, R243, R245). -/
def Obligations.StreamResults : Prop :=
  ∀ (ch : Fin 2048) (s : State),
    let n := ch.val
    let x := chGet s n
    (chanOwner s n = none → ∀ k, exec (.streamSlot ch k) s = .next s) ∧
    (∀ (c k : Nat), chanOwner s n = some c → stepping s c = true → k % 16 ≠ 15 → x.nextSlot ≤ k → chInService s n = true →
      let cyc := slotCycle (rget s .EAV_SEG_RATE (n / 256)) n k
      let at' := (pickProg s c x.act x.sh cyc).runs.findSome? fun r => (runAt r (usableIx k)).map fun e => (r, e)
      let u := chSet n { x with nextSlot := k + 1 } s
      (at' = none → exec (.streamSlot ch k) s = .next u) ∧
      (∀ r i e, at' = some (r, i, e) →
        (e = 0 → exec (.streamSlot ch k) s = .next u) ∧
        (e % 2 = 1 → x.feed.length < 32 → ∃ t b, exec (.streamSlot ch k) s = .next t ∧ (chGet t n).nextSlot = k + 1 ∧
          (chGet t n).feed = x.feed ++ [b] ∧ b.st = 0 ∧ b.id = s.nextBlk ∧ b.chan = n ∧ b.group = r.group + i ∧ b.block = r.first + (e - 1) / 2 ∧
          b.rafter = r.rafter ∧ b.lane = r.lane ∧ b.ctx = c ∧ t.nextBlk = s.nextBlk + 1 ∧ t.mem = s.mem) ∧
        (e % 2 = 1 → 32 ≤ x.feed.length → exec (.streamSlot ch k) s = .next (lossOverrun (42 + n / 256) c (withCtx u (some c)
          { cls := clsOverrun, outcome := 1, lsite := 63 <<< 16, psite := psiteS (n / 256), detail := 4 }) u)) ∧
        (e ≠ 0 → e % 2 = 0 → ∃ t, exec (.streamSlot ch k) s = .next t ∧ t = { s with chans := t.chans } ∧ (chGet t n).nextSlot = k + 1 ∧
          (chGet t n).feed = replFirst (fun b => b.st == 0 && b.group == r.group + i && b.block == r.first + (e - 1) / 2)
            (fun b => { b with st := 1, inject := cyc + 160, data := ofLe (blockData s n (r.group + i) (r.first + (e - 1) / 2)) }) x.feed))) ∧
    (∀ (k : Nat) (u : Maint), k % 16 = 15 → x.nextSlot ≤ k → exec (.maintenanceSlot ch k u) s = .next (chSet n { x with nextSlot := k + 1 } s)) ∧
    (∀ (b : LaneBlk) (rest : List LaneBlk) (good : Bool), x.feed = b :: rest →
      let marked := s.poison.contains (emBlockKey n b.group b.block)
      let alone := marked && (partnerPlace s b.ctx n b.group b.block).isNone
      (b.st = 0 → exec (.rafterInject ch good) s = .next s) ∧
      (b.st ≠ 0 → good = true → marked = false →
        exec (.rafterInject ch good) s = .next { chSet n { x with feed := rest } s with lane := s.lane ++ [b] }) ∧
      (b.st ≠ 0 → good = false ∨ marked = true →
        (alone = false → x.repairs.length < 2 → ∃ t, exec (.rafterInject ch good) s = .next t ∧ t.lane = s.lane ++ [{ b with st := 2 }] ∧
          (chGet t n).feed = rest ∧ (chGet t n).repairs = x.repairs ++ [⟨b, 0⟩] ∧ t.poison = s.poison ∧ t.mem = s.mem) ∧
        (alone = true ∨ 2 ≤ x.repairs.length → ∃ t, exec (.rafterInject ch good) s = .next t ∧ t.lane = s.lane ++ [{ b with st := 3, data := 0 }] ∧
          (chGet t n).feed = rest ∧ t.poison.contains (emBlockKey n b.group b.block) = true ∧ t.mem = s.mem))) ∧
    (∀ (i : Fin 2) (r : Repair) (good : Bool), x.repairs[i.val]? = some r →
      let place := match if r.tries = 1 then partnerPlace s r.blk.ctx n r.blk.group r.blk.block else none with
        | some p => emBlockOf p
        | none => emBlockKey n r.blk.group r.blk.block
      (good = true → s.poison.contains place = false → ∃ t, exec (.rereadVerdict ch i good) s = .next t ∧
        (chGet t n).repairs = x.repairs.eraseIdx i.val ∧ t.mem = s.mem ∧ t.poison = s.poison ∧
        t.lane = s.lane.map fun b => if b.id = r.blk.id then { b with verdict := some 1, data := ofLe (mread s place 128) } else b) ∧
      (good = false ∨ s.poison.contains place = true → r.tries = 0 → ∃ t, exec (.rereadVerdict ch i good) s = .next t ∧
        (chGet t n).repairs = x.repairs.set i.val { r with tries := 1 } ∧ t.lane = s.lane ∧ t.mem = s.mem) ∧
      (good = false ∨ s.poison.contains place = true → r.tries ≠ 0 → ∃ t, exec (.rereadVerdict ch i good) s = .next t ∧
        (chGet t n).repairs = x.repairs.eraseIdx i.val ∧ t.poison.contains (emBlockKey n r.blk.group r.blk.block) = true ∧ t.mem = s.mem ∧
        t.lane = s.lane.map fun b => if b.id = r.blk.id then { b with verdict := some 3, data := 0 } else b))

/-- O48. The drop of a comb takes a block of its lane by the record whose window holds the arrival cycle; the feed's answer completes a block that was
pending, and the reads of comb memory that waited for it; a rafter's wires are tested once none of the contexts that hold its lanes runs a step, and are
spared, or their lane fails (R240, R241, R244 to R247). -/
def Obligations.DropResults : Prop :=
  (∀ (x : Fin 28) (y : Fin 24) (rsel lane : Fin 4) (deferred : Nat) (s : State) (b : LaneBlk) (r : DropRec),
    let cb := cbOf x.val y.val
    let g := rafterOf cb rsel.val
    let mine (b : LaneBlk) : Bool := b.lane == lane.val && b.comes cb rsel.val
    let cyc := arrivalAt b.inject g.2.2
    let tab := (dropGet s cb).1
    let fails := (g.1 * 64 + g.2.1 * 4 + lane.val) * 672 + cb
    s.lane.find? mine = some b → ctxHas s b.ctx cb = true → stepping s b.ctx = true → (ctxGet s b.ctx).arm = .none →
    tab.recs.find? (fun r => r.takes rsel.val lane.val cyc) = some r →
      ∃ u, u.lane = replFirst mine (fun b => { b with seen := cb :: b.seen }) s.lane ∧ u.mem = s.mem ∧
        (dropGet u cb).1.recs = replFirst (fun r => r.takes rsel.val lane.val cyc) (fun r => { r with taken := r.taken + 1 }) tab.recs ∧
        (b.st ≠ 2 → exec (.dropArrival x y rsel lane ⟨true, deferred⟩) s =
          .next (dropBlock cb b.ctx tab r b.st b.data (if r.cmem.isSome then chargeComb cb deferred u else u))) ∧
        (b.st = 2 → exec (.dropArrival x y rsel lane ⟨true, deferred⟩) s = .next (dropPending cb r b false u)) ∧
        ∃ v, exec (.dropArrival x y rsel lane ⟨false, deferred⟩) s = .next (dropPending cb r b true v) ∧
          tget 0 v.laneFails fails = tget 0 s.laneFails fails + 1 ∧ v.lane = u.lane) ∧
  (∀ (x : Fin 28) (y : Fin 24) (late : Nat) (s : State) (w : DropWait) (b : LaneBlk),
    let cb := cbOf x.val y.val
    let known (w : DropWait) : Bool := w.comb == cb && match s.lane.find? (fun b => b.id == w.id) with
      | some b => b.st != 2 || b.verdict.isSome
      | none => false
    let st := b.verdict.getD b.st
    let data := if st = 3 then 0 else b.data
    let off := 128 * w.cmem
    s.dropWaits.find? known = some w → s.lane.find? (fun b => b.id == w.id) = some b → ∃ u,
      (∀ k, w.worker = some k → exec (.repairAnswer x y late) s =
        .next (cutBeats (cb * 32 + k) (beatSize (dropGet s cb).1 k) 32 (wMod (cb * 32 + k) (fillTap b.id data) u))) ∧
      (w.worker = none → exec (.repairAnswer x y late) s = .next (wakeReads b.id cb off (dropWrite cb off st data u))) ∧
      u.dropWaits = dropFirst known s.dropWaits ∧ u.workers = s.workers ∧ u.mem = s.mem ∧ u.tags = s.tags) ∧
  (∀ (cb off st data : Nat) (s : State), off % 128 = 0 → Memory.wf s.mem = true →
    let t := dropWrite cb off st data s
    (∀ i, i < 128 → mget t.mem (cmKey cb (off + i)) = (toLe 128 data).getD i 0) ∧ (st = 3 ↔ t.poison.contains (cmBlock cb off) = true) ∧
    (∀ k, (∀ i, i < 128 → k ≠ cmKey cb (off + i)) → mget t.mem k = mget s.mem k) ∧
    (∀ id, ∀ g ∈ (wakeReads id cb off s).tags, g.pending ≠ some id)) ∧
  (∀ (seg : Fin 8) (rafter : Fin 14) (lane : Fin 4) (faulty : List WireFault) (s : State),
    let i := seg.val * 16 + rafter.val
    let hs := rafterHolders s seg.val rafter.val
    s.laneTests.contains (4 * i + lane.val) = true → (∀ c ∈ hs, stepping s c = false) → ∃ u,
      let v := takeSpares seg.val rafter.val faulty u
      exec (.rafterLaneTest seg rafter lane faulty) s = .next (((lanesSpent v seg.val rafter.val).filter fun l =>
        !(lanesSpent s seg.val rafter.val).contains l).foldl (fun s l => laneOut seg.val rafter.val l s) v) ∧
      u.laneTests = s.laneTests.filter (fun l => l / 4 != i) ∧ (∀ c ∈ hs, (ctxGet u c).pauseDue = (ctxGet s c).pauseDue + 256) ∧
      u = { s with laneTests := u.laneTests, ctxs := u.ctxs }) ∧
  (∀ (seg : Fin 8) (rafter : Fin 14) (f : WireFault) (lane : Fin 4) (s : State),
    let k := ((seg.val * 16 + rafter.val) * 4 + f.lane.val) * 8 + f.span.val
    let t := takeSpares seg.val rafter.val [f] s
    let v := laneOut seg.val rafter.val lane.val s
    tget 0 t.spares k = tget 0 s.spares k + f.wires ∧ t = { s with spares := t.spares, flds := t.flds } ∧ rget v .EAV_SEG_DEGRADED seg.val = 1 ∧
      rget v .RFT_STAT_FAILED seg.val rafter.val = setFld (rget s .RFT_STAT_FAILED seg.val rafter.val) lane.val 1 1 ∧ v.mem = s.mem)

/-- O49. The patrol scrub goes on by a group and logs a bad one; a refresh poisons failing blocks of a row and shortens its bin; the mirrored
configuration of a context is written once (R248, R252 to R254, R317). -/
def Obligations.ScrubAndRefreshResults : Prop :=
  (∀ (ch : Fin 2048) (s : State), (chGet s ch.val).scrubAt + 1 < 2033600 →
    exec (.patrolScrubRead ch []) s = .next (chSet ch.val { chGet s ch.val with scrubAt := (chGet s ch.val).scrubAt + 1 } s) ∧
    ∀ bad : List (Fin 16), bad ≠ [] → ∃ t, exec (.patrolScrubRead ch bad) s = .next t ∧
      (chGet t ch.val).scrubAt = (chGet s ch.val).scrubAt + 1 ∧ t.scrubLog = s.scrubLog ++ [(ch.val, (chGet s ch.val).scrubAt)]) ∧
  (∀ (x : Fin 28) (y : Fin 24) (bank : Fin 16) (row : Fin 768) (bad : List (Fin 64)) (deferred : Nat) (s : State),
    let cb := cbOf x.val y.val
    let i := cb * 12288 + bank.val * 768 + row.val
    exec (.cmemRefresh x y bank row ⟨[], deferred⟩) s = .next (chargeComb cb deferred s) ∧
    (bad ≠ [] → ∃ t, exec (.cmemRefresh x y bank row ⟨bad, deferred⟩) s = .next t ∧ t.mem = s.mem ∧
      (∀ b ∈ bad, t.poison.contains (cmKey cb ((row.val * 64 + b.val) * 2048 + bank.val * 128) / 128) = true) ∧
      tget s.start.binBase t.rowBins i = tget s.start.binBase s.rowBins i - 1 ∧
      (tget s.start.binBase s.rowBins i = 0 → t.rowRepairs.contains i = true) ∧
      rget t .TND_EVT_COUNT cb 2 = min 0xFFFFFFFF (rget s .TND_EVT_COUNT cb 2 + bad.length))) ∧
  (∀ (who : Requester) (c : Fin 16) (v : BitVec 64) (s : State), who = .pf ∨ who = .keeper → rget s .CTX_STATE_STATE c.val ≠ 0 →
    rget s .CTX_STATE_STATE c.val ≠ 5 →
    ((ctxGet s c.val).cfgWritten = false → ∃ t, exec (.eavCtxCfgWrite who c v) s = .next t ∧ (ctxGet t c.val).cfgWritten = true ∧
      rget t .EAV_CTX_CFG_GRANULE 0 c.val = (if fld v.toNat 62 2 = 3 then 0 else fld v.toNat 62 2) ∧
      rget t .EAV_CTX_CFG_MIRROR_BASE 0 c.val = fld v.toNat 41 21 ∧
      (rget t .EAV_CTX_CFG_MIRROR_COUNT 0 c.val = fld v.toNat 20 21 ∨ rget t .EAV_CTX_CFG_MIRROR_COUNT 0 c.val = 0) ∧ t.mem = s.mem) ∧
    ((ctxGet s c.val).cfgWritten = true → exec (.eavCtxCfgWrite who c v) s = .next s))

/-! ### Security -/

/-- O50. SPDM outside a session: version, capabilities, algorithms, digests, the certificate of slot 0, challenge, measurements, and a session's key
exchange and finish (R440 to R442). Signatures are free values (assumption 10), and the error codes are the model's (assumption 33). -/
def Obligations.AttestationResults : Prop :=
  ∀ (via : Via) (s : State), spdmUp s = true →
    let ok (name : String) (d : List Byte) (t : State) : Host.Outcome State Fault Refusal := .next { t with reply := some ⟨name, 0, d⟩ }
    let sig := toLe 132 (Config.freeBits 1056 s.free).toNat
    (via.session = none →
      exec (.getVersion via) s = ok "VERSION" [0x13] s ∧
      exec (.getCapabilities via) s = ok "CAPABILITIES" [] s ∧
      (attests s = true →
        exec (.negotiateAlgorithms via true) s = ok "ALGORITHMS" [1] s ∧
        exec (.getDigests via) s = ok "DIGESTS" (sha512 s.flash.chain) s ∧
        exec (.getCertificate via 0) s = ok "CERTIFICATE" s.flash.chain s ∧
        exec (.challenge via 0) s = ok "CHALLENGE_AUTH" (sha512 s.flash.chain ++ sig) { s with free := s.free + 1 } ∧
        (∀ k : BitVec 8, k ≠ 0 → measureIndices s via k.toNat ≠ [] → exec (.getMeasurements via k) s =
          ok "MEASUREMENTS" (((measureIndices s via k.toNat).flatMap fun i => toLe 1 i ++ (measurement s i).getD []) ++ sig) { s with free := s.free + 1 })) ∧
      (∀ k, (List.range 4).find? (fun k => (sessionOf s k).isNone) = some k → canSign s = true → exec (.keyExchange via) s =
        ok "KEY_EXCHANGE_RSP" (toLe 1 k ++ sig)
          { s with free := s.free + 1, sec := { s.sec with sessions := s.sec.sessions ++ [(k, ⟨via.path, false, 0⟩)] } })) ∧
    (∀ (k : Fin 4) (x : Session), via.session = some k → sessionOf s k.val = some x → x.path = via.path → x.open' = false →
      exec (.finish via true) s = ok "FINISH_RSP" [] { s with sec := { s.sec with sessions := tset s.sec.sessions k.val { x with open' := true } } } ∧
      ∃ t, exec (.finish via false) s = .next t ∧ sessionOf t k.val = none ∧
        rget t .SEC_EVT_COUNT 0 2 = min 0xFFFFFFFF (rget s .SEC_EVT_COUNT 0 2 + 1))

/-- O51. Inside an open session: heartbeat, key update, end, link IDE keys on the physical function's mailbox, and a nonce; a counted IDE failure
(R385, R433, R440, R442). Nonces are free values (assumption 10). -/
def Obligations.SessionResults : Prop :=
  ∀ (via : Via) (k : Fin 4) (x : Session) (s : State), spdmUp s = true → via.session = some k → sessionOf s k.val = some x → x.path = via.path →
    x.open' = true →
    let ok (name : String) (d : List Byte) (t : State) : Host.Outcome State Fault Refusal := .next { t with reply := some ⟨name, 0, d⟩ }
    let n := toLe 32 (Config.freeBits 256 s.free).toNat
    exec (.heartbeat via) s = ok "HEARTBEAT_ACK" [] s ∧
    exec (.keyUpdate via) s = ok "KEY_UPDATE_ACK" []
      { s with sec := { s.sec with sessions := tset s.sec.sessions k.val { x with keys := x.keys + 1 } } } ∧
    exec (.endSession via) s = ok "END_SESSION_ACK" []
      { s with sec := { s.sec with sessions := s.sec.sessions.filter fun e => e.1 != k.val } } ∧
    (via.path = .doe 0 → ∃ t, exec (.ideKm via) s = ok "IDE_KM" [] t ∧ rget t .HST_STATUS_IDE = 1 ∧ t.sec = { s.sec with ideKeyed := true } ∧
      t.mem = s.mem) ∧
    (rget s .HST_STATUS_IDE = 1 → ∃ t, exec .ideIntegrityFailure s = .next t ∧
      rget t .SEC_EVT_COUNT 0 3 = min 0xFFFFFFFF (rget s .SEC_EVT_COUNT 0 3 + 1) ∧
      tget [] t.faultBuf 50 = tget [] s.faultBuf 50 ++ [{ heatRec 0x78 0 with tick := s.tick, cycle := s.cycle }]) ∧
    (lcPath via = true → exec (.lcNonce via) s = ok "LC_NONCE" n { s with free := s.free + 1, sec := { s.sec with nonce := some n } })

/-- O52. Life-cycle operations whose checks all pass change the life-cycle state as R435 gives it, and use up the nonce; the wipes of a return end with
every eave, comb and local-store byte 0. -/
def Obligations.LifeCycleResults : Prop :=
  (∀ (via : Via) (k : Fin 4) (x : Session) (tok : List Byte) (s : State), spdmUp s = true → via.session = some k → sessionOf s k.val = some x →
    x.path = via.path → x.open' = true → lcPath via = true → rget s .SEC_STATE_BUSY = 0 →
    let goes (c : Instr) (st : Nat) (post : State → Prop) : Prop := st = 0 → ∃ t, exec c s = .next t ∧ t.sec.nonce = none ∧ post t
    let answered (t : State) : Prop := t.reply = some ⟨"LC_REQUEST", 0, []⟩ ∧ t.mem = s.mem
    let life := rget s .SEC_STATE_LIFE - 1
    let burned (t : State) : Prop := rget t .SEC_STATE_LC_ROW = rget (burnLife s) .SEC_STATE_LC_ROW ∧
      rget t .SEC_STATE_STATE = lifeState (lifeCount (burnLife s))
    goes (.provision via tok true) (lcStatus 1 [.vendor] [0] true false true true tok s) (fun t => burned t ∧ t.sec.pub.isSome = true) ∧
    goes (.ship via tok true) (lcStatus 2 [.vendor] [1] (rget s .SEC_STATE_CERT_OK == 1) false true true tok s) (fun t => answered t ∧ burned t) ∧
    goes (.debugOn via tok) (lcStatus 3 [.owner] [2] true false true true tok s) (fun t => answered t ∧ rget t .SEC_STATE_STATE = 3) ∧
    goes (.debugOff via tok) (lcStatus 4 [] [3] true false true true tok s)
      (fun t => answered t ∧ rget t .SEC_STATE_STATE = 2 ∧ ∀ wk, rget t .WRK_DBG_HALT wk = 0) ∧
    (loading s = false → goes (.returnOp via tok true) (lcStatus 5 [.owner, .vendor] [2, 3] true true true true tok s)
      (fun t => rget t .SEC_STATE_BUSY = 1 ∧ t.sec.wipe = some via ∧ rget t .SEC_STATE_OREVOKED = setFld (rget s .SEC_STATE_OREVOKED) life 1 1 ∧
        burned t)) ∧
    goes (.refield via tok true) (lcStatus 6 [.vendor] [4] (decide (rget s .SEC_STATE_LIFE ≤ 2)) false true true tok s) (fun t => answered t ∧ burned t) ∧
    goes (.scrap via tok true) (lcStatus 7 [.vendor] [1, 4] true true true true tok s) (fun t => answered t ∧ rget t .SEC_STATE_STATE = 5 ∧
      rget t .SEC_STATE_LC_ROW = 0xFF ∧ rget t .SEC_STATE_OREVOKED = 7) ∧
    (loading s = false → goes (.ownerKey via tok true)
      (lcStatus 8 [.payload] [2] (!bit (rget s .SEC_STATE_OREVOKED) life) false (!bit (rget s .SEC_STATE_OFUSED) life) true tok s)
      (fun t => answered t ∧ rget t .SEC_STATE_OFUSED = setFld (rget s .SEC_STATE_OFUSED) life 1 1 ∧ t.flash = { s.flash with cache := [] } ∧
        ∀ j, j < 8 → rget t .SEC_OKEY_HASH 0 (8 * life + j) = leAt (tokPayload tok) (8 * j) 8)) ∧
    goes (.vendorRevoke via tok true) (lcStatus 9 [.vendorOther] [0, 1, 2, 3, 4] true false (vendorLeft s (tokArg tok)) true tok s)
      (fun t => answered t ∧ rget t .SEC_STATE_VREVOKED = setFld (rget s .SEC_STATE_VREVOKED) (tokArg tok) 1 1) ∧
    goes (.scanOn via tok) (lcStatus 10 [.vendor] [0, 4] true true true true tok s)
      (fun t => rget t .SEC_STATE_SCAN = 1 ∧ rget t .SEC_STATE_KEYLOCK = 1 ∧ t.reply = some ⟨"LC_REQUEST", 0, []⟩)) ∧
  (∀ (via : Via) (s : State), s.sec.wipe = some via → ∃ t, exec .returnWipeComplete s = .next t ∧ t.sec.wipe = none ∧ rget t .SEC_STATE_BUSY = 0 ∧
    t.flash.crash = [] ∧ t.flash.cache = [] ∧ t.reply = some ⟨"LC_REQUEST", 0, []⟩ ∧
    (∀ cb off, cb < 672 → off < cmSize → mget t.mem (cmKey cb off) = 0) ∧ (∀ wk off, wk < 21504 → off < lsSize → mget t.mem (lsKey wk off) = 0) ∧
    (∀ ch off, ch < 2048 → off < 2 ^ 32 → mget t.mem (emKey ch off) = 0))

/-! ### Static networks, courses and records -/

/-- O53. The static networks: a ready group fires, or stalls its switch once in a cycle; a failed link word is held back and charged, and stops its link at
the fourth failure; a crossing that wanders is re-pinned for every context whose routes use it; and a parity or residue error fails the step (R117 to R122,
R128, R132, R137, R180). -/
def Obligations.NetworkResults : Prop :=
  (∀ (x : Fin 28) (y : Fin 24) (net : Net) (inp : Fin 68) (c : Nat) (s : State),
    let cb := cbOf x.val y.val
    let n := netIx net
    let k := swGet s cb n
    let g := groupOf k inp.val
    ctxOfComb s cb = some c → stepping s c = true → k.marks = [] → g ≠ [] → (∀ r ∈ g, k.open r = true) → groupWords k n s.cycle g = true →
      ((∀ r ∈ g, outRoom s cb n r.2.out = true) → exec (.routeGroupFire x y net inp) s = .next (fireGroup cb n g s)) ∧
      ((∃ r ∈ g, outRoom s cb n r.2.out = false) → k.stallAt = some s.cycle → exec (.routeGroupFire x y net inp) s = .next s) ∧
      ((∃ r ∈ g, outRoom s cb n r.2.out = false) → k.stallAt ≠ some s.cycle → ∃ t, exec (.routeGroupFire x y net inp) s = .next t ∧
        swGet t cb n = { k with stallAt := some s.cycle } ∧ vget t .NET_STATUS_STALLED cb 0 = 1 ∧
        rget t .NET_EVT_COUNT cb n = min 0xFFFFFFFF (rget s .NET_EVT_COUNT cb n + 1) ∧
        rget t .CTX_STEPSTAT_SLIP c = min (rget s .CTX_STEPSTAT_SLIP c + 1) 0xFFFFFFFF ∧ t.workers = s.workers ∧ t.mem = s.mem)) ∧
  (∀ (x : Fin 28) (y : Fin 24) (net : Net) (dir : Fin 4) (back : Fin 16) (again : Bool) (slip : Nat) (s : State),
    let cb := cbOf x.val y.val
    let n := netIx net
    let k := linkKey cb n dir.val
    let s1 := bump .NET_EVT_COUNT .NET_OVF_OVF cb 3 1 s
    let f := if again then (tget link0 s.links k).fails + 1 else 1
    (neighbour cb dir.val).isSome = true → linkStopped s cb n dir.val = false →
      (f < 4 → exec (.staticLinkCheckFail x y net dir back ⟨again, slip⟩) s = .next (chargeComb cb (min slip 400)
        (holdBack cb n dir.val back.val (s.cycle + min slip 400) { s1 with links := tset s.links k ⟨f, false⟩ }))) ∧
      (4 ≤ f → exec (.staticLinkCheckFail x y net dir back ⟨again, slip⟩) s =
        .next (combFault cb (holdBack cb n dir.val back.val never { s1 with links := tset s.links k ⟨f, true⟩ })))) ∧
  (∀ (r : Fin 42) (side : Fin 4) (words : Nat) (c : Fin 16) (s : State), innerSide r.val side.val = true → ∃ t,
    exec (.crossingWander r side words c) s = .next t ∧
    (∀ k, k < 16 → crossingUser s r.val side.val k = true → t.repins.contains (r.val * 4 + side.val, k) = true) ∧ t.mem = s.mem ∧
    rget t .NET_XING_WANDER r.val = setFld (rget s .NET_XING_WANDER r.val) (3 - side.val) 1 1 ∧
    rget t .NET_XEVT_COUNT r.val 0 = min 0xFFFFFFFF (rget s .NET_XEVT_COUNT r.val 0 + 1)) ∧
  (∀ (x : Fin 28) (y : Fin 24) (w : Fin 32) (port : Nat) (s : State),
    let wk := wkOf x.val y.val w.val
    ∃ t, exec (.portParityError x y w port) s = .next t ∧ rget t .WRK_STATUS_STEP_FAILED wk = 1 ∧ rget t .WRK_FAULT_CLASS wk = 1 ∧
      rget t .WRK_FAULT_DETAIL wk = port % 256 ∧ (∀ c, ctxOfComb s (wk / 32) = some c → (ctxGet t c).failed = true) ∧ t.mem = s.mem) ∧
  (∀ (x : Fin 28) (y : Fin 24) (out : Fin 68) (s : State),
    let cb := cbOf x.val y.val
    ∃ t, exec (.residueMismatch x y out) s = .next t ∧ rget t .NET_EVT_COUNT cb 5 = min 0xFFFFFFFF (rget s .NET_EVT_COUNT cb 5 + 1) ∧
      (∀ c, ctxOfComb s cb = some c → (ctxGet t c).failed = true ∧ (ctxGet t c).residueHist = cb :: (ctxGet s c).residueHist) ∧
      (∀ c, ctxOfComb s cb = some c → (ctxGet s c).replayed = true → (ctxGet s c).residueHist.contains cb = true → t.combFaults.contains cb = true) ∧
      t.mem = s.mem)

/-- O54. Courses and records: a worker that is done sends its marks, flips when they all stand at its inputs, a switch flips likewise, a mark out of
place or with another tag is a schedule fault that resets the context, and the keeper accepts the oldest record of a unit (R168, R169, R172, R331, R453). -/
def Obligations.CourseAndRecordResults : Prop :=
  (∀ (x : Fin 28) (y : Fin 24) (w : Fin 32) (upsets : List (Fin 512 × Bool)) (c : Nat) (s : State),
    let wk := wkOf x.val y.val w.val
    let k := wGet s wk
    ctxOfComb s (wk / 32) = some c → k.done = true → k.flipped = false →
      (coursing s c = true → k.marksOut = false → (∀ o ∈ k.act.outs, portRoom s wk o = true) → ∃ t, exec (.courseMarkEmit x y w) s = .next t ∧
        (wGet t wk).marksOut = true ∧ t.mem = s.mem) ∧
      (overlappedRunning s c = true → k.marksOut = true ∨ k.act.outs = [] → (∀ i ∈ k.act.ins, hasMark (inNet i) (k.fifo.getD i []) = true) →
        ∃ t, exec (.workerFlip x y ⟨w, upsets⟩) s = .next t ∧ (wGet t wk).act = k.sh ∧ (wGet t wk).sh = k.act ∧ (wGet t wk).flipped = true ∧
          (wGet t wk).marksOut = false ∧ (wGet t wk).shReady = false ∧ (∀ o, o ≠ wk → wGet t o = wGet s o) ∧ t.mem = s.mem)) ∧
  (∀ (x : Fin 28) (y : Fin 24) (net : Net) (c : Nat) (s : State),
    let cb := cbOf x.val y.val
    let n := netIx net
    let k := swGet s cb n
    ctxOfComb s cb = some c → overlappedRunning s c = true → k.flipped = false →
      (∀ i ∈ k.act.ins, ∃ v, (k.q i).head? = some v ∧ isMark n v = true) → ∃ u,
        exec (.switchFlip x y net) s = .next (sendMarks cb n (markTag s c) u) ∧ (swGet u cb n).act = k.sh ∧ (swGet u cb n).sh = k.act ∧
        (swGet u cb n).flipped = true ∧ (swGet u cb n).shReady = false ∧ (swGet u cb n).marks = k.act.outs ∧ u = { s with switches := u.switches }) ∧
  (∀ (x : Fin 28) (y : Fin 24) (net : Net) (inp : Fin 132) (c : Nat) (v : NWord) (s : State),
    let cb := cbOf x.val y.val
    let n := netIx net
    ctxOfComb s cb = some c → markInput s cb n inp.val = some v → isMark n v = true →
      (∀ b, (ctxGet s c).arm ≠ .running b) ∨ (n = 2 ∧ (wordAt v.data 0).toNat / 8 ≠ markTag s c) →
      ∃ t, exec (.courseMarkMismatch x y net inp) s = .next t ∧ (ctxGet t c).resetReq = some none ∧ (ctxGet t c).schedFault = true) ∧
  (∀ (unit : Fin 50) (r : FaultRec) (q : List FaultRec) (s : State), tget [] s.faultBuf unit.val = r :: q → s.keeper.inReset = false →
    let r1 := { r with seq := s.keeper.seq, module := moduleId s }
    ∃ t, exec (.faultPacket unit) s = .next t ∧ tget [] t.faultBuf unit.val = q ∧ t.keeper.seq = seqNext s.keeper.seq ∧
      t.keeper.log = tset s.keeper.log (rget s .KPR_FLOG_NEXT) r1 ∧ rget t .KPR_FLOG_NEXT = (rget s .KPR_FLOG_NEXT + 1) % 4096 ∧
      rget t .KPR_FLOG_TOTAL = min (rget s .KPR_FLOG_TOTAL + 1) 0xFFFFFFFF)

/-! ### The mesh -/

/-- O55. Packets of reads, writes and flows at their endpoint, in the order of their channel: a read is answered, a write in sequence is stored and
acknowledged, an OPEN that finds no entry and a packet out of sequence are refused, a reply is sunk, acknowledgements and refusals reach the source, waits
and retries end, and a packet too old is dropped at a router of its route (R258, R264 to R269, R375). -/
def Obligations.MeshDataResults : Prop :=
  (∀ (p : Packet) (s : State),
    let s1 := { s with flight := dropFirst (fun q => q == p) s.flight }
    let e := p.dest.toNat
    let a := p.addr.toNat
    let k := p.value.toNat
    let n := max 1 p.payload.length
    let who := pktCtx p
    let cause := p.aux.toNat % 256
    inOrder s p = true → intoOff s p = none → tooOld s p = false →
      (∀ crc, p.op = 1 → stale s p = false → epPort e = none → epMem e = true → pktSpace a = true → waitsTag s p k = false → 1 ≤ k → k ≤ 512 →
        rangeFault s1 who a k = none →
          let u := poisonReads who a k (checkRead who a k crc (dynTags who a k s1))
          exec (.rdreqPacket ⟨p, crc⟩) s = .next (launch { answer u 3 p with payload := locRead u who a k, last := true } u)) ∧
      (p.op = 2 → stale s p = false → epPort e = none → epMem e = true → waitsTag s p n = false →
        (isOpen p = false → (s.rx.any fun x => x.1 == flowKey p) = true → (tget rx0 s.rx (flowKey p)).failed = false →
          (p.seq.toNat = (tget rx0 s.rx (flowKey p)).next → pktSpace a = true → rangeFault s1 who a n = none → writeOk s1 who a p.payload.length = true →
            exec (.wrPacket p) s = .next (flowAdvance p (locWrite who a p.payload (dynTags who a n s1)))) ∧
          (p.seq.toNat ≠ (tget rx0 s.rx (flowKey p)).next → exec (.wrPacket p) s = .next (launch (nackOf s1 1 p)
            (mshDrop e 2 p { s1 with rx := tset s.rx (flowKey p) { tget rx0 s.rx (flowKey p) with failed := true } })))) ∧
        (isOpen p = true → p.seq = 0 → (rxOpen s e).length < 512 →
          let u := { s1 with rx := tset s.rx (flowKey p) ⟨p.src.toNat, p.flow.toNat, 0, false⟩, rxDead := s.rxDead.filter (· != flowKey p) }
          pktSpace a = true → rangeFault u who a n = none → writeOk u who a p.payload.length = true →
            exec (.wrPacket p) s = .next (flowAdvance p (locWrite who a p.payload (dynTags who a n u)))) ∧
        (isOpen p = true → (s.rx.any fun x => x.1 == flowKey p) = false → 512 ≤ (rxOpen s e).length →
          exec (.wrPacket p) s = .next (launch (nackOf s1 2 p) (bump .MSH_EVT_COUNT .MSH_OVF_OVF (mshAt e) 4 1 (refuseFlow p s1))))) ∧
      (p.op = 3 → stale s p = false → exec (.rdrspPacket p) s = .next s1) ∧
      (p.op = 3 → stale s p = true → exec (.rdrspPacket p) s = .next (mshDrop e 1 p s1)) ∧
      (p.op = 4 → stale s p = false → epPort e = none → exec (.ackPacket p) s = .next (if isLoader e then loaderAck p s1 else sourceAck e p s1)) ∧
      (∀ q, p.op = 4 → stale s p = false → epPort e = some q →
        exec (.ackPacket p) s = .next (inFlowAck q p.flow.toNat (p.aux.toNat % 65536) (replyOut q p s1))) ∧
      (∀ x, p.op = 5 → stale s p = false → epPort e = none → cause = 2 → s.tx.find? (fun x => x.1 == txKey e p.flow.toNat) = some x →
        exec (.nackPacket p) s = .next { s1 with tx := tset s.tx x.1 { x.2 with retryAt := some (s.cycle + 256) } }) ∧
      (∀ c, p.op = 5 → stale s p = false → epPort e = none → cause = 4 → epDma e = some c → exec (.nackPacket p) s = .next (remoteFail c p s1)) ∧
      (p.op = 5 → stale s p = false → epPort e = none → cause ≠ 2 → cause ≠ 4 → exec (.nackPacket p) s = .next (flowFail e p.flow.toNat 0x13 s1))) ∧
  (∀ (ep : BitVec 16) (flow : BitVec 6) (s : State),
    let e := ep.toNat
    let key := txKey e flow.toNat
    let failed := flowFail e flow.toNat 0x13 (bump .MSH_EVT_COUNT .MSH_OVF_OVF (mshAt e) 5 1 s)
    (isLoader e = true → loaderWait s = true → exec (.windowTimeout ep flow) s = .next failed) ∧
    (∀ c, isLoader e = false → epDma e = some c → (∃ x ∈ s.tx, x.1 = key ∧ x.2.failed = false) → creditWait s c flow.toNat = true →
      exec (.windowTimeout ep flow) s = .next failed) ∧
    (∀ x c, s.tx.find? (fun x => x.1 == key && x.2.retryAt.isSome && !x.2.failed) = some x → epDma e = some c → ∃ t,
      exec (.openRetry ep flow) s = .next t ∧ t.tx = tset s.tx key { x.2 with retryAt := none } ∧
      t.flight.length = s.flight.length + ((dmGet s c).out.filter fun o => o.flow == flow.toNat).length ∧ t.mem = s.mem)) ∧
  (∀ (x y : Fin 32) (p : Packet) (s : State), tooOld s p = true → p.op ≠ 13 →
    let router := epStop (x.val <<< 11 ||| y.val <<< 6)
    ((packetStops p).contains router = true ∧ inOrder s p = true) ∨ (s.egress.contains p = true ∧ router = epStop p.dest.toNat) →
    exec (.packetAgeDrop x y p) s = .next (mshDrop (if router < 672 then epC router else portEp 2) 0 p
      { s with flight := dropFirst (fun q => q == p) s.flight, egress := dropFirst (fun q => q == p) s.egress }))

/-- O56. Queues, signals, ridge signals and deliveries: a SEND joins its queue or is returned as GONE, credits return, a signal acts and is answered, a
ridge signal of a peer is noted, a delivery with room reaches its targets, and waits time out (R60, R164, R186, R188, R220, R272, R276 to R278, R280, R283). -/
def Obligations.MeshMessageResults : Prop :=
  (∀ (p : Packet) (s : State),
    let s1 := { s with flight := dropFirst (fun q => q == p) s.flight }
    let e := p.dest.toNat
    let wk := epWorker e
    let b := p.flow.toNat % 8
    let c := p.ctx.toNat
    let m := p.aux.toNat % 1024
    inOrder s p = true → intoOff s p = none → tooOld s p = false →
      (epOnGrid e = true → epN e ≤ 31 →
        (p.op = 6 → queueOk s1 wk p = true →
          let q := fld p.addr.toNat 4 3
          let ent : QEntry := ⟨(List.range (p.tlen.toNat + 1)).map (fun i => BitVec.ofNat 32 (leAt p.payload (4 * i) 4)), p.src.toNat, p.flow.toNat⟩
          let u := wMod wk (fun w => { w with queues := w.queues.set q (w.queues.getD q [] ++ [ent]) }) s1
          exec (.sendPacket p) s = .next (if ((wGet u wk).queues.getD q []).length = 16 then bump .MSG_EVT_COUNT .MSG_OVF_OVF wk 2 1 u else u)) ∧
        (p.op = 6 → queueOk s1 wk p = false →
          let u := if stale s p then mshDrop e 1 p s1 else s1
          exec (.sendPacket p) s = .next (launch (goneCredit u p) (bump .MSG_EVT_COUNT .MSG_OVF_OVF wk 0 1 u))) ∧
        (∀ q, p.op = 7 → stale s p = false → qbind (wGet s wk) b = some q → bit p.aux.toNat 8 = false → exec (.creditPacket p) s =
          .next (creditWake wk b q (wMod wk (fun w => { w with cred := w.cred.set b (min q.max (w.cred.getD b 0 + p.aux.toNat % 32)) }) s1))) ∧
        (p.op = 9 → stale s p = false → exec (.sigackPacket p) s =
          .next (wMod wk (fun w => { w with unacked := w.unacked.set b (w.unacked.getD b 0 - 1) }) s1))) ∧
      (p.op = 8 → epOnGrid e = true → epN e = 63 → stale s p = false →
        let u := signal (epComb e) (fld p.addr.toNat 4 12) (p.value.toNat % 65536) s1
        exec (.sigPacket p) s = .next (launch { answer u 9 p with addr := 0 } u)) ∧
      (p.op = 10 → e = keeperEp → p.ctxv = true → stale s p = false →
        (p.value.toNat % 65536 = rget s .CTX_STEP_COUNT c % 65536 → rget s .CTX_STATE_STATE c = 2 → (spanPeers s c).contains m = true →
          ∃ t, exec (.ridgePacket p) s = .next t ∧ (ctxGet t c).peers.contains m = true ∧ t = { s1 with ctxs := t.ctxs }) ∧
        (p.value.toNat % 65536 ≠ rget s .CTX_STEP_COUNT c % 65536 → exec (.ridgePacket p) s =
          .next (ctxMod c (fun x => { x with ridgeDropped := x.ridgeDropped + 1 }) s1))) ∧
      (∀ (d : Fin 16) (delays k : Nat), p.op = 11 → mgmtSource p = true → stale s p = false → loadingCtx s = some k → mcastRoom s k p = true →
        let u := if stepping s d.val then charge d.val delays s1 else s1
        let ts := mgmtTargets p
        exec (.mgmtPacket p d delays) s = .next
          (if p.mcast then (ts.filter fun t => !combsOff s (regionOf t)).foldl (mgmtAt k p) (dropOff ts u) else ts.foldl (mgmtAt k p) u))) ∧
  (∀ (c : Fin 16) (j : LoadJob) (s : State), (ctxGet s c.val).load = some j → j.accepted = true →
    exec (.multicastAckTimeout c) s = .next (endLoad c.val 0x15 (noIdx + noIdx * 2 ^ 32) s)) ∧
  (∀ (x : Fin 28) (y : Fin 24) (w : Fin 32) (th : Fin 128) (s : State),
    let wk := wkOf x.val y.val w.val
    let t := th.val
    (∀ obj v, (thGet s wk t).park = .wait obj v → ∃ u, exec (.waitSendTimeout x y w th) s =
      .next (wake wk t false (timeoutEnd wk t obj (soAddr (cbX (wk / 32)) (cbY (wk / 32)) obj) true u)) ∧ u = { s with objs := u.objs } ∧
      (objGet u (wk / 32) obj).waiters = (objGet s (wk / 32) obj).waiters.filter fun v => !(v.worker == wk && v.thread == t)) ∧
    (∀ b v q, (thGet s wk t).park = .credit b v → qbind (wGet s wk) b = some q → exec (.waitSendTimeout x y w th) s =
      .next (wake wk t false (timeoutEnd wk t q.q (quAddr q.x q.y q.w q.q) false s))))

/-! ### The whole machine -/

/-- O57. A step with a command at the front of the queue is that command's meaning on the queue's rest. -/
def Obligations.StepIsExec : Prop :=
  ∀ (c : Instr) (q : List Instr) (s : State), step { s with pending := c :: q } = exec c { s with pending := q }

/-- O58. A step takes the front of the queue and nothing else from it, stops in no state, and never takes a free value twice; on an empty queue it is
a cycle in which nothing is commanded (assumptions 3 and 10). -/
def Obligations.StepTakesTheFront : Prop :=
  ∀ s : State, (∃ t, step s = .next t ∧ t.pending = s.pending.tail ∧ s.free ≤ t.free) ∧
    (s.pending = [] → step s = .next { s with cycle := (s.cycle + 1) % 2 ^ 64 })

/-- O59. Every step keeps the invariant: memory stays canonical, and the commands that wait stay well-formed. -/
def Obligations.StepKeepsInv : Prop := ∀ s t : State, Inv s → step s = .next t → Inv t

/-- O60. What reset leaves: the invariant holds, nothing waits, memory reads 0, every context is FREE and every free-standing table is empty; the start
has begun at stage 0x00 (R207, R210, R341, R408). -/
def Obligations.ResetState : Prop :=
  Inv State.reset ∧ State.reset.pending = [] ∧ State.reset.tick = 0 ∧ (∀ k, mget State.reset.mem k = 0) ∧
  (∀ c, c < 16 → rget State.reset .CTX_STATE_STATE c = 0 ∧ rget State.reset .CTX_STEP_COUNT c = 0 ∧ ctxGet State.reset c = ctx0) ∧
  (∀ wk, wGet State.reset wk = worker0) ∧
  (∀ f i j, f ∉ [F.FUS_CMAP_COMB_OK, .FUS_CMAP_WORKER_OK, .FUS_RMAP_SPINE_OK, .FUS_RMAP_CA_OK, .FUS_CHMAP_CH_OK, .PWR_RSTAT_CA_STATE,
    .PWR_RSTAT_SP_STATE, .EAV_SEG_STATE, .TLM_LIFE_STARTS] → rget State.reset f i j = coldNumber f) ∧ State.reset.flight = [] ∧
      State.reset.objs = [] ∧ rget State.reset .HST_STATUS_STAGE = 0
end

