-- ==== Sys2Proof/Laws/State.lean ====
section
/-! SUPPORT. What the writers of the state change: for each writer and each field that it does not touch, the field stays; reading back
what was written, and reading anything else. -/

namespace Sys2Proof.Machine

/-! ### `rset` -/

@[simp] theorem rset_pending (f : F) (i j v : Nat) (s : State) : (rset f i j v s).pending = s.pending := rfl
@[simp] theorem rset_free (f : F) (i j v : Nat) (s : State) : (rset f i j v s).free = s.free := rfl
@[simp] theorem rset_readData (f : F) (i j v : Nat) (s : State) : (rset f i j v s).readData = s.readData := rfl
@[simp] theorem rset_latch (f : F) (i j v : Nat) (s : State) : (rset f i j v s).latch = s.latch := rfl
@[simp] theorem rset_cycle (f : F) (i j v : Nat) (s : State) : (rset f i j v s).cycle = s.cycle := rfl
@[simp] theorem rset_tick (f : F) (i j v : Nat) (s : State) : (rset f i j v s).tick = s.tick := rfl
@[simp] theorem rset_mem (f : F) (i j v : Nat) (s : State) : (rset f i j v s).mem = s.mem := rfl
@[simp] theorem rset_poison (f : F) (i j v : Nat) (s : State) : (rset f i j v s).poison = s.poison := rfl
@[simp] theorem rset_workers (f : F) (i j v : Nat) (s : State) : (rset f i j v s).workers = s.workers := rfl
@[simp] theorem rset_switches (f : F) (i j v : Nat) (s : State) : (rset f i j v s).switches = s.switches := rfl
@[simp] theorem rset_objs (f : F) (i j v : Nat) (s : State) : (rset f i j v s).objs = s.objs := rfl
@[simp] theorem rset_drops (f : F) (i j v : Nat) (s : State) : (rset f i j v s).drops = s.drops := rfl
@[simp] theorem rset_dropWaits (f : F) (i j v : Nat) (s : State) : (rset f i j v s).dropWaits = s.dropWaits := rfl
@[simp] theorem rset_tags (f : F) (i j v : Nat) (s : State) : (rset f i j v s).tags = s.tags := rfl
@[simp] theorem rset_chans (f : F) (i j v : Nat) (s : State) : (rset f i j v s).chans = s.chans := rfl
@[simp] theorem rset_lane (f : F) (i j v : Nat) (s : State) : (rset f i j v s).lane = s.lane := rfl
@[simp] theorem rset_flight (f : F) (i j v : Nat) (s : State) : (rset f i j v s).flight = s.flight := rfl
@[simp] theorem rset_egress (f : F) (i j v : Nat) (s : State) : (rset f i j v s).egress = s.egress := rfl
@[simp] theorem rset_tx (f : F) (i j v : Nat) (s : State) : (rset f i j v s).tx = s.tx := rfl
@[simp] theorem rset_rx (f : F) (i j v : Nat) (s : State) : (rset f i j v s).rx = s.rx := rfl
@[simp] theorem rset_rxDead (f : F) (i j v : Nat) (s : State) : (rset f i j v s).rxDead = s.rxDead := rfl
@[simp] theorem rset_ctxs (f : F) (i j v : Nat) (s : State) : (rset f i j v s).ctxs = s.ctxs := rfl
@[simp] theorem rset_faultBuf (f : F) (i j v : Nat) (s : State) : (rset f i j v s).faultBuf = s.faultBuf := rfl
@[simp] theorem rset_pcol (f : F) (i j v : Nat) (s : State) : (rset f i j v s).pcol = s.pcol := rfl
@[simp] theorem rset_pcombs (f : F) (i j v : Nat) (s : State) : (rset f i j v s).pcombs = s.pcombs := rfl
@[simp] theorem rset_hosts (f : F) (i j v : Nat) (s : State) : (rset f i j v s).hosts = s.hosts := rfl
@[simp] theorem rset_taken (f : F) (i j v : Nat) (s : State) : (rset f i j v s).taken = s.taken := rfl
@[simp] theorem rset_combFaults (f : F) (i j v : Nat) (s : State) : (rset f i j v s).combFaults = s.combFaults := rfl
@[simp] theorem rset_repins (f : F) (i j v : Nat) (s : State) : (rset f i j v s).repins = s.repins := rfl
@[simp] theorem rset_links (f : F) (i j v : Nat) (s : State) : (rset f i j v s).links = s.links := rfl
@[simp] theorem rset_laneFails (f : F) (i j v : Nat) (s : State) : (rset f i j v s).laneFails = s.laneFails := rfl
@[simp] theorem rset_laneTests (f : F) (i j v : Nat) (s : State) : (rset f i j v s).laneTests = s.laneTests := rfl
@[simp] theorem rset_spares (f : F) (i j v : Nat) (s : State) : (rset f i j v s).spares = s.spares := rfl
@[simp] theorem rset_scrubLog (f : F) (i j v : Nat) (s : State) : (rset f i j v s).scrubLog = s.scrubLog := rfl
@[simp] theorem rset_rowBins (f : F) (i j v : Nat) (s : State) : (rset f i j v s).rowBins = s.rowBins := rfl
@[simp] theorem rset_rowRepairs (f : F) (i j v : Nat) (s : State) : (rset f i j v s).rowRepairs = s.rowRepairs := rfl
@[simp] theorem rset_nextBlk (f : F) (i j v : Nat) (s : State) : (rset f i j v s).nextBlk = s.nextBlk := rfl
@[simp] theorem rset_dmas (f : F) (i j v : Nat) (s : State) : (rset f i j v s).dmas = s.dmas := rfl
@[simp] theorem rset_ports (f : F) (i j v : Nat) (s : State) : (rset f i j v s).ports = s.ports := rfl
@[simp] theorem rset_mirror (f : F) (i j v : Nat) (s : State) : (rset f i j v s).mirror = s.mirror := rfl
@[simp] theorem rset_start (f : F) (i j v : Nat) (s : State) : (rset f i j v s).start = s.start := rfl
@[simp] theorem rset_flash (f : F) (i j v : Nat) (s : State) : (rset f i j v s).flash = s.flash := rfl
@[simp] theorem rset_sec (f : F) (i j v : Nat) (s : State) : (rset f i j v s).sec = s.sec := rfl
@[simp] theorem rset_keeper (f : F) (i j v : Nat) (s : State) : (rset f i j v s).keeper = s.keeper := rfl
@[simp] theorem rset_powerIn (f : F) (i j v : Nat) (s : State) : (rset f i j v s).powerIn = s.powerIn := rfl
@[simp] theorem rset_reply (f : F) (i j v : Nat) (s : State) : (rset f i j v s).reply = s.reply := rfl
@[simp] theorem ctxGet_rset (f : F) (i j v : Nat) (a : Nat) (s : State) : ctxGet (rset f i j v s) a = ctxGet s a := rfl
@[simp] theorem wGet_rset (f : F) (i j v : Nat) (a : Nat) (s : State) : wGet (rset f i j v s) a = wGet s a := rfl
@[simp] theorem objGet_rset (f : F) (i j v : Nat) (a b : Nat) (s : State) : objGet (rset f i j v s) a b = objGet s a b := rfl
@[simp] theorem swGet_rset (f : F) (i j v : Nat) (a b : Nat) (s : State) : swGet (rset f i j v s) a b = swGet s a b := rfl
@[simp] theorem hostGet_rset (f : F) (i j v : Nat) (a : Nat) (s : State) : hostGet (rset f i j v s) a = hostGet s a := rfl
@[simp] theorem mread_rset (f : F) (i j v : Nat) (p q : Nat) (s : State) : mread (rset f i j v s) p q = mread s p q := rfl

/-! ### `mwrite` -/

@[simp] theorem mwrite_pending (o : Nat) (l : List Byte) (s : State) : (mwrite o l s).pending = s.pending := rfl
@[simp] theorem mwrite_free (o : Nat) (l : List Byte) (s : State) : (mwrite o l s).free = s.free := rfl
@[simp] theorem mwrite_readData (o : Nat) (l : List Byte) (s : State) : (mwrite o l s).readData = s.readData := rfl
@[simp] theorem mwrite_latch (o : Nat) (l : List Byte) (s : State) : (mwrite o l s).latch = s.latch := rfl
@[simp] theorem mwrite_flds (o : Nat) (l : List Byte) (s : State) : (mwrite o l s).flds = s.flds := rfl
@[simp] theorem mwrite_cycle (o : Nat) (l : List Byte) (s : State) : (mwrite o l s).cycle = s.cycle := rfl
@[simp] theorem mwrite_tick (o : Nat) (l : List Byte) (s : State) : (mwrite o l s).tick = s.tick := rfl
@[simp] theorem mwrite_poison (o : Nat) (l : List Byte) (s : State) : (mwrite o l s).poison = s.poison := rfl
@[simp] theorem mwrite_workers (o : Nat) (l : List Byte) (s : State) : (mwrite o l s).workers = s.workers := rfl
@[simp] theorem mwrite_switches (o : Nat) (l : List Byte) (s : State) : (mwrite o l s).switches = s.switches := rfl
@[simp] theorem mwrite_objs (o : Nat) (l : List Byte) (s : State) : (mwrite o l s).objs = s.objs := rfl
@[simp] theorem mwrite_drops (o : Nat) (l : List Byte) (s : State) : (mwrite o l s).drops = s.drops := rfl
@[simp] theorem mwrite_dropWaits (o : Nat) (l : List Byte) (s : State) : (mwrite o l s).dropWaits = s.dropWaits := rfl
@[simp] theorem mwrite_tags (o : Nat) (l : List Byte) (s : State) : (mwrite o l s).tags = s.tags := rfl
@[simp] theorem mwrite_chans (o : Nat) (l : List Byte) (s : State) : (mwrite o l s).chans = s.chans := rfl
@[simp] theorem mwrite_lane (o : Nat) (l : List Byte) (s : State) : (mwrite o l s).lane = s.lane := rfl
@[simp] theorem mwrite_flight (o : Nat) (l : List Byte) (s : State) : (mwrite o l s).flight = s.flight := rfl
@[simp] theorem mwrite_egress (o : Nat) (l : List Byte) (s : State) : (mwrite o l s).egress = s.egress := rfl
@[simp] theorem mwrite_tx (o : Nat) (l : List Byte) (s : State) : (mwrite o l s).tx = s.tx := rfl
@[simp] theorem mwrite_rx (o : Nat) (l : List Byte) (s : State) : (mwrite o l s).rx = s.rx := rfl
@[simp] theorem mwrite_rxDead (o : Nat) (l : List Byte) (s : State) : (mwrite o l s).rxDead = s.rxDead := rfl
@[simp] theorem mwrite_ctxs (o : Nat) (l : List Byte) (s : State) : (mwrite o l s).ctxs = s.ctxs := rfl
@[simp] theorem mwrite_faultBuf (o : Nat) (l : List Byte) (s : State) : (mwrite o l s).faultBuf = s.faultBuf := rfl
@[simp] theorem mwrite_pcol (o : Nat) (l : List Byte) (s : State) : (mwrite o l s).pcol = s.pcol := rfl
@[simp] theorem mwrite_pcombs (o : Nat) (l : List Byte) (s : State) : (mwrite o l s).pcombs = s.pcombs := rfl
@[simp] theorem mwrite_hosts (o : Nat) (l : List Byte) (s : State) : (mwrite o l s).hosts = s.hosts := rfl
@[simp] theorem mwrite_taken (o : Nat) (l : List Byte) (s : State) : (mwrite o l s).taken = s.taken := rfl
@[simp] theorem mwrite_combFaults (o : Nat) (l : List Byte) (s : State) : (mwrite o l s).combFaults = s.combFaults := rfl
@[simp] theorem mwrite_repins (o : Nat) (l : List Byte) (s : State) : (mwrite o l s).repins = s.repins := rfl
@[simp] theorem mwrite_links (o : Nat) (l : List Byte) (s : State) : (mwrite o l s).links = s.links := rfl
@[simp] theorem mwrite_laneFails (o : Nat) (l : List Byte) (s : State) : (mwrite o l s).laneFails = s.laneFails := rfl
@[simp] theorem mwrite_laneTests (o : Nat) (l : List Byte) (s : State) : (mwrite o l s).laneTests = s.laneTests := rfl
@[simp] theorem mwrite_spares (o : Nat) (l : List Byte) (s : State) : (mwrite o l s).spares = s.spares := rfl
@[simp] theorem mwrite_scrubLog (o : Nat) (l : List Byte) (s : State) : (mwrite o l s).scrubLog = s.scrubLog := rfl
@[simp] theorem mwrite_rowBins (o : Nat) (l : List Byte) (s : State) : (mwrite o l s).rowBins = s.rowBins := rfl
@[simp] theorem mwrite_rowRepairs (o : Nat) (l : List Byte) (s : State) : (mwrite o l s).rowRepairs = s.rowRepairs := rfl
@[simp] theorem mwrite_nextBlk (o : Nat) (l : List Byte) (s : State) : (mwrite o l s).nextBlk = s.nextBlk := rfl
@[simp] theorem mwrite_dmas (o : Nat) (l : List Byte) (s : State) : (mwrite o l s).dmas = s.dmas := rfl
@[simp] theorem mwrite_ports (o : Nat) (l : List Byte) (s : State) : (mwrite o l s).ports = s.ports := rfl
@[simp] theorem mwrite_mirror (o : Nat) (l : List Byte) (s : State) : (mwrite o l s).mirror = s.mirror := rfl
@[simp] theorem mwrite_start (o : Nat) (l : List Byte) (s : State) : (mwrite o l s).start = s.start := rfl
@[simp] theorem mwrite_flash (o : Nat) (l : List Byte) (s : State) : (mwrite o l s).flash = s.flash := rfl
@[simp] theorem mwrite_sec (o : Nat) (l : List Byte) (s : State) : (mwrite o l s).sec = s.sec := rfl
@[simp] theorem mwrite_keeper (o : Nat) (l : List Byte) (s : State) : (mwrite o l s).keeper = s.keeper := rfl
@[simp] theorem mwrite_powerIn (o : Nat) (l : List Byte) (s : State) : (mwrite o l s).powerIn = s.powerIn := rfl
@[simp] theorem mwrite_reply (o : Nat) (l : List Byte) (s : State) : (mwrite o l s).reply = s.reply := rfl
@[simp] theorem rget_mwrite (o : Nat) (l : List Byte) (g : F) (a b : Nat) (s : State) : rget (mwrite o l s) g a b = rget s g a b := rfl
@[simp] theorem ctxGet_mwrite (o : Nat) (l : List Byte) (a : Nat) (s : State) : ctxGet (mwrite o l s) a = ctxGet s a := rfl
@[simp] theorem wGet_mwrite (o : Nat) (l : List Byte) (a : Nat) (s : State) : wGet (mwrite o l s) a = wGet s a := rfl
@[simp] theorem objGet_mwrite (o : Nat) (l : List Byte) (a b : Nat) (s : State) : objGet (mwrite o l s) a b = objGet s a b := rfl
@[simp] theorem swGet_mwrite (o : Nat) (l : List Byte) (a b : Nat) (s : State) : swGet (mwrite o l s) a b = swGet s a b := rfl
@[simp] theorem hostGet_mwrite (o : Nat) (l : List Byte) (a : Nat) (s : State) : hostGet (mwrite o l s) a = hostGet s a := rfl

/-! ### `ctxSet` -/

@[simp] theorem ctxSet_pending (c : Nat) (x : Ctx) (s : State) : (ctxSet c x s).pending = s.pending := rfl
@[simp] theorem ctxSet_free (c : Nat) (x : Ctx) (s : State) : (ctxSet c x s).free = s.free := rfl
@[simp] theorem ctxSet_readData (c : Nat) (x : Ctx) (s : State) : (ctxSet c x s).readData = s.readData := rfl
@[simp] theorem ctxSet_latch (c : Nat) (x : Ctx) (s : State) : (ctxSet c x s).latch = s.latch := rfl
@[simp] theorem ctxSet_flds (c : Nat) (x : Ctx) (s : State) : (ctxSet c x s).flds = s.flds := rfl
@[simp] theorem ctxSet_cycle (c : Nat) (x : Ctx) (s : State) : (ctxSet c x s).cycle = s.cycle := rfl
@[simp] theorem ctxSet_tick (c : Nat) (x : Ctx) (s : State) : (ctxSet c x s).tick = s.tick := rfl
@[simp] theorem ctxSet_mem (c : Nat) (x : Ctx) (s : State) : (ctxSet c x s).mem = s.mem := rfl
@[simp] theorem ctxSet_poison (c : Nat) (x : Ctx) (s : State) : (ctxSet c x s).poison = s.poison := rfl
@[simp] theorem ctxSet_workers (c : Nat) (x : Ctx) (s : State) : (ctxSet c x s).workers = s.workers := rfl
@[simp] theorem ctxSet_switches (c : Nat) (x : Ctx) (s : State) : (ctxSet c x s).switches = s.switches := rfl
@[simp] theorem ctxSet_objs (c : Nat) (x : Ctx) (s : State) : (ctxSet c x s).objs = s.objs := rfl
@[simp] theorem ctxSet_drops (c : Nat) (x : Ctx) (s : State) : (ctxSet c x s).drops = s.drops := rfl
@[simp] theorem ctxSet_dropWaits (c : Nat) (x : Ctx) (s : State) : (ctxSet c x s).dropWaits = s.dropWaits := rfl
@[simp] theorem ctxSet_tags (c : Nat) (x : Ctx) (s : State) : (ctxSet c x s).tags = s.tags := rfl
@[simp] theorem ctxSet_chans (c : Nat) (x : Ctx) (s : State) : (ctxSet c x s).chans = s.chans := rfl
@[simp] theorem ctxSet_lane (c : Nat) (x : Ctx) (s : State) : (ctxSet c x s).lane = s.lane := rfl
@[simp] theorem ctxSet_flight (c : Nat) (x : Ctx) (s : State) : (ctxSet c x s).flight = s.flight := rfl
@[simp] theorem ctxSet_egress (c : Nat) (x : Ctx) (s : State) : (ctxSet c x s).egress = s.egress := rfl
@[simp] theorem ctxSet_tx (c : Nat) (x : Ctx) (s : State) : (ctxSet c x s).tx = s.tx := rfl
@[simp] theorem ctxSet_rx (c : Nat) (x : Ctx) (s : State) : (ctxSet c x s).rx = s.rx := rfl
@[simp] theorem ctxSet_rxDead (c : Nat) (x : Ctx) (s : State) : (ctxSet c x s).rxDead = s.rxDead := rfl
@[simp] theorem ctxSet_faultBuf (c : Nat) (x : Ctx) (s : State) : (ctxSet c x s).faultBuf = s.faultBuf := rfl
@[simp] theorem ctxSet_pcol (c : Nat) (x : Ctx) (s : State) : (ctxSet c x s).pcol = s.pcol := rfl
@[simp] theorem ctxSet_pcombs (c : Nat) (x : Ctx) (s : State) : (ctxSet c x s).pcombs = s.pcombs := rfl
@[simp] theorem ctxSet_hosts (c : Nat) (x : Ctx) (s : State) : (ctxSet c x s).hosts = s.hosts := rfl
@[simp] theorem ctxSet_taken (c : Nat) (x : Ctx) (s : State) : (ctxSet c x s).taken = s.taken := rfl
@[simp] theorem ctxSet_combFaults (c : Nat) (x : Ctx) (s : State) : (ctxSet c x s).combFaults = s.combFaults := rfl
@[simp] theorem ctxSet_repins (c : Nat) (x : Ctx) (s : State) : (ctxSet c x s).repins = s.repins := rfl
@[simp] theorem ctxSet_links (c : Nat) (x : Ctx) (s : State) : (ctxSet c x s).links = s.links := rfl
@[simp] theorem ctxSet_laneFails (c : Nat) (x : Ctx) (s : State) : (ctxSet c x s).laneFails = s.laneFails := rfl
@[simp] theorem ctxSet_laneTests (c : Nat) (x : Ctx) (s : State) : (ctxSet c x s).laneTests = s.laneTests := rfl
@[simp] theorem ctxSet_spares (c : Nat) (x : Ctx) (s : State) : (ctxSet c x s).spares = s.spares := rfl
@[simp] theorem ctxSet_scrubLog (c : Nat) (x : Ctx) (s : State) : (ctxSet c x s).scrubLog = s.scrubLog := rfl
@[simp] theorem ctxSet_rowBins (c : Nat) (x : Ctx) (s : State) : (ctxSet c x s).rowBins = s.rowBins := rfl
@[simp] theorem ctxSet_rowRepairs (c : Nat) (x : Ctx) (s : State) : (ctxSet c x s).rowRepairs = s.rowRepairs := rfl
@[simp] theorem ctxSet_nextBlk (c : Nat) (x : Ctx) (s : State) : (ctxSet c x s).nextBlk = s.nextBlk := rfl
@[simp] theorem ctxSet_dmas (c : Nat) (x : Ctx) (s : State) : (ctxSet c x s).dmas = s.dmas := rfl
@[simp] theorem ctxSet_ports (c : Nat) (x : Ctx) (s : State) : (ctxSet c x s).ports = s.ports := rfl
@[simp] theorem ctxSet_mirror (c : Nat) (x : Ctx) (s : State) : (ctxSet c x s).mirror = s.mirror := rfl
@[simp] theorem ctxSet_start (c : Nat) (x : Ctx) (s : State) : (ctxSet c x s).start = s.start := rfl
@[simp] theorem ctxSet_flash (c : Nat) (x : Ctx) (s : State) : (ctxSet c x s).flash = s.flash := rfl
@[simp] theorem ctxSet_sec (c : Nat) (x : Ctx) (s : State) : (ctxSet c x s).sec = s.sec := rfl
@[simp] theorem ctxSet_keeper (c : Nat) (x : Ctx) (s : State) : (ctxSet c x s).keeper = s.keeper := rfl
@[simp] theorem ctxSet_powerIn (c : Nat) (x : Ctx) (s : State) : (ctxSet c x s).powerIn = s.powerIn := rfl
@[simp] theorem ctxSet_reply (c : Nat) (x : Ctx) (s : State) : (ctxSet c x s).reply = s.reply := rfl
@[simp] theorem rget_ctxSet (c : Nat) (x : Ctx) (g : F) (a b : Nat) (s : State) : rget (ctxSet c x s) g a b = rget s g a b := rfl
@[simp] theorem wGet_ctxSet (c : Nat) (x : Ctx) (a : Nat) (s : State) : wGet (ctxSet c x s) a = wGet s a := rfl
@[simp] theorem objGet_ctxSet (c : Nat) (x : Ctx) (a b : Nat) (s : State) : objGet (ctxSet c x s) a b = objGet s a b := rfl
@[simp] theorem swGet_ctxSet (c : Nat) (x : Ctx) (a b : Nat) (s : State) : swGet (ctxSet c x s) a b = swGet s a b := rfl
@[simp] theorem hostGet_ctxSet (c : Nat) (x : Ctx) (a : Nat) (s : State) : hostGet (ctxSet c x s) a = hostGet s a := rfl
@[simp] theorem mread_ctxSet (c : Nat) (x : Ctx) (p q : Nat) (s : State) : mread (ctxSet c x s) p q = mread s p q := rfl

/-! ### `wSet` -/

@[simp] theorem wSet_pending (k : Nat) (w : Worker) (s : State) : (wSet k w s).pending = s.pending := rfl
@[simp] theorem wSet_free (k : Nat) (w : Worker) (s : State) : (wSet k w s).free = s.free := rfl
@[simp] theorem wSet_readData (k : Nat) (w : Worker) (s : State) : (wSet k w s).readData = s.readData := rfl
@[simp] theorem wSet_latch (k : Nat) (w : Worker) (s : State) : (wSet k w s).latch = s.latch := rfl
@[simp] theorem wSet_flds (k : Nat) (w : Worker) (s : State) : (wSet k w s).flds = s.flds := rfl
@[simp] theorem wSet_cycle (k : Nat) (w : Worker) (s : State) : (wSet k w s).cycle = s.cycle := rfl
@[simp] theorem wSet_tick (k : Nat) (w : Worker) (s : State) : (wSet k w s).tick = s.tick := rfl
@[simp] theorem wSet_mem (k : Nat) (w : Worker) (s : State) : (wSet k w s).mem = s.mem := rfl
@[simp] theorem wSet_poison (k : Nat) (w : Worker) (s : State) : (wSet k w s).poison = s.poison := rfl
@[simp] theorem wSet_switches (k : Nat) (w : Worker) (s : State) : (wSet k w s).switches = s.switches := rfl
@[simp] theorem wSet_objs (k : Nat) (w : Worker) (s : State) : (wSet k w s).objs = s.objs := rfl
@[simp] theorem wSet_drops (k : Nat) (w : Worker) (s : State) : (wSet k w s).drops = s.drops := rfl
@[simp] theorem wSet_dropWaits (k : Nat) (w : Worker) (s : State) : (wSet k w s).dropWaits = s.dropWaits := rfl
@[simp] theorem wSet_tags (k : Nat) (w : Worker) (s : State) : (wSet k w s).tags = s.tags := rfl
@[simp] theorem wSet_chans (k : Nat) (w : Worker) (s : State) : (wSet k w s).chans = s.chans := rfl
@[simp] theorem wSet_lane (k : Nat) (w : Worker) (s : State) : (wSet k w s).lane = s.lane := rfl
@[simp] theorem wSet_flight (k : Nat) (w : Worker) (s : State) : (wSet k w s).flight = s.flight := rfl
@[simp] theorem wSet_egress (k : Nat) (w : Worker) (s : State) : (wSet k w s).egress = s.egress := rfl
@[simp] theorem wSet_tx (k : Nat) (w : Worker) (s : State) : (wSet k w s).tx = s.tx := rfl
@[simp] theorem wSet_rx (k : Nat) (w : Worker) (s : State) : (wSet k w s).rx = s.rx := rfl
@[simp] theorem wSet_rxDead (k : Nat) (w : Worker) (s : State) : (wSet k w s).rxDead = s.rxDead := rfl
@[simp] theorem wSet_ctxs (k : Nat) (w : Worker) (s : State) : (wSet k w s).ctxs = s.ctxs := rfl
@[simp] theorem wSet_faultBuf (k : Nat) (w : Worker) (s : State) : (wSet k w s).faultBuf = s.faultBuf := rfl
@[simp] theorem wSet_pcol (k : Nat) (w : Worker) (s : State) : (wSet k w s).pcol = s.pcol := rfl
@[simp] theorem wSet_pcombs (k : Nat) (w : Worker) (s : State) : (wSet k w s).pcombs = s.pcombs := rfl
@[simp] theorem wSet_hosts (k : Nat) (w : Worker) (s : State) : (wSet k w s).hosts = s.hosts := rfl
@[simp] theorem wSet_taken (k : Nat) (w : Worker) (s : State) : (wSet k w s).taken = s.taken := rfl
@[simp] theorem wSet_combFaults (k : Nat) (w : Worker) (s : State) : (wSet k w s).combFaults = s.combFaults := rfl
@[simp] theorem wSet_repins (k : Nat) (w : Worker) (s : State) : (wSet k w s).repins = s.repins := rfl
@[simp] theorem wSet_links (k : Nat) (w : Worker) (s : State) : (wSet k w s).links = s.links := rfl
@[simp] theorem wSet_laneFails (k : Nat) (w : Worker) (s : State) : (wSet k w s).laneFails = s.laneFails := rfl
@[simp] theorem wSet_laneTests (k : Nat) (w : Worker) (s : State) : (wSet k w s).laneTests = s.laneTests := rfl
@[simp] theorem wSet_spares (k : Nat) (w : Worker) (s : State) : (wSet k w s).spares = s.spares := rfl
@[simp] theorem wSet_scrubLog (k : Nat) (w : Worker) (s : State) : (wSet k w s).scrubLog = s.scrubLog := rfl
@[simp] theorem wSet_rowBins (k : Nat) (w : Worker) (s : State) : (wSet k w s).rowBins = s.rowBins := rfl
@[simp] theorem wSet_rowRepairs (k : Nat) (w : Worker) (s : State) : (wSet k w s).rowRepairs = s.rowRepairs := rfl
@[simp] theorem wSet_nextBlk (k : Nat) (w : Worker) (s : State) : (wSet k w s).nextBlk = s.nextBlk := rfl
@[simp] theorem wSet_dmas (k : Nat) (w : Worker) (s : State) : (wSet k w s).dmas = s.dmas := rfl
@[simp] theorem wSet_ports (k : Nat) (w : Worker) (s : State) : (wSet k w s).ports = s.ports := rfl
@[simp] theorem wSet_mirror (k : Nat) (w : Worker) (s : State) : (wSet k w s).mirror = s.mirror := rfl
@[simp] theorem wSet_start (k : Nat) (w : Worker) (s : State) : (wSet k w s).start = s.start := rfl
@[simp] theorem wSet_flash (k : Nat) (w : Worker) (s : State) : (wSet k w s).flash = s.flash := rfl
@[simp] theorem wSet_sec (k : Nat) (w : Worker) (s : State) : (wSet k w s).sec = s.sec := rfl
@[simp] theorem wSet_keeper (k : Nat) (w : Worker) (s : State) : (wSet k w s).keeper = s.keeper := rfl
@[simp] theorem wSet_powerIn (k : Nat) (w : Worker) (s : State) : (wSet k w s).powerIn = s.powerIn := rfl
@[simp] theorem wSet_reply (k : Nat) (w : Worker) (s : State) : (wSet k w s).reply = s.reply := rfl
@[simp] theorem rget_wSet (k : Nat) (w : Worker) (g : F) (a b : Nat) (s : State) : rget (wSet k w s) g a b = rget s g a b := rfl
@[simp] theorem ctxGet_wSet (k : Nat) (w : Worker) (a : Nat) (s : State) : ctxGet (wSet k w s) a = ctxGet s a := rfl
@[simp] theorem objGet_wSet (k : Nat) (w : Worker) (a b : Nat) (s : State) : objGet (wSet k w s) a b = objGet s a b := rfl
@[simp] theorem swGet_wSet (k : Nat) (w : Worker) (a b : Nat) (s : State) : swGet (wSet k w s) a b = swGet s a b := rfl
@[simp] theorem hostGet_wSet (k : Nat) (w : Worker) (a : Nat) (s : State) : hostGet (wSet k w s) a = hostGet s a := rfl
@[simp] theorem mread_wSet (k : Nat) (w : Worker) (p q : Nat) (s : State) : mread (wSet k w s) p q = mread s p q := rfl

/-! ### `objSet` -/

@[simp] theorem objSet_pending (cb n : Nat) (o : SyncObj) (s : State) : (objSet cb n o s).pending = s.pending := rfl
@[simp] theorem objSet_free (cb n : Nat) (o : SyncObj) (s : State) : (objSet cb n o s).free = s.free := rfl
@[simp] theorem objSet_readData (cb n : Nat) (o : SyncObj) (s : State) : (objSet cb n o s).readData = s.readData := rfl
@[simp] theorem objSet_latch (cb n : Nat) (o : SyncObj) (s : State) : (objSet cb n o s).latch = s.latch := rfl
@[simp] theorem objSet_flds (cb n : Nat) (o : SyncObj) (s : State) : (objSet cb n o s).flds = s.flds := rfl
@[simp] theorem objSet_cycle (cb n : Nat) (o : SyncObj) (s : State) : (objSet cb n o s).cycle = s.cycle := rfl
@[simp] theorem objSet_tick (cb n : Nat) (o : SyncObj) (s : State) : (objSet cb n o s).tick = s.tick := rfl
@[simp] theorem objSet_mem (cb n : Nat) (o : SyncObj) (s : State) : (objSet cb n o s).mem = s.mem := rfl
@[simp] theorem objSet_poison (cb n : Nat) (o : SyncObj) (s : State) : (objSet cb n o s).poison = s.poison := rfl
@[simp] theorem objSet_workers (cb n : Nat) (o : SyncObj) (s : State) : (objSet cb n o s).workers = s.workers := rfl
@[simp] theorem objSet_switches (cb n : Nat) (o : SyncObj) (s : State) : (objSet cb n o s).switches = s.switches := rfl
@[simp] theorem objSet_drops (cb n : Nat) (o : SyncObj) (s : State) : (objSet cb n o s).drops = s.drops := rfl
@[simp] theorem objSet_dropWaits (cb n : Nat) (o : SyncObj) (s : State) : (objSet cb n o s).dropWaits = s.dropWaits := rfl
@[simp] theorem objSet_tags (cb n : Nat) (o : SyncObj) (s : State) : (objSet cb n o s).tags = s.tags := rfl
@[simp] theorem objSet_chans (cb n : Nat) (o : SyncObj) (s : State) : (objSet cb n o s).chans = s.chans := rfl
@[simp] theorem objSet_lane (cb n : Nat) (o : SyncObj) (s : State) : (objSet cb n o s).lane = s.lane := rfl
@[simp] theorem objSet_flight (cb n : Nat) (o : SyncObj) (s : State) : (objSet cb n o s).flight = s.flight := rfl
@[simp] theorem objSet_egress (cb n : Nat) (o : SyncObj) (s : State) : (objSet cb n o s).egress = s.egress := rfl
@[simp] theorem objSet_tx (cb n : Nat) (o : SyncObj) (s : State) : (objSet cb n o s).tx = s.tx := rfl
@[simp] theorem objSet_rx (cb n : Nat) (o : SyncObj) (s : State) : (objSet cb n o s).rx = s.rx := rfl
@[simp] theorem objSet_rxDead (cb n : Nat) (o : SyncObj) (s : State) : (objSet cb n o s).rxDead = s.rxDead := rfl
@[simp] theorem objSet_ctxs (cb n : Nat) (o : SyncObj) (s : State) : (objSet cb n o s).ctxs = s.ctxs := rfl
@[simp] theorem objSet_faultBuf (cb n : Nat) (o : SyncObj) (s : State) : (objSet cb n o s).faultBuf = s.faultBuf := rfl
@[simp] theorem objSet_pcol (cb n : Nat) (o : SyncObj) (s : State) : (objSet cb n o s).pcol = s.pcol := rfl
@[simp] theorem objSet_pcombs (cb n : Nat) (o : SyncObj) (s : State) : (objSet cb n o s).pcombs = s.pcombs := rfl
@[simp] theorem objSet_hosts (cb n : Nat) (o : SyncObj) (s : State) : (objSet cb n o s).hosts = s.hosts := rfl
@[simp] theorem objSet_taken (cb n : Nat) (o : SyncObj) (s : State) : (objSet cb n o s).taken = s.taken := rfl
@[simp] theorem objSet_combFaults (cb n : Nat) (o : SyncObj) (s : State) : (objSet cb n o s).combFaults = s.combFaults := rfl
@[simp] theorem objSet_repins (cb n : Nat) (o : SyncObj) (s : State) : (objSet cb n o s).repins = s.repins := rfl
@[simp] theorem objSet_links (cb n : Nat) (o : SyncObj) (s : State) : (objSet cb n o s).links = s.links := rfl
@[simp] theorem objSet_laneFails (cb n : Nat) (o : SyncObj) (s : State) : (objSet cb n o s).laneFails = s.laneFails := rfl
@[simp] theorem objSet_laneTests (cb n : Nat) (o : SyncObj) (s : State) : (objSet cb n o s).laneTests = s.laneTests := rfl
@[simp] theorem objSet_spares (cb n : Nat) (o : SyncObj) (s : State) : (objSet cb n o s).spares = s.spares := rfl
@[simp] theorem objSet_scrubLog (cb n : Nat) (o : SyncObj) (s : State) : (objSet cb n o s).scrubLog = s.scrubLog := rfl
@[simp] theorem objSet_rowBins (cb n : Nat) (o : SyncObj) (s : State) : (objSet cb n o s).rowBins = s.rowBins := rfl
@[simp] theorem objSet_rowRepairs (cb n : Nat) (o : SyncObj) (s : State) : (objSet cb n o s).rowRepairs = s.rowRepairs := rfl
@[simp] theorem objSet_nextBlk (cb n : Nat) (o : SyncObj) (s : State) : (objSet cb n o s).nextBlk = s.nextBlk := rfl
@[simp] theorem objSet_dmas (cb n : Nat) (o : SyncObj) (s : State) : (objSet cb n o s).dmas = s.dmas := rfl
@[simp] theorem objSet_ports (cb n : Nat) (o : SyncObj) (s : State) : (objSet cb n o s).ports = s.ports := rfl
@[simp] theorem objSet_mirror (cb n : Nat) (o : SyncObj) (s : State) : (objSet cb n o s).mirror = s.mirror := rfl
@[simp] theorem objSet_start (cb n : Nat) (o : SyncObj) (s : State) : (objSet cb n o s).start = s.start := rfl
@[simp] theorem objSet_flash (cb n : Nat) (o : SyncObj) (s : State) : (objSet cb n o s).flash = s.flash := rfl
@[simp] theorem objSet_sec (cb n : Nat) (o : SyncObj) (s : State) : (objSet cb n o s).sec = s.sec := rfl
@[simp] theorem objSet_keeper (cb n : Nat) (o : SyncObj) (s : State) : (objSet cb n o s).keeper = s.keeper := rfl
@[simp] theorem objSet_powerIn (cb n : Nat) (o : SyncObj) (s : State) : (objSet cb n o s).powerIn = s.powerIn := rfl
@[simp] theorem objSet_reply (cb n : Nat) (o : SyncObj) (s : State) : (objSet cb n o s).reply = s.reply := rfl
@[simp] theorem rget_objSet (cb n : Nat) (o : SyncObj) (g : F) (a b : Nat) (s : State) : rget (objSet cb n o s) g a b = rget s g a b := rfl
@[simp] theorem ctxGet_objSet (cb n : Nat) (o : SyncObj) (a : Nat) (s : State) : ctxGet (objSet cb n o s) a = ctxGet s a := rfl
@[simp] theorem wGet_objSet (cb n : Nat) (o : SyncObj) (a : Nat) (s : State) : wGet (objSet cb n o s) a = wGet s a := rfl
@[simp] theorem swGet_objSet (cb n : Nat) (o : SyncObj) (a b : Nat) (s : State) : swGet (objSet cb n o s) a b = swGet s a b := rfl
@[simp] theorem hostGet_objSet (cb n : Nat) (o : SyncObj) (a : Nat) (s : State) : hostGet (objSet cb n o s) a = hostGet s a := rfl
@[simp] theorem mread_objSet (cb n : Nat) (o : SyncObj) (p q : Nat) (s : State) : mread (objSet cb n o s) p q = mread s p q := rfl

/-! ### `swSet` -/

@[simp] theorem swSet_pending (cb n : Nat) (x : Switch) (s : State) : (swSet cb n x s).pending = s.pending := rfl
@[simp] theorem swSet_free (cb n : Nat) (x : Switch) (s : State) : (swSet cb n x s).free = s.free := rfl
@[simp] theorem swSet_readData (cb n : Nat) (x : Switch) (s : State) : (swSet cb n x s).readData = s.readData := rfl
@[simp] theorem swSet_latch (cb n : Nat) (x : Switch) (s : State) : (swSet cb n x s).latch = s.latch := rfl
@[simp] theorem swSet_flds (cb n : Nat) (x : Switch) (s : State) : (swSet cb n x s).flds = s.flds := rfl
@[simp] theorem swSet_cycle (cb n : Nat) (x : Switch) (s : State) : (swSet cb n x s).cycle = s.cycle := rfl
@[simp] theorem swSet_tick (cb n : Nat) (x : Switch) (s : State) : (swSet cb n x s).tick = s.tick := rfl
@[simp] theorem swSet_mem (cb n : Nat) (x : Switch) (s : State) : (swSet cb n x s).mem = s.mem := rfl
@[simp] theorem swSet_poison (cb n : Nat) (x : Switch) (s : State) : (swSet cb n x s).poison = s.poison := rfl
@[simp] theorem swSet_workers (cb n : Nat) (x : Switch) (s : State) : (swSet cb n x s).workers = s.workers := rfl
@[simp] theorem swSet_objs (cb n : Nat) (x : Switch) (s : State) : (swSet cb n x s).objs = s.objs := rfl
@[simp] theorem swSet_drops (cb n : Nat) (x : Switch) (s : State) : (swSet cb n x s).drops = s.drops := rfl
@[simp] theorem swSet_dropWaits (cb n : Nat) (x : Switch) (s : State) : (swSet cb n x s).dropWaits = s.dropWaits := rfl
@[simp] theorem swSet_tags (cb n : Nat) (x : Switch) (s : State) : (swSet cb n x s).tags = s.tags := rfl
@[simp] theorem swSet_chans (cb n : Nat) (x : Switch) (s : State) : (swSet cb n x s).chans = s.chans := rfl
@[simp] theorem swSet_lane (cb n : Nat) (x : Switch) (s : State) : (swSet cb n x s).lane = s.lane := rfl
@[simp] theorem swSet_flight (cb n : Nat) (x : Switch) (s : State) : (swSet cb n x s).flight = s.flight := rfl
@[simp] theorem swSet_egress (cb n : Nat) (x : Switch) (s : State) : (swSet cb n x s).egress = s.egress := rfl
@[simp] theorem swSet_tx (cb n : Nat) (x : Switch) (s : State) : (swSet cb n x s).tx = s.tx := rfl
@[simp] theorem swSet_rx (cb n : Nat) (x : Switch) (s : State) : (swSet cb n x s).rx = s.rx := rfl
@[simp] theorem swSet_rxDead (cb n : Nat) (x : Switch) (s : State) : (swSet cb n x s).rxDead = s.rxDead := rfl
@[simp] theorem swSet_ctxs (cb n : Nat) (x : Switch) (s : State) : (swSet cb n x s).ctxs = s.ctxs := rfl
@[simp] theorem swSet_faultBuf (cb n : Nat) (x : Switch) (s : State) : (swSet cb n x s).faultBuf = s.faultBuf := rfl
@[simp] theorem swSet_pcol (cb n : Nat) (x : Switch) (s : State) : (swSet cb n x s).pcol = s.pcol := rfl
@[simp] theorem swSet_pcombs (cb n : Nat) (x : Switch) (s : State) : (swSet cb n x s).pcombs = s.pcombs := rfl
@[simp] theorem swSet_hosts (cb n : Nat) (x : Switch) (s : State) : (swSet cb n x s).hosts = s.hosts := rfl
@[simp] theorem swSet_taken (cb n : Nat) (x : Switch) (s : State) : (swSet cb n x s).taken = s.taken := rfl
@[simp] theorem swSet_combFaults (cb n : Nat) (x : Switch) (s : State) : (swSet cb n x s).combFaults = s.combFaults := rfl
@[simp] theorem swSet_repins (cb n : Nat) (x : Switch) (s : State) : (swSet cb n x s).repins = s.repins := rfl
@[simp] theorem swSet_links (cb n : Nat) (x : Switch) (s : State) : (swSet cb n x s).links = s.links := rfl
@[simp] theorem swSet_laneFails (cb n : Nat) (x : Switch) (s : State) : (swSet cb n x s).laneFails = s.laneFails := rfl
@[simp] theorem swSet_laneTests (cb n : Nat) (x : Switch) (s : State) : (swSet cb n x s).laneTests = s.laneTests := rfl
@[simp] theorem swSet_spares (cb n : Nat) (x : Switch) (s : State) : (swSet cb n x s).spares = s.spares := rfl
@[simp] theorem swSet_scrubLog (cb n : Nat) (x : Switch) (s : State) : (swSet cb n x s).scrubLog = s.scrubLog := rfl
@[simp] theorem swSet_rowBins (cb n : Nat) (x : Switch) (s : State) : (swSet cb n x s).rowBins = s.rowBins := rfl
@[simp] theorem swSet_rowRepairs (cb n : Nat) (x : Switch) (s : State) : (swSet cb n x s).rowRepairs = s.rowRepairs := rfl
@[simp] theorem swSet_nextBlk (cb n : Nat) (x : Switch) (s : State) : (swSet cb n x s).nextBlk = s.nextBlk := rfl
@[simp] theorem swSet_dmas (cb n : Nat) (x : Switch) (s : State) : (swSet cb n x s).dmas = s.dmas := rfl
@[simp] theorem swSet_ports (cb n : Nat) (x : Switch) (s : State) : (swSet cb n x s).ports = s.ports := rfl
@[simp] theorem swSet_mirror (cb n : Nat) (x : Switch) (s : State) : (swSet cb n x s).mirror = s.mirror := rfl
@[simp] theorem swSet_start (cb n : Nat) (x : Switch) (s : State) : (swSet cb n x s).start = s.start := rfl
@[simp] theorem swSet_flash (cb n : Nat) (x : Switch) (s : State) : (swSet cb n x s).flash = s.flash := rfl
@[simp] theorem swSet_sec (cb n : Nat) (x : Switch) (s : State) : (swSet cb n x s).sec = s.sec := rfl
@[simp] theorem swSet_keeper (cb n : Nat) (x : Switch) (s : State) : (swSet cb n x s).keeper = s.keeper := rfl
@[simp] theorem swSet_powerIn (cb n : Nat) (x : Switch) (s : State) : (swSet cb n x s).powerIn = s.powerIn := rfl
@[simp] theorem swSet_reply (cb n : Nat) (x : Switch) (s : State) : (swSet cb n x s).reply = s.reply := rfl
@[simp] theorem rget_swSet (cb n : Nat) (x : Switch) (g : F) (a b : Nat) (s : State) : rget (swSet cb n x s) g a b = rget s g a b := rfl
@[simp] theorem ctxGet_swSet (cb n : Nat) (x : Switch) (a : Nat) (s : State) : ctxGet (swSet cb n x s) a = ctxGet s a := rfl
@[simp] theorem wGet_swSet (cb n : Nat) (x : Switch) (a : Nat) (s : State) : wGet (swSet cb n x s) a = wGet s a := rfl
@[simp] theorem objGet_swSet (cb n : Nat) (x : Switch) (a b : Nat) (s : State) : objGet (swSet cb n x s) a b = objGet s a b := rfl
@[simp] theorem hostGet_swSet (cb n : Nat) (x : Switch) (a : Nat) (s : State) : hostGet (swSet cb n x s) a = hostGet s a := rfl
@[simp] theorem mread_swSet (cb n : Nat) (x : Switch) (p q : Nat) (s : State) : mread (swSet cb n x s) p q = mread s p q := rfl

/-! ### `hostSet` -/

@[simp] theorem hostSet_pending (f : Nat) (h : HostFn) (s : State) : (hostSet f h s).pending = s.pending := rfl
@[simp] theorem hostSet_free (f : Nat) (h : HostFn) (s : State) : (hostSet f h s).free = s.free := rfl
@[simp] theorem hostSet_readData (f : Nat) (h : HostFn) (s : State) : (hostSet f h s).readData = s.readData := rfl
@[simp] theorem hostSet_latch (f : Nat) (h : HostFn) (s : State) : (hostSet f h s).latch = s.latch := rfl
@[simp] theorem hostSet_flds (f : Nat) (h : HostFn) (s : State) : (hostSet f h s).flds = s.flds := rfl
@[simp] theorem hostSet_cycle (f : Nat) (h : HostFn) (s : State) : (hostSet f h s).cycle = s.cycle := rfl
@[simp] theorem hostSet_tick (f : Nat) (h : HostFn) (s : State) : (hostSet f h s).tick = s.tick := rfl
@[simp] theorem hostSet_mem (f : Nat) (h : HostFn) (s : State) : (hostSet f h s).mem = s.mem := rfl
@[simp] theorem hostSet_poison (f : Nat) (h : HostFn) (s : State) : (hostSet f h s).poison = s.poison := rfl
@[simp] theorem hostSet_workers (f : Nat) (h : HostFn) (s : State) : (hostSet f h s).workers = s.workers := rfl
@[simp] theorem hostSet_switches (f : Nat) (h : HostFn) (s : State) : (hostSet f h s).switches = s.switches := rfl
@[simp] theorem hostSet_objs (f : Nat) (h : HostFn) (s : State) : (hostSet f h s).objs = s.objs := rfl
@[simp] theorem hostSet_drops (f : Nat) (h : HostFn) (s : State) : (hostSet f h s).drops = s.drops := rfl
@[simp] theorem hostSet_dropWaits (f : Nat) (h : HostFn) (s : State) : (hostSet f h s).dropWaits = s.dropWaits := rfl
@[simp] theorem hostSet_tags (f : Nat) (h : HostFn) (s : State) : (hostSet f h s).tags = s.tags := rfl
@[simp] theorem hostSet_chans (f : Nat) (h : HostFn) (s : State) : (hostSet f h s).chans = s.chans := rfl
@[simp] theorem hostSet_lane (f : Nat) (h : HostFn) (s : State) : (hostSet f h s).lane = s.lane := rfl
@[simp] theorem hostSet_flight (f : Nat) (h : HostFn) (s : State) : (hostSet f h s).flight = s.flight := rfl
@[simp] theorem hostSet_egress (f : Nat) (h : HostFn) (s : State) : (hostSet f h s).egress = s.egress := rfl
@[simp] theorem hostSet_tx (f : Nat) (h : HostFn) (s : State) : (hostSet f h s).tx = s.tx := rfl
@[simp] theorem hostSet_rx (f : Nat) (h : HostFn) (s : State) : (hostSet f h s).rx = s.rx := rfl
@[simp] theorem hostSet_rxDead (f : Nat) (h : HostFn) (s : State) : (hostSet f h s).rxDead = s.rxDead := rfl
@[simp] theorem hostSet_ctxs (f : Nat) (h : HostFn) (s : State) : (hostSet f h s).ctxs = s.ctxs := rfl
@[simp] theorem hostSet_faultBuf (f : Nat) (h : HostFn) (s : State) : (hostSet f h s).faultBuf = s.faultBuf := rfl
@[simp] theorem hostSet_pcol (f : Nat) (h : HostFn) (s : State) : (hostSet f h s).pcol = s.pcol := rfl
@[simp] theorem hostSet_pcombs (f : Nat) (h : HostFn) (s : State) : (hostSet f h s).pcombs = s.pcombs := rfl
@[simp] theorem hostSet_taken (f : Nat) (h : HostFn) (s : State) : (hostSet f h s).taken = s.taken := rfl
@[simp] theorem hostSet_combFaults (f : Nat) (h : HostFn) (s : State) : (hostSet f h s).combFaults = s.combFaults := rfl
@[simp] theorem hostSet_repins (f : Nat) (h : HostFn) (s : State) : (hostSet f h s).repins = s.repins := rfl
@[simp] theorem hostSet_links (f : Nat) (h : HostFn) (s : State) : (hostSet f h s).links = s.links := rfl
@[simp] theorem hostSet_laneFails (f : Nat) (h : HostFn) (s : State) : (hostSet f h s).laneFails = s.laneFails := rfl
@[simp] theorem hostSet_laneTests (f : Nat) (h : HostFn) (s : State) : (hostSet f h s).laneTests = s.laneTests := rfl
@[simp] theorem hostSet_spares (f : Nat) (h : HostFn) (s : State) : (hostSet f h s).spares = s.spares := rfl
@[simp] theorem hostSet_scrubLog (f : Nat) (h : HostFn) (s : State) : (hostSet f h s).scrubLog = s.scrubLog := rfl
@[simp] theorem hostSet_rowBins (f : Nat) (h : HostFn) (s : State) : (hostSet f h s).rowBins = s.rowBins := rfl
@[simp] theorem hostSet_rowRepairs (f : Nat) (h : HostFn) (s : State) : (hostSet f h s).rowRepairs = s.rowRepairs := rfl
@[simp] theorem hostSet_nextBlk (f : Nat) (h : HostFn) (s : State) : (hostSet f h s).nextBlk = s.nextBlk := rfl
@[simp] theorem hostSet_dmas (f : Nat) (h : HostFn) (s : State) : (hostSet f h s).dmas = s.dmas := rfl
@[simp] theorem hostSet_ports (f : Nat) (h : HostFn) (s : State) : (hostSet f h s).ports = s.ports := rfl
@[simp] theorem hostSet_mirror (f : Nat) (h : HostFn) (s : State) : (hostSet f h s).mirror = s.mirror := rfl
@[simp] theorem hostSet_start (f : Nat) (h : HostFn) (s : State) : (hostSet f h s).start = s.start := rfl
@[simp] theorem hostSet_flash (f : Nat) (h : HostFn) (s : State) : (hostSet f h s).flash = s.flash := rfl
@[simp] theorem hostSet_sec (f : Nat) (h : HostFn) (s : State) : (hostSet f h s).sec = s.sec := rfl
@[simp] theorem hostSet_keeper (f : Nat) (h : HostFn) (s : State) : (hostSet f h s).keeper = s.keeper := rfl
@[simp] theorem hostSet_powerIn (f : Nat) (h : HostFn) (s : State) : (hostSet f h s).powerIn = s.powerIn := rfl
@[simp] theorem hostSet_reply (f : Nat) (h : HostFn) (s : State) : (hostSet f h s).reply = s.reply := rfl
@[simp] theorem rget_hostSet (f : Nat) (h : HostFn) (g : F) (a b : Nat) (s : State) : rget (hostSet f h s) g a b = rget s g a b := rfl
@[simp] theorem ctxGet_hostSet (f : Nat) (h : HostFn) (a : Nat) (s : State) : ctxGet (hostSet f h s) a = ctxGet s a := rfl
@[simp] theorem wGet_hostSet (f : Nat) (h : HostFn) (a : Nat) (s : State) : wGet (hostSet f h s) a = wGet s a := rfl
@[simp] theorem objGet_hostSet (f : Nat) (h : HostFn) (a b : Nat) (s : State) : objGet (hostSet f h s) a b = objGet s a b := rfl
@[simp] theorem swGet_hostSet (f : Nat) (h : HostFn) (a b : Nat) (s : State) : swGet (hostSet f h s) a b = swGet s a b := rfl
@[simp] theorem mread_hostSet (f : Nat) (h : HostFn) (p q : Nat) (s : State) : mread (hostSet f h s) p q = mread s p q := rfl

/-! ### Sparse tables -/

theorem tget_filter_ne {α : Type} (d : α) (t : List (Nat × α)) (i j : Nat) (h : j ≠ i) :
    tget d (t.filter (fun e => e.1 != i)) j = tget d t j := by
  induction t with
  | nil => rfl
  | cons e r ih =>
    obtain ⟨k, v⟩ := e
    by_cases hk : k = i
    · subst hk
      simp [tget, Ne.symm h, ih]
    · simp [hk, tget, ih]

@[simp] theorem tget_tset_same {α : Type} (d : α) (t : List (Nat × α)) (i : Nat) (v : α) : tget d (tset t i v) i = v := by
  simp [tset, tget]

theorem tget_tset_ne {α : Type} (d : α) (t : List (Nat × α)) (i j : Nat) (v : α) (h : j ≠ i) : tget d (tset t i v) j = tget d t j := by
  simp [tset, tget, Ne.symm h, tget_filter_ne d t i j h]

theorem findFld_filter_ne (t : List (FKey × Nat)) (k q : FKey) (h : q ≠ k) :
    findFld (t.filter (fun e => decide (e.1 ≠ k))) q = findFld t q := by
  induction t with
  | nil => rfl
  | cons e r ih =>
    obtain ⟨x, v⟩ := e
    by_cases hk : x = k
    · subst hk
      simp only [ne_eq, not_true_eq_false, decide_false, Bool.false_eq_true, not_false_eq_true, List.filter_cons_of_neg, findFld,
        Ne.symm h, if_false]
      exact ih
    · simp only [ne_eq, hk, not_false_eq_true, decide_true, List.filter_cons_of_pos, findFld]
      split
      · rfl
      · exact ih

/-! ### Register fields -/

@[simp] theorem rget_rset_same (f : F) (i j v : Nat) (s : State) : rget (rset f i j v s) f i j = v := by
  simp [rget, rset, findFld]

theorem rget_rset_ne (f g : F) (i j a b v : Nat) (s : State) (h : (⟨g, a, b⟩ : FKey) ≠ ⟨f, i, j⟩) :
    rget (rset f i j v s) g a b = rget s g a b := by
  simp only [rget, rset, findFld, Ne.symm h, if_false, findFld_filter_ne _ _ _ h]

/-- A field of another name stays. -/
@[simp] theorem rget_rset_field (f g : F) (i j a b v : Nat) (s : State) (h : g ≠ f) : rget (rset f i j v s) g a b = rget s g a b :=
  rget_rset_ne f g i j a b v s (fun e => h (congrArg FKey.f e))

/-- A field of another unit stays. -/
@[simp] theorem rget_rset_unit (f g : F) (i j a b v : Nat) (s : State) (h : a ≠ i) : rget (rset f i j v s) g a b = rget s g a b :=
  rget_rset_ne f g i j a b v s (fun e => h (congrArg FKey.i e))

/-! ### Reading back -/

@[simp] theorem ctxGet_ctxSet_same (c : Nat) (x : Ctx) (s : State) : ctxGet (ctxSet c x s) c = x := tget_tset_same _ _ _ _

theorem ctxGet_ctxSet_ne (c a : Nat) (x : Ctx) (s : State) (h : a ≠ c) : ctxGet (ctxSet c x s) a = ctxGet s a := tget_tset_ne _ _ _ _ _ h

@[simp] theorem wGet_wSet_same (k : Nat) (w : Worker) (s : State) : wGet (wSet k w s) k = w := tget_tset_same _ _ _ _

theorem wGet_wSet_ne (k a : Nat) (w : Worker) (s : State) (h : a ≠ k) : wGet (wSet k w s) a = wGet s a := tget_tset_ne _ _ _ _ _ h

@[simp] theorem swGet_swSet_same (cb n : Nat) (x : Switch) (s : State) : swGet (swSet cb n x s) cb n = x := tget_tset_same _ _ _ _

@[simp] theorem objGet_objSet_same (cb n : Nat) (o : SyncObj) (s : State) : objGet (objSet cb n o s) cb n = o := tget_tset_same _ _ _ _

@[simp] theorem hostGet_hostSet_same (f : Nat) (h : HostFn) (s : State) : hostGet (hostSet f h s) f = h := tget_tset_same _ _ _ _

theorem hostGet_hostSet_ne (f a : Nat) (h : HostFn) (s : State) (n : a ≠ f) : hostGet (hostSet f h s) a = hostGet s a :=
  tget_tset_ne _ _ _ _ _ n

@[simp] theorem Worker.thr_setThr_same (w : Worker) (t : Nat) (th : Thread) : (w.setThr t th).thr t = th := tget_tset_same _ _ _ _

theorem Worker.thr_setThr_ne (w : Worker) (t a : Nat) (th : Thread) (h : a ≠ t) : (w.setThr t th).thr a = w.thr a :=
  tget_tset_ne _ _ _ _ _ h

end Sys2Proof.Machine
end

