-- ==== Sys2Proof/Laws/Fire.lean ====
section
/-! SUPPORT. What a firing slot does: it is picked, so it is ready; its groups issue; and a slot with one group alone does that group's work
and takes its next-slot control. -/

namespace Sys2Proof.Machine

theorem readyOf_of_pick {s : State} {wk t : Nat} {w : Worker} (h : pick s wk w = some t) : readyOf s wk w t ≠ .no := by
  unfold pick at h
  have := List.find?_some h
  simp at this
  exact this.2

theorem issues_runs {f : Fire} {s : State} (h : issues f s = true) :
    workerRuns s (fireWk f) (wGet s (fireWk f)) = true ∧ pick s (fireWk f) (wGet s (fireWk f)) = some f.thread.val ∧
    predOk (slotNow f s) (thNow f s) = true := by
  simpa [issues, and_assoc] using h

/-- Without a steering operation and without an MMA, a slot that is picked fires. -/
theorem ready_fire {s : State} {wk t : Nat} {w : Worker} (h : readyOf s wk w t ≠ .no) (h1 : (slotOf (w.thr t).slot).steer = 0)
    (h2 : (slotOf (w.thr t).slot).mop ≠ 1) : readyOf s wk w t = .fire := by
  revert h
  unfold readyOf
  simp only [steerReady, h1, h2, false_and, if_false]
  intro h
  split at h
  · exact absurd rfl h
  · rename_i h0
    rw [if_neg h0]
    split
    · rfl
    · split
      · rfl
      · rename_i h3 h4
        rw [if_neg h3, if_neg h4] at h
        exact absurd rfl h

theorem doFire_runs {s : State} {f : Fire} (h : readyOf s (fireWk f) (wGet s (fireWk f)) f.thread.val = .fire)
    (hp : predOk (slotNow f s) (thNow f s) = true) :
    doFire (fireWk f) f.thread.val f s =
      (let r := fireGroups (fireWk f) f.thread.val f (slotNow f s) (wGet s (fireWk f)) (thNow f s)
        (breakpoint (fireWk f) f.thread.val (thNow f s).ptr (countFire (fireWk f) f.thread.val s))
       match r.1 with
       | none => r.2
       | some none => goesOn f s r.2
       | some (some b) => goesOn f s (thPut f (fun th => setPred th 3 b) r.2)) := by
  unfold doFire
  simp only [h]
  have hp' : predOk (slotOf ((wGet s (fireWk f)).thr f.thread.val).slot) ((wGet s (fireWk f)).thr f.thread.val) = true := hp
  simp only [hp', Bool.not_true, Bool.false_eq_true, if_false]
  simp only [slotNow, thNow, goesOn, thPut]
  split <;> (try split) <;> simp_all

theorem fireOp_issues {s : State} {f : Fire} {sel : Slot → Bool} (h : issues f s = true) (hs : sel (slotNow f s) = true) :
    fireOp f sel s = doFire (fireWk f) f.thread.val f s := by
  obtain ⟨h1, h2, h3⟩ := issues_runs h
  have h3' : predOk (slotOf ((wGet s (fireWk f)).thr f.thread.val).slot) ((wGet s (fireWk f)).thr f.thread.val) = true := h3
  have hs' : sel (slotOf ((wGet s (fireWk f)).thr f.thread.val).slot) = true := hs
  simp [fireOp, h1, h2, h3', hs']

theorem steerGroup_idle {wk t p : Nat} {sl : Slot} {s : State} (h1 : sl.steer = 0) (h2 : sl.token = 0) : steerGroup wk t p sl s = s := by
  simp [steerGroup, h1, h2]

theorem syncGroup_idle {wk t : Nat} {sl : Slot} {e : Option QEntry} {th : Thread} {s : State} (h : syncOp sl = 0) :
    syncGroup wk t sl e th s = (some none, s) := by simp [syncGroup, h]


@[simp] theorem counted_mem (f : Fire) (s : State) : (counted f s).mem = s.mem := by
  unfold counted breakpoint
  split <;> rfl

@[simp] theorem issued_mem (f : Fire) (s : State) : (issued f s).mem = s.mem := counted_mem f s

@[simp] theorem counted_free (f : Fire) (s : State) : (counted f s).free = s.free := by
  unfold counted breakpoint
  split <;> rfl

@[simp] theorem issued_free (f : Fire) (s : State) : (issued f s).free = s.free := counted_free f s

@[simp] theorem lsRead_counted (f : Fire) (s : State) (wk a k : Nat) : lsRead (counted f s) wk a k = lsRead s wk a k := by
  simp [lsRead, mread]

@[simp] theorem lsRead_issued (f : Fire) (s : State) (wk a k : Nat) : lsRead (issued f s) wk a k = lsRead s wk a k := by
  simp [lsRead, mread]

@[simp] theorem vecSrc_counted (f : Fire) (s : State) (wk : Nat) (w : Worker) (sl : Slot) (th : Thread) (a b c : Nat) :
    vecSrc (counted f s) wk w sl th a b c = vecSrc s wk w sl th a b c := by
  simp [vecSrc]

theorem issued_eq (f : Fire) (s : State) : issued f s = wMod (fireWk f) (consume (slotNow f s)) (counted f s) := rfl

theorem consume_tiles_wbuf (sl : Slot) (w : Worker) : (consume sl w).tiles = w.tiles ∧ (consume sl w).wbuf = w.wbuf := by
  have h : ∀ (l : List Nat) (x : Worker), ((l.foldl (fun w i => if needs sl i && !keeps sl i then w.popIn i else w) x).tiles = x.tiles) ∧
      ((l.foldl (fun w i => if needs sl i && !keeps sl i then w.popIn i else w) x).wbuf = x.wbuf) := by
    intro l
    induction l with
    | nil => intro x; exact ⟨rfl, rfl⟩
    | cons a r ih =>
      intro x
      simp only [List.foldl_cons]
      rw [(ih _).1, (ih _).2]
      split <;> exact ⟨rfl, rfl⟩
  unfold consume
  dsimp only
  split <;> split <;> exact h _ _

theorem counted_worker (f : Fire) (s : State) : (wGet (counted f s) (fireWk f)).tiles = (wGet s (fireWk f)).tiles ∧
    (wGet (counted f s) (fireWk f)).wbuf = (wGet s (fireWk f)).wbuf := by
  unfold counted breakpoint countFire
  split <;> simp [wMod, Worker.setThr]

theorem issued_tiles (f : Fire) (s : State) : (wGet (issued f s) (fireWk f)).tiles = (wGet s (fireWk f)).tiles := by
  rw [issued_eq, wMod, wGet_wSet_same, (consume_tiles_wbuf _ _).1, (counted_worker f s).1]

theorem issued_wbuf (f : Fire) (s : State) : (wGet (issued f s) (fireWk f)).wbuf = (wGet s (fireWk f)).wbuf := by
  rw [issued_eq, wMod, wGet_wSet_same, (consume_tiles_wbuf _ _).2, (counted_worker f s).2]

/-- A picked slot whose steering unit and tile raise no objection runs its groups. -/
theorem fires_groups {s : State} {f : Fire} {sel : Slot → Bool} (h : issues f s = true) (hs : sel (slotNow f s) = true)
    (hr : readyOf s (fireWk f) (wGet s (fireWk f)) f.thread.val = .fire) :
    fireOp f sel s =
      (let r := fireGroups (fireWk f) f.thread.val f (slotNow f s) (wGet s (fireWk f)) (thNow f s) (counted f s)
       match r.1 with
       | none => r.2
       | some none => goesOn f s r.2
       | some (some b) => goesOn f s (thPut f (fun th => setPred th 3 b) r.2)) := by
  rw [fireOp_issues h hs, doFire_runs hr (issues_runs h).2.2]
  rfl

theorem issues_fire {s : State} {f : Fire} (h : issues f s = true) (h1 : (slotNow f s).steer = 0) (h2 : (slotNow f s).mop ≠ 1) :
    readyOf s (fireWk f) (wGet s (fireWk f)) f.thread.val = .fire := ready_fire (readyOf_of_pick (issues_runs h).2.1) h1 h2

/-- A slot with a scalar operation alone. -/
theorem fires_scalar {s : State} {f : Fire} {sel : Slot → Bool} (h : issues f s = true) (ho : onlyScalar (slotNow f s) = true)
    (hs : sel (slotNow f s) = true) :
    fireOp f sel s = goesOn f s (scalarGroup (fireWk f) f.thread.val (slotNow f s) (wGet s (fireWk f)) (thNow f s) (issued f s)) := by
  simp only [onlyScalar, Bool.and_eq_true, beq_iff_eq, Bool.not_eq_true'] at ho
  obtain ⟨⟨⟨⟨⟨⟨m, v⟩, me⟩, st⟩, tk⟩, sy⟩, mq⟩ := ho
  rw [fires_groups h hs (issues_fire h st (by omega))]
  have hsy : syncOp (slotNow f s) = 0 := by simp [syncOp, sy]
  simp [fireGroups, matrixGroup, m, vectorGroup, v, memoryGroup, me, steerGroup_idle st tk, mq, syncGroup_idle hsy, issued_eq]

/-- A slot with a vector operation alone. -/
theorem fires_vector {s : State} {f : Fire} {sel : Slot → Bool} (h : issues f s = true) (ho : onlyVector (slotNow f s) = true)
    (hs : sel (slotNow f s) = true) :
    fireOp f sel s = goesOn f s (vectorGroup (counted f s) (fireWk f) f.thread.val (thNow f s).ptr f.drainRow.val (slotNow f s)
      (wGet s (fireWk f)) (thNow f s) (issued f s)) := by
  simp only [onlyVector, Bool.and_eq_true, beq_iff_eq, Bool.not_eq_true'] at ho
  obtain ⟨⟨⟨⟨⟨⟨m, v⟩, me⟩, st⟩, tk⟩, sy⟩, mq⟩ := ho
  rw [fires_groups h hs (issues_fire h st (by omega))]
  have hsy : syncOp (slotNow f s) = 0 := by simp [syncOp, sy]
  simp [fireGroups, matrixGroup, m, scalarGroup, v, memoryGroup, me, steerGroup_idle st tk, mq, syncGroup_idle hsy, issued_eq]

/-- A slot with a matrix operation alone, when its tile is of a type that it accepts. -/
theorem fires_matrix {s : State} {f : Fire} {sel : Slot → Bool} (h : issues f s = true) (ho : onlyMatrix (slotNow f s) = true)
    (hs : sel (slotNow f s) = true) (hr : readyOf s (fireWk f) (wGet s (fireWk f)) f.thread.val = .fire) :
    fireOp f sel s = goesOn f s (matrixGroup (fireWk f) f.thread.val (thNow f s).ptr (slotNow f s)
      (wGet s (fireWk f)) (thNow f s) (issued f s)) := by
  simp only [onlyMatrix, Bool.and_eq_true, beq_iff_eq, Bool.not_eq_true'] at ho
  obtain ⟨⟨⟨⟨⟨⟨m, v⟩, me⟩, st⟩, tk⟩, sy⟩, mq⟩ := ho
  rw [fires_groups h hs hr]
  have hsy : syncOp (slotNow f s) = 0 := by simp [syncOp, sy]
  simp [fireGroups, vectorGroup, m, scalarGroup, v, memoryGroup, me, steerGroup_idle st tk, mq, syncGroup_idle hsy, issued_eq]

/-- A slot with a memory operation alone. -/
theorem fires_memory {s : State} {f : Fire} {sel : Slot → Bool} (h : issues f s = true) (ho : onlyMemory (slotNow f s) = true)
    (hs : sel (slotNow f s) = true) :
    fireOp f sel s = goesOn f s (memoryGroup (counted f s) (fireWk f) f.thread.val (thNow f s).ptr f (slotNow f s)
      ((wGet s (fireWk f)).tap.headD 0) (thNow f s) (issued f s)) := by
  simp only [onlyMemory, Bool.and_eq_true, beq_iff_eq, Bool.not_eq_true'] at ho
  obtain ⟨⟨⟨⟨⟨⟨m, v⟩, me⟩, st⟩, tk⟩, sy⟩, mq⟩ := ho
  rw [fires_groups h hs (issues_fire h st (by omega))]
  have hsy : syncOp (slotNow f s) = 0 := by simp [syncOp, sy]
  simp [fireGroups, matrixGroup, m, vectorGroup, v, scalarGroup, me, steerGroup_idle st tk, mq, syncGroup_idle hsy, issued_eq]

/-- A slot with a steering operation and its own token alone. -/
theorem fires_steer {s : State} {f : Fire} {sel : Slot → Bool} (h : issues f s = true) (ho : onlySteer (slotNow f s) = true)
    (hs : sel (slotNow f s) = true) (hr : readyOf s (fireWk f) (wGet s (fireWk f)) f.thread.val = .fire) :
    fireOp f sel s = goesOn f s (steerGroup (fireWk f) f.thread.val (thNow f s).ptr (slotNow f s) (issued f s)) := by
  simp only [onlySteer, Bool.and_eq_true, beq_iff_eq, Bool.not_eq_true'] at ho
  obtain ⟨⟨⟨⟨⟨m, v⟩, me⟩, st⟩, sy⟩, mq⟩ := ho
  rw [fires_groups h hs hr]
  have hsy : syncOp (slotNow f s) = 0 := by simp [syncOp, sy]
  simp [fireGroups, matrixGroup, m, vectorGroup, v, memoryGroup, me, scalarGroup, st, mq, syncGroup_idle hsy, issued_eq]

/-- A slot with a sync or message operation alone. -/
theorem fires_sync {s : State} {f : Fire} {sel : Slot → Bool} (h : issues f s = true) (ho : onlySync (slotNow f s) = true)
    (hs : sel (slotNow f s) = true) :
    fireOp f sel s =
     (let e := if needsMQ (slotNow f s) then ((wGet s (fireWk f)).queues.getD (slotNow f s).qsel []).head? else none
      let s1 := e.elim (issued f s) (fun e => creditBack (fireWk f) e (issued f s))
      let r := syncGroup (fireWk f) f.thread.val (slotNow f s) e (thNow f s) s1
      match r.1 with
      | none => r.2
      | some none => goesOn f s r.2
      | some (some b) => goesOn f s (thPut f (fun th => setPred th 3 b) r.2)) := by
  simp only [onlySync, Bool.and_eq_true, beq_iff_eq] at ho
  obtain ⟨⟨⟨⟨⟨⟨m, v⟩, me⟩, st⟩, tk⟩, sy⟩, mq⟩ := ho
  rw [fires_groups h hs (issues_fire h tk (by omega))]
  simp only [fireGroups, matrixGroup, m, vectorGroup, v, memoryGroup, st, scalarGroup, me, steerGroup_idle tk sy, issued_eq, if_true]
  generalize (if needsMQ (slotNow f s) = true then ((wGet s (fireWk f)).queues.getD (slotNow f s).qsel []).head? else none) = e
  cases e <;> rfl

end Sys2Proof.Machine
end

