-- ==== Sys2Proof/Laws/Memory.lean ====
section
/-! SUPPORT. Laws of memory: every write keeps the canonical form, and what a byte reads as after a write. -/

namespace Sys2Proof.Machine

/-- A list that starts later is canonical from any earlier key. -/
theorem wfFrom_mono {m : List Host.Cell} {lo lo' : Nat} (hlo : lo ≤ lo') (h : wfFrom lo' m = true) : wfFrom lo m = true := by
  cases m with
  | nil => rfl
  | cons e r =>
    simp only [wfFrom, Bool.and_eq_true, decide_eq_true_eq] at h ⊢
    exact ⟨⟨by omega, h.1.2⟩, h.2⟩

theorem wfFrom_mput {m : List Host.Cell} : ∀ {lo a : Nat} {v : Byte}, lo ≤ a → wfFrom lo m = true → wfFrom lo (mput m a v) = true := by
  induction m with
  | nil => intro lo a v ha _; unfold mput; split <;> simp_all [wfFrom]
  | cons e r ih =>
    intro lo a v ha h
    simp only [wfFrom, Bool.and_eq_true, decide_eq_true_eq] at h
    unfold mput
    split
    · split
      · simp only [wfFrom, Bool.and_eq_true, decide_eq_true_eq]; exact h
      · simp only [wfFrom, Bool.and_eq_true, decide_eq_true_eq]
        exact ⟨⟨ha, by assumption⟩, ⟨by omega, h.1.2⟩, h.2⟩
    · split
      · split
        · exact wfFrom_mono (by omega) h.2
        · subst_vars
          simp only [wfFrom, Bool.and_eq_true, decide_eq_true_eq]
          exact ⟨⟨h.1.1, by assumption⟩, h.2⟩
      · simp only [wfFrom, Bool.and_eq_true, decide_eq_true_eq]
        exact ⟨h.1, ih (by omega) h.2⟩

/-- Writing one byte keeps the canonical form. -/
theorem wf_mput {m : List Host.Cell} {a : Nat} {v : Byte} (h : Memory.wf m = true) : Memory.wf (mput m a v) = true :=
  wfFrom_mput (Nat.zero_le a) h

theorem wf_mputs {b : List Byte} : ∀ {m : List Host.Cell} {a : Nat}, Memory.wf m = true → Memory.wf (mputs m a b) = true := by
  induction b with
  | nil => intro m a h; exact h
  | cons x r ih => intro m a h; exact ih (wf_mput h)

theorem wfFrom_filter {p : Host.Cell → Bool} {m : List Host.Cell} : ∀ {lo : Nat}, wfFrom lo m = true → wfFrom lo (m.filter p) = true := by
  induction m with
  | nil => intro lo h; exact h
  | cons e r ih =>
    intro lo h
    simp only [wfFrom, Bool.and_eq_true, decide_eq_true_eq] at h
    rw [List.filter_cons]
    split
    · simp only [wfFrom, Bool.and_eq_true, decide_eq_true_eq]; exact ⟨h.1, ih h.2⟩
    · exact wfFrom_mono (by omega) (ih h.2)

/-- Dropping cells keeps the canonical form. -/
theorem wf_filter {p : Host.Cell → Bool} {m : List Host.Cell} (h : Memory.wf m = true) : Memory.wf (m.filter p) = true := wfFrom_filter h

theorem mget_below {m : List Host.Cell} : ∀ {lo a : Nat}, wfFrom lo m = true → a < lo → mget m a = 0 := by
  induction m with
  | nil => intro lo a _ _; rfl
  | cons e r ih =>
    intro lo a h ha
    simp only [wfFrom, Bool.and_eq_true, decide_eq_true_eq] at h
    unfold mget
    split
    · omega
    · exact ih h.2 (by omega)

theorem mget_mput_from {m : List Host.Cell} : ∀ {lo a b : Nat} {v : Byte}, wfFrom lo m = true →
    mget (mput m a v) b = if b = a then v else mget m b := by
  induction m with
  | nil =>
    intro lo a b v _
    unfold mput
    split
    · subst_vars; simp [mget]
    · simp only [mget, eq_comm]
  | cons e r ih =>
    intro lo a b v h
    simp only [wfFrom, Bool.and_eq_true, decide_eq_true_eq] at h
    unfold mput
    split
    · rename_i hlt
      have hz : mget ((e.1, e.2) :: r) a = 0 := mget_below (lo := a + 1)
        (by simp only [wfFrom, Bool.and_eq_true, decide_eq_true_eq]; exact ⟨⟨by omega, h.1.2⟩, h.2⟩) (by omega)
      split
      · subst_vars
        by_cases hb : b = a
        · subst hb; simpa using hz
        · simp [hb]
      · rw [mget]
        by_cases hb : b = a
        · subst hb; simp
        · simp [hb, Ne.symm hb]
    · split
      · rename_i ha
        subst ha
        split
        · subst_vars
          by_cases hb : b = e.1
          · subst hb; simpa using mget_below h.2 (by omega)
          · simp [hb, mget, Ne.symm hb]
        · by_cases hb : b = e.1
          · subst hb; simp [mget]
          · simp [hb, mget, Ne.symm hb]
      · rename_i hne
        rw [mget, ih h.2, mget]
        by_cases hk : e.1 = b
        · subst hk; simp [Ne.symm hne]
        · simp [hk]

/-- A read after a byte is written gives the byte at its key, and what stood there before everywhere else. -/
theorem mget_mput {m : List Host.Cell} {a b : Nat} {v : Byte} (h : Memory.wf m = true) :
    mget (mput m a v) b = if b = a then v else mget m b := mget_mput_from h

/-- Reading below a run of written bytes, or above it, gives what stood there before. -/
theorem mget_mputs_out {l : List Byte} : ∀ {m : List Host.Cell} {a b : Nat}, Memory.wf m = true → (b < a ∨ a + l.length ≤ b) →
    mget (mputs m a l) b = mget m b := by
  induction l with
  | nil => intro m a b _ _; rfl
  | cons x r ih =>
    intro m a b h hb
    simp only [List.length_cons] at hb
    rw [mputs, ih (wf_mput h) (by omega), mget_mput h, if_neg (by omega)]

/-- Reading a run of written bytes gives them. -/
theorem mget_mputs_in {l : List Byte} : ∀ {m : List Host.Cell} {a i : Nat}, Memory.wf m = true → i < l.length →
    mget (mputs m a l) (a + i) = l.getD i 0 := by
  induction l with
  | nil => intro m a i _ h; simp at h
  | cons x r ih =>
    intro m a i h hi
    rw [mputs]
    cases i with
    | zero => rw [mget_mputs_out (wf_mput h) (by omega), mget_mput h]; simp
    | succ j =>
      have := ih (a := a + 1) (i := j) (wf_mput h (a := a) (v := x)) (by simpa using hi)
      rw [show a + (j + 1) = a + 1 + j by omega, this]
      simp

end Sys2Proof.Machine
end

