-- ==== Sys2Proof/Laws/Keeps.lean ====
section
/-! SUPPORT. What every operation keeps: the queue of waiting commands as it is, the counter of free values from going back, and memory in its
canonical form. -/

namespace Sys2Proof.Machine

/-- `t` comes from `s` by operations that leave the queue alone, never take a free value twice, and keep memory canonical. -/
def Keeps (s t : State) : Prop := t.pending = s.pending ∧ s.free ≤ t.free ∧ (Memory.wf s.mem = true → Memory.wf t.mem = true)

/-- The same for an outcome: nothing is asked of a stop. -/
def KeepsO (s : State) : Host.Outcome State Fault Refusal → Prop
  | .next t => Keeps s t
  | _ => True

/-- The same for an operation that may give no state. -/
def KeepsOpt (s : State) (o : Option State) : Prop := ∀ t, o = some t → Keeps s t

theorem Keeps.refl (s : State) : Keeps s s := ⟨rfl, Nat.le_refl _, id⟩

theorem Keeps.tail {s x y : State} (h : Keeps x y) (g : Keeps s x) : Keeps s y :=
  ⟨h.1.trans g.1, Nat.le_trans g.2.1 h.2.1, fun w => h.2.2 (g.2.2 w)⟩

theorem Keeps.same {s x y : State} (g : Keeps s x) (hp : y.pending = x.pending) (hf : y.free = x.free) (hm : y.mem = x.mem) : Keeps s y :=
  Keeps.tail ⟨hp, Nat.le_of_eq hf.symm, fun w => hm ▸ w⟩ g

/-- A free value is drawn. -/
theorem Keeps.draw {s x y : State} (g : Keeps s x) (hp : y.pending = x.pending) (hf : y.free = x.free + 1) (hm : y.mem = x.mem) : Keeps s y :=
  Keeps.tail ⟨hp, by omega, fun w => hm ▸ w⟩ g

/-- Cells of memory are dropped. -/
theorem Keeps.wipe {s x y : State} {p : Host.Cell → Bool} (g : Keeps s x) (hp : y.pending = x.pending) (hf : y.free = x.free)
    (hm : y.mem = x.mem.filter p) : Keeps s y := Keeps.tail ⟨hp, Nat.le_of_eq hf.symm, fun w => by rw [hm]; exact wf_filter w⟩ g

/-- Bytes of memory are written. -/
theorem Keeps.put {s x y : State} (g : Keeps s x) (hp : y.pending = x.pending) (hf : y.free = x.free)
    (hm : Memory.wf x.mem = true → Memory.wf y.mem = true) : Keeps s y := Keeps.tail ⟨hp, Nat.le_of_eq hf.symm, hm⟩ g

/-- A record update of anything else. -/
theorem Keeps.upd {s x : State} {b2 b3 b4 b5 b6 b8 b9 b10 b11 b12 b13 b14 b15 b16 b17 b18 b19 b20 b21 b22 b23 b24 b25 b26 b27 b28 b29 b30
    b31 b32 b33 b34 b35 b36 b37 b38 b39 b40 b41 b42 b43 b44 b45 b46} (g : Keeps s x) :
    Keeps s (State.mk x.pending x.free b2 b3 b4 b5 b6 x.mem b8 b9 b10 b11 b12 b13 b14 b15 b16 b17 b18 b19 b20 b21 b22 b23 b24 b25 b26 b27 b28
    b29 b30 b31 b32 b33 b34 b35 b36 b37 b38 b39 b40 b41 b42 b43 b44 b45 b46) :=
  Keeps.same g rfl rfl rfl

/-- A record update that draws a free value. -/
theorem Keeps.updDraw {s x : State} {b2 b3 b4 b5 b6 b8 b9 b10 b11 b12 b13 b14 b15 b16 b17 b18 b19 b20 b21 b22 b23 b24 b25 b26 b27 b28 b29
    b30 b31 b32 b33 b34 b35 b36 b37 b38 b39 b40 b41 b42 b43 b44 b45 b46} (g : Keeps s x) :
    Keeps s (State.mk x.pending (x.free + 1) b2 b3 b4 b5 b6 x.mem b8 b9 b10 b11 b12 b13 b14 b15 b16 b17 b18 b19 b20 b21 b22 b23 b24 b25 b26 b27
    b28 b29 b30 b31 b32 b33 b34 b35 b36 b37 b38 b39 b40 b41 b42 b43 b44 b45 b46) :=
  Keeps.draw g rfl rfl rfl

/-- A record update that drops cells of memory. -/
theorem Keeps.updWipe {s x : State} {b2 b3 b4 b5 b6 b8 b9 b10 b11 b12 b13 b14 b15 b16 b17 b18 b19 b20 b21 b22 b23 b24 b25 b26 b27 b28 b29
    b30 b31 b32 b33 b34 b35 b36 b37 b38 b39 b40 b41 b42 b43 b44 b45 b46} {p : Host.Cell → Bool} (g : Keeps s x) :
    Keeps s (State.mk x.pending x.free b2 b3 b4 b5 b6 (x.mem.filter p) b8 b9 b10 b11 b12 b13 b14 b15 b16 b17 b18 b19 b20 b21 b22 b23 b24 b25 b26
    b27 b28 b29 b30 b31 b32 b33 b34 b35 b36 b37 b38 b39 b40 b41 b42 b43 b44 b45 b46) :=
  Keeps.wipe g rfl rfl rfl

theorem Keeps.ite {s a b : State} {c : Prop} [Decidable c] (ha : Keeps s a) (hb : Keeps s b) : Keeps s (if c then a else b) := by
  split <;> assumption

theorem Keeps.ite2 {α : Type} {s : State} {a b : α × State} {c : Prop} [Decidable c] (ha : Keeps s a.2) (hb : Keeps s b.2) :
    Keeps s (if c then a else b).2 := by split <;> assumption

theorem Keeps.iteO {s : State} {a b : Host.Outcome State Fault Refusal} {c : Prop} [Decidable c] (ha : KeepsO s a) (hb : KeepsO s b) :
    KeepsO s (if c then a else b) := by split <;> assumption

theorem Keeps.fold {α : Type} {g : State → α → State} (hg : ∀ x a, Keeps x (g x a)) : ∀ {l : List α} {s x : State}, Keeps s x →
    Keeps s (l.foldl g x) := by
  intro l
  induction l with
  | nil => intro s x h; exact h
  | cons a r ih => intro s x h; exact ih (Keeps.tail (hg x a) h)

theorem KeepsOpt.none' {s : State} : KeepsOpt s none := by
  intro t h
  cases h

theorem KeepsOpt.some' {s t : State} (h : Keeps s t) : KeepsOpt s (some t) := by
  intro u hu
  cases hu
  exact h

theorem KeepsOpt.ite {s : State} {a b : Option State} {c : Prop} [Decidable c] (ha : KeepsOpt s a) (hb : KeepsOpt s b) :
    KeepsOpt s (if c then a else b) := by split <;> assumption

theorem keeps_getD {s a b : State} {o : Option State} (h : KeepsOpt a o) (ha : Keeps s a) (hb : Keeps s b) : Keeps s (o.getD b) := by
  cases o with
  | none => exact hb
  | some t => exact Keeps.tail (h t rfl) ha

theorem keeps_readTo {s : State} {r : Option Nat × State} {k : Nat} (h : Keeps s r.2) : Keeps s (readTo r k) :=
  Keeps.same h rfl rfl rfl

/-- A fold of single writes keeps memory canonical. -/
theorem wf_fold {α : Type} {g : List Host.Cell → α → List Host.Cell} (hg : ∀ m a, Memory.wf m = true → Memory.wf (g m a) = true) :
    ∀ {l : List α} {m : List Host.Cell}, Memory.wf m = true → Memory.wf (l.foldl g m) = true := by
  intro l
  induction l with
  | nil => intro m h; exact h
  | cons a r ih => intro m h; exact ih (hg m a h)

end Sys2Proof.Machine
end

