-- ==== Sys2Proof/Laws/KeepsA.lean ====
section
/-! SUPPORT. What each operation keeps, part 1 of 4: one lemma for each operation, in the order in which they build on each other. -/

namespace Sys2Proof.Machine

theorem keeps_hostSet : ∀ x1 x2 x3, Keeps x3 (hostSet x1 x2 x3) := by
  intro x1 x2 x3
  unfold hostSet
  exact (Keeps.upd (Keeps.refl _))

theorem keeps_msix : ∀ x1 x2 x3, Keeps x3 (msix x1 x2 x3) := by
  intro x1 x2 x3
  unfold msix
  exact (Keeps.ite (Keeps.tail (keeps_hostSet _ _ _) (Keeps.refl _)) (Keeps.tail (keeps_hostSet _ _ _) (Keeps.refl _)))

theorem keeps_rset : ∀ x1 x2 x3 x4 x5, Keeps x5 (rset x1 x2 x3 x4 x5) := by
  intro x1 x2 x3 x4 x5
  unfold rset
  exact (Keeps.upd (Keeps.refl _))

theorem keeps_mwrite : ∀ x1 x2 x3, Keeps x3 (mwrite x1 x2 x3) := by
  intro x1 x2 x3
  exact Keeps.put (Keeps.refl x3) rfl rfl wf_mputs

theorem keeps_bump : ∀ x1 x2 x3 x4 x5 x6, Keeps x6 (bump x1 x2 x3 x4 x5 x6) := by
  intro x1 x2 x3 x4 x5 x6
  unfold bump
  exact (Keeps.ite (Keeps.tail (keeps_rset _ _ _ _ _) (Keeps.refl _)) (Keeps.tail (keeps_rset _ _ _ _ _) (Keeps.tail (keeps_rset _ _ _ _ _)
      (Keeps.refl _))))

theorem keeps_deliverRec : ∀ x1 x2 x3, Keeps x3 (deliverRec x1 x2 x3) := by
  intro x1 x2 x3
  unfold deliverRec
  exact (Keeps.ite (Keeps.tail (keeps_msix _ _ _) (Keeps.tail (keeps_rset _ _ _ _ _) (Keeps.tail (keeps_mwrite _ _ _) (Keeps.refl _)))) (Keeps.tail
      (keeps_bump _ _ _ _ _ _) (Keeps.refl _)))

theorem keeps_logRec : ∀ x1 x2, Keeps x2 (logRec x1 x2) := by
  intro x1 x2
  unfold logRec
  exact (Keeps.tail (keeps_rset _ _ _ _ _) (Keeps.tail (keeps_rset _ _ _ _ _) (Keeps.ite (Keeps.tail (keeps_rset _ _ _ _ _) (Keeps.upd
      (Keeps.refl _))) (Keeps.upd (Keeps.refl _)))))

theorem keeps_acceptRec : ∀ x1 x2, Keeps x2 (acceptRec x1 x2) := by
  intro x1 x2
  unfold acceptRec
  exact (Keeps.tail (keeps_deliverRec _ _ _) (Keeps.tail (keeps_logRec _ _) (Keeps.upd (Keeps.refl _))))

theorem keeps_acceptUnit : ∀ x1 x2, Keeps x2 (acceptUnit x1 x2) := by
  intro x1 x2
  unfold acceptUnit
  exact (Keeps.fold (fun _ _ => (Keeps.tail (keeps_acceptRec _ _) (Keeps.refl _))) (Keeps.upd (Keeps.refl _)))

theorem keeps_acceptAll : ∀ x1, Keeps x1 (acceptAll x1) := by
  intro x1
  unfold acceptAll
  exact (Keeps.fold (fun _ _ => (Keeps.tail (keeps_acceptUnit _ _) (Keeps.refl _))) (Keeps.refl _))

theorem keeps_portEvt : ∀ x1 x2 x3, Keeps x3 (portEvt x1 x2 x3) := by
  intro x1 x2 x3
  unfold portEvt
  exact (Keeps.tail (keeps_bump _ _ _ _ _ _) (Keeps.refl _))

theorem keeps_portSet : ∀ x1 x2 x3, Keeps x3 (portSet x1 x2 x3) := by
  intro x1 x2 x3
  unfold portSet
  exact (Keeps.upd (Keeps.refl _))

theorem keeps_portMod : ∀ x1 x2 x3, Keeps x3 (portMod x1 x2 x3) := by
  intro x1 x2 x3
  unfold portMod
  exact (Keeps.tail (keeps_portSet _ _ _) (Keeps.refl _))

theorem keeps_pump : ∀ x1 x2, Keeps x2 (pump x1 x2) := by
  intro x1 x2
  unfold pump
  exact (Keeps.ite (Keeps.tail (keeps_portMod _ _ _) (Keeps.fold (fun _ _ => (Keeps.tail (keeps_portEvt _ _ _) (Keeps.refl _))) (Keeps.refl _)))
      (Keeps.refl _))

theorem keeps_ackRetry : ∀ x1 x2 x3, Keeps x3 (ackRetry x1 x2 x3) := by
  intro x1 x2 x3
  unfold ackRetry
  exact (Keeps.tail (keeps_pump _ _) (Keeps.tail (keeps_portMod _ _ _) (Keeps.refl _)))

theorem keeps_raise : ∀ x1 x2 x3, Keeps x3 (raise x1 x2 x3) := by
  intro x1 x2 x3
  unfold raise
  exact (Keeps.ite (Keeps.tail (keeps_bump _ _ _ _ _ _) (Keeps.refl _)) (Keeps.upd (Keeps.refl _)))

theorem keeps_wrkFault : ∀ x1 x2 x3 x4 x5 x6, Keeps x6 (wrkFault x1 x2 x3 x4 x5 x6) := by
  intro x1 x2 x3 x4 x5 x6
  unfold wrkFault
  exact (Keeps.tail (keeps_rset _ _ _ _ _) (Keeps.tail (keeps_rset _ _ _ _ _) (Keeps.tail (keeps_rset _ _ _ _ _) (Keeps.tail (keeps_rset _ _ _ _ _)
      (Keeps.tail (keeps_rset _ _ _ _ _) (Keeps.refl _))))))

theorem keeps_addrFault : ∀ x1 x2 x3 x4 x5, Keeps x5 (addrFault x1 x2 x3 x4 x5) := by
  intro x1 x2 x3 x4 x5
  unfold addrFault
  exact (Keeps.tail (keeps_raise _ _ _) (Keeps.tail (keeps_wrkFault _ _ _ _ _ _) (Keeps.refl _)))

theorem keeps_wSet : ∀ x1 x2 x3, Keeps x3 (wSet x1 x2 x3) := by
  intro x1 x2 x3
  unfold wSet
  exact (Keeps.upd (Keeps.refl _))

theorem keeps_ctxSet : ∀ x1 x2 x3, Keeps x3 (ctxSet x1 x2 x3) := by
  intro x1 x2 x3
  unfold ctxSet
  exact (Keeps.upd (Keeps.refl _))

theorem keeps_ctxMod : ∀ x1 x2 x3, Keeps x3 (ctxMod x1 x2 x3) := by
  intro x1 x2 x3
  unfold ctxMod
  exact (Keeps.tail (keeps_ctxSet _ _ _) (Keeps.refl _))

theorem keeps_failStep : ∀ x1 x2 x3 x4, Keeps x4 (failStep x1 x2 x3 x4) := by
  intro x1 x2 x3 x4
  unfold failStep
  exact (Keeps.tail (keeps_ctxMod _ _ _) (Keeps.refl _))

theorem keeps_failComb : ∀ x1 x2 x3 x4, Keeps x4 (failComb x1 x2 x3 x4) := by
  intro x1 x2 x3 x4
  unfold failComb
  exact (by (try dsimp only); first | (split; exacts [(Keeps.tail (keeps_failStep _ _ _ _) (Keeps.refl _)), (Keeps.refl _)]))

theorem keeps_slotCheck : ∀ x1 x2 x3 x4, Keeps x4 (slotCheck x1 x2 x3 x4) := by
  intro x1 x2 x3 x4
  unfold slotCheck
  exact (by (try dsimp only); first | (split; exacts [(Keeps.refl _), (Keeps.tail (keeps_bump _ _ _ _ _ _) (Keeps.tail (keeps_wSet _ _ _)
      (Keeps.refl _))), (Keeps.tail (keeps_raise _ _ _) (Keeps.tail (keeps_failComb _ _ _ _) (Keeps.tail (keeps_wSet _ _ _) (Keeps.tail
      (keeps_wrkFault _ _ _ _ _ _) (Keeps.tail (keeps_rset _ _ _ _ _) (Keeps.refl _))))))]))

theorem keeps_wMod : ∀ x1 x2 x3, Keeps x3 (wMod x1 x2 x3) := by
  intro x1 x2 x3
  unfold wMod
  exact (Keeps.tail (keeps_wSet _ _ _) (Keeps.refl _))

theorem keeps_advance : ∀ x1 x2 x3 x4 x5, Keeps x5 (advance x1 x2 x3 x4 x5) := by
  intro x1 x2 x3 x4 x5
  unfold advance
  exact (Keeps.tail (keeps_slotCheck _ _ _ _) (Keeps.tail (keeps_wMod _ _ _) (Keeps.refl _)))

theorem keeps_portRaise : ∀ x1 x2 x3 x4 x5 x6, Keeps x6 (portRaise x1 x2 x3 x4 x5 x6) := by
  intro x1 x2 x3 x4 x5 x6
  unfold portRaise
  exact (Keeps.tail (keeps_raise _ _ _) (Keeps.refl _))

theorem keeps_degrade : ∀ x1 x2, Keeps x2 (degrade x1 x2) := by
  intro x1 x2
  unfold degrade
  exact (Keeps.ite (Keeps.refl _) (Keeps.tail (keeps_msix _ _ _) (Keeps.ite (Keeps.tail (keeps_rset _ _ _ _ _) (Keeps.tail (keeps_rset _ _ _ _ _)
      (Keeps.tail (keeps_rset _ _ _ _ _) (Keeps.refl _)))) (Keeps.tail (keeps_rset _ _ _ _ _) (Keeps.tail (keeps_rset _ _ _ _ _) (Keeps.refl _))))))

theorem keeps_portHealth : ∀ x1, Keeps x1 (portHealth x1) := by
  intro x1
  unfold portHealth
  exact (Keeps.ite (Keeps.tail (keeps_degrade _ _) (Keeps.refl _)) (Keeps.refl _))

theorem keeps_setAdmit : ∀ x1 x2, Keeps x2 (setAdmit x1 x2) := by
  intro x1 x2
  unfold setAdmit
  exact (Keeps.ite (Keeps.refl _) (Keeps.tail (keeps_portRaise _ _ _ _ _ _) (Keeps.tail (keeps_rset _ _ _ _ _) (Keeps.refl _))))

theorem keeps_repair : ∀ x1, Keeps x1 (repair x1) := by
  intro x1
  unfold repair
  exact (Keeps.ite (Keeps.ite (Keeps.tail (keeps_setAdmit _ _) (Keeps.tail (keeps_rset _ _ _ _ _) (Keeps.refl _))) (Keeps.tail
      (keeps_rset _ _ _ _ _) (Keeps.refl _))) (Keeps.ite (Keeps.tail (keeps_setAdmit _ _) (Keeps.tail (keeps_rset _ _ _ _ _) (Keeps.refl _)))
      (Keeps.ite (Keeps.tail (keeps_rset _ _ _ _ _) (Keeps.refl _)) (Keeps.tail (keeps_setAdmit _ _) (Keeps.tail (keeps_rset _ _ _ _ _)
      (Keeps.refl _))))))

theorem keeps_portDown : ∀ x1 x2 x3, Keeps x3 (portDown x1 x2 x3) := by
  intro x1 x2 x3
  unfold portDown
  exact (Keeps.ite (Keeps.refl _) (Keeps.tail (keeps_portHealth _) (Keeps.tail (keeps_repair _) (Keeps.tail (keeps_portRaise _ _ _ _ _ _)
      (Keeps.tail (keeps_portMod _ _ _) (Keeps.tail (keeps_rset _ _ _ _ _) (Keeps.tail (keeps_rset _ _ _ _ _) (Keeps.tail (keeps_rset _ _ _ _ _)
      (Keeps.refl _)))))))))

theorem keeps_afterRemoval : ∀ x1 x2 x3, Keeps x3 (afterRemoval x1 x2 x3) := by
  intro x1 x2 x3
  unfold afterRemoval
  exact (Keeps.ite (Keeps.tail (keeps_portDown _ _ _) (Keeps.tail (keeps_portRaise _ _ _ _ _ _) (Keeps.refl _))) (Keeps.tail (keeps_portHealth _)
      (Keeps.ite (Keeps.tail (keeps_rset _ _ _ _ _) (Keeps.tail (keeps_portRaise _ _ _ _ _ _) (Keeps.refl _))) (Keeps.tail
      (keeps_portRaise _ _ _ _ _ _) (Keeps.refl _)))))

theorem keeps_andThen {s a b : State} {o : Host.Outcome State Fault Refusal} (h : KeepsO a o) (ha : Keeps s a) (hb : Keeps s b) :
    Keeps s (andThen o b) := by
  unfold andThen
  split
  · exact Keeps.tail h ha
  · exact hb

theorem keeps_dmSet : ∀ x1 x2 x3, Keeps x3 (dmSet x1 x2 x3) := by
  intro x1 x2 x3
  unfold dmSet
  exact (Keeps.upd (Keeps.refl _))

theorem keeps_dmMod : ∀ x1 x2 x3, Keeps x3 (dmMod x1 x2 x3) := by
  intro x1 x2 x3
  unfold dmMod
  exact (Keeps.tail (keeps_dmSet _ _ _) (Keeps.refl _))

theorem keeps_dmaDiscard : ∀ x1 x2 x3, Keeps x3 (dmaDiscard x1 x2 x3) := by
  intro x1 x2 x3
  unfold dmaDiscard
  exact (Keeps.tail (keeps_dmMod _ _ _) (Keeps.upd (Keeps.refl _)))

theorem keeps_cqWrite : ∀ x1 x2 x3, Keeps x3 (cqWrite x1 x2 x3) := by
  intro x1 x2 x3
  unfold cqWrite
  exact (Keeps.tail (keeps_msix _ _ _) (Keeps.ite (Keeps.tail (keeps_rset _ _ _ _ _) (Keeps.ite (Keeps.tail (keeps_hostSet _ _ _) (Keeps.tail
      (keeps_rset _ _ _ _ _) (Keeps.tail (keeps_mwrite _ _ _) (Keeps.refl _)))) (Keeps.tail (keeps_rset _ _ _ _ _) (Keeps.tail (keeps_mwrite _ _ _)
      (Keeps.refl _))))) (Keeps.ite (Keeps.tail (keeps_hostSet _ _ _) (Keeps.tail (keeps_rset _ _ _ _ _) (Keeps.tail (keeps_mwrite _ _ _)
      (Keeps.refl _)))) (Keeps.tail (keeps_rset _ _ _ _ _) (Keeps.tail (keeps_mwrite _ _ _) (Keeps.refl _))))))

theorem keeps_post : ∀ x1 x2 x3, Keeps x3 (post x1 x2 x3) := by
  intro x1 x2 x3
  unfold post
  exact (Keeps.ite (Keeps.tail (keeps_cqWrite _ _ _) (Keeps.refl _)) (Keeps.tail (keeps_hostSet _ _ _) (Keeps.refl _)))

theorem keeps_dmaPreset : ∀ x1 x2 x3 x4, Keeps x4 (dmaPreset x1 x2 x3 x4) := by
  intro x1 x2 x3 x4
  unfold dmaPreset
  exact (Keeps.tail (keeps_dmMod _ _ _) (Keeps.tail (keeps_rset _ _ _ _ _) (Keeps.tail (keeps_rset _ _ _ _ _) (Keeps.refl _))))

theorem keeps_dmaIdle : ∀ x1 x2, Keeps x2 (dmaIdle x1 x2) := by
  intro x1 x2
  unfold dmaIdle
  exact (Keeps.ite (Keeps.tail (keeps_dmaPreset _ _ _ _) (Keeps.tail (keeps_dmMod _ _ _) (Keeps.tail (keeps_rset _ _ _ _ _) (Keeps.tail
      (keeps_rset _ _ _ _ _) (Keeps.tail (keeps_rset _ _ _ _ _) (Keeps.refl _)))))) (Keeps.tail (keeps_dmMod _ _ _) (Keeps.tail
      (keeps_rset _ _ _ _ _) (Keeps.tail (keeps_rset _ _ _ _ _) (Keeps.tail (keeps_rset _ _ _ _ _) (Keeps.refl _))))))

theorem keeps_dmaStopNow : ∀ x1 x2, Keeps x2 (dmaStopNow x1 x2) := by
  intro x1 x2
  unfold dmaStopNow
  exact (Keeps.tail (keeps_dmaIdle _ _) (Keeps.tail (keeps_dmMod _ _ _) (Keeps.ite (Keeps.tail (keeps_post _ _ _) (Keeps.tail
      (keeps_dmaDiscard _ _ _) (Keeps.refl _))) (Keeps.tail (keeps_dmaDiscard _ _ _) (Keeps.refl _)))))

theorem keeps_mwipe : ∀ x1 x2, Keeps x2 (mwipe x1 x2) := by
  intro x1 x2
  unfold mwipe
  exact (Keeps.updWipe (Keeps.refl _))

theorem keeps_loseSegments : ∀ x1 x2, Keeps x2 (loseSegments x1 x2) := by
  intro x1 x2
  unfold loseSegments
  exact (Keeps.wipe (Keeps.refl _) rfl rfl rfl)

theorem keeps_askReset : ∀ x1 x2 x3, Keeps x3 (askReset x1 x2 x3) := by
  intro x1 x2 x3
  unfold askReset
  exact (Keeps.ite (Keeps.refl _) (Keeps.tail (keeps_ctxMod _ _ _) (Keeps.refl _)))

theorem keeps_resetCtxs : ∀ x1 x2, Keeps x2 (resetCtxs x1 x2) := by
  intro x1 x2
  unfold resetCtxs
  exact (Keeps.fold (fun _ _ => (Keeps.tail (keeps_askReset _ _ _) (Keeps.refl _))) (Keeps.refl _))

theorem keeps_segmentFault : ∀ x1 x2, Keeps x2 (segmentFault x1 x2) := by
  intro x1 x2
  unfold segmentFault
  exact (Keeps.ite (Keeps.refl _) (Keeps.tail (keeps_resetCtxs _ _) (Keeps.tail (keeps_raise _ _ _) (Keeps.tail (keeps_degrade _ _) (Keeps.fold
      (fun _ _ => (Keeps.tail (keeps_rset _ _ _ _ _) (Keeps.refl _))) (Keeps.tail (keeps_rset _ _ _ _ _) (Keeps.tail (keeps_rset _ _ _ _ _)
      (Keeps.tail (keeps_rset _ _ _ _ _) (Keeps.tail (keeps_loseSegments _ _) (Keeps.fold (fun _ _ => (Keeps.ite (Keeps.tail (keeps_dmaStopNow _ _)
      (Keeps.refl _)) (Keeps.refl _))) (by (try dsimp only); first | (split; exacts [(Keeps.tail (keeps_portDown _ _ _) (Keeps.refl _)),
      (Keeps.refl _)]))))))))))))

theorem keeps_excludeChan : ∀ x1 x2, Keeps x2 (excludeChan x1 x2) := by
  intro x1 x2
  unfold excludeChan
  exact (Keeps.ite (Keeps.refl _) (Keeps.tail (keeps_degrade _ _) (Keeps.tail (keeps_rset _ _ _ _ _) (Keeps.tail (keeps_rset _ _ _ _ _)
      (Keeps.refl _)))))

theorem keeps_endSteps : ∀ x1 x2, Keeps x2 (endSteps x1 x2) := by
  intro x1 x2
  unfold endSteps
  exact (Keeps.fold (fun _ _ => (Keeps.tail (keeps_ctxMod _ _ _) (Keeps.refl _))) (Keeps.refl _))

theorem keeps_combState : ∀ x1 x2, Keeps x2 (combState x1 x2) := by
  intro x1 x2
  unfold combState
  exact (Keeps.ite (Keeps.refl _) (Keeps.ite (Keeps.tail (keeps_degrade _ _) (Keeps.tail (keeps_rset _ _ _ _ _) (Keeps.tail (keeps_rset _ _ _ _ _)
      (Keeps.refl _)))) (Keeps.tail (keeps_rset _ _ _ _ _) (Keeps.tail (keeps_rset _ _ _ _ _) (Keeps.refl _)))))

theorem keeps_dropMoves : ∀ x1 x2, Keeps x2 (dropMoves x1 x2) := by
  intro x1 x2
  unfold dropMoves
  exact (Keeps.fold (fun _ _ => (Keeps.tail (keeps_combState _ _) (Keeps.tail (keeps_rset _ _ _ _ _) (Keeps.refl _)))) (Keeps.upd (Keeps.refl _)))

theorem keeps_loseCombs : ∀ x1 x2, Keeps x2 (loseCombs x1 x2) := by
  intro x1 x2
  unfold loseCombs
  exact (Keeps.wipe (Keeps.refl _) rfl rfl rfl)

theorem keeps_combArrayOff : ∀ x1 x2 x3, Keeps x3 (combArrayOff x1 x2 x3) := by
  intro x1 x2 x3
  unfold combArrayOff
  exact (Keeps.tail (keeps_rset _ _ _ _ _) (Keeps.tail (keeps_rset _ _ _ _ _) (Keeps.tail (keeps_rset _ _ _ _ _) (Keeps.tail (keeps_loseCombs _ _)
      (Keeps.upd (Keeps.tail (keeps_endSteps _ _) (Keeps.tail (keeps_dropMoves _ _) (Keeps.refl _))))))))

theorem keeps_healthSet : ∀ x1 x2 x3, Keeps x3 (healthSet x1 x2 x3) := by
  intro x1 x2 x3
  unfold healthSet
  exact (Keeps.ite (Keeps.refl _) (Keeps.tail (keeps_msix _ _ _) (Keeps.tail (keeps_rset _ _ _ _ _) (Keeps.refl _))))

theorem keeps_clearRegionOut : ∀ x1, Keeps x1 (clearRegionOut x1) := by
  intro x1
  unfold clearRegionOut
  exact (Keeps.tail (keeps_healthSet _ _ _) (Keeps.tail (keeps_healthSet _ _ _) (Keeps.refl _)))

theorem keeps_refreshRegions : ∀ x1, Keeps x1 (refreshRegions x1) := by
  intro x1
  unfold refreshRegions
  exact (Keeps.ite (Keeps.tail (keeps_clearRegionOut _) (Keeps.fold (fun _ _ => (by (try dsimp only); first | (split; exacts [(Keeps.tail
      (keeps_rset _ _ _ _ _) (Keeps.refl _)), (Keeps.refl _)]))) (Keeps.tail (keeps_rset _ _ _ _ _) (Keeps.tail (keeps_healthSet _ _ _)
      (Keeps.refl _))))) (Keeps.tail (keeps_degrade _ _) (Keeps.fold (fun _ _ => (by (try dsimp only); first | (split; exacts [(Keeps.tail
      (keeps_rset _ _ _ _ _) (Keeps.refl _)), (Keeps.refl _)]))) (Keeps.tail (keeps_rset _ _ _ _ _) (Keeps.tail (keeps_healthSet _ _ _)
      (Keeps.refl _))))))

theorem keeps_leaveRegion : ∀ x1 x2, Keeps x2 (leaveRegion x1 x2) := by
  intro x1 x2
  unfold leaveRegion
  exact (Keeps.tail (keeps_refreshRegions _) (Keeps.tail (keeps_resetCtxs _ _) (Keeps.refl _)))

theorem keeps_spineFault : ∀ x1 x2, Keeps x2 (spineFault x1 x2) := by
  intro x1 x2
  unfold spineFault
  exact (Keeps.ite (Keeps.refl _) (Keeps.tail (keeps_leaveRegion _ _) (Keeps.tail (keeps_resetCtxs _ _) (Keeps.tail (keeps_raise _ _ _) (Keeps.tail
      (keeps_degrade _ _) (Keeps.tail (keeps_combArrayOff _ _ _) (Keeps.tail (keeps_endSteps _ _) (Keeps.tail (keeps_rset _ _ _ _ _) (Keeps.tail
      (keeps_rset _ _ _ _ _) (Keeps.upd (Keeps.refl _)))))))))))

theorem keeps_withdraw : ∀ x1 x2, Keeps x2 (withdraw x1 x2) := by
  intro x1 x2
  unfold withdraw
  exact (Keeps.ite (Keeps.refl _) (Keeps.tail (keeps_leaveRegion _ _) (Keeps.fold (fun _ _ => (Keeps.tail (keeps_rset _ _ _ _ _) (Keeps.tail
      (keeps_rset _ _ _ _ _) (Keeps.refl _)))) (Keeps.tail (keeps_rset _ _ _ _ _) (Keeps.refl _)))))

theorem keeps_applyAlt : ∀ x1 x2 x3, Keeps x3 (applyAlt x1 x2 x3) := by
  intro x1 x2 x3
  unfold applyAlt
  exact (by (try dsimp only); first | (split; exacts [(Keeps.tail (keeps_segmentFault _ _) (Keeps.refl _)), (Keeps.tail (keeps_excludeChan _ _)
      (Keeps.refl _)), (Keeps.ite (Keeps.tail (keeps_spineFault _ _) (Keeps.tail (keeps_rset _ _ _ _ _) (Keeps.refl _))) (Keeps.tail
      (keeps_withdraw _ _) (Keeps.refl _))), (Keeps.refl _)]))

theorem keeps_pcSet : ∀ x1 x2 x3, Keeps x3 (pcSet x1 x2 x3) := by
  intro x1 x2 x3
  unfold pcSet
  exact (Keeps.upd (Keeps.refl _))

theorem keeps_pcMod : ∀ x1 x2 x3, Keeps x3 (pcMod x1 x2 x3) := by
  intro x1 x2 x3
  unfold pcMod
  exact (Keeps.tail (keeps_pcSet _ _ _) (Keeps.refl _))

theorem keeps_applyBad : ∀ x1 x2 x3, Keeps x3 (applyBad x1 x2 x3) := by
  intro x1 x2 x3
  unfold applyBad
  exact (Keeps.tail (keeps_pcMod _ _ _) (Keeps.refl _))

theorem keeps_countService : ∀ x1, Keeps x1 (countService x1) := by
  intro x1
  unfold countService
  exact (Keeps.fold (fun _ _ => (Keeps.tail (keeps_rset _ _ _ _ _) (Keeps.refl _))) (Keeps.refl _))

theorem keeps_applyEave : ∀ x1 x2, Keeps x2 (applyEave x1 x2) := by
  intro x1 x2
  unfold applyEave
  exact (Keeps.tail (keeps_countService _) (Keeps.fold (fun _ _ => (Keeps.ite (Keeps.tail (keeps_excludeChan _ _) (Keeps.refl _)) (Keeps.tail
      (keeps_rset _ _ _ _ _) (Keeps.refl _)))) (Keeps.fold (fun _ _ => (Keeps.tail (keeps_excludeChan _ _) (Keeps.refl _))) (Keeps.refl _))))

theorem keeps_applyUnits : ∀ x1 x2, Keeps x2 (applyUnits x1 x2) := by
  intro x1 x2
  unfold applyUnits
  exact (Keeps.fold (fun _ _ => (Keeps.tail (keeps_applyBad _ _ _) (Keeps.refl _))) (Keeps.refl _))

theorem keeps_applyKnown : ∀ x1, Keeps x1 (applyKnown x1) := by
  intro x1
  unfold applyKnown
  exact (Keeps.fold (fun _ _ => (Keeps.tail (keeps_withdraw _ _) (Keeps.refl _))) (Keeps.fold (fun _ _ => (Keeps.tail (keeps_segmentFault _ _)
      (Keeps.refl _))) (Keeps.upd (Keeps.tail (keeps_applyUnits _ _) (Keeps.refl _)))))

theorem keeps_writeRmap : ∀ x1 x2, Keeps x2 (writeRmap x1 x2) := by
  intro x1 x2
  unfold writeRmap
  exact (Keeps.tail (keeps_rset _ _ _ _ _) (Keeps.tail (keeps_rset _ _ _ _ _) (Keeps.tail (keeps_rset _ _ _ _ _) (Keeps.tail (keeps_rset _ _ _ _ _)
      (Keeps.refl _)))))

theorem keeps_mapSeq : ∀ x1 x2, Keeps x2 (mapSeq x1 x2) := by
  intro x1 x2
  unfold mapSeq
  exact (Keeps.tail (keeps_rset _ _ _ _ _) (Keeps.refl _))

theorem keeps_moveComb : ∀ x1 x2 x3, Keeps x3 (moveComb x1 x2 x3) := by
  intro x1 x2 x3
  unfold moveComb
  exact (Keeps.ite (Keeps.refl _) (Keeps.tail (keeps_combState _ _) (Keeps.tail (keeps_mapSeq _ _) (Keeps.ite (Keeps.tail (keeps_rset _ _ _ _ _)
      (Keeps.ite (Keeps.tail (keeps_rset _ _ _ _ _) (Keeps.tail (keeps_loseCombs _ _) (Keeps.upd (Keeps.refl _)))) (Keeps.tail
      (keeps_rset _ _ _ _ _) (Keeps.upd (Keeps.refl _))))) (Keeps.ite (Keeps.tail (keeps_rset _ _ _ _ _) (Keeps.tail (keeps_loseCombs _ _)
      (Keeps.upd (Keeps.refl _)))) (Keeps.tail (keeps_rset _ _ _ _ _) (Keeps.upd (Keeps.refl _))))))))

theorem keeps_remap : ∀ x1 x2 x3, Keeps x3 (remap x1 x2 x3) := by
  intro x1 x2 x3
  unfold remap
  exact (Keeps.ite (Keeps.tail (keeps_withdraw _ _) (Keeps.tail (keeps_dropMoves _ _) (Keeps.tail (keeps_writeRmap _ _) (Keeps.refl _))))
      (Keeps.tail (keeps_degrade _ _) (Keeps.fold (fun _ _ => (Keeps.tail (keeps_moveComb _ _ _) (Keeps.refl _))) (Keeps.tail (keeps_writeRmap _ _)
      (Keeps.refl _)))))

theorem keeps_swSet : ∀ x1 x2 x3 x4, Keeps x4 (swSet x1 x2 x3 x4) := by
  intro x1 x2 x3 x4
  unfold swSet
  exact (Keeps.upd (Keeps.refl _))

theorem keeps_dropSet : ∀ x1 x2 x3, Keeps x3 (dropSet x1 x2 x3) := by
  intro x1 x2 x3
  unfold dropSet
  exact (Keeps.upd (Keeps.refl _))

theorem keeps_chSet : ∀ x1 x2 x3, Keeps x3 (chSet x1 x2 x3) := by
  intro x1 x2 x3
  unfold chSet
  exact (Keeps.upd (Keeps.refl _))

theorem keeps_shadowWrite : ∀ x1 x2 x3 x4, Keeps x4 (shadowWrite x1 x2 x3 x4) := by
  intro x1 x2 x3 x4
  unfold shadowWrite
  exact (Keeps.ite (Keeps.tail (keeps_wMod _ _ _) (Keeps.refl _)) (by (try dsimp only); first | (split; exacts [(Keeps.tail (keeps_swSet _ _ _ _)
      (Keeps.refl _)), (Keeps.tail (keeps_swSet _ _ _ _) (Keeps.refl _)), (Keeps.tail (keeps_swSet _ _ _ _) (Keeps.refl _)), (Keeps.tail
      (keeps_dropSet _ _ _) (Keeps.refl _)), (Keeps.tail (keeps_chSet _ _ _) (Keeps.refl _)), (Keeps.refl _)])))

theorem keeps_reloadUnit : ∀ x1 x2 x3 x4 x5, Keeps x5 (reloadUnit x1 x2 x3 x4 x5) := by
  intro x1 x2 x3 x4 x5
  unfold reloadUnit
  exact (by (try dsimp only); first | (split; exacts [(Keeps.tail (keeps_shadowWrite _ _ _ _) (Keeps.refl _)), (Keeps.refl _)]))

theorem keeps_reloadComb : ∀ x1 x2 x3, Keeps x3 (reloadComb x1 x2 x3) := by
  intro x1 x2 x3
  unfold reloadComb
  split
  · exact Keeps.refl _
  · dsimp only
    refine Keeps.same ?_ rfl rfl rfl
    refine Keeps.tail (keeps_reloadUnit _ _ _ _ _) ?_
    refine Keeps.tail (keeps_reloadUnit _ _ _ _ _) ?_
    refine Keeps.tail (keeps_reloadUnit _ _ _ _ _) ?_
    refine Keeps.tail (keeps_reloadUnit _ _ _ _ _) ?_
    exact Keeps.fold (fun _ _ => Keeps.fold (fun _ _ => keeps_reloadUnit _ _ _ _ _) (Keeps.refl _)) (Keeps.refl _)

theorem keeps_cmdDone : ∀ x1 x2 x3 x4 x5, Keeps x5 (cmdDone x1 x2 x3 x4 x5) := by
  intro x1 x2 x3 x4 x5
  unfold cmdDone
  exact (Keeps.tail (keeps_post _ _ _) (Keeps.refl _))

theorem keeps_endCmds : ∀ x1 x2 x3 x4 x5, Keeps x5 (endCmds x1 x2 x3 x4 x5) := by
  intro x1 x2 x3 x4 x5
  unfold endCmds
  exact (Keeps.fold (fun _ _ => (Keeps.tail (keeps_cmdDone _ _ _ _ _) (Keeps.refl _))) (Keeps.upd (Keeps.refl _)))

theorem keeps_hold : ∀ x1 x2 x3 x4, Keeps x4 (hold x1 x2 x3 x4) := by
  intro x1 x2 x3 x4
  unfold hold
  exact (Keeps.ite (Keeps.tail (keeps_post _ _ _) (Keeps.tail (keeps_endCmds _ _ _ _ _) (Keeps.tail (keeps_ctxMod _ _ _) (Keeps.tail
      (keeps_rset _ _ _ _ _) (Keeps.tail (keeps_rset _ _ _ _ _) (Keeps.refl _)))))) (Keeps.refl _))

theorem keeps_maskEnd : ∀ x1 x2 x3, Keeps x3 (maskEnd x1 x2 x3) := by
  intro x1 x2 x3
  unfold maskEnd
  exact (Keeps.tail (keeps_hold _ _ _ _) (Keeps.tail (keeps_ctxMod _ _ _) (Keeps.tail (keeps_raise _ _ _) (Keeps.tail (keeps_bump _ _ _ _ _ _)
      (Keeps.refl _)))))

theorem keeps_fenceMove : ∀ x1 x2 x3, Keeps x3 (fenceMove x1 x2 x3) := by
  intro x1 x2 x3
  unfold fenceMove
  exact (Keeps.ite (by (try dsimp only); first | (split; exacts [(Keeps.ite (Keeps.tail (keeps_maskEnd _ _ _) (Keeps.tail (keeps_raise _ _ _) (by (try dsimp only); first | (split; exacts [(Keeps.tail (keeps_reloadComb _ _ _) (Keeps.tail (keeps_rset _ _ _ _ _) (Keeps.tail (keeps_remap _ _ _) (Keeps.tail (keeps_pcMod _ _ _) (Keeps.refl _))))), (Keeps.tail (keeps_rset _ _ _ _ _) (Keeps.tail (keeps_remap _ _ _) (Keeps.tail (keeps_pcMod _ _ _) (Keeps.refl _))))]) | exact (Keeps.tail (keeps_reloadComb _ _ _) (Keeps.tail (keeps_rset _ _ _ _ _) (Keeps.tail (keeps_remap _ _ _) (Keeps.tail (keeps_pcMod _ _ _) (Keeps.refl _))))) | exact (Keeps.tail (keeps_rset _ _ _ _ _) (Keeps.tail (keeps_remap _ _ _) (Keeps.tail (keeps_pcMod _ _ _) (Keeps.refl _))))))) (Keeps.tail (keeps_raise _ _ _) (by (try dsimp only); first | (split; exacts [(Keeps.tail (keeps_reloadComb _ _ _) (Keeps.tail (keeps_rset _ _ _ _ _) (Keeps.tail (keeps_remap _ _ _) (Keeps.tail (keeps_pcMod _ _ _) (Keeps.refl _))))), (Keeps.tail (keeps_rset _ _ _ _ _) (Keeps.tail (keeps_remap _ _ _) (Keeps.tail (keeps_pcMod _ _ _) (Keeps.refl _))))]) | exact (Keeps.tail (keeps_reloadComb _ _ _) (Keeps.tail (keeps_rset _ _ _ _ _) (Keeps.tail (keeps_remap _ _ _) (Keeps.tail (keeps_pcMod _ _ _) (Keeps.refl _))))) | exact (Keeps.tail (keeps_rset _ _ _ _ _) (Keeps.tail (keeps_remap _ _ _) (Keeps.tail (keeps_pcMod _ _ _) (Keeps.refl _))))))), (Keeps.tail (keeps_raise _ _ _) (by (try dsimp only); first | (split; exacts [(Keeps.tail (keeps_reloadComb _ _ _) (Keeps.tail (keeps_rset _ _ _ _ _) (Keeps.tail (keeps_remap _ _ _) (Keeps.tail (keeps_pcMod _ _ _) (Keeps.refl _))))), (Keeps.tail (keeps_rset _ _ _ _ _) (Keeps.tail (keeps_remap _ _ _) (Keeps.tail (keeps_pcMod _ _ _) (Keeps.refl _))))]) | exact (Keeps.tail (keeps_reloadComb _ _ _) (Keeps.tail (keeps_rset _ _ _ _ _) (Keeps.tail (keeps_remap _ _ _) (Keeps.tail (keeps_pcMod _ _ _) (Keeps.refl _))))) | exact (Keeps.tail (keeps_rset _ _ _ _ _) (Keeps.tail (keeps_remap _ _ _) (Keeps.tail (keeps_pcMod _ _ _) (Keeps.refl _))))))]) | exact (Keeps.ite (Keeps.tail (keeps_maskEnd _ _ _) (Keeps.tail (keeps_raise _ _ _) (by (try dsimp only); first | (split; exacts [(Keeps.tail (keeps_reloadComb _ _ _) (Keeps.tail (keeps_rset _ _ _ _ _) (Keeps.tail (keeps_remap _ _ _) (Keeps.tail (keeps_pcMod _ _ _) (Keeps.refl _))))), (Keeps.tail (keeps_rset _ _ _ _ _) (Keeps.tail (keeps_remap _ _ _) (Keeps.tail (keeps_pcMod _ _ _) (Keeps.refl _))))]) | exact (Keeps.tail (keeps_reloadComb _ _ _) (Keeps.tail (keeps_rset _ _ _ _ _) (Keeps.tail (keeps_remap _ _ _) (Keeps.tail (keeps_pcMod _ _ _) (Keeps.refl _))))) | exact (Keeps.tail (keeps_rset _ _ _ _ _) (Keeps.tail (keeps_remap _ _ _) (Keeps.tail (keeps_pcMod _ _ _) (Keeps.refl _))))))) (Keeps.tail (keeps_raise _ _ _) (by (try dsimp only); first | (split; exacts [(Keeps.tail (keeps_reloadComb _ _ _) (Keeps.tail (keeps_rset _ _ _ _ _) (Keeps.tail (keeps_remap _ _ _) (Keeps.tail (keeps_pcMod _ _ _) (Keeps.refl _))))), (Keeps.tail (keeps_rset _ _ _ _ _) (Keeps.tail (keeps_remap _ _ _) (Keeps.tail (keeps_pcMod _ _ _) (Keeps.refl _))))]) | exact (Keeps.tail (keeps_reloadComb _ _ _) (Keeps.tail (keeps_rset _ _ _ _ _) (Keeps.tail (keeps_remap _ _ _) (Keeps.tail (keeps_pcMod _ _ _) (Keeps.refl _))))) | exact (Keeps.tail (keeps_rset _ _ _ _ _) (Keeps.tail (keeps_remap _ _ _) (Keeps.tail (keeps_pcMod _ _ _) (Keeps.refl _))))))) | exact (Keeps.tail (keeps_raise _ _ _) (by (try dsimp only); first | (split; exacts [(Keeps.tail (keeps_reloadComb _ _ _) (Keeps.tail (keeps_rset _ _ _ _ _) (Keeps.tail (keeps_remap _ _ _) (Keeps.tail (keeps_pcMod _ _ _) (Keeps.refl _))))), (Keeps.tail (keeps_rset _ _ _ _ _) (Keeps.tail (keeps_remap _ _ _) (Keeps.tail (keeps_pcMod _ _ _) (Keeps.refl _))))]) | exact (Keeps.tail (keeps_reloadComb _ _ _) (Keeps.tail (keeps_rset _ _ _ _ _) (Keeps.tail (keeps_remap _ _ _) (Keeps.tail (keeps_pcMod _ _ _) (Keeps.refl _))))) | exact (Keeps.tail (keeps_rset _ _ _ _ _) (Keeps.tail (keeps_remap _ _ _) (Keeps.tail (keeps_pcMod _ _ _) (Keeps.refl _))))))) (Keeps.tail (keeps_raise _ _ _) (Keeps.tail (keeps_remap _ _ _) (Keeps.tail (keeps_pcMod _ _ _) (Keeps.refl _)))))

theorem keeps_armMove : ∀ x1 x2 x3, Keeps x3 (armMove x1 x2 x3) := by
  intro x1 x2 x3
  unfold armMove
  exact (Keeps.ite (Keeps.tail (keeps_fenceMove _ _ _) (Keeps.tail (keeps_writeRmap _ _) (Keeps.tail (keeps_pcMod _ _ _) (Keeps.refl _))))
      (Keeps.fold (fun _ _ => (Keeps.ite (Keeps.refl _) (Keeps.tail (keeps_rset _ _ _ _ _) (Keeps.refl _)))) (Keeps.tail (keeps_writeRmap _ _)
      (Keeps.tail (keeps_pcMod _ _ _) (Keeps.refl _)))))

theorem keeps_mshDrop : ∀ x1 x2 x3 x4, Keeps x4 (mshDrop x1 x2 x3 x4) := by
  intro x1 x2 x3 x4
  unfold mshDrop
  exact (Keeps.ite (Keeps.tail (keeps_bump _ _ _ _ _ _) (Keeps.refl _)) (Keeps.tail (keeps_rset _ _ _ _ _) (Keeps.tail (keeps_rset _ _ _ _ _)
      (Keeps.tail (keeps_rset _ _ _ _ _) (Keeps.tail (keeps_rset _ _ _ _ _) (Keeps.tail (keeps_rset _ _ _ _ _) (Keeps.tail (keeps_rset _ _ _ _ _)
      (Keeps.tail (keeps_rset _ _ _ _ _) (Keeps.tail (keeps_bump _ _ _ _ _ _) (Keeps.refl _))))))))))

theorem keeps_arrive : ∀ x1 x2 x3, (∀ z0, Keeps z0 (x3 z0)) → Keeps x2 (arrive x1 x2 x3) := by
  intro x1 x2 x3 h_x3
  unfold arrive
  exact (Keeps.ite (Keeps.refl _) (by (try dsimp only); first | (split; exacts [(Keeps.tail (keeps_bump _ _ _ _ _ _) (Keeps.upd (Keeps.refl _))),
      (Keeps.ite (Keeps.tail (keeps_mshDrop _ _ _ _) (Keeps.upd (Keeps.refl _))) (Keeps.tail (h_x3 _) (Keeps.upd (Keeps.refl _))))])))

theorem keeps_respond : ∀ x1 x2 x3 x4, Keeps x4 (respond x1 x2 x3 x4) := by
  intro x1 x2 x3 x4
  unfold respond
  exact (Keeps.upd (Keeps.refl _))

theorem keeps_spdmError : ∀ x1 x2 x3, Keeps x3 (spdmError x1 x2 x3) := by
  intro x1 x2 x3
  unfold spdmError
  exact (Keeps.tail (keeps_respond _ _ _ _) (Keeps.refl _))

theorem keeps_authFail : ∀ x1, Keeps x1 (authFail x1) := by
  intro x1
  unfold authFail
  exact (Keeps.tail (keeps_spdmError _ _ _) (Keeps.tail (keeps_raise _ _ _) (Keeps.tail (keeps_bump _ _ _ _ _ _) (Keeps.refl _))))

theorem keeps_spdm : ∀ x1 x2 x3, (∀ z0, Keeps z0 (x2 z0)) → Keeps x3 (spdm x1 x2 x3) := by
  intro x1 x2 x3 h_x2
  unfold spdm
  exact (Keeps.ite (Keeps.refl _) (by (try dsimp only); first | (split; exacts [(Keeps.tail (h_x2 _) (Keeps.refl _)), (by (try dsimp only); first |
      (split; exacts [(Keeps.ite (Keeps.tail (h_x2 _) (Keeps.refl _)) (Keeps.tail (keeps_authFail _) (Keeps.refl _))), (Keeps.tail
      (keeps_authFail _) (Keeps.refl _))]))])))

theorem keeps_unsupported : ∀ x1, Keeps x1 (unsupported x1) := by
  intro x1
  unfold unsupported
  exact (Keeps.tail (keeps_spdmError _ _ _) (Keeps.refl _))

theorem keeps_attest : ∀ x1 x2 x3, (∀ z0, Keeps z0 (x2 z0)) → Keeps x3 (attest x1 x2 x3) := by
  intro x1 x2 x3 h_x2
  unfold attest
  exact (Keeps.tail (keeps_spdm _ _ _ (fun _ => (Keeps.ite (Keeps.tail (h_x2 _) (Keeps.refl _)) (Keeps.tail (keeps_unsupported _) (Keeps.refl _)))))
      (Keeps.refl _))

theorem keeps_charge : ∀ x1 x2 x3, Keeps x3 (charge x1 x2 x3) := by
  intro x1 x2 x3
  unfold charge
  exact (Keeps.ite (Keeps.tail (keeps_ctxSet _ _ _) (Keeps.tail (keeps_bump _ _ _ _ _ _) (Keeps.tail (keeps_rset _ _ _ _ _) (Keeps.refl _))))
      (Keeps.tail (keeps_rset _ _ _ _ _) (Keeps.refl _)))

theorem keeps_balanceStall : ∀ x1 x2 x3 x4, Keeps x4 (balanceStall x1 x2 x3 x4) := by
  intro x1 x2 x3 x4
  unfold balanceStall
  exact (Keeps.ite (Keeps.refl _) (by (try dsimp only); first | (split; exacts [(Keeps.tail (keeps_swSet _ _ _ _) (Keeps.tail
      (keeps_bump _ _ _ _ _ _) (Keeps.refl _))), (Keeps.ite (Keeps.tail (keeps_charge _ _ _) (Keeps.tail (keeps_swSet _ _ _ _) (Keeps.tail
      (keeps_bump _ _ _ _ _ _) (Keeps.refl _)))) (Keeps.tail (keeps_rset _ _ _ _ _) (Keeps.tail (keeps_rset _ _ _ _ _) (Keeps.tail
      (keeps_rset _ _ _ _ _) (Keeps.tail (keeps_rset _ _ _ _ _) (Keeps.tail (keeps_rset _ _ _ _ _) (Keeps.tail (keeps_ctxMod _ _ _) (Keeps.tail
      (keeps_charge _ _ _) (Keeps.tail (keeps_swSet _ _ _ _) (Keeps.tail (keeps_bump _ _ _ _ _ _) (Keeps.refl _)))))))))))])))

theorem keeps_wipeEave : ∀ x1, Keeps x1 (wipeEave x1) := by
  intro x1
  unfold wipeEave
  exact (Keeps.wipe (Keeps.refl _) rfl rfl rfl)

theorem keeps_dropCmd : ∀ x1 x2, Keeps x2 (dropCmd x1 x2) := by
  intro x1 x2
  unfold dropCmd
  exact (Keeps.upd (Keeps.refl _))

theorem keeps_endCmd : ∀ x1 x2 x3 x4 x5, Keeps x5 (endCmd x1 x2 x3 x4 x5) := by
  intro x1 x2 x3 x4 x5
  unfold endCmd
  exact (Keeps.tail (keeps_cmdDone _ _ _ _ _) (Keeps.tail (keeps_dropCmd _ _) (Keeps.refl _)))

theorem keeps_endGrants : ∀ x1, Keeps x1 (endGrants x1) := by
  intro x1
  unfold endGrants
  exact (Keeps.fold (fun _ _ => (by (try dsimp only); first | (split; exacts [(Keeps.ite (Keeps.tail (keeps_post _ _ _) (Keeps.tail
      (keeps_ctxMod _ _ _) (Keeps.upd (Keeps.refl _)))) (Keeps.refl _)), (Keeps.refl _)]))) (Keeps.refl _))

theorem keeps_beginService : ∀ x1, Keeps x1 (beginService x1) := by
  intro x1
  unfold beginService
  exact (Keeps.fold (fun _ _ => (Keeps.tail (keeps_endCmd _ _ _ _ _) (Keeps.refl _))) (Keeps.tail (keeps_endGrants _) (Keeps.tail
      (keeps_refreshRegions _) (Keeps.upd (Keeps.tail (keeps_rset _ _ _ _ _) (Keeps.ite (Keeps.tail (keeps_wipeEave _) (Keeps.refl _))
      (Keeps.refl _)))))))

theorem keeps_jrn : ∀ x1 x2 x3 x4 x5 x6, Keeps x6 (jrn x1 x2 x3 x4 x5 x6) := by
  intro x1 x2 x3 x4 x5 x6
  unfold jrn
  exact (Keeps.upd (Keeps.refl _))

theorem keeps_setAlt : ∀ x1 x2, Keeps x2 (setAlt x1 x2) := by
  intro x1 x2
  unfold setAlt
  exact (Keeps.tail (keeps_rset _ _ _ _ _) (Keeps.refl _))

theorem keeps_beginStage : ∀ x1 x2, Keeps x2 (beginStage x1 x2) := by
  intro x1 x2
  unfold beginStage
  exact (Keeps.ite (Keeps.tail (keeps_beginService _) (Keeps.ite (Keeps.fold (fun _ _ => (Keeps.ite (Keeps.tail (keeps_rset _ _ _ _ _)
      (Keeps.refl _)) (Keeps.refl _))) (by (try dsimp only); first | (split; exacts [(Keeps.tail (keeps_applyAlt _ _ _) (Keeps.tail
      (keeps_raise _ _ _) (Keeps.tail (keeps_jrn _ _ _ _ _ _) (Keeps.tail (keeps_setAlt _ _) (Keeps.tail (keeps_jrn _ _ _ _ _ _) (Keeps.tail
      (keeps_msix _ _ _) (Keeps.tail (keeps_rset _ _ _ _ _) (Keeps.refl _)))))))), (Keeps.tail (keeps_jrn _ _ _ _ _ _) (Keeps.tail
      (keeps_msix _ _ _) (Keeps.tail (keeps_rset _ _ _ _ _) (Keeps.refl _))))]))) (by (try dsimp only); first | (split; exacts [(Keeps.tail
      (keeps_applyAlt _ _ _) (Keeps.tail (keeps_raise _ _ _) (Keeps.tail (keeps_jrn _ _ _ _ _ _) (Keeps.tail (keeps_setAlt _ _) (Keeps.tail
      (keeps_jrn _ _ _ _ _ _) (Keeps.tail (keeps_msix _ _ _) (Keeps.tail (keeps_rset _ _ _ _ _) (Keeps.refl _)))))))), (Keeps.tail
      (keeps_jrn _ _ _ _ _ _) (Keeps.tail (keeps_msix _ _ _) (Keeps.tail (keeps_rset _ _ _ _ _) (Keeps.refl _))))])))) (Keeps.ite (Keeps.fold
      (fun _ _ => (Keeps.ite (Keeps.tail (keeps_rset _ _ _ _ _) (Keeps.refl _)) (Keeps.refl _))) (by (try dsimp only); first |
      (split; exacts [(Keeps.tail (keeps_applyAlt _ _ _) (Keeps.tail (keeps_raise _ _ _) (Keeps.tail (keeps_jrn _ _ _ _ _ _) (Keeps.tail
      (keeps_setAlt _ _) (Keeps.tail (keeps_jrn _ _ _ _ _ _) (Keeps.tail (keeps_msix _ _ _) (Keeps.tail (keeps_rset _ _ _ _ _)
      (Keeps.refl _)))))))), (Keeps.tail (keeps_jrn _ _ _ _ _ _) (Keeps.tail (keeps_msix _ _ _) (Keeps.tail (keeps_rset _ _ _ _ _)
      (Keeps.refl _))))]))) (by (try dsimp only); first | (split; exacts [(Keeps.tail (keeps_applyAlt _ _ _) (Keeps.tail (keeps_raise _ _ _)
      (Keeps.tail (keeps_jrn _ _ _ _ _ _) (Keeps.tail (keeps_setAlt _ _) (Keeps.tail (keeps_jrn _ _ _ _ _ _) (Keeps.tail (keeps_msix _ _ _)
      (Keeps.tail (keeps_rset _ _ _ _ _) (Keeps.refl _)))))))), (Keeps.tail (keeps_jrn _ _ _ _ _ _) (Keeps.tail (keeps_msix _ _ _) (Keeps.tail
      (keeps_rset _ _ _ _ _) (Keeps.refl _))))]))))

theorem keeps_sendBlocks : ∀ x1 x2 x3, Keeps x3 (sendBlocks x1 x2 x3) := by
  intro x1 x2 x3
  unfold sendBlocks
  exact (Keeps.tail (keeps_pump _ _) (Keeps.tail (keeps_portMod _ _ _) (Keeps.refl _)))

theorem keeps_refuseBlock : ∀ x1 x2 x3 x4 x5, Keeps x5 (refuseBlock x1 x2 x3 x4 x5) := by
  intro x1 x2 x3 x4 x5
  unfold refuseBlock
  exact (by (try dsimp only); first | (split; exacts [(Keeps.tail (keeps_sendBlocks _ _ _) (Keeps.tail (keeps_portRaise _ _ _ _ _ _) (Keeps.tail
      (keeps_portEvt _ _ _) (Keeps.refl _)))), (Keeps.tail (keeps_portRaise _ _ _ _ _ _) (Keeps.tail (keeps_portEvt _ _ _) (Keeps.refl _)))]))

theorem keeps_launch : ∀ x1 x2, Keeps x2 (launch x1 x2) := by
  intro x1 x2
  unfold launch
  exact (Keeps.upd (Keeps.refl _))

theorem keeps_shWrite : ∀ x1 x2 x3, Keeps x3 (shWrite x1 x2 x3) := by
  intro x1 x2 x3
  refine Keeps.put (Keeps.refl x3) rfl rfl (fun w => ?_)
  refine wf_fold (fun m e h => ?_) w
  try dsimp only
  first
    | exact wf_mput h
    | (split
       · exact wf_mput h
       · exact h)

theorem keeps_emWrite : ∀ x1 x2 x3 x4, Keeps x4 (emWrite x1 x2 x3 x4) := by
  intro x1 x2 x3 x4
  refine Keeps.put (Keeps.refl x4) rfl rfl (fun w => ?_)
  refine wf_fold (fun m e h => ?_) w
  try dsimp only
  split
  · exact wf_mput (wf_mput h)
  · exact wf_mput h

theorem keeps_cmWrite : ∀ x1 x2 x3 x4, Keeps x4 (cmWrite x1 x2 x3 x4) := by
  intro x1 x2 x3 x4
  unfold cmWrite
  exact (Keeps.upd (Keeps.tail (keeps_mwrite _ _ _) (Keeps.refl _)))

theorem keeps_lsWrite : ∀ x1 x2 x3 x4, Keeps x4 (lsWrite x1 x2 x3 x4) := by
  intro x1 x2 x3 x4
  unfold lsWrite
  exact (Keeps.tail (keeps_mwrite _ _ _) (Keeps.refl _))

theorem keeps_locWrite : ∀ x1 x2 x3 x4, Keeps x4 (locWrite x1 x2 x3 x4) := by
  intro x1 x2 x3 x4
  unfold locWrite
  exact (by (try dsimp only); first | (split; exacts [(Keeps.ite (Keeps.tail (keeps_emWrite _ _ _ _) (Keeps.refl _)) (Keeps.refl _)), (Keeps.tail
      (keeps_cmWrite _ _ _ _) (Keeps.refl _)), (Keeps.tail (keeps_lsWrite _ _ _ _) (Keeps.refl _)), (Keeps.tail (keeps_shWrite _ _ _)
      (Keeps.refl _)), (Keeps.tail (keeps_mwrite _ _ _) (Keeps.refl _)), (Keeps.refl _)]))

theorem keeps_deliverWr : ∀ x1 x2 x3 x4, Keeps x4 (deliverWr x1 x2 x3 x4) := by
  intro x1 x2 x3 x4
  unfold deliverWr
  exact (by (try dsimp only); first | (split; exacts [(by (try dsimp only); first | (split; exacts [(Keeps.tail (keeps_refuseBlock _ _ _ _ _)
      (Keeps.refl _)), (Keeps.ite (by (try dsimp only); first | (split; exacts [(Keeps.tail (keeps_sendBlocks _ _ _) (Keeps.refl _)),
      (Keeps.refl _)])) (Keeps.ite (Keeps.tail (keeps_refuseBlock _ _ _ _ _) (Keeps.refl _)) (Keeps.tail (keeps_launch _ _) (Keeps.refl _))))])),
      (Keeps.ite (Keeps.tail (keeps_sendBlocks _ _ _) (Keeps.tail (keeps_shWrite _ _ _) (Keeps.refl _))) (Keeps.tail (keeps_refuseBlock _ _ _ _ _)
      (Keeps.refl _))), (Keeps.ite (Keeps.tail (keeps_refuseBlock _ _ _ _ _) (Keeps.refl _)) (Keeps.ite (Keeps.tail (keeps_refuseBlock _ _ _ _ _)
      (Keeps.refl _)) (Keeps.tail (keeps_sendBlocks _ _ _) (Keeps.tail (keeps_locWrite _ _ _ _) (Keeps.refl _)))))]))

theorem keeps_beginWr : ∀ x1 x2 x3 x4, Keeps x4 (beginWr x1 x2 x3 x4) := by
  intro x1 x2 x3 x4
  unfold beginWr
  exact (Keeps.ite (by (try dsimp only); first | (split; exacts [(Keeps.tail (keeps_sendBlocks _ _ _) (Keeps.refl _)), (Keeps.refl _)])) (Keeps.ite
      (Keeps.tail (keeps_deliverWr _ _ _ _) (Keeps.tail (keeps_portMod _ _ _) (Keeps.refl _))) (Keeps.tail (keeps_portMod _ _ _) (Keeps.refl _))))

theorem keeps_binRegion : ∀ x1 x2 x3, Keeps x3 (binRegion x1 x2 x3) := by
  intro x1 x2 x3
  unfold binRegion
  exact (Keeps.ite (Keeps.refl _) (Keeps.upd (Keeps.refl _)))

theorem keeps_holdLane : ∀ x1 x2 x3 x4, Keeps x4 (holdLane x1 x2 x3 x4) := by
  intro x1 x2 x3 x4
  unfold holdLane
  exact (Keeps.tail (keeps_rset _ _ _ _ _) (Keeps.refl _))

theorem keeps_bindAllot : ∀ x1 x2 x3, Keeps x3 (bindAllot x1 x2 x3) := by
  intro x1 x2 x3
  unfold bindAllot
  exact (Keeps.tail (keeps_rset _ _ _ _ _) (Keeps.tail (keeps_rset _ _ _ _ _) (Keeps.fold (fun _ _ => (Keeps.tail (keeps_rset _ _ _ _ _)
      (Keeps.refl _))) (Keeps.fold (fun _ _ => (Keeps.tail (keeps_rset _ _ _ _ _) (Keeps.tail (keeps_rset _ _ _ _ _) (Keeps.tail
      (keeps_rset _ _ _ _ _) (Keeps.refl _))))) (Keeps.fold (fun _ _ => (Keeps.tail (keeps_holdLane _ _ _ _) (Keeps.refl _))) (Keeps.fold
      (fun _ _ => (Keeps.tail (keeps_rset _ _ _ _ _) (Keeps.tail (keeps_rset _ _ _ _ _) (Keeps.refl _)))) (Keeps.refl _)))))))

theorem keeps_breakpoint : ∀ x1 x2 x3 x4, Keeps x4 (breakpoint x1 x2 x3 x4) := by
  intro x1 x2 x3 x4
  unfold breakpoint
  exact (Keeps.ite (Keeps.tail (keeps_rset _ _ _ _ _) (Keeps.refl _)) (Keeps.refl _))

theorem keeps_burnLife : ∀ x1, Keeps x1 (burnLife x1) := by
  intro x1
  unfold burnLife
  exact (Keeps.tail (keeps_rset _ _ _ _ _) (Keeps.refl _))

theorem keeps_burnRows : ∀ x1, Keeps x1 (burnRows x1) := by
  intro x1
  unfold burnRows
  exact (Keeps.ite (Keeps.refl _) (Keeps.ite (Keeps.ite (Keeps.tail (keeps_raise _ _ _) (Keeps.tail (keeps_rset _ _ _ _ _) (Keeps.tail
      (keeps_rset _ _ _ _ _) (Keeps.upd (Keeps.refl _))))) (Keeps.tail (keeps_rset _ _ _ _ _) (Keeps.tail (keeps_rset _ _ _ _ _) (Keeps.upd
      (Keeps.refl _))))) (Keeps.tail (keeps_rset _ _ _ _ _) (Keeps.upd (Keeps.refl _)))))

theorem keeps_capCfgWrite : ∀ x1 x2 x3, Keeps x3 (capCfgWrite x1 x2 x3) := by
  intro x1 x2 x3
  unfold capCfgWrite
  exact (Keeps.tail (keeps_rset _ _ _ _ _) (Keeps.tail (keeps_rset _ _ _ _ _) (Keeps.tail (keeps_rset _ _ _ _ _) (Keeps.tail (keeps_rset _ _ _ _ _)
      (Keeps.tail (keeps_rset _ _ _ _ _) (Keeps.refl _))))))

theorem keeps_capture : ∀ x1 x2, Keeps x2 (capture x1 x2) := by
  intro x1 x2
  unfold capture
  exact (Keeps.ite (Keeps.refl _) (Keeps.ite (Keeps.tail (keeps_rset _ _ _ _ _) (Keeps.tail (keeps_rset _ _ _ _ _) (Keeps.tail
      (keeps_rset _ _ _ _ _) (Keeps.tail (keeps_rset _ _ _ _ _) (Keeps.tail (keeps_rset _ _ _ _ _) (Keeps.refl _)))))) (Keeps.tail
      (keeps_rset _ _ _ _ _) (Keeps.tail (keeps_rset _ _ _ _ _) (Keeps.tail (keeps_rset _ _ _ _ _) (Keeps.tail (keeps_rset _ _ _ _ _) (Keeps.tail
      (keeps_rset _ _ _ _ _) (Keeps.upd (Keeps.tail (keeps_emWrite _ _ _ _) (Keeps.refl _))))))))))

theorem keeps_chErr : ∀ x1 x2 x3, Keeps x3 (chErr x1 x2 x3) := by
  intro x1 x2 x3
  unfold chErr
  exact (Keeps.ite (Keeps.tail (keeps_rset _ _ _ _ _) (Keeps.refl _)) (Keeps.tail (keeps_rset _ _ _ _ _) (Keeps.tail (keeps_rset _ _ _ _ _)
      (Keeps.refl _))))

theorem keeps_chMod : ∀ x1 x2 x3, Keeps x3 (chMod x1 x2 x3) := by
  intro x1 x2 x3
  unfold chMod
  exact (Keeps.tail (keeps_chSet _ _ _) (Keeps.refl _))

theorem keeps_chargeComb : ∀ x1 x2 x3, Keeps x3 (chargeComb x1 x2 x3) := by
  intro x1 x2 x3
  unfold chargeComb
  exact (by (try dsimp only); first | (split; exacts [(Keeps.ite (Keeps.tail (keeps_charge _ _ _) (Keeps.refl _)) (Keeps.refl _)), (Keeps.refl _)]))

theorem keeps_checkAll : ∀ x1 x2, Keeps x2 (checkAll x1 x2) := by
  intro x1 x2
  unfold checkAll
  exact (Keeps.ite (Keeps.refl _) (Keeps.fold (fun _ _ => (Keeps.ite (Keeps.refl _) (Keeps.tail (keeps_slotCheck _ _ _ _) (Keeps.refl _))))
      (Keeps.refl _)))

theorem keeps_poisonBlock : ∀ x1 x2 x3 x4, Keeps x4 (poisonBlock x1 x2 x3 x4) := by
  intro x1 x2 x3 x4
  unfold poisonBlock
  exact (Keeps.tail (keeps_raise _ _ _) (by (try dsimp only); first | (split; exacts [(Keeps.tail (keeps_ctxMod _ _ _) (Keeps.ite (Keeps.tail
      (keeps_bump _ _ _ _ _ _) (Keeps.upd (Keeps.refl _))) (Keeps.tail (keeps_rset _ _ _ _ _) (Keeps.tail (keeps_rset _ _ _ _ _) (Keeps.tail
      (keeps_rset _ _ _ _ _) (Keeps.tail (keeps_rset _ _ _ _ _) (Keeps.tail (keeps_rset _ _ _ _ _) (Keeps.tail (keeps_bump _ _ _ _ _ _) (Keeps.upd
      (Keeps.refl _)))))))))), (Keeps.ite (Keeps.tail (keeps_bump _ _ _ _ _ _) (Keeps.upd (Keeps.refl _))) (Keeps.tail (keeps_rset _ _ _ _ _)
      (Keeps.tail (keeps_rset _ _ _ _ _) (Keeps.tail (keeps_rset _ _ _ _ _) (Keeps.tail (keeps_rset _ _ _ _ _) (Keeps.tail (keeps_rset _ _ _ _ _)
      (Keeps.tail (keeps_bump _ _ _ _ _ _) (Keeps.upd (Keeps.refl _)))))))))])))

theorem keeps_checkEave : ∀ x1 x2 x3, Keeps x3 (checkEave x1 x2 x3) := by
  intro x1 x2 x3
  unfold checkEave
  exact (Keeps.ite (Keeps.refl _) (by (try dsimp only); first | (split; exacts [(Keeps.refl _), (Keeps.tail (keeps_chErr _ _ _) (Keeps.refl _)),
      (Keeps.tail (keeps_poisonBlock _ _ _ _) (Keeps.tail (keeps_chErr _ _ _) (Keeps.refl _)))])))

theorem keeps_markBlock : ∀ x1 x2 x3, Keeps x3 (markBlock x1 x2 x3) := by
  intro x1 x2 x3
  unfold markBlock
  exact (Keeps.upd (Keeps.refl _))

theorem keeps_rereadBlock : ∀ x1 x2 x3 x4, Keeps x4 (rereadBlock x1 x2 x3 x4) := by
  intro x1 x2 x3 x4
  unfold rereadBlock
  exact (Keeps.ite (Keeps.refl _) (by (try dsimp only); first | (split; exacts [(Keeps.refl _), (Keeps.tail (keeps_bump _ _ _ _ _ _) (Keeps.tail
      (keeps_chargeComb _ _ _) (Keeps.refl _))), (Keeps.tail (keeps_markBlock _ _ _) (Keeps.tail (keeps_chargeComb _ _ _) (Keeps.refl _)))])))

theorem keeps_checkRead : ∀ x1 x2 x3 x4 x5, Keeps x5 (checkRead x1 x2 x3 x4 x5) := by
  intro x1 x2 x3 x4 x5
  unfold checkRead
  exact (Keeps.fold (fun _ _ => (by (try dsimp only); first | (split; exacts [(Keeps.tail (keeps_checkEave _ _ _) (Keeps.refl _)), (Keeps.tail
      (keeps_checkEave _ _ _) (Keeps.refl _)), (Keeps.tail (keeps_rereadBlock _ _ _ _) (Keeps.refl _)), (Keeps.refl _)]))) (Keeps.refl _))

theorem keeps_checkSeal : ∀ x1 x2, Keeps x2 (checkSeal x1 x2) := by
  intro x1 x2
  unfold checkSeal
  exact (by (try dsimp only); first | (split; exacts [(Keeps.refl _), (Keeps.ite (Keeps.refl _) (Keeps.ite (Keeps.tail (keeps_jrn _ _ _ _ _ _)
      (Keeps.tail (keeps_rset _ _ _ _ _) (Keeps.tail (keeps_rset _ _ _ _ _) (Keeps.upd (Keeps.refl _))))) (Keeps.tail (keeps_raise _ _ _)
      (Keeps.tail (keeps_jrn _ _ _ _ _ _) (Keeps.tail (keeps_rset _ _ _ _ _) (Keeps.tail (keeps_rset _ _ _ _ _) (Keeps.upd (Keeps.refl _))))))))]))

theorem keeps_enterService : ∀ x1 x2 x3, Keeps x3 (enterService x1 x2 x3) := by
  intro x1 x2 x3
  unfold enterService
  exact (by (try dsimp only); first | (split; exacts [(Keeps.refl _), (Keeps.tail (keeps_pcMod _ _ _) (Keeps.refl _))]))

theorem keeps_cleanPass : ∀ x1 x2 x3, Keeps x3 (cleanPass x1 x2 x3) := by
  intro x1 x2 x3
  unfold cleanPass
  exact (Keeps.ite (Keeps.tail (keeps_enterService _ _ _) (Keeps.tail (keeps_pcMod _ _ _) (Keeps.refl _))) (Keeps.tail (keeps_pcMod _ _ _)
      (Keeps.refl _)))

theorem keeps_clearCache : ∀ x1, Keeps x1 (clearCache x1) := by
  intro x1
  unfold clearCache
  exact (Keeps.upd (Keeps.refl _))

theorem keeps_clearRc : ∀ x1 x2 x3 x4, Keeps x4 (clearRc x1 x2 x3 x4) := by
  intro x1 x2 x3 x4
  unfold clearRc
  exact (Keeps.fold (fun _ _ => (Keeps.ite (by (try dsimp only); first | (split; exacts [(Keeps.tail (keeps_rset _ _ _ _ _) (Keeps.tail
      (keeps_rset _ _ _ _ _) (Keeps.refl _))), (Keeps.tail (keeps_rset _ _ _ _ _) (Keeps.refl _))])) (Keeps.refl _))) (Keeps.refl _))

theorem keeps_clearSecrets : ∀ x1, Keeps x1 (clearSecrets x1) := by
  intro x1
  unfold clearSecrets
  exact (Keeps.tail (keeps_rset _ _ _ _ _) (Keeps.tail (keeps_rset _ _ _ _ _) (Keeps.upd (Keeps.refl _))))

theorem keeps_clearShadows : ∀ x1 x2, Keeps x2 (clearShadows x1 x2) := by
  intro x1 x2
  unfold clearShadows
  exact (Keeps.fold (fun _ _ => (Keeps.tail (keeps_chSet _ _ _) (Keeps.refl _))) (Keeps.fold (fun _ _ => (Keeps.tail (keeps_dropSet _ _ _)
      (Keeps.fold (fun _ _ => (Keeps.tail (keeps_swSet _ _ _ _) (Keeps.refl _))) (Keeps.refl _)))) (Keeps.fold (fun _ _ => (Keeps.tail
      (keeps_wMod _ _ _) (Keeps.refl _))) (Keeps.refl _))))

theorem keeps_clearUnits : ∀ x1 x2, Keeps x2 (clearUnits x1 x2) := by
  intro x1 x2
  unfold clearUnits
  exact (Keeps.upd (Keeps.refl _))

theorem keeps_closeFlows : ∀ x1 x2, Keeps x2 (closeFlows x1 x2) := by
  intro x1 x2
  unfold closeFlows
  exact (Keeps.upd (Keeps.refl _))

theorem keeps_closeJournal : ∀ x1, Keeps x1 (closeJournal x1) := by
  intro x1
  unfold closeJournal
  exact (by (try dsimp only); first | (split; exacts [(Keeps.refl _), (Keeps.tail (keeps_raise _ _ _) (Keeps.upd (Keeps.refl _)))]))

theorem keeps_closeServed : ∀ x1 x2, Keeps x2 (closeServed x1 x2) := by
  intro x1 x2
  unfold closeServed
  exact (Keeps.ite (Keeps.upd (Keeps.refl _)) (Keeps.fold (fun _ _ => (Keeps.tail (keeps_pcMod _ _ _) (Keeps.refl _))) (Keeps.upd (Keeps.refl _))))

theorem keeps_poisonSeen : ∀ x1 x2 x3, Keeps x3 (poisonSeen x1 x2 x3) := by
  intro x1 x2 x3
  unfold poisonSeen
  exact (Keeps.ite (Keeps.tail (keeps_raise _ _ _) (by (try dsimp only); first | (split; exacts [(Keeps.tail (keeps_ctxMod _ _ _) (Keeps.tail
      (keeps_bump _ _ _ _ _ _) (Keeps.refl _))), (Keeps.tail (keeps_bump _ _ _ _ _ _) (Keeps.refl _))]))) (Keeps.refl _))

theorem keeps_cmToLs : ∀ x1 x2 x3 x4 x5 x6, Keeps x6 (cmToLs x1 x2 x3 x4 x5 x6) := by
  intro x1 x2 x3 x4 x5 x6
  unfold cmToLs
  exact (Keeps.tail (keeps_poisonSeen _ _ _) (Keeps.tail (keeps_lsWrite _ _ _ _) (Keeps.tail (keeps_rereadBlock _ _ _ _) (Keeps.refl _))))

theorem keeps_cmWriteBlock : ∀ x1 x2 x3 x4, Keeps x4 (cmWriteBlock x1 x2 x3 x4) := by
  intro x1 x2 x3 x4
  unfold cmWriteBlock
  exact (Keeps.upd (Keeps.tail (keeps_mwrite _ _ _) (Keeps.refl _)))

theorem keeps_coldReset : ∀ x1 x2, Keeps x2 (coldReset x1 x2) := by
  intro x1 x2
  unfold coldReset
  exact (Keeps.tail (keeps_beginStage _ _) (Keeps.tail (keeps_closeJournal _) (Keeps.tail (keeps_rset _ _ _ _ _) (Keeps.tail (keeps_rset _ _ _ _ _)
      (Keeps.tail (keeps_rset _ _ _ _ _) (Keeps.tail (keeps_rset _ _ _ _ _) (Keeps.updWipe (Keeps.refl _))))))))

theorem keeps_coldIfAsked : ∀ x1, Keeps x1 (coldIfAsked x1) := by
  intro x1
  unfold coldIfAsked
  exact (Keeps.ite (Keeps.tail (keeps_coldReset _ _) (Keeps.refl _)) (Keeps.refl _))

theorem keeps_combArrayOn : ∀ x1 x2, Keeps x2 (combArrayOn x1 x2) := by
  intro x1 x2
  unfold combArrayOn
  exact (Keeps.ite (Keeps.tail (keeps_refreshRegions _) (Keeps.upd (Keeps.tail (keeps_rset _ _ _ _ _) (Keeps.tail (keeps_rset _ _ _ _ _) (Keeps.tail
      (keeps_rset _ _ _ _ _) (Keeps.refl _)))))) (Keeps.tail (keeps_endGrants _) (Keeps.upd (Keeps.tail (keeps_rset _ _ _ _ _) (Keeps.tail
      (keeps_rset _ _ _ _ _) (Keeps.tail (keeps_rset _ _ _ _ _) (Keeps.refl _)))))))

theorem keeps_combFault : ∀ x1 x2, Keeps x2 (combFault x1 x2) := by
  intro x1 x2
  unfold combFault
  exact (Keeps.ite (Keeps.tail (keeps_failComb _ _ _ _) (Keeps.refl _)) (Keeps.upd (Keeps.tail (keeps_failComb _ _ _ _) (Keeps.refl _))))

theorem keeps_ungate : ∀ x1 x2, Keeps x2 (ungate x1 x2) := by
  intro x1 x2
  unfold ungate
  exact (Keeps.fold (fun _ _ => (Keeps.tail (keeps_rset _ _ _ _ _) (Keeps.refl _))) (Keeps.refl _))

theorem keeps_stopTraffic : ∀ x1 x2, Keeps x2 (stopTraffic x1 x2) := by
  intro x1 x2
  unfold stopTraffic
  exact (Keeps.tail (keeps_closeFlows _ _) (Keeps.upd (Keeps.fold (fun _ _ => (Keeps.ite (Keeps.tail (keeps_dmaStopNow _ _) (Keeps.refl _))
      (Keeps.refl _))) (Keeps.refl _))))

theorem keeps_newGen : ∀ x1 x2 x3, Keeps x3 (newGen x1 x2 x3) := by
  intro x1 x2 x3
  unfold newGen
  exact (Keeps.tail (keeps_rset _ _ _ _ _) (Keeps.tail (keeps_ctxMod _ _ _) (Keeps.refl _)))

theorem keeps_unlockCfg : ∀ x1 x2, Keeps x2 (unlockCfg x1 x2) := by
  intro x1 x2
  unfold unlockCfg
  exact (Keeps.tail (keeps_rset _ _ _ _ _) (Keeps.tail (keeps_rset _ _ _ _ _) (Keeps.tail (keeps_rset _ _ _ _ _) (Keeps.refl _))))

theorem keeps_contextReset : ∀ x1 x2 x3, Keeps x3 (contextReset x1 x2 x3) := by
  intro x1 x2 x3
  unfold contextReset
  exact (Keeps.ite (Keeps.fold (fun _ _ => (Keeps.tail (keeps_endCmd _ _ _ _ _) (Keeps.refl _))) (Keeps.tail (keeps_rset _ _ _ _ _) (Keeps.tail
      (keeps_bump _ _ _ _ _ _) (Keeps.tail (keeps_rset _ _ _ _ _) (Keeps.tail (keeps_rset _ _ _ _ _) (Keeps.tail (keeps_rset _ _ _ _ _) (Keeps.tail
      (keeps_ctxSet _ _ _) (Keeps.tail (keeps_unlockCfg _ _) (Keeps.tail (keeps_clearUnits _ _) (Keeps.tail (keeps_endCmds _ _ _ _ _) (Keeps.tail
      (keeps_newGen _ _ _) (Keeps.tail (keeps_capture _ _) (Keeps.upd (Keeps.tail (keeps_stopTraffic _ _) (Keeps.tail (keeps_closeServed _ _)
      (Keeps.tail (keeps_ungate _ _) (Keeps.refl _))))))))))))))))) (Keeps.tail (keeps_post _ _ _) (Keeps.fold (fun _ _ => (Keeps.tail
      (keeps_endCmd _ _ _ _ _) (Keeps.refl _))) (Keeps.tail (keeps_rset _ _ _ _ _) (Keeps.tail (keeps_bump _ _ _ _ _ _) (Keeps.tail
      (keeps_rset _ _ _ _ _) (Keeps.tail (keeps_rset _ _ _ _ _) (Keeps.tail (keeps_rset _ _ _ _ _) (Keeps.tail (keeps_ctxSet _ _ _) (Keeps.tail
      (keeps_unlockCfg _ _) (Keeps.tail (keeps_clearUnits _ _) (Keeps.tail (keeps_endCmds _ _ _ _ _) (Keeps.tail (keeps_newGen _ _ _) (Keeps.tail
      (keeps_capture _ _) (Keeps.upd (Keeps.tail (keeps_stopTraffic _ _) (Keeps.tail (keeps_closeServed _ _) (Keeps.tail (keeps_ungate _ _)
      (Keeps.refl _)))))))))))))))))))

theorem keeps_countFire : ∀ x1 x2 x3, Keeps x3 (countFire x1 x2 x3) := by
  intro x1 x2 x3
  unfold countFire
  exact (Keeps.tail (keeps_rset _ _ _ _ _) (Keeps.tail (keeps_wMod _ _ _) (Keeps.refl _)))

theorem keeps_countMaps : ∀ x1 x2 x3, Keeps x3 (countMaps x1 x2 x3) := by
  intro x1 x2 x3
  unfold countMaps
  exact (Keeps.fold (fun _ _ => (Keeps.tail (keeps_mapSeq _ _) (Keeps.refl _))) (Keeps.refl _))

theorem keeps_ringCfg : ∀ x1 x2 x3 x4 x5 x6 x7, Keeps x7 (ringCfg x1 x2 x3 x4 x5 x6 x7) := by
  intro x1 x2 x3 x4 x5 x6 x7
  unfold ringCfg
  exact (Keeps.tail (keeps_rset _ _ _ _ _) (Keeps.ite (Keeps.tail (keeps_rset _ _ _ _ _) (Keeps.tail (keeps_rset _ _ _ _ _) (Keeps.ite
      (Keeps.refl _) (Keeps.tail (keeps_rset _ _ _ _ _) (Keeps.refl _))))) (Keeps.ite (Keeps.refl _) (Keeps.tail (keeps_rset _ _ _ _ _)
      (Keeps.refl _)))))

theorem keeps_dmaNext : ∀ x1 x2, Keeps x2 (dmaNext x1 x2) := by
  intro x1 x2
  unfold dmaNext
  exact (by (try dsimp only); first | (split; exacts [(Keeps.tail (keeps_dmaIdle _ _) (Keeps.refl _)), (Keeps.tail (keeps_dmMod _ _ _) (Keeps.tail
      (keeps_rset _ _ _ _ _) (Keeps.tail (keeps_rset _ _ _ _ _) (Keeps.tail (keeps_rset _ _ _ _ _) (Keeps.tail (keeps_rset _ _ _ _ _)
      (Keeps.refl _))))))]))

theorem keeps_ridgeBack : ∀ x1 x2, Keeps x2 (ridgeBack x1 x2) := by
  intro x1 x2
  unfold ridgeBack
  exact (by (try dsimp only); first | (split; exacts [(Keeps.refl _), (Keeps.ite (Keeps.tail (keeps_rset _ _ _ _ _) (Keeps.tail
      (keeps_rset _ _ _ _ _) (Keeps.tail (keeps_ctxMod _ _ _) (Keeps.refl _)))) (Keeps.refl _))]))

theorem keeps_dmaRidgeHold : ∀ x1 x2 x3, Keeps x3 (dmaRidgeHold x1 x2 x3) := by
  intro x1 x2 x3
  unfold dmaRidgeHold
  exact (by (try dsimp only); first | (split; exacts [(Keeps.tail (keeps_hold _ _ _ _) (Keeps.tail (keeps_ctxMod _ _ _) (Keeps.refl _))),
      (Keeps.refl _)]))

theorem keeps_dmaAfter : ∀ x1 x2 x3, Keeps x3 (dmaAfter x1 x2 x3) := by
  intro x1 x2 x3
  unfold dmaAfter
  exact (Keeps.ite (Keeps.ite (Keeps.tail (keeps_ridgeBack _ _) (Keeps.tail (keeps_dmaNext _ _) (Keeps.tail (keeps_bump _ _ _ _ _ _)
      (Keeps.refl _)))) (Keeps.tail (keeps_dmaNext _ _) (Keeps.tail (keeps_bump _ _ _ _ _ _) (Keeps.refl _)))) (Keeps.ite (Keeps.tail
      (keeps_dmaRidgeHold _ _ _) (Keeps.tail (keeps_dmaIdle _ _) (Keeps.refl _))) (Keeps.tail (keeps_dmaRidgeHold _ _ _) (Keeps.tail
      (keeps_dmaNext _ _) (Keeps.refl _)))))

theorem keeps_dmaRetry : ∀ x1 x2, Keeps x2 (dmaRetry x1 x2) := by
  intro x1 x2
  unfold dmaRetry
  exact (Keeps.fold (fun _ _ => (by (try dsimp only); first | (split; exacts [(Keeps.ite (Keeps.ite (Keeps.tail (keeps_ridgeBack _ _) (Keeps.tail
      (keeps_dmaAfter _ _ _) (Keeps.tail (keeps_post _ _ _) (Keeps.refl _)))) (Keeps.tail (keeps_dmaAfter _ _ _) (Keeps.tail (keeps_post _ _ _)
      (Keeps.refl _)))) (Keeps.refl _)), (Keeps.refl _)]))) (Keeps.refl _))

theorem keeps_cqDrain : ∀ x1 x2 x3, Keeps x3 (cqDrain x1 x2 x3) := by
  intro x1 x2
  induction x2 generalizing x1 with
  | zero => intro x3; exact Keeps.refl _
  | succ k ih =>
    intro x3
    unfold cqDrain
    exact (by (try dsimp only); first | (split; exacts [(Keeps.refl _), (Keeps.ite (Keeps.tail (ih _ _) (Keeps.tail (keeps_cqWrite _ _ _)
      (Keeps.tail (keeps_hostSet _ _ _) (Keeps.refl _)))) (Keeps.refl _))]))

theorem keeps_ringRoom : ∀ x1 x2, Keeps x2 (ringRoom x1 x2) := by
  intro x1 x2
  unfold ringRoom
  exact (Keeps.tail (keeps_dmaRetry _ _) (Keeps.tail (keeps_cqDrain _ _ _) (Keeps.refl _)))

theorem keeps_cqCfg : ∀ x1 x2 x3, Keeps x3 (cqCfg x1 x2 x3) := by
  intro x1 x2 x3
  unfold cqCfg
  exact (Keeps.ite (Keeps.tail (keeps_ringRoom _ _) (Keeps.tail (keeps_hostSet _ _ _) (Keeps.tail (keeps_ringCfg _ _ _ _ _ _ _) (Keeps.refl _))))
      (Keeps.tail (keeps_ringCfg _ _ _ _ _ _ _) (Keeps.refl _)))

theorem keeps_cqHead : ∀ x1 x2 x3, Keeps x3 (cqHead x1 x2 x3) := by
  intro x1 x2 x3
  unfold cqHead
  exact (Keeps.tail (keeps_ringRoom _ _) (Keeps.tail (keeps_rset _ _ _ _ _) (Keeps.refl _)))

theorem keeps_creditBack : ∀ x1 x2 x3, Keeps x3 (creditBack x1 x2 x3) := by
  intro x1 x2 x3
  unfold creditBack
  exact (Keeps.tail (keeps_launch _ _) (Keeps.refl _))

theorem keeps_wake : ∀ x1 x2 x3 x4, Keeps x4 (wake x1 x2 x3 x4) := by
  intro x1 x2 x3 x4
  unfold wake
  exact (Keeps.tail (keeps_slotCheck _ _ _ _) (Keeps.tail (keeps_wMod _ _ _) (Keeps.refl _)))

theorem keeps_sendNow : ∀ x1 x2 x3 x4 x5, Keeps x5 (sendNow x1 x2 x3 x4 x5) := by
  intro x1 x2 x3 x4 x5
  unfold sendNow
  exact (Keeps.tail (keeps_launch _ _) (Keeps.tail (keeps_wMod _ _ _) (Keeps.refl _)))

theorem keeps_creditWake : ∀ x1 x2 x3 x4, Keeps x4 (creditWake x1 x2 x3 x4) := by
  intro x1 x2 x3 x4
  unfold creditWake
  exact (Keeps.fold (fun _ _ => (Keeps.ite (Keeps.tail (keeps_wake _ _ _ _) (Keeps.tail (keeps_sendNow _ _ _ _ _) (Keeps.refl _))) (Keeps.refl _)))
      (Keeps.refl _))

theorem keeps_ctlToken : ∀ x1 x2 x3 x4, Keeps x4 (ctlToken x1 x2 x3 x4) := by
  intro x1 x2 x3 x4
  unfold ctlToken
  exact (Keeps.ite (Keeps.tail (keeps_swSet _ _ _ _) (Keeps.refl _)) (Keeps.refl _))

theorem keeps_ctxResetReq : ∀ x1 x2 x3, Keeps x3 (ctxResetReq x1 x2 x3) := by
  intro x1 x2 x3
  unfold ctxResetReq
  exact (Keeps.ite (Keeps.refl _) (Keeps.tail (keeps_ctxMod _ _ _) (Keeps.tail (keeps_askReset _ _ _) (Keeps.refl _))))

theorem keeps_ctxCtrlWrite : ∀ x1 x2 x3, Keeps x3 (ctxCtrlWrite x1 x2 x3) := by
  intro x1 x2 x3
  unfold ctxCtrlWrite
  exact (Keeps.ite (Keeps.tail (keeps_ctxResetReq _ _ _) (Keeps.tail (keeps_rset _ _ _ _ _) (Keeps.refl _))) (Keeps.tail (keeps_rset _ _ _ _ _)
      (Keeps.refl _)))

theorem keeps_schedFault : ∀ x1 x2 x3, Keeps x3 (schedFault x1 x2 x3) := by
  intro x1 x2 x3
  unfold schedFault
  exact (Keeps.tail (keeps_hold _ _ _ _) (Keeps.tail (keeps_ctxMod _ _ _) (Keeps.refl _)))

theorem keeps_lossOverrun : ∀ x1 x2 x3 x4, Keeps x4 (lossOverrun x1 x2 x3 x4) := by
  intro x1 x2 x3 x4
  unfold lossOverrun
  exact (Keeps.ite (Keeps.tail (keeps_failStep _ _ _ _) (Keeps.tail (keeps_raise _ _ _) (Keeps.refl _))) (Keeps.tail (keeps_schedFault _ _ _)
      (Keeps.tail (keeps_raise _ _ _) (Keeps.refl _))))

theorem keeps_cutBeats : ∀ x1 x2 x3 x4, Keeps x4 (cutBeats x1 x2 x3 x4) := by
  intro x1 x2 x3
  induction x3 generalizing x1 x2 with
  | zero => intro x4; exact Keeps.refl _
  | succ k ih =>
    intro x4
    unfold cutBeats
    exact (Keeps.ite (Keeps.refl _) (Keeps.ite (Keeps.tail (ih _ _ _) (Keeps.tail (keeps_wSet _ _ _) (Keeps.refl _))) (Keeps.tail (ih _ _ _) (by
      (try dsimp only); first | (split; exacts [(Keeps.tail (keeps_lossOverrun _ _ _ _) (Keeps.tail (keeps_wrkFault _ _ _ _ _ _) (Keeps.tail
      (keeps_wSet _ _ _) (Keeps.refl _)))), (Keeps.tail (keeps_wSet _ _ _) (Keeps.refl _))])))))

theorem keeps_sendCtl : ∀ x1 x2 x3, Keeps x3 (sendCtl x1 x2 x3) := by
  intro x1 x2 x3
  unfold sendCtl
  exact (Keeps.tail (keeps_portMod _ _ _) (Keeps.refl _))

theorem keeps_giveCredit : ∀ x1 x2 x3, Keeps x3 (giveCredit x1 x2 x3) := by
  intro x1 x2 x3
  unfold giveCredit
  exact (Keeps.tail (keeps_sendCtl _ _ _) (Keeps.tail (keeps_portMod _ _ _) (Keeps.refl _)))

theorem keeps_egressSend : ∀ x1 x2 x3 x4, Keeps x4 (egressSend x1 x2 x3 x4) := by
  intro x1 x2 x3 x4
  unfold egressSend
  exact (Keeps.ite (Keeps.tail (keeps_mshDrop _ _ _ _) (Keeps.refl _)) (by (try dsimp only); first | (split; exacts [(Keeps.upd (Keeps.refl _)),
      (Keeps.tail (keeps_sendBlocks _ _ _) (Keeps.tail (keeps_portMod _ _ _) (Keeps.refl _)))])))

end Sys2Proof.Machine
end

