-- ==== Sys2Proof/Laws/KeepsB.lean ====
section
/-! SUPPORT. What each operation keeps, part 2 of 4: one lemma for each operation, in the order in which they build on each other. -/

namespace Sys2Proof.Machine

theorem keeps_egressAgain : ∀ x1 x2, Keeps x2 (egressAgain x1 x2) := by
  intro x1 x2
  unfold egressAgain
  exact (Keeps.fold (fun _ _ => (Keeps.tail (keeps_egressSend _ _ _ _) (Keeps.refl _))) (Keeps.upd (Keeps.refl _)))

theorem keeps_outFlowEnd : ∀ x1 x2 x3 x4, Keeps x4 (outFlowEnd x1 x2 x3 x4) := by
  intro x1 x2 x3 x4
  unfold outFlowEnd
  exact (Keeps.ite (Keeps.tail (keeps_egressAgain _ _) (Keeps.tail (keeps_portMod _ _ _) (Keeps.refl _))) (Keeps.refl _))

theorem keeps_streamBytes : ∀ x1 x2 x3, Keeps x3 (streamBytes x1 x2 x3) := by
  intro x1 x2 x3
  unfold streamBytes
  exact (by (try dsimp only); first | (split; exacts [(Keeps.refl _), (Keeps.ite (by (try dsimp only); first | (split; exacts [(Keeps.tail
      (keeps_sendBlocks _ _ _) (Keeps.refl _)), (Keeps.refl _)])) (by (try dsimp only); first | (split; exacts [(Keeps.ite (Keeps.tail
      (keeps_deliverWr _ _ _ _) (Keeps.tail (keeps_portMod _ _ _) (Keeps.refl _))) (Keeps.tail (keeps_portMod _ _ _) (Keeps.refl _))), (Keeps.tail
      (keeps_deliverWr _ _ _ _) (Keeps.tail (keeps_portMod _ _ _) (Keeps.refl _)))])))]))

theorem keeps_mirSet : ∀ x1 x2 x3, Keeps x3 (mirSet x1 x2 x3) := by
  intro x1 x2 x3
  unfold mirSet
  exact (Keeps.upd (Keeps.refl _))

theorem keeps_mirPump : ∀ x1 x2 x3, Keeps x3 (mirPump x1 x2 x3) := by
  intro x1 x2
  induction x2 generalizing x1 with
  | zero => intro x3; exact Keeps.refl _
  | succ k ih =>
    intro x3
    unfold mirPump
    exact (by (try dsimp only); first | (split; exacts [(Keeps.refl _), (Keeps.ite (Keeps.refl _) (Keeps.tail (ih _ _) (Keeps.tail
      (keeps_sendBlocks _ _ _) (Keeps.tail (keeps_mirSet _ _ _) (Keeps.refl _)))))]))

theorem keeps_mirrorSuspend : ∀ x1 x2 x3, Keeps x3 (mirrorSuspend x1 x2 x3) := by
  intro x1 x2 x3
  unfold mirrorSuspend
  exact (Keeps.ite (Keeps.refl _) (Keeps.tail (keeps_portRaise _ _ _ _ _ _) (Keeps.tail (keeps_portMod _ _ _) (Keeps.tail (keeps_mirSet _ _ _)
      (Keeps.tail (keeps_rset _ _ _ _ _) (Keeps.tail (keeps_rset _ _ _ _ _) (Keeps.tail (keeps_rset _ _ _ _ _) (Keeps.refl _))))))))

theorem keeps_mirrorReply : ∀ x1 x2 x3, Keeps x3 (mirrorReply x1 x2 x3) := by
  intro x1 x2 x3
  unfold mirrorReply
  exact (Keeps.ite (Keeps.ite (Keeps.tail (keeps_mirPump _ _ _) (Keeps.tail (keeps_mirSet _ _ _) (Keeps.refl _))) (Keeps.refl _)) (Keeps.tail
      (keeps_mirrorSuspend _ _ _) (Keeps.refl _)))

theorem keeps_deliverBlock : ∀ x1 x2 x3 x4, Keeps x4 (deliverBlock x1 x2 x3 x4) := by
  intro x1 x2 x3 x4
  unfold deliverBlock
  exact (by (try dsimp only); first | (split; exacts [(by (try dsimp only); first | (split; exacts [(Keeps.tail (keeps_launch _ _) (Keeps.refl _)),
      (Keeps.tail (keeps_portEvt _ _ _) (Keeps.refl _))])), (by (try dsimp only); first | (split; exacts [(Keeps.ite (Keeps.tail (keeps_launch _ _)
      (Keeps.tail (keeps_outFlowEnd _ _ _ _) (Keeps.refl _))) (Keeps.tail (keeps_portEvt _ _ _) (Keeps.refl _))), (Keeps.tail (keeps_portEvt _ _ _)
      (Keeps.refl _))])), (Keeps.ite (Keeps.tail (keeps_refuseBlock _ _ _ _ _) (Keeps.refl _)) (Keeps.ite (Keeps.tail (keeps_streamBytes _ _ _)
      (Keeps.refl _)) (by (try dsimp only); first | (split; exacts [(Keeps.ite (Keeps.tail (keeps_refuseBlock _ _ _ _ _) (Keeps.refl _)) (Keeps.tail
      (keeps_beginWr _ _ _ _) (Keeps.refl _))), (Keeps.refl _)])))), (Keeps.ite (Keeps.tail (keeps_streamBytes _ _ _) (Keeps.refl _)) (by
      (try dsimp only); first | (split; exacts [(Keeps.ite (Keeps.tail (keeps_beginWr _ _ _ _) (Keeps.refl _)) (Keeps.tail (keeps_mirrorReply _ _ _)
      (Keeps.refl _))), (Keeps.refl _)]))), (Keeps.ite (Keeps.tail (keeps_streamBytes _ _ _) (Keeps.refl _)) (by (try dsimp only); first |
      (split; exacts [(Keeps.ite (Keeps.ite (Keeps.tail (keeps_beginWr _ _ _ _) (Keeps.refl _)) (Keeps.tail (keeps_refuseBlock _ _ _ _ _)
      (Keeps.refl _))) (by (try dsimp only); first | (split; exacts [(Keeps.tail (keeps_launch _ _) (Keeps.tail (keeps_outFlowEnd _ _ _ _)
      (Keeps.refl _))), (Keeps.refl _)]))), (Keeps.refl _)])))]))

theorem keeps_takeBlock : ∀ x1 x2 x3 x4, Keeps x4 (takeBlock x1 x2 x3 x4) := by
  intro x1 x2 x3 x4
  unfold takeBlock
  exact (Keeps.ite (Keeps.tail (keeps_portEvt _ _ _) (Keeps.refl _)) (Keeps.ite (Keeps.ite (Keeps.tail (keeps_portRaise _ _ _ _ _ _) (Keeps.tail
      (keeps_portEvt _ _ _) (Keeps.refl _))) (Keeps.tail (keeps_portEvt _ _ _) (Keeps.refl _))) (Keeps.ite (Keeps.tail (keeps_deliverBlock _ _ _ _)
      (Keeps.refl _)) (Keeps.ite (Keeps.tail (keeps_portEvt _ _ _) (Keeps.refl _)) (by (try dsimp only); first | (split; exacts [(Keeps.ite
      (Keeps.tail (keeps_portEvt _ _ _) (Keeps.refl _)) (Keeps.ite (Keeps.tail (keeps_sendBlocks _ _ _) (Keeps.refl _)) (Keeps.tail
      (keeps_portEvt _ _ _) (Keeps.refl _)))), (Keeps.ite (Keeps.tail (keeps_refuseBlock _ _ _ _ _) (Keeps.refl _)) (Keeps.tail
      (keeps_portEvt _ _ _) (Keeps.refl _)))]))))))

theorem keeps_inSeq : ∀ x1 x2 x3 x4, Keeps x4 (inSeq x1 x2 x3 x4) := by
  intro x1 x2 x3 x4
  unfold inSeq
  exact (Keeps.ite (Keeps.tail (keeps_portMod _ _ _) (Keeps.tail (keeps_portMod _ _ _) (Keeps.refl _))) (Keeps.tail (keeps_giveCredit _ _ _)
      (Keeps.tail (keeps_takeBlock _ _ _ _) (Keeps.tail (keeps_portMod _ _ _) (Keeps.refl _)))))

theorem keeps_takeEarly : ∀ x1 x2 x3, Keeps x3 (takeEarly x1 x2 x3) := by
  intro x1 x2
  induction x2 generalizing x1 with
  | zero => intro x3; exact Keeps.refl _
  | succ k ih =>
    intro x3
    unfold takeEarly
    exact (by (try dsimp only); first | (split; exacts [(Keeps.refl _), (Keeps.tail (ih _ _) (Keeps.tail (keeps_inSeq _ _ _ _) (Keeps.tail
      (keeps_portMod _ _ _) (Keeps.refl _))))]))

theorem keeps_dataBlock : ∀ x1 x2 x3 x4 x5, Keeps x5 (dataBlock x1 x2 x3 x4 x5) := by
  intro x1 x2 x3 x4 x5
  unfold dataBlock
  exact (Keeps.ite (Keeps.refl _) (Keeps.ite (Keeps.ite (Keeps.tail (keeps_portDown _ _ _) (Keeps.tail (keeps_sendCtl _ _ _) (Keeps.tail
      (keeps_portEvt _ _ _) (Keeps.tail (keeps_portMod _ _ _) (Keeps.tail (keeps_ackRetry _ _ _) (Keeps.refl _)))))) (Keeps.tail
      (keeps_sendCtl _ _ _) (Keeps.tail (keeps_portEvt _ _ _) (Keeps.tail (keeps_portMod _ _ _) (Keeps.tail (keeps_ackRetry _ _ _)
      (Keeps.refl _)))))) (Keeps.ite (Keeps.tail (keeps_takeEarly _ _ _) (Keeps.tail (keeps_inSeq _ _ _ _) (Keeps.tail (keeps_ackRetry _ _ _)
      (Keeps.refl _)))) (Keeps.ite (Keeps.tail (keeps_ackRetry _ _ _) (Keeps.refl _)) (Keeps.tail (keeps_portMod _ _ _) (Keeps.tail
      (keeps_ackRetry _ _ _) (Keeps.refl _)))))))

theorem keeps_schedFaultComb : ∀ x1 x2 x3, Keeps x3 (schedFaultComb x1 x2 x3) := by
  intro x1 x2 x3
  unfold schedFaultComb
  exact (by (try dsimp only); first | (split; exacts [(Keeps.tail (keeps_schedFault _ _ _) (Keeps.refl _)), (Keeps.refl _)]))

theorem keeps_refuse : ∀ x1 x2 x3 x4 x5, Keeps x5 (refuse x1 x2 x3 x4 x5) := by
  intro x1 x2 x3 x4 x5
  unfold refuse
  exact (Keeps.tail (keeps_schedFaultComb _ _ _) (Keeps.tail (keeps_raise _ _ _) (Keeps.tail (keeps_wrkFault _ _ _ _ _ _) (Keeps.tail
      (keeps_wMod _ _ _) (Keeps.refl _)))))

theorem keeps_thMod : ∀ x1 x2 x3 x4, Keeps x4 (thMod x1 x2 x3 x4) := by
  intro x1 x2 x3 x4
  unfold thMod
  exact (Keeps.tail (keeps_wMod _ _ _) (Keeps.refl _))

theorem keeps_monitor : ∀ x1 x2 x3 x4 x5 x6 x7, Keeps x7 (monitor x1 x2 x3 x4 x5 x6 x7) := by
  intro x1 x2 x3 x4 x5 x6 x7
  unfold monitor
  exact (Keeps.ite (Keeps.refl _) (Keeps.tail (keeps_wMod _ _ _) (Keeps.refl _)))

theorem keeps_portSend : ∀ x1 x2 x3 x4, Keeps x4 (portSend x1 x2 x3 x4) := by
  intro x1 x2 x3 x4
  unfold portSend
  exact (Keeps.tail (keeps_swSet _ _ _ _) (Keeps.refl _))

theorem keeps_flushOut : ∀ x1 x2 x3, Keeps x3 (flushOut x1 x2 x3) := by
  intro x1 x2
  induction x2 generalizing x1 with
  | zero => intro x3; exact Keeps.refl _
  | succ k ih =>
    intro x3
    unfold flushOut
    exact (by (try dsimp only); first | (split; exacts [(Keeps.refl _), (Keeps.ite (Keeps.tail (ih _ _) (Keeps.tail (keeps_portSend _ _ _ _)
      (Keeps.tail (keeps_wMod _ _ _) (Keeps.refl _)))) (Keeps.refl _))]))

theorem keeps_opDrain : ∀ x1 x2 x3 x4 x5 x6, Keeps x6 (opDrain x1 x2 x3 x4 x5 x6) := by
  intro x1 x2 x3 x4 x5 x6
  unfold opDrain
  exact (Keeps.ite (Keeps.tail (keeps_addrFault _ _ _ _ _) (Keeps.refl _)) (Keeps.ite (Keeps.tail (keeps_lsWrite _ _ _ _) (Keeps.tail
      (keeps_thMod _ _ _ _) (Keeps.tail (keeps_wMod _ _ _) (Keeps.refl _)))) (Keeps.tail (keeps_flushOut _ _ _) (Keeps.tail (keeps_wMod _ _ _)
      (Keeps.fold (fun _ _ => (Keeps.tail (keeps_monitor _ _ _ _ _ _ _) (Keeps.refl _))) (Keeps.tail (keeps_thMod _ _ _ _) (Keeps.tail
      (keeps_wMod _ _ _) (Keeps.refl _))))))))

theorem keeps_tnReports : ∀ x1 x2 x3 x4 x5 x6, Keeps x6 (tnReports x1 x2 x3 x4 x5 x6) := by
  intro x1 x2 x3 x4 x5 x6
  unfold tnReports
  exact (Keeps.fold (fun _ _ => (Keeps.tail (keeps_wrkFault _ _ _ _ _ _) (Keeps.tail (keeps_bump _ _ _ _ _ _) (Keeps.tail (keeps_raise _ _ _)
      (Keeps.refl _))))) (Keeps.refl _))

theorem keeps_mmaRun : ∀ x1 x2 x3 x4 x5 x6 x7, Keeps x7 (mmaRun x1 x2 x3 x4 x5 x6 x7) := by
  intro x1 x2 x3 x4 x5 x6 x7
  unfold mmaRun
  exact (Keeps.tail (keeps_tnReports _ _ _ _ _ _) (Keeps.tail (keeps_wSet _ _ _) (Keeps.refl _)))

theorem keeps_feedMma : ∀ x1 x2 x3, Keeps x3 (feedMma x1 x2 x3) := by
  intro x1 x2
  induction x2 generalizing x1 with
  | zero => intro x3; exact Keeps.refl _
  | succ k ih =>
    intro x3
    unfold feedMma
    exact (by (try dsimp only); first | (split; exacts [(Keeps.refl _), (Keeps.ite (Keeps.tail (keeps_mmaRun _ _ _ _ _ _ _) (Keeps.refl _)) (by
      (try dsimp only); first | (split; exacts [(Keeps.refl _), (Keeps.tail (ih _ _) (Keeps.tail (keeps_wSet _ _ _) (Keeps.refl _)))])))]))

theorem keeps_matrixGroup : ∀ x1 x2 x3 x4 x5 x6 x7, Keeps x7 (matrixGroup x1 x2 x3 x4 x5 x6 x7) := by
  intro x1 x2 x3 x4 x5 x6 x7
  unfold matrixGroup
  exact (by (try dsimp only); first | (split; exacts [(Keeps.refl _), (Keeps.tail (keeps_opDrain _ _ _ _ _ _) (Keeps.refl _)), (Keeps.tail
      (keeps_wMod _ _ _) (Keeps.refl _)), (Keeps.ite (Keeps.ite (Keeps.tail (keeps_addrFault _ _ _ _ _) (Keeps.refl _)) (Keeps.tail
      (keeps_mmaRun _ _ _ _ _ _ _) (Keeps.tail (keeps_wMod _ _ _) (Keeps.refl _)))) (Keeps.tail (keeps_feedMma _ _ _) (Keeps.tail (keeps_wMod _ _ _)
      (Keeps.refl _))))]))

theorem keeps_sendVO : ∀ x1 x2 x3 x4 x5 x6 x7, Keeps x7 (sendVO x1 x2 x3 x4 x5 x6 x7) := by
  intro x1 x2 x3 x4 x5 x6 x7
  unfold sendVO
  exact (Keeps.tail (keeps_portSend _ _ _ _) (Keeps.tail (keeps_monitor _ _ _ _ _ _ _) (Keeps.refl _)))

theorem keeps_vectorGroup : ∀ x1 x2 x3 x4 x5 x6 x7 x8 x9, Keeps x9 (vectorGroup x1 x2 x3 x4 x5 x6 x7 x8 x9) := by
  intro x1 x2 x3 x4 x5 x6 x7 x8 x9
  unfold vectorGroup
  exact (Keeps.ite (Keeps.refl _) (Keeps.ite (Keeps.tail (keeps_addrFault _ _ _ _ _) (Keeps.refl _)) (Keeps.ite (Keeps.ite (Keeps.tail
      (keeps_thMod _ _ _ _) (Keeps.ite (Keeps.tail (keeps_wMod _ _ _) (Keeps.ite (Keeps.refl _) (Keeps.tail (keeps_thMod _ _ _ _) (Keeps.refl _))))
      (Keeps.ite (Keeps.refl _) (Keeps.tail (keeps_thMod _ _ _ _) (Keeps.refl _))))) (Keeps.tail (keeps_thMod _ _ _ _) (Keeps.ite (Keeps.tail
      (keeps_wMod _ _ _) (Keeps.ite (Keeps.refl _) (Keeps.tail (keeps_thMod _ _ _ _) (Keeps.refl _)))) (Keeps.ite (Keeps.refl _) (Keeps.tail
      (keeps_thMod _ _ _ _) (Keeps.refl _)))))) (Keeps.ite (Keeps.tail (keeps_thMod _ _ _ _) (Keeps.ite (Keeps.tail (keeps_wMod _ _ _) (Keeps.ite
      (Keeps.refl _) (Keeps.tail (keeps_thMod _ _ _ _) (Keeps.refl _)))) (Keeps.ite (Keeps.refl _) (Keeps.tail (keeps_thMod _ _ _ _)
      (Keeps.refl _))))) (Keeps.ite (Keeps.tail (keeps_lsWrite _ _ _ _) (Keeps.ite (Keeps.tail (keeps_wMod _ _ _) (Keeps.ite (Keeps.refl _)
      (Keeps.tail (keeps_thMod _ _ _ _) (Keeps.refl _)))) (Keeps.ite (Keeps.refl _) (Keeps.tail (keeps_thMod _ _ _ _) (Keeps.refl _))))) (Keeps.tail
      (keeps_sendVO _ _ _ _ _ _ _) (Keeps.ite (Keeps.tail (keeps_wMod _ _ _) (Keeps.ite (Keeps.refl _) (Keeps.tail (keeps_thMod _ _ _ _)
      (Keeps.refl _)))) (Keeps.ite (Keeps.refl _) (Keeps.tail (keeps_thMod _ _ _ _) (Keeps.refl _))))))))))

theorem keeps_scalarGroup : ∀ x1 x2 x3 x4 x5 x6, Keeps x6 (scalarGroup x1 x2 x3 x4 x5 x6) := by
  intro x1 x2 x3 x4 x5 x6
  unfold scalarGroup
  exact (Keeps.ite (Keeps.refl _) (Keeps.ite (Keeps.ite (Keeps.tail (keeps_portSend _ _ _ _) (Keeps.tail (keeps_thMod _ _ _ _) (Keeps.refl _)))
      (Keeps.tail (keeps_thMod _ _ _ _) (Keeps.refl _))) (Keeps.ite (Keeps.ite (Keeps.tail (keeps_portSend _ _ _ _) (Keeps.tail
      (keeps_thMod _ _ _ _) (Keeps.refl _))) (Keeps.tail (keeps_thMod _ _ _ _) (Keeps.refl _))) (Keeps.ite (Keeps.tail (keeps_portSend _ _ _ _)
      (Keeps.tail (keeps_thMod _ _ _ _) (Keeps.refl _))) (Keeps.tail (keeps_thMod _ _ _ _) (Keeps.refl _))))))

theorem keeps_postAdd : ∀ x1 x2 x3 x4 x5, Keeps x5 (postAdd x1 x2 x3 x4 x5) := by
  intro x1 x2 x3 x4 x5
  unfold postAdd
  exact (Keeps.ite (Keeps.tail (keeps_thMod _ _ _ _) (Keeps.refl _)) (Keeps.refl _))

theorem keeps_takeTags : ∀ x1 x2, Keeps x2 (takeTags x1 x2) := by
  intro x1 x2
  unfold takeTags
  exact (Keeps.upd (Keeps.refl _))

theorem keeps_opCm : ∀ x1 x2 x3 x4 x5 x6 x7 x8, Keeps x8 (opCm x1 x2 x3 x4 x5 x6 x7 x8) := by
  intro x1 x2 x3 x4 x5 x6 x7 x8
  unfold opCm
  exact (Keeps.ite (Keeps.tail (keeps_addrFault _ _ _ _ _) (Keeps.refl _)) (Keeps.ite (Keeps.tail (keeps_addrFault _ _ _ _ _) (Keeps.refl _))
      (Keeps.ite (by (try dsimp only); first | (split; exacts [(Keeps.tail (keeps_lossOverrun _ _ _ _) (Keeps.tail (keeps_wrkFault _ _ _ _ _ _)
      (Keeps.refl _))), (Keeps.refl _)])) (Keeps.tail (keeps_postAdd _ _ _ _ _) (Keeps.ite (Keeps.fold (fun _ _ => (by (try dsimp only); first |
      (split; exacts [(Keeps.refl _), (Keeps.tail (keeps_cmToLs _ _ _ _ _ _) (Keeps.refl _))]))) (Keeps.tail (keeps_takeTags _ _) (Keeps.tail
      (keeps_wMod _ _ _) (Keeps.tail (keeps_chargeComb _ _ _) (Keeps.refl _))))) (Keeps.fold (fun _ _ => (Keeps.tail (keeps_cmWriteBlock _ _ _ _)
      (Keeps.refl _))) (Keeps.tail (keeps_takeTags _ _) (Keeps.tail (keeps_wMod _ _ _) (Keeps.tail (keeps_chargeComb _ _ _) (Keeps.refl _))))))))))

theorem keeps_memoryGroup : ∀ x1 x2 x3 x4 x5 x6 x7 x8 x9, Keeps x9 (memoryGroup x1 x2 x3 x4 x5 x6 x7 x8 x9) := by
  intro x1 x2 x3 x4 x5 x6 x7 x8 x9
  unfold memoryGroup
  exact (by (try dsimp only); first | (split; exacts [(Keeps.refl _), (Keeps.ite (Keeps.tail (keeps_addrFault _ _ _ _ _) (Keeps.refl _)) (Keeps.tail
      (keeps_postAdd _ _ _ _ _) (Keeps.tail (keeps_thMod _ _ _ _) (Keeps.refl _)))), (Keeps.ite (Keeps.tail (keeps_addrFault _ _ _ _ _)
      (Keeps.refl _)) (Keeps.tail (keeps_postAdd _ _ _ _ _) (Keeps.tail (keeps_lsWrite _ _ _ _) (Keeps.refl _)))), (Keeps.ite (Keeps.tail
      (keeps_addrFault _ _ _ _ _) (Keeps.refl _)) (Keeps.tail (keeps_postAdd _ _ _ _ _) (Keeps.tail (keeps_thMod _ _ _ _) (Keeps.refl _)))),
      (Keeps.ite (Keeps.tail (keeps_addrFault _ _ _ _ _) (Keeps.refl _)) (Keeps.tail (keeps_postAdd _ _ _ _ _) (Keeps.tail (keeps_lsWrite _ _ _ _)
      (Keeps.refl _)))), (Keeps.tail (keeps_opCm _ _ _ _ _ _ _ _) (Keeps.refl _)), (Keeps.tail (keeps_opCm _ _ _ _ _ _ _ _) (Keeps.refl _)),
      (Keeps.ite (Keeps.tail (keeps_addrFault _ _ _ _ _) (Keeps.refl _)) (Keeps.tail (keeps_postAdd _ _ _ _ _) (Keeps.tail (keeps_lsWrite _ _ _ _)
      (Keeps.refl _)))), (Keeps.tail (keeps_postAdd _ _ _ _ _) (Keeps.tail (keeps_wMod _ _ _) (Keeps.refl _))), (Keeps.ite (Keeps.tail
      (keeps_addrFault _ _ _ _ _) (Keeps.refl _)) (Keeps.tail (keeps_postAdd _ _ _ _ _) (Keeps.tail (keeps_wMod _ _ _) (Keeps.refl _))))]))

theorem keeps_steerMove : ∀ x1 x2 x3 x4 x5 x6 x7, Keeps x7 (steerMove x1 x2 x3 x4 x5 x6 x7) := by
  intro x1 x2 x3 x4 x5 x6 x7
  unfold steerMove
  exact (by (try dsimp only); first | (split; exacts [(Keeps.refl _), (Keeps.ite (Keeps.tail (keeps_portSend _ _ _ _) (Keeps.tail (keeps_wMod _ _ _)
      (Keeps.refl _))) (Keeps.tail (keeps_sendVO _ _ _ _ _ _ _) (Keeps.tail (keeps_wMod _ _ _) (Keeps.refl _))))]))

theorem keeps_steerGroup : ∀ x1 x2 x3 x4 x5, Keeps x5 (steerGroup x1 x2 x3 x4 x5) := by
  intro x1 x2 x3 x4 x5
  unfold steerGroup
  exact (Keeps.ite (Keeps.tail (keeps_portSend _ _ _ _) (by (try dsimp only); first | (split; exacts [(Keeps.tail (keeps_steerMove _ _ _ _ _ _ _)
      (Keeps.tail (keeps_wMod _ _ _) (Keeps.refl _))), (Keeps.tail (keeps_steerMove _ _ _ _ _ _ _) (Keeps.tail (keeps_wMod _ _ _) (Keeps.refl _))),
      (Keeps.tail (keeps_steerMove _ _ _ _ _ _ _) (Keeps.refl _)), (Keeps.ite (Keeps.tail (keeps_steerMove _ _ _ _ _ _ _) (Keeps.tail
      (keeps_wMod _ _ _) (Keeps.refl _))) (Keeps.tail (keeps_wMod _ _ _) (Keeps.tail (keeps_wMod _ _ _) (Keeps.refl _)))), (Keeps.tail
      (keeps_portSend _ _ _ _) (Keeps.tail (keeps_wMod _ _ _) (Keeps.refl _))), (Keeps.refl _)]))) (by (try dsimp only); first |
      (split; exacts [(Keeps.tail (keeps_steerMove _ _ _ _ _ _ _) (Keeps.tail (keeps_wMod _ _ _) (Keeps.refl _))), (Keeps.tail
      (keeps_steerMove _ _ _ _ _ _ _) (Keeps.tail (keeps_wMod _ _ _) (Keeps.refl _))), (Keeps.tail (keeps_steerMove _ _ _ _ _ _ _) (Keeps.refl _)),
      (Keeps.ite (Keeps.tail (keeps_steerMove _ _ _ _ _ _ _) (Keeps.tail (keeps_wMod _ _ _) (Keeps.refl _))) (Keeps.tail (keeps_wMod _ _ _)
      (Keeps.tail (keeps_wMod _ _ _) (Keeps.refl _)))), (Keeps.tail (keeps_portSend _ _ _ _) (Keeps.tail (keeps_wMod _ _ _) (Keeps.refl _))),
      (Keeps.refl _)])))

theorem keeps_objSet : ∀ x1 x2 x3 x4, Keeps x4 (objSet x1 x2 x3 x4) := by
  intro x1 x2 x3 x4
  unfold objSet
  exact (Keeps.upd (Keeps.refl _))

theorem keeps_wakeAll : ∀ x1 x2 x3, Keeps x3 (wakeAll x1 x2 x3) := by
  intro x1 x2 x3
  unfold wakeAll
  exact (Keeps.fold (fun _ _ => (Keeps.tail (keeps_wake _ _ _ _) (Keeps.refl _))) (Keeps.refl _))

theorem keeps_signal : ∀ x1 x2 x3 x4, Keeps x4 (signal x1 x2 x3 x4) := by
  intro x1 x2 x3 x4
  unfold signal
  exact (Keeps.tail (keeps_wakeAll _ _ _) (Keeps.ite (Keeps.tail (keeps_bump _ _ _ _ _ _) (Keeps.tail (keeps_objSet _ _ _ _) (Keeps.refl _)))
      (Keeps.tail (keeps_objSet _ _ _ _) (Keeps.refl _))))

theorem keeps_timeoutEnd : ∀ x1 x2 x3 x4 x5 x6, Keeps x6 (timeoutEnd x1 x2 x3 x4 x5 x6) := by
  intro x1 x2 x3 x4 x5 x6
  unfold timeoutEnd
  exact (Keeps.tail (keeps_raise _ _ _) (Keeps.tail (keeps_wrkFault _ _ _ _ _ _) (Keeps.ite (Keeps.tail (keeps_bump _ _ _ _ _ _) (Keeps.tail
      (keeps_bump _ _ _ _ _ _) (Keeps.refl _))) (Keeps.tail (keeps_bump _ _ _ _ _ _) (Keeps.refl _)))))

theorem keeps_opWait : ∀ x1 x2 x3 x4 x5 x6, Keeps x6 (opWait x1 x2 x3 x4 x5 x6).2 := by
  intro x1 x2 x3 x4 x5 x6
  unfold opWait
  exact (Keeps.ite2 (Keeps.tail (keeps_wakeAll _ _ _) (Keeps.tail (keeps_objSet _ _ _ _) (Keeps.refl _))) (Keeps.ite2 (Keeps.tail
      (keeps_timeoutEnd _ _ _ _ _ _) (Keeps.tail (keeps_objSet _ _ _ _) (Keeps.refl _))) (Keeps.tail (keeps_thMod _ _ _ _) (Keeps.tail
      (keeps_objSet _ _ _ _) (Keeps.refl _)))))

theorem keeps_opRsig : ∀ x1 x2 x3 x4 x5, Keeps x5 (opRsig x1 x2 x3 x4 x5) := by
  intro x1 x2 x3 x4 x5
  unfold opRsig
  exact (by (try dsimp only); first | (split; exacts [(Keeps.refl _), (Keeps.ite (Keeps.tail (keeps_addrFault _ _ _ _ _) (Keeps.refl _)) (Keeps.tail
      (keeps_launch _ _) (Keeps.tail (keeps_wMod _ _ _) (Keeps.refl _))))]))

theorem keeps_goneFail : ∀ x1 x2 x3 x4, Keeps x4 (goneFail x1 x2 x3 x4) := by
  intro x1 x2 x3 x4
  unfold goneFail
  exact (Keeps.tail (keeps_raise _ _ _) (Keeps.tail (keeps_wrkFault _ _ _ _ _ _) (Keeps.tail (keeps_bump _ _ _ _ _ _) (Keeps.refl _))))

theorem keeps_opSend : ∀ x1 x2 x3 x4 x5 x6, Keeps x6 (opSend x1 x2 x3 x4 x5 x6).2 := by
  intro x1 x2 x3 x4 x5 x6
  unfold opSend
  exact (by (try dsimp only); first | (split; exacts [(Keeps.refl _), (Keeps.ite2 (Keeps.tail (keeps_addrFault _ _ _ _ _) (Keeps.refl _))
      (Keeps.ite2 (Keeps.tail (keeps_goneFail _ _ _ _) (Keeps.refl _)) (Keeps.ite2 (Keeps.tail (keeps_sendNow _ _ _ _ _) (Keeps.refl _)) (Keeps.ite2
      (Keeps.tail (keeps_timeoutEnd _ _ _ _ _ _) (Keeps.refl _)) (Keeps.tail (keeps_thMod _ _ _ _) (Keeps.refl _))))))]))

theorem keeps_syncGroup : ∀ x1 x2 x3 x4 x5 x6, Keeps x6 (syncGroup x1 x2 x3 x4 x5 x6).2 := by
  intro x1 x2 x3 x4 x5 x6
  unfold syncGroup
  exact (by (try dsimp only); first | (split; exacts [(Keeps.tail (keeps_signal _ _ _ _) (Keeps.refl _)), (Keeps.tail (keeps_opWait _ _ _ _ _ _)
      (Keeps.refl _)), (Keeps.tail (keeps_opRsig _ _ _ _ _) (Keeps.refl _)), (Keeps.tail (keeps_opSend _ _ _ _ _ _) (Keeps.refl _)), (by
      (try dsimp only); first | (split; exacts [(Keeps.refl _), (Keeps.tail (keeps_thMod _ _ _ _) (Keeps.refl _))])), (Keeps.refl _)]))

theorem keeps_fireGroups : ∀ x1 x2 x3 x4 x5 x6 x7, Keeps x7 (fireGroups x1 x2 x3 x4 x5 x6 x7).2 := by
  intro x1 x2 x3 x4 x5 x6 x7
  unfold fireGroups
  exact (Keeps.tail (keeps_syncGroup _ _ _ _ _ _) (by (try dsimp only); first | (split; exacts [(Keeps.tail (keeps_creditBack _ _ _) (Keeps.tail
      (keeps_steerGroup _ _ _ _ _) (Keeps.tail (keeps_memoryGroup _ _ _ _ _ _ _ _ _) (Keeps.tail (keeps_scalarGroup _ _ _ _ _ _) (Keeps.tail
      (keeps_vectorGroup _ _ _ _ _ _ _ _ _) (Keeps.tail (keeps_matrixGroup _ _ _ _ _ _ _) (Keeps.tail (keeps_wMod _ _ _) (Keeps.refl _)))))))),
      (Keeps.tail (keeps_steerGroup _ _ _ _ _) (Keeps.tail (keeps_memoryGroup _ _ _ _ _ _ _ _ _) (Keeps.tail (keeps_scalarGroup _ _ _ _ _ _)
      (Keeps.tail (keeps_vectorGroup _ _ _ _ _ _ _ _ _) (Keeps.tail (keeps_matrixGroup _ _ _ _ _ _ _) (Keeps.tail (keeps_wMod _ _ _)
      (Keeps.refl _)))))))])))

theorem keeps_doFire : ∀ x1 x2 x3 x4, Keeps x4 (doFire x1 x2 x3 x4) := by
  intro x1 x2 x3 x4
  unfold doFire
  exact (by (try dsimp only); first | (split; exacts [(Keeps.refl _), (Keeps.tail (keeps_refuse _ _ _ _ _) (Keeps.refl _)), (Keeps.tail
      (keeps_refuse _ _ _ _ _) (Keeps.refl _)), (Keeps.ite (Keeps.tail (keeps_advance _ _ _ _ _) (Keeps.tail (keeps_breakpoint _ _ _ _) (Keeps.tail
      (keeps_countFire _ _ _) (Keeps.refl _)))) (by (try dsimp only); first | (split; exacts [(Keeps.tail (keeps_fireGroups _ _ _ _ _ _ _)
      (Keeps.tail (keeps_breakpoint _ _ _ _) (Keeps.tail (keeps_countFire _ _ _) (Keeps.refl _)))), (Keeps.tail (keeps_advance _ _ _ _ _) (by
      (try dsimp only); first | (split; exacts [(Keeps.tail (keeps_thMod _ _ _ _) (Keeps.tail (keeps_fireGroups _ _ _ _ _ _ _) (Keeps.tail
      (keeps_breakpoint _ _ _ _) (Keeps.tail (keeps_countFire _ _ _) (Keeps.refl _))))), (Keeps.tail (keeps_fireGroups _ _ _ _ _ _ _) (Keeps.tail
      (keeps_breakpoint _ _ _ _) (Keeps.tail (keeps_countFire _ _ _) (Keeps.refl _))))])))])))]))

theorem keeps_dbgStep : ∀ x1 x2 x3, Keeps x3 (dbgStep x1 x2 x3) := by
  intro x1 x2 x3
  unfold dbgStep
  exact (Keeps.ite (by (try dsimp only); first | (split; exacts [(Keeps.tail (keeps_doFire _ _ _ _) (Keeps.refl _)), (Keeps.refl _)])) (Keeps.refl _))

theorem keeps_dbgWrite : ∀ x1 x2 x3, Keeps x3 (dbgWrite x1 x2 x3) := by
  intro x1 x2 x3
  unfold dbgWrite
  exact (Keeps.ite (Keeps.tail (keeps_dbgStep _ _ _) (Keeps.tail (keeps_rset _ _ _ _ _) (Keeps.tail (keeps_rset _ _ _ _ _) (Keeps.tail
      (keeps_rset _ _ _ _ _) (Keeps.tail (keeps_rset _ _ _ _ _) (by (try dsimp only); first | (split; exacts [(Keeps.tail (keeps_ctxMod _ _ _)
      (Keeps.refl _)), (Keeps.refl _)]))))))) (Keeps.tail (keeps_rset _ _ _ _ _) (Keeps.tail (keeps_rset _ _ _ _ _) (Keeps.tail
      (keeps_rset _ _ _ _ _) (Keeps.tail (keeps_rset _ _ _ _ _) (by (try dsimp only); first | (split; exacts [(Keeps.tail (keeps_ctxMod _ _ _)
      (Keeps.refl _)), (Keeps.refl _)])))))))

theorem keeps_warmRequest : ∀ x1, Keeps x1 (warmRequest x1) := by
  intro x1
  unfold warmRequest
  exact (Keeps.ite (Keeps.tail (keeps_coldReset _ _) (Keeps.refl _)) (Keeps.ite (Keeps.refl _) (Keeps.upd (Keeps.refl _))))

theorem keeps_resetHst : ∀ x1 x2, Keeps x2 (resetHst x1 x2) := by
  intro x1 x2
  unfold resetHst
  exact (Keeps.upd (Keeps.refl _))

theorem keeps_deviceReset : ∀ x1, Keeps x1 (deviceReset x1) := by
  intro x1
  unfold deviceReset
  exact (Keeps.tail (keeps_warmRequest _) (Keeps.tail (keeps_resetHst _ _) (Keeps.refl _)))

theorem keeps_discardTraffic : ∀ x1 x2, Keeps x2 (discardTraffic x1 x2) := by
  intro x1 x2
  unfold discardTraffic
  exact (Keeps.upd (Keeps.refl _))

theorem keeps_dmaReport : ∀ x1 x2 x3, Keeps x3 (dmaReport x1 x2 x3) := by
  intro x1 x2 x3
  unfold dmaReport
  exact (Keeps.ite (Keeps.tail (keeps_dmaAfter _ _ _) (Keeps.tail (keeps_post _ _ _) (Keeps.refl _))) (Keeps.tail (keeps_dmMod _ _ _) (Keeps.refl _)))

theorem keeps_dmaAbort : ∀ x1 x2, Keeps x2 (dmaAbort x1 x2) := by
  intro x1 x2
  unfold dmaAbort
  exact (Keeps.ite (Keeps.tail (keeps_dmaReport _ _ _) (Keeps.tail (keeps_dmaDiscard _ _ _) (Keeps.refl _))) (Keeps.refl _))

theorem keeps_dynTags : ∀ x1 x2 x3 x4, Keeps x4 (dynTags x1 x2 x3 x4) := by
  intro x1 x2 x3 x4
  unfold dynTags
  exact (by (try dsimp only); first | (split; exacts [(Keeps.tail (keeps_takeTags _ _) (Keeps.refl _)), (Keeps.refl _)]))

theorem keeps_dmaIssue : ∀ x1 x2 x3, Keeps x3 (dmaIssue x1 x2 x3) := by
  intro x1 x2
  induction x2 generalizing x1 with
  | zero => intro x3; exact Keeps.refl _
  | succ k ih =>
    intro x3
    unfold dmaIssue
    exact (Keeps.ite (Keeps.refl _) (Keeps.ite (Keeps.tail (ih _ _) (Keeps.tail (keeps_dmMod _ _ _) (Keeps.tail (keeps_rset _ _ _ _ _) (Keeps.tail
      (keeps_locWrite _ _ _ _) (Keeps.tail (keeps_dynTags _ _ _ _) (Keeps.refl _)))))) (Keeps.ite (Keeps.refl _) (Keeps.tail (ih _ _) (Keeps.tail
      (keeps_launch _ _) (Keeps.tail (keeps_dmMod _ _ _) (Keeps.upd (Keeps.tail (keeps_dynTags _ _ _ _) (Keeps.refl _)))))))))

theorem keeps_dmaPump : ∀ x1 x2, Keeps x2 (dmaPump x1 x2) := by
  intro x1 x2
  unfold dmaPump
  exact (Keeps.ite (Keeps.tail (keeps_dmaIssue _ _ _) (Keeps.refl _)) (Keeps.refl _))

theorem keeps_dmaAck : ∀ x1 x2 x3 x4, Keeps x4 (dmaAck x1 x2 x3 x4) := by
  intro x1 x2 x3 x4
  unfold dmaAck
  exact (Keeps.ite (Keeps.tail (keeps_dmaPump _ _) (Keeps.tail (keeps_rset _ _ _ _ _) (Keeps.tail (keeps_dmSet _ _ _) (Keeps.refl _))))
      (Keeps.refl _))

theorem keeps_dmaGo : ∀ x1 x2, Keeps x2 (dmaGo x1 x2) := by
  intro x1 x2
  unfold dmaGo
  exact (Keeps.ite (Keeps.refl _) (Keeps.ite (Keeps.tail (keeps_dmMod _ _ _) (Keeps.tail (keeps_rset _ _ _ _ _) (Keeps.tail (keeps_rset _ _ _ _ _)
      (Keeps.refl _)))) (Keeps.ite (Keeps.tail (keeps_rset _ _ _ _ _) (Keeps.refl _)) (Keeps.refl _))))

theorem keeps_dmaStop : ∀ x1 x2, Keeps x2 (dmaStop x1 x2) := by
  intro x1 x2
  unfold dmaStop
  exact (Keeps.ite (Keeps.tail (keeps_rset _ _ _ _ _) (Keeps.refl _)) (Keeps.refl _))

theorem keeps_dmaResume : ∀ x1 x2, Keeps x2 (dmaResume x1 x2) := by
  intro x1 x2
  unfold dmaResume
  exact (Keeps.ite (Keeps.refl _) (Keeps.ite (Keeps.tail (keeps_dmMod _ _ _) (Keeps.tail (keeps_rset _ _ _ _ _) (Keeps.tail (keeps_rset _ _ _ _ _)
      (Keeps.refl _)))) (Keeps.tail (keeps_dmaPump _ _) (Keeps.tail (keeps_rset _ _ _ _ _) (Keeps.tail (keeps_rset _ _ _ _ _) (Keeps.refl _))))))

theorem keeps_dmaSkip : ∀ x1 x2, Keeps x2 (dmaSkip x1 x2) := by
  intro x1 x2
  unfold dmaSkip
  exact (Keeps.ite (Keeps.tail (keeps_dmaAbort _ _) (Keeps.refl _)) (Keeps.ite (Keeps.tail (keeps_dmaReport _ _ _) (Keeps.tail
      (keeps_dmaDiscard _ _ _) (Keeps.refl _))) (Keeps.refl _)))

theorem keeps_dmaStartPresets : ∀ x1 x2, Keeps x2 (dmaStartPresets x1 x2) := by
  intro x1 x2
  unfold dmaStartPresets
  exact (Keeps.ite (Keeps.tail (keeps_dmaPreset _ _ _ _) (Keeps.refl _)) (Keeps.refl _))

theorem keeps_dmaCtrl : ∀ x1 x2 x3, Keeps x3 (dmaCtrl x1 x2 x3) := by
  intro x1 x2 x3
  unfold dmaCtrl
  exact (by (try dsimp only); first | (split; exacts [(Keeps.tail (keeps_dmaGo _ _) (Keeps.refl _)), (Keeps.tail (keeps_dmaStop _ _)
      (Keeps.refl _)), (Keeps.tail (keeps_dmaResume _ _) (Keeps.refl _)), (Keeps.tail (keeps_dmaSkip _ _) (Keeps.refl _)), (Keeps.tail
      (keeps_dmaAbort _ _) (Keeps.refl _)), (Keeps.ite (Keeps.refl _) (Keeps.tail (keeps_dmaStartPresets _ _) (Keeps.refl _))), (Keeps.refl _)]))

theorem keeps_dmaHalt : ∀ x1 x2 x3 x4 x5 x6 x7, Keeps x7 (dmaHalt x1 x2 x3 x4 x5 x6 x7) := by
  intro x1 x2 x3 x4 x5 x6 x7
  unfold dmaHalt
  exact (Keeps.tail (keeps_dmMod _ _ _) (Keeps.tail (keeps_raise _ _ _) (Keeps.tail (keeps_rset _ _ _ _ _) (Keeps.tail (keeps_bump _ _ _ _ _ _)
      (Keeps.tail (keeps_dmaDiscard _ _ _) (Keeps.tail (keeps_rset _ _ _ _ _) (Keeps.tail (keeps_rset _ _ _ _ _) (Keeps.tail (keeps_rset _ _ _ _ _)
      (Keeps.tail (keeps_rset _ _ _ _ _) (Keeps.tail (keeps_rset _ _ _ _ _) (Keeps.tail (keeps_rset _ _ _ _ _) (Keeps.tail (keeps_rset _ _ _ _ _)
      (Keeps.refl _)))))))))))))

theorem keeps_dmaError : ∀ x1 x2 x3 x4 x5, Keeps x5 (dmaError x1 x2 x3 x4 x5) := by
  intro x1 x2 x3 x4 x5
  unfold dmaError
  exact (Keeps.tail (keeps_dmaHalt _ _ _ _ _ _ _) (Keeps.refl _))

theorem keeps_dmaFlowFail : ∀ x1 x2 x3 x4, Keeps x4 (dmaFlowFail x1 x2 x3 x4) := by
  intro x1 x2 x3 x4
  unfold dmaFlowFail
  exact (Keeps.ite (Keeps.tail (keeps_dmaError _ _ _ _ _) (Keeps.refl _)) (Keeps.refl _))

theorem keeps_dmaRewind : ∀ x1 x2, Keeps x2 (dmaRewind x1 x2) := by
  intro x1 x2
  unfold dmaRewind
  exact (Keeps.fold (fun _ _ => (Keeps.ite (Keeps.fold (fun _ _ => (Keeps.tail (keeps_launch _ _) (Keeps.ite (Keeps.upd (Keeps.refl _))
      (Keeps.refl _)))) (Keeps.refl _)) (Keeps.refl _))) (Keeps.refl _))

theorem keeps_dmaRidge : ∀ x1 x2, Keeps x2 (dmaRidge x1 x2) := by
  intro x1 x2
  unfold dmaRidge
  exact (Keeps.fold (fun _ _ => (Keeps.ite (Keeps.ite (Keeps.tail (keeps_dmaPreset _ _ _ _) (Keeps.refl _)) (Keeps.tail (keeps_dmSet _ _ _)
      (Keeps.refl _))) (Keeps.refl _))) (Keeps.refl _))

theorem keeps_dmaSetPresets : ∀ x1 x2 x3, Keeps x3 (dmaSetPresets x1 x2 x3) := by
  intro x1 x2 x3
  unfold dmaSetPresets
  exact (Keeps.tail (keeps_dmMod _ _ _) (Keeps.refl _))

theorem keeps_dropTag : ∀ x1 x2, KeepsOpt x2 (dropTag x1 x2) := by
  intro x1 x2
  unfold dropTag
  exact KeepsOpt.ite (KeepsOpt.some' (Keeps.tail (keeps_takeTags _ _) (Keeps.refl _))) KeepsOpt.none'

theorem keeps_dropWrite : ∀ x1 x2 x3 x4 x5, Keeps x5 (dropWrite x1 x2 x3 x4 x5) := by
  intro x1 x2 x3 x4 x5
  unfold dropWrite
  exact (Keeps.ite (Keeps.tail (keeps_markBlock _ _ _) (Keeps.tail (keeps_cmWriteBlock _ _ _ _) (Keeps.refl _))) (Keeps.tail
      (keeps_cmWriteBlock _ _ _ _) (Keeps.refl _)))

theorem keeps_dropOverrun : ∀ x1 x2 x3, Keeps x3 (dropOverrun x1 x2 x3) := by
  intro x1 x2 x3
  unfold dropOverrun
  exact (Keeps.tail (keeps_lossOverrun _ _ _ _) (Keeps.refl _))

theorem keeps_dropBlock : ∀ x1 x2 x3 x4 x5 x6 x7, Keeps x7 (dropBlock x1 x2 x3 x4 x5 x6 x7) := by
  intro x1 x2 x3 x4 x5 x6 x7
  unfold dropBlock
  have h := keeps_dropTag x1 x7
  split
  · exact Keeps.tail (keeps_cutBeats _ _ _ _) (Keeps.tail (keeps_wMod _ _ _) (Keeps.refl _))
  · split
    · rename_i t ht
      exact Keeps.tail (keeps_dropWrite _ _ _ _ _) (h t ht)
    · exact keeps_dropOverrun _ _ _

theorem keeps_dropOff : ∀ x1 x2, Keeps x2 (dropOff x1 x2) := by
  intro x1 x2
  unfold dropOff
  exact (Keeps.fold (fun _ _ => (Keeps.tail (keeps_bump _ _ _ _ _ _) (Keeps.refl _))) (Keeps.refl _))

theorem keeps_dropPending : ∀ x1 x2 x3 x4 x5, Keeps x5 (dropPending x1 x2 x3 x4 x5) := by
  intro x1 x2 x3 x4 x5
  unfold dropPending
  have h := keeps_dropTag x1 x5
  split
  · exact Keeps.upd (Keeps.tail (keeps_wMod _ _ _) (Keeps.refl _))
  · split
    · rename_i t ht
      exact Keeps.same (h t ht) rfl rfl rfl
    · exact keeps_dropOverrun _ _ _

theorem keeps_dropSession : ∀ x1 x2, Keeps x2 (dropSession x1 x2) := by
  intro x1 x2
  unfold dropSession
  exact (Keeps.upd (Keeps.refl _))

theorem keeps_dutyTelemetry : ∀ x1 x2, Keeps x2 (dutyTelemetry x1 x2) := by
  intro x1 x2
  unfold dutyTelemetry
  exact (Keeps.tail (keeps_rset _ _ _ _ _) (Keeps.tail (keeps_rset _ _ _ _ _) (Keeps.tail (keeps_rset _ _ _ _ _) (Keeps.tail (keeps_rset _ _ _ _ _)
      (Keeps.tail (keeps_rset _ _ _ _ _) (Keeps.tail (keeps_rset _ _ _ _ _) (Keeps.ite (Keeps.tail (keeps_healthSet _ _ _) (Keeps.upd (Keeps.ite
      (Keeps.tail (keeps_rset _ _ _ _ _) (Keeps.ite (Keeps.tail (keeps_rset _ _ _ _ _) (Keeps.refl _)) (Keeps.refl _))) (Keeps.ite (Keeps.tail
      (keeps_rset _ _ _ _ _) (Keeps.refl _)) (Keeps.refl _))))) (Keeps.upd (Keeps.ite (Keeps.tail (keeps_rset _ _ _ _ _) (Keeps.ite (Keeps.tail
      (keeps_rset _ _ _ _ _) (Keeps.refl _)) (Keeps.refl _))) (Keeps.ite (Keeps.tail (keeps_rset _ _ _ _ _) (Keeps.refl _)) (Keeps.refl _)))))))))))

theorem keeps_dutyStandby : ∀ x1 x2, Keeps x2 (dutyStandby x1 x2) := by
  intro x1 x2
  unfold dutyStandby
  exact (by (try dsimp only); first | (split; exacts [(Keeps.upd (Keeps.refl _)), (Keeps.refl _)]))

theorem keeps_takeInbox : ∀ x1, Keeps x1 (takeInbox x1) := by
  intro x1
  unfold takeInbox
  exact (Keeps.fold (fun _ _ => (Keeps.ite (Keeps.tail (keeps_cmdDone _ _ _ _ _) (Keeps.refl _)) (Keeps.upd (Keeps.refl _)))) (Keeps.upd
      (Keeps.refl _)))

theorem keeps_dutyRegions : ∀ x1, Keeps x1 (dutyRegions x1) := by
  intro x1
  unfold dutyRegions
  exact (Keeps.upd (Keeps.refl _))

theorem keeps_leaveService : ∀ x1 x2 x3, Keeps x3 (leaveService x1 x2 x3) := by
  intro x1 x2 x3
  unfold leaveService
  exact (by (try dsimp only); first | (split; exacts [(Keeps.refl _), (Keeps.tail (keeps_pcMod _ _ _) (Keeps.refl _))]))

theorem keeps_handOver : ∀ x1 x2 x3 x4 x5, Keeps x5 (handOver x1 x2 x3 x4 x5) := by
  intro x1 x2 x3 x4 x5
  unfold handOver
  exact (Keeps.tail (keeps_enterService _ _ _) (Keeps.tail (keeps_pcMod _ _ _) (Keeps.tail (keeps_leaveService _ _ _) (Keeps.refl _))))

theorem keeps_swap : ∀ x1 x2, Keeps x2 (swap x1 x2) := by
  intro x1 x2
  unfold swap
  exact (by (try dsimp only); first | (split; exacts [(Keeps.tail (keeps_pcMod _ _ _) (Keeps.tail (keeps_pcMod _ _ _) (by (try dsimp only); first |
      (split; exacts [(Keeps.tail (keeps_rset _ _ _ _ _) (Keeps.tail (keeps_rset _ _ _ _ _) (Keeps.tail (keeps_mapSeq _ _) (Keeps.refl _)))),
      (Keeps.refl _)])))), (Keeps.ite (Keeps.tail (keeps_pcMod _ _ _) (by (try dsimp only); first | (split; exacts [(Keeps.tail
      (keeps_rset _ _ _ _ _) (Keeps.tail (keeps_rset _ _ _ _ _) (Keeps.tail (keeps_mapSeq _ _) (Keeps.refl _)))), (Keeps.refl _)]))) (by
      (try dsimp only); first | (split; exacts [(by (try dsimp only); first | (split; exacts [(Keeps.tail (keeps_rset _ _ _ _ _) (Keeps.tail
      (keeps_rset _ _ _ _ _) (Keeps.tail (keeps_mapSeq _ _) (Keeps.refl _)))), (Keeps.refl _)])), (Keeps.tail (keeps_handOver _ _ _ _ _) (Keeps.tail
      (keeps_pcMod _ _ _) (by (try dsimp only); first | (split; exacts [(Keeps.tail (keeps_rset _ _ _ _ _) (Keeps.tail (keeps_rset _ _ _ _ _)
      (Keeps.tail (keeps_mapSeq _ _) (Keeps.refl _)))), (Keeps.refl _)]))))])))]))

theorem keeps_swapsAtTick : ∀ x1, Keeps x1 (swapsAtTick x1) := by
  intro x1
  unfold swapsAtTick
  exact (Keeps.fold (fun _ _ => (Keeps.tail (keeps_swap _ _) (Keeps.refl _))) (Keeps.refl _))

theorem keeps_holdTimeout : ∀ x1 x2, Keeps x2 (holdTimeout x1 x2) := by
  intro x1 x2
  unfold holdTimeout
  exact (Keeps.ite (Keeps.tail (keeps_askReset _ _ _) (Keeps.refl _)) (Keeps.refl _))

theorem keeps_dutyHolds : ∀ x1, Keeps x1 (dutyHolds x1) := by
  intro x1
  unfold dutyHolds
  exact (Keeps.fold (fun _ _ => (Keeps.tail (keeps_holdTimeout _ _) (Keeps.refl _))) (Keeps.fold (fun _ _ => (Keeps.ite (Keeps.tail
      (keeps_hold _ _ _ _) (Keeps.tail (keeps_ctxMod _ _ _) (Keeps.refl _))) (Keeps.refl _))) (Keeps.refl _)))

theorem keeps_dutyRecords : ∀ x1, Keeps x1 (dutyRecords x1) := by
  intro x1
  unfold dutyRecords
  exact (Keeps.tail (keeps_acceptAll _) (Keeps.fold (fun _ _ => (by (try dsimp only); first | (split; exacts [(Keeps.tail (keeps_raise _ _ _)
      (Keeps.tail (keeps_ctxMod _ _ _) (Keeps.refl _))), (Keeps.refl _)]))) (Keeps.refl _)))

theorem keeps_makeMoves : ∀ x1 x2, Keeps x2 (makeMoves x1 x2) := by
  intro x1 x2
  unfold makeMoves
  exact (Keeps.fold (fun _ _ => (Keeps.ite (Keeps.tail (keeps_fenceMove _ _ _) (Keeps.refl _)) (Keeps.refl _))) (Keeps.refl _))

theorem keeps_movesAtTick : ∀ x1, Keeps x1 (movesAtTick x1) := by
  intro x1
  unfold movesAtTick
  exact (Keeps.tail (keeps_makeMoves _ _) (Keeps.refl _))

theorem keeps_recordAdd : ∀ x1 x2, Keeps x2 (recordAdd x1 x2) := by
  intro x1 x2
  unfold recordAdd
  exact (Keeps.ite (Keeps.tail (keeps_raise _ _ _) (Keeps.refl _)) (Keeps.tail (keeps_raise _ _ _) (Keeps.tail (keeps_rset _ _ _ _ _) (Keeps.tail
      (keeps_bump _ _ _ _ _ _) (Keeps.upd (Keeps.refl _))))))

theorem keeps_loseSpare : ∀ x1 x2 x3, Keeps x3 (loseSpare x1 x2 x3) := by
  intro x1 x2 x3
  unfold loseSpare
  exact (Keeps.tail (keeps_degrade _ _) (Keeps.tail (keeps_writeRmap _ _) (Keeps.tail (keeps_pcMod _ _ _) (Keeps.ite (Keeps.refl _) (Keeps.tail
      (keeps_recordAdd _ _) (Keeps.refl _))))))

theorem keeps_fenceWorker : ∀ x1 x2 x3, Keeps x3 (fenceWorker x1 x2 x3) := by
  intro x1 x2 x3
  unfold fenceWorker
  exact (Keeps.ite (Keeps.refl _) (by (try dsimp only); first | (split; exacts [(Keeps.ite (Keeps.upd (Keeps.tail (keeps_combState _ _) (Keeps.tail
      (keeps_mapSeq _ _) (Keeps.upd (by (try dsimp only); first | (split; exacts [(Keeps.tail (keeps_enterService _ _ _) (Keeps.tail
      (keeps_pcMod _ _ _) (Keeps.tail (keeps_leaveService _ _ _) (Keeps.ite (Keeps.refl _) (Keeps.tail (keeps_recordAdd _ _) (Keeps.refl _)))))),
      (Keeps.tail (keeps_pcMod _ _ _) (Keeps.tail (keeps_leaveService _ _ _) (Keeps.ite (Keeps.refl _) (Keeps.tail (keeps_recordAdd _ _)
      (Keeps.refl _)))))])))))) (Keeps.tail (keeps_combState _ _) (Keeps.tail (keeps_mapSeq _ _) (Keeps.upd (by (try dsimp only); first |
      (split; exacts [(Keeps.tail (keeps_enterService _ _ _) (Keeps.tail (keeps_pcMod _ _ _) (Keeps.tail (keeps_leaveService _ _ _) (Keeps.ite
      (Keeps.refl _) (Keeps.tail (keeps_recordAdd _ _) (Keeps.refl _)))))), (Keeps.tail (keeps_pcMod _ _ _) (Keeps.tail (keeps_leaveService _ _ _)
      (Keeps.ite (Keeps.refl _) (Keeps.tail (keeps_recordAdd _ _) (Keeps.refl _)))))])))))), (Keeps.ite (Keeps.tail (keeps_loseSpare _ _ _)
      (Keeps.upd (by (try dsimp only); first | (split; exacts [(Keeps.tail (keeps_enterService _ _ _) (Keeps.tail (keeps_pcMod _ _ _) (Keeps.tail
      (keeps_leaveService _ _ _) (Keeps.ite (Keeps.refl _) (Keeps.tail (keeps_recordAdd _ _) (Keeps.refl _)))))), (Keeps.tail (keeps_pcMod _ _ _)
      (Keeps.tail (keeps_leaveService _ _ _) (Keeps.ite (Keeps.refl _) (Keeps.tail (keeps_recordAdd _ _) (Keeps.refl _)))))])))) (Keeps.upd (by
      (try dsimp only); first | (split; exacts [(Keeps.tail (keeps_enterService _ _ _) (Keeps.tail (keeps_pcMod _ _ _) (Keeps.tail
      (keeps_leaveService _ _ _) (Keeps.ite (Keeps.refl _) (Keeps.tail (keeps_recordAdd _ _) (Keeps.refl _)))))), (Keeps.tail (keeps_pcMod _ _ _)
      (Keeps.tail (keeps_leaveService _ _ _) (Keeps.ite (Keeps.refl _) (Keeps.tail (keeps_recordAdd _ _) (Keeps.refl _)))))]))))])))

theorem keeps_suspectReport : ∀ x1 x2 x3 x4 x5, Keeps x5 (suspectReport x1 x2 x3 x4 x5) := by
  intro x1 x2 x3 x4 x5
  unfold suspectReport
  exact (Keeps.fold (fun _ _ => (Keeps.ite (Keeps.refl _) (Keeps.tail (keeps_raise _ _ _) (Keeps.refl _)))) (Keeps.refl _))

theorem keeps_dutyFences : ∀ x1, Keeps x1 (dutyFences x1) := by
  intro x1
  unfold dutyFences
  exact (Keeps.tail (keeps_movesAtTick _) (Keeps.fold (fun _ _ => (Keeps.tail (keeps_fenceWorker _ _ _) (Keeps.tail (keeps_suspectReport _ _ _ _ _)
      (Keeps.refl _)))) (Keeps.upd (Keeps.refl _))))

theorem keeps_sharedFault : ∀ x1 x2, Keeps x2 (sharedFault x1 x2) := by
  intro x1 x2
  unfold sharedFault
  exact (by (try dsimp only); first | (split; exacts [(Keeps.tail (keeps_combFault _ _) (Keeps.refl _)), (Keeps.ite (Keeps.tail
      (keeps_loseSpare _ _ _) (Keeps.refl _)) (Keeps.refl _))]))

theorem keeps_dutyBeats : ∀ x1 x2, Keeps x2 (dutyBeats x1 x2) := by
  intro x1 x2
  unfold dutyBeats
  exact (Keeps.ite (Keeps.refl _) (Keeps.fold (fun _ _ => (Keeps.ite (Keeps.refl _) (Keeps.tail (keeps_sharedFault _ _) (Keeps.refl _)))) (Keeps.upd
      (Keeps.refl _))))

theorem keeps_tripRegions : ∀ x1, Keeps x1 (tripRegions x1) := by
  intro x1
  unfold tripRegions
  exact (Keeps.upd (Keeps.fold (fun _ _ => (Keeps.tail (keeps_rset _ _ _ _ _) (Keeps.tail (keeps_rset _ _ _ _ _) (Keeps.tail (keeps_rset _ _ _ _ _)
      (Keeps.tail (keeps_rset _ _ _ _ _) (Keeps.tail (keeps_rset _ _ _ _ _) (Keeps.refl _))))))) (Keeps.tail (keeps_loseCombs _ _) (Keeps.tail
      (keeps_endSteps _ _) (Keeps.fold (fun _ _ => (Keeps.tail (keeps_dropMoves _ _) (Keeps.refl _))) (Keeps.refl _))))))

theorem keeps_tripNow : ∀ x1, Keeps x1 (tripNow x1) := by
  intro x1
  unfold tripNow
  exact (Keeps.tail (keeps_refreshRegions _) (Keeps.tail (keeps_resetCtxs _ _) (Keeps.tail (keeps_rset _ _ _ _ _) (Keeps.tail (keeps_rset _ _ _ _ _)
      (Keeps.fold (fun _ _ => (Keeps.ite (Keeps.tail (keeps_rset _ _ _ _ _) (Keeps.refl _)) (Keeps.refl _))) (Keeps.tail (keeps_tripRegions _)
      (Keeps.refl _)))))))

theorem keeps_offRecord : ∀ x1 x2, Keeps x2 (offRecord x1 x2) := by
  intro x1 x2
  unfold offRecord
  exact (Keeps.tail (keeps_raise _ _ _) (Keeps.refl _))

theorem keeps_trip : ∀ x1, Keeps x1 (trip x1) := by
  intro x1
  unfold trip
  exact (Keeps.ite (Keeps.refl _) (Keeps.tail (keeps_raise _ _ _) (Keeps.tail (keeps_tripNow _) (Keeps.fold (fun _ _ => (Keeps.tail
      (keeps_offRecord _ _) (Keeps.refl _))) (Keeps.refl _)))))

theorem keeps_dutyCoolant : ∀ x1 x2, Keeps x2 (dutyCoolant x1 x2) := by
  intro x1 x2
  unfold dutyCoolant
  exact (Keeps.ite (Keeps.tail (keeps_trip _) (Keeps.ite (Keeps.upd (Keeps.ite (Keeps.tail (keeps_raise _ _ _) (Keeps.ite (Keeps.tail
      (keeps_raise _ _ _) (Keeps.refl _)) (Keeps.ite (Keeps.tail (keeps_raise _ _ _) (Keeps.refl _)) (Keeps.refl _)))) (Keeps.ite (Keeps.tail
      (keeps_raise _ _ _) (Keeps.refl _)) (Keeps.ite (Keeps.tail (keeps_raise _ _ _) (Keeps.refl _)) (Keeps.refl _))))) (Keeps.ite (Keeps.tail
      (keeps_raise _ _ _) (Keeps.ite (Keeps.tail (keeps_raise _ _ _) (Keeps.refl _)) (Keeps.ite (Keeps.tail (keeps_raise _ _ _) (Keeps.refl _))
      (Keeps.refl _)))) (Keeps.ite (Keeps.tail (keeps_raise _ _ _) (Keeps.refl _)) (Keeps.ite (Keeps.tail (keeps_raise _ _ _) (Keeps.refl _))
      (Keeps.refl _)))))) (Keeps.ite (Keeps.upd (Keeps.ite (Keeps.tail (keeps_raise _ _ _) (Keeps.ite (Keeps.tail (keeps_raise _ _ _)
      (Keeps.refl _)) (Keeps.ite (Keeps.tail (keeps_raise _ _ _) (Keeps.refl _)) (Keeps.refl _)))) (Keeps.ite (Keeps.tail (keeps_raise _ _ _)
      (Keeps.refl _)) (Keeps.ite (Keeps.tail (keeps_raise _ _ _) (Keeps.refl _)) (Keeps.refl _))))) (Keeps.ite (Keeps.tail (keeps_raise _ _ _)
      (Keeps.ite (Keeps.tail (keeps_raise _ _ _) (Keeps.refl _)) (Keeps.ite (Keeps.tail (keeps_raise _ _ _) (Keeps.refl _)) (Keeps.refl _))))
      (Keeps.ite (Keeps.tail (keeps_raise _ _ _) (Keeps.refl _)) (Keeps.ite (Keeps.tail (keeps_raise _ _ _) (Keeps.refl _)) (Keeps.refl _))))))

theorem keeps_dutyInput : ∀ x1 x2, Keeps x2 (dutyInput x1 x2) := by
  intro x1 x2
  unfold dutyInput
  exact (Keeps.ite (Keeps.refl _) (Keeps.tail (keeps_raise _ _ _) (Keeps.refl _)))

theorem keeps_dutyHeat : ∀ x1 x2, Keeps x2 (dutyHeat x1 x2) := by
  intro x1 x2
  unfold dutyHeat
  exact (Keeps.ite (Keeps.tail (keeps_rset _ _ _ _ _) (Keeps.tail (keeps_rset _ _ _ _ _) (Keeps.tail (keeps_rset _ _ _ _ _) (Keeps.upd
      (Keeps.refl _))))) (Keeps.tail (keeps_rset _ _ _ _ _) (Keeps.tail (keeps_rset _ _ _ _ _) (Keeps.upd (Keeps.refl _)))))

theorem keeps_duties : ∀ x1 x2, Keeps x2 (duties x1 x2) := by
  intro x1 x2
  unfold duties
  exact (Keeps.tail (keeps_dutyTelemetry _ _) (Keeps.tail (keeps_dutyStandby _ _) (Keeps.tail (keeps_takeInbox _) (Keeps.tail (keeps_dutyRegions _)
      (Keeps.tail (keeps_swapsAtTick _) (Keeps.tail (keeps_dutyHolds _) (Keeps.tail (keeps_dutyRecords _) (Keeps.tail (keeps_dutyFences _)
      (Keeps.tail (keeps_dutyBeats _ _) (Keeps.tail (keeps_dutyCoolant _ _) (Keeps.tail (keeps_dutyInput _ _) (Keeps.tail (keeps_dutyHeat _ _)
      (Keeps.refl _)))))))))))))

theorem keeps_refuseLocal : ∀ x1 x2 x3 x4, Keeps x4 (refuseLocal x1 x2 x3 x4) := by
  intro x1 x2 x3 x4
  unfold refuseLocal
  exact (Keeps.tail (keeps_launch _ _) (Keeps.tail (keeps_portRaise _ _ _ _ _ _) (Keeps.tail (keeps_portEvt _ _ _) (Keeps.refl _))))

theorem keeps_egressTake : ∀ x1 x2 x3, Keeps x3 (egressTake x1 x2 x3) := by
  intro x1 x2 x3
  unfold egressTake
  exact (Keeps.ite (Keeps.tail (keeps_refuseLocal _ _ _ _) (Keeps.refl _)) (Keeps.ite (Keeps.ite (Keeps.tail (keeps_egressSend _ _ _ _)
      (Keeps.refl _)) (Keeps.tail (keeps_refuseLocal _ _ _ _) (Keeps.refl _))) (Keeps.ite (Keeps.tail (keeps_refuseLocal _ _ _ _) (Keeps.refl _))
      (Keeps.ite (Keeps.tail (keeps_refuseLocal _ _ _ _) (Keeps.refl _)) (Keeps.ite (Keeps.upd (Keeps.refl _)) (Keeps.tail
      (keeps_egressSend _ _ _ _) (Keeps.refl _)))))))

theorem keeps_endAllCmds : ∀ x1, Keeps x1 (endAllCmds x1) := by
  intro x1
  unfold endAllCmds
  exact (Keeps.fold (fun _ _ => (Keeps.tail (keeps_cmdDone _ _ _ _ _) (Keeps.refl _))) (Keeps.upd (Keeps.refl _)))

theorem keeps_endFree : ∀ x1 x2 x3, Keeps x3 (endFree x1 x2 x3) := by
  intro x1 x2 x3
  unfold endFree
  exact (Keeps.tail (keeps_endCmd _ _ _ _ _) (Keeps.updDraw (Keeps.refl _)))

theorem keeps_finishCmd : ∀ x1 x2 x3 x4 x5, Keeps x5 (finishCmd x1 x2 x3 x4 x5) := by
  intro x1 x2 x3 x4 x5
  unfold finishCmd
  exact (by (try dsimp only); first | (split; exacts [(Keeps.tail (keeps_endCmd _ _ _ _ _) (Keeps.refl _)), (Keeps.refl _)]))

theorem keeps_endLoad : ∀ x1 x2 x3 x4, Keeps x4 (endLoad x1 x2 x3 x4) := by
  intro x1 x2 x3 x4
  unfold endLoad
  exact (Keeps.tail (keeps_finishCmd _ _ _ _ _) (Keeps.tail (keeps_ctxMod _ _ _) (Keeps.ite (Keeps.tail (keeps_clearShadows _ _) (Keeps.refl _))
      (Keeps.refl _))))

theorem keeps_movesAtRidge : ∀ x1 x2, Keeps x2 (movesAtRidge x1 x2) := by
  intro x1 x2
  unfold movesAtRidge
  exact (Keeps.tail (keeps_makeMoves _ _) (Keeps.refl _))

theorem keeps_endMoves : ∀ x1 x2, Keeps x2 (endMoves x1 x2) := by
  intro x1 x2
  unfold endMoves
  exact (Keeps.ite (Keeps.refl _) (Keeps.tail (keeps_movesAtRidge _ _) (Keeps.tail (keeps_discardTraffic _ _) (Keeps.refl _))))

theorem keeps_endStage0 : ∀ x1, Keeps x1 (endStage0 x1) := by
  intro x1
  unfold endStage0
  exact (Keeps.tail (keeps_rset _ _ _ _ _) (Keeps.tail (keeps_rset _ _ _ _ _) (Keeps.refl _)))

theorem keeps_openKey : ∀ x1 x2, Keeps x2 (openKey x1 x2) := by
  intro x1 x2
  unfold openKey
  exact (by (try dsimp only); first | (split; exacts [(Keeps.ite (Keeps.refl _) (Keeps.tail (keeps_rset _ _ _ _ _) (Keeps.tail
      (keeps_rset _ _ _ _ _) (Keeps.upd (Keeps.refl _))))), (Keeps.refl _)]))

theorem keeps_endStage1 : ∀ x1 x2, KeepsOpt x2 (endStage1 x1 x2) := by
  intro x1 x2
  unfold endStage1
  exact KeepsOpt.ite (KeepsOpt.some' (Keeps.tail (keeps_openKey _ _) (Keeps.tail (keeps_rset _ _ _ _ _)
    (by
      split
      · exact Keeps.same (Keeps.refl _) rfl rfl rfl
      · exact Keeps.refl _)))) KeepsOpt.none'

theorem keeps_setLife : ∀ x1, Keeps x1 (setLife x1) := by
  intro x1
  unfold setLife
  exact (Keeps.tail (keeps_rset _ _ _ _ _) (Keeps.tail (keeps_rset _ _ _ _ _) (Keeps.ite (Keeps.refl _) (Keeps.tail (keeps_rset _ _ _ _ _)
      (Keeps.refl _)))))

theorem keeps_eraseFlash : ∀ x1, Keeps x1 (eraseFlash x1) := by
  intro x1
  unfold eraseFlash
  exact (Keeps.upd (Keeps.refl _))

theorem keeps_resumeReturn : ∀ x1, Keeps x1 (resumeReturn x1) := by
  intro x1
  unfold resumeReturn
  exact (Keeps.ite (Keeps.tail (keeps_eraseFlash _) (Keeps.ite (Keeps.tail (keeps_raise _ _ _) (Keeps.tail (keeps_setLife _) (Keeps.tail
      (keeps_burnLife _) (Keeps.refl _)))) (Keeps.refl _))) (Keeps.ite (Keeps.tail (keeps_raise _ _ _) (Keeps.tail (keeps_setLife _) (Keeps.tail
      (keeps_burnLife _) (Keeps.refl _)))) (Keeps.refl _)))

theorem keeps_endStage3 : ∀ x1 x2, KeepsOpt x2 (endStage3 x1 x2) := by
  intro x1 x2
  unfold endStage3
  exact KeepsOpt.ite KeepsOpt.none' (KeepsOpt.some' (Keeps.tail (keeps_applyKnown _) (Keeps.tail (keeps_rset _ _ _ _ _)
    (Keeps.tail (keeps_rset _ _ _ _ _) (Keeps.tail (keeps_rset _ _ _ _ _) (Keeps.tail (keeps_checkSeal _ _) (Keeps.tail (keeps_resumeReturn _) (Keeps.tail (keeps_bump _ _ _ _ _ _)
      (Keeps.ite (Keeps.tail (keeps_rset _ _ _ _ _) (Keeps.refl _))
        (Keeps.tail (keeps_raise _ _ _) (Keeps.tail (keeps_rset _ _ _ _ _) (Keeps.same (Keeps.refl _) rfl rfl rfl))))))))))))

theorem keeps_mergeTests : ∀ x1 x2 x3 x4, Keeps x4 (mergeTests x1 x2 x3 x4) := by
  intro x1 x2 x3 x4
  unfold mergeTests
  exact (Keeps.fold (fun _ _ => (Keeps.ite (Keeps.refl _) (Keeps.tail (keeps_recordAdd _ _) (Keeps.refl _)))) (Keeps.fold (fun _ _ => (Keeps.tail
      (keeps_raise _ _ _) (Keeps.tail (keeps_bump _ _ _ _ _ _) (Keeps.refl _)))) (Keeps.refl _)))

theorem keeps_endStage4 : ∀ x1 x2, Keeps x2 (endStage4 x1 x2) := by
  intro x1 x2
  unfold endStage4
  exact (Keeps.fold (fun _ _ => (Keeps.tail (keeps_segmentFault _ _) (Keeps.refl _))) (Keeps.tail (keeps_mergeTests _ _ _ _) (Keeps.refl _)))

theorem keeps_remapGroups : ∀ x1 x2 x3, Keeps x3 (remapGroups x1 x2 x3) := by
  intro x1 x2 x3
  unfold remapGroups
  exact (Keeps.ite (Keeps.tail (keeps_excludeChan _ _) (Keeps.refl _)) (Keeps.tail (keeps_rset _ _ _ _ _) (Keeps.refl _)))

theorem keeps_endStage5 : ∀ x1 x2, Keeps x2 (endStage5 x1 x2) := by
  intro x1 x2
  unfold endStage5
  exact (Keeps.tail (keeps_countService _) (Keeps.fold (fun _ _ => (Keeps.tail (keeps_remapGroups _ _ _) (Keeps.refl _))) (Keeps.fold (fun _ _ =>
      (Keeps.tail (keeps_rset _ _ _ _ _) (Keeps.refl _))) (Keeps.fold (fun _ _ => (Keeps.tail (keeps_recordAdd _ _) (Keeps.refl _))) (Keeps.fold
      (fun _ _ => (Keeps.tail (keeps_excludeChan _ _) (Keeps.refl _))) (Keeps.fold (fun _ _ => (Keeps.tail (keeps_rset _ _ _ _ _) (Keeps.refl _)))
      (Keeps.refl _)))))))

theorem keeps_endStage6 : ∀ x1 x2, Keeps x2 (endStage6 x1 x2) := by
  intro x1 x2
  unfold endStage6
  exact (Keeps.fold (fun _ _ => (Keeps.tail (keeps_leaveRegion _ _) (Keeps.tail (keeps_degrade _ _) (Keeps.refl _)))) (Keeps.fold (fun _ _ =>
      (Keeps.tail (keeps_spineFault _ _) (Keeps.refl _))) (Keeps.tail (keeps_mergeTests _ _ _ _) (Keeps.refl _))))

theorem keeps_failSpent : ∀ x1 x2 x3, Keeps x3 (failSpent x1 x2 x3) := by
  intro x1 x2 x3
  unfold failSpent
  exact (Keeps.fold (fun _ _ => (Keeps.tail (keeps_degrade _ _) (Keeps.tail (keeps_rset _ _ _ _ _) (Keeps.tail (keeps_rset _ _ _ _ _)
      (Keeps.refl _))))) (Keeps.refl _))

theorem keeps_takeSpares : ∀ x1 x2 x3 x4, Keeps x4 (takeSpares x1 x2 x3 x4) := by
  intro x1 x2 x3 x4
  unfold takeSpares
  exact (Keeps.fold (fun _ _ => (Keeps.tail (keeps_rset _ _ _ _ _) (Keeps.upd (Keeps.refl _)))) (Keeps.refl _))

theorem keeps_failLane : ∀ x1 x2, Keeps x2 (failLane x1 x2) := by
  intro x1 x2
  unfold failLane
  exact (Keeps.tail (keeps_degrade _ _) (Keeps.tail (keeps_rset _ _ _ _ _) (Keeps.tail (keeps_rset _ _ _ _ _) (Keeps.refl _))))

theorem keeps_takeSetpoint : ∀ x1, Keeps x1 (takeSetpoint x1).2 := by
  intro x1
  unfold takeSetpoint
  exact (Keeps.updDraw (Keeps.refl _))

theorem keeps_sideSetpoint : ∀ x1 x2, Keeps x2 (sideSetpoint x1 x2).2 := by
  intro x1 x2
  unfold sideSetpoint
  exact (Keeps.ite2 (Keeps.tail (keeps_takeSetpoint _) (Keeps.refl _)) (Keeps.refl _))

theorem keeps_trainRegion : ∀ x1 x2, Keeps x2 (trainRegion x1 x2) := by
  intro x1 x2
  unfold trainRegion
  exact (Keeps.tail (keeps_rset _ _ _ _ _) (Keeps.tail (keeps_rset _ _ _ _ _) (Keeps.tail (keeps_rset _ _ _ _ _) (Keeps.tail (keeps_rset _ _ _ _ _)
      (Keeps.tail (keeps_rset _ _ _ _ _) (Keeps.tail (keeps_sideSetpoint _ _) (Keeps.tail (keeps_sideSetpoint _ _) (Keeps.tail
      (keeps_sideSetpoint _ _) (Keeps.tail (keeps_sideSetpoint _ _) (Keeps.refl _))))))))))

theorem keeps_endStage7 : ∀ x1 x2, Keeps x2 (endStage7 x1 x2) := by
  intro x1 x2
  unfold endStage7
  exact (Keeps.fold (fun _ _ => (Keeps.ite (Keeps.tail (keeps_trainRegion _ _) (Keeps.refl _)) (Keeps.tail (keeps_rset _ _ _ _ _) (Keeps.refl _))))
      (Keeps.fold (fun _ _ => (Keeps.tail (keeps_failLane _ _) (Keeps.refl _))) (Keeps.fold (fun _ _ => (Keeps.tail (keeps_failSpent _ _ _)
      (Keeps.tail (keeps_takeSpares _ _ _ _) (Keeps.refl _)))) (Keeps.fold (fun _ _ => (Keeps.fold (fun _ _ => (Keeps.tail (keeps_rset _ _ _ _ _)
      (Keeps.refl _))) (Keeps.refl _))) (Keeps.upd (Keeps.refl _))))))

theorem keeps_loadFirmware : ∀ x1, Keeps x1 (loadFirmware x1) := by
  intro x1
  unfold loadFirmware
  exact (Keeps.fold (fun _ _ => (Keeps.tail (keeps_rset _ _ _ _ _) (Keeps.refl _))) (Keeps.refl _))

theorem keeps_mergeStage : ∀ x1 x2 x3, Keeps x3 (mergeStage x1 x2 x3) := by
  intro x1 x2 x3
  unfold mergeStage
  exact (Keeps.tail (keeps_applyUnits _ _) (Keeps.tail (keeps_mergeTests _ _ _ _) (Keeps.refl _)))

theorem keeps_endStage8 : ∀ x1 x2, Keeps x2 (endStage8 x1 x2) := by
  intro x1 x2
  unfold endStage8
  exact (Keeps.tail (keeps_loadFirmware _) (Keeps.tail (keeps_mergeStage _ _ _) (Keeps.refl _)))

theorem keeps_mergeSeal : ∀ x1, Keeps x1 (mergeSeal x1) := by
  intro x1
  unfold mergeSeal
  exact (by (try dsimp only); first | (split; exacts [(Keeps.refl _), (Keeps.tail (keeps_applyEave _ _) (Keeps.tail (keeps_applyUnits _ _)
      (Keeps.tail (keeps_mergeTests _ _ _ _) (Keeps.refl _))))]))

theorem keeps_endStage9 : ∀ x1 x2, Keeps x2 (endStage9 x1 x2) := by
  intro x1 x2
  unfold endStage9
  exact (by (try dsimp only); first | (split; exacts [(Keeps.tail (keeps_mergeSeal _) (Keeps.tail (keeps_healthSet _ _ _) (Keeps.tail
      (keeps_raise _ _ _) (Keeps.upd (Keeps.refl _))))), (Keeps.upd (Keeps.tail (keeps_mergeSeal _) (Keeps.tail (keeps_mergeStage _ _ _)
      (Keeps.refl _))))]))

theorem keeps_endStageA : ∀ x1 x2, Keeps x2 (endStageA x1 x2) := by
  intro x1 x2
  unfold endStageA
  exact (Keeps.upd (Keeps.tail (keeps_mergeStage _ _ _) (Keeps.refl _)))

theorem keeps_endStageB : ∀ x1 x2, Keeps x2 (endStageB x1 x2) := by
  intro x1 x2
  unfold endStageB
  exact (Keeps.tail (keeps_applyEave _ _) (Keeps.tail (keeps_mergeTests _ _ _ _) (Keeps.refl _)))

theorem keeps_placeRegion : ∀ x1 x2, Keeps x2 (placeRegion x1 x2) := by
  intro x1 x2
  unfold placeRegion
  exact (Keeps.ite (Keeps.tail (keeps_withdraw _ _) (Keeps.tail (keeps_writeRmap _ _) (Keeps.refl _))) (Keeps.fold (fun _ _ => (Keeps.tail
      (keeps_combState _ _) (Keeps.upd (Keeps.refl _)))) (Keeps.tail (keeps_writeRmap _ _) (Keeps.refl _))))

theorem keeps_mapWorkers : ∀ x1 x2, Keeps x2 (mapWorkers x1 x2) := by
  intro x1 x2
  unfold mapWorkers
  exact (Keeps.tail (keeps_pcMod _ _ _) (Keeps.refl _))

theorem keeps_placeAll : ∀ x1, Keeps x1 (placeAll x1) := by
  intro x1
  unfold placeAll
  exact (Keeps.ite (Keeps.tail (keeps_degrade _ _) (Keeps.ite (Keeps.tail (keeps_countMaps _ _ _) (Keeps.fold (fun _ _ => (Keeps.tail
      (keeps_combState _ _) (Keeps.refl _))) (Keeps.fold (fun _ _ => (Keeps.ite (Keeps.refl _) (Keeps.tail (keeps_mapWorkers _ _) (Keeps.refl _))))
      (Keeps.fold (fun _ _ => (Keeps.ite (Keeps.tail (keeps_writeRmap _ _) (Keeps.refl _)) (Keeps.tail (keeps_placeRegion _ _) (Keeps.refl _))))
      (Keeps.refl _))))) (Keeps.fold (fun _ _ => (Keeps.tail (keeps_combState _ _) (Keeps.refl _))) (Keeps.fold (fun _ _ => (Keeps.ite
      (Keeps.refl _) (Keeps.tail (keeps_mapWorkers _ _) (Keeps.refl _)))) (Keeps.fold (fun _ _ => (Keeps.ite (Keeps.tail (keeps_writeRmap _ _)
      (Keeps.refl _)) (Keeps.tail (keeps_placeRegion _ _) (Keeps.refl _)))) (Keeps.refl _)))))) (Keeps.ite (Keeps.tail (keeps_countMaps _ _ _)
      (Keeps.fold (fun _ _ => (Keeps.tail (keeps_combState _ _) (Keeps.refl _))) (Keeps.fold (fun _ _ => (Keeps.ite (Keeps.refl _) (Keeps.tail
      (keeps_mapWorkers _ _) (Keeps.refl _)))) (Keeps.fold (fun _ _ => (Keeps.ite (Keeps.tail (keeps_writeRmap _ _) (Keeps.refl _)) (Keeps.tail
      (keeps_placeRegion _ _) (Keeps.refl _)))) (Keeps.refl _))))) (Keeps.fold (fun _ _ => (Keeps.tail (keeps_combState _ _) (Keeps.refl _)))
      (Keeps.fold (fun _ _ => (Keeps.ite (Keeps.refl _) (Keeps.tail (keeps_mapWorkers _ _) (Keeps.refl _)))) (Keeps.fold (fun _ _ => (Keeps.ite
      (Keeps.tail (keeps_writeRmap _ _) (Keeps.refl _)) (Keeps.tail (keeps_placeRegion _ _) (Keeps.refl _)))) (Keeps.refl _))))))

theorem keeps_measure : ∀ x1, Keeps x1 (measure x1) := by
  intro x1
  unfold measure
  exact (Keeps.upd (Keeps.refl _))

theorem keeps_showShip : ∀ x1, Keeps x1 (showShip x1) := by
  intro x1
  unfold showShip
  exact (Keeps.ite (Keeps.tail (keeps_rset _ _ _ _ _) (Keeps.tail (keeps_rset _ _ _ _ _) (Keeps.refl _))) (Keeps.tail (keeps_raise _ _ _)
      (Keeps.tail (keeps_rset _ _ _ _ _) (Keeps.tail (keeps_rset _ _ _ _ _) (Keeps.refl _)))))

theorem keeps_endStageD : ∀ x1, Keeps x1 (endStageD x1) := by
  intro x1
  unfold endStageD
  exact (Keeps.ite (Keeps.tail (keeps_rset _ _ _ _ _) (Keeps.ite (Keeps.tail (keeps_rset _ _ _ _ _) (Keeps.tail (keeps_healthSet _ _ _) (Keeps.tail
      (keeps_measure _) (Keeps.tail (keeps_showShip _) (Keeps.tail (keeps_refreshRegions _) (Keeps.tail (keeps_loadFirmware _) (Keeps.tail
      (keeps_placeAll _) (Keeps.tail (keeps_burnRows _) (Keeps.refl _))))))))) (Keeps.tail (keeps_healthSet _ _ _) (Keeps.tail (keeps_measure _)
      (Keeps.tail (keeps_showShip _) (Keeps.tail (keeps_refreshRegions _) (Keeps.tail (keeps_loadFirmware _) (Keeps.tail (keeps_placeAll _)
      (Keeps.tail (keeps_burnRows _) (Keeps.refl _)))))))))) (Keeps.ite (Keeps.tail (keeps_rset _ _ _ _ _) (Keeps.tail (keeps_healthSet _ _ _)
      (Keeps.tail (keeps_measure _) (Keeps.tail (keeps_showShip _) (Keeps.tail (keeps_refreshRegions _) (Keeps.tail (keeps_loadFirmware _)
      (Keeps.tail (keeps_placeAll _) (Keeps.tail (keeps_burnRows _) (Keeps.refl _))))))))) (Keeps.tail (keeps_healthSet _ _ _) (Keeps.tail
      (keeps_measure _) (Keeps.tail (keeps_showShip _) (Keeps.tail (keeps_refreshRegions _) (Keeps.tail (keeps_loadFirmware _) (Keeps.tail
      (keeps_placeAll _) (Keeps.tail (keeps_burnRows _) (Keeps.refl _))))))))))

theorem keeps_endUpdate : ∀ x1, Keeps x1 (endUpdate x1) := by
  intro x1
  unfold endUpdate
  exact (Keeps.tail (keeps_rset _ _ _ _ _) (Keeps.tail (keeps_rset _ _ _ _ _) (Keeps.upd (Keeps.refl _))))

theorem keeps_enterRelease : ∀ x1 x2, Keeps x2 (enterRelease x1 x2) := by
  intro x1 x2
  unfold enterRelease
  exact (by (try dsimp only); first | (split; exacts [(Keeps.tail (keeps_endFree _ _ _) (Keeps.tail (keeps_ctxMod _ _ _) (Keeps.tail
      (keeps_rset _ _ _ _ _) (Keeps.refl _)))), (Keeps.tail (keeps_ctxMod _ _ _) (Keeps.tail (keeps_rset _ _ _ _ _) (Keeps.refl _)))]))

theorem keeps_execInputPowerGood : ∀ x1, KeepsO x1 (execInputPowerGood x1) := by
  intro x1
  unfold execInputPowerGood
  exact (show Keeps _ _ from (Keeps.ite (Keeps.tail (keeps_coldReset _ _) (Keeps.upd (Keeps.refl _))) (Keeps.refl _)))

theorem keeps_execSoftStartFault : ∀ x1, KeepsO x1 (execSoftStartFault x1) := by
  intro x1
  unfold execSoftStartFault
  exact (show Keeps _ _ from (Keeps.ite (Keeps.upd (Keeps.refl _)) (Keeps.refl _)))

theorem keeps_execInputOvervoltage : ∀ x1, KeepsO x1 (execInputOvervoltage x1) := by
  intro x1
  unfold execInputOvervoltage
  exact (show Keeps _ _ from (Keeps.upd (Keeps.refl _)))

theorem keeps_segmentsOff : ∀ x1 x2, Keeps x2 (segmentsOff x1 x2) := by
  intro x1 x2
  unfold segmentsOff
  exact (Keeps.fold (fun _ _ => (Keeps.tail (keeps_rset _ _ _ _ _) (Keeps.ite (by (try dsimp only); first | (split; exacts [(Keeps.tail
      (keeps_portDown _ _ _) (Keeps.refl _)), (Keeps.refl _)])) (Keeps.tail (keeps_rset _ _ _ _ _) (by (try dsimp only); first |
      (split; exacts [(Keeps.tail (keeps_portDown _ _ _) (Keeps.refl _)), (Keeps.refl _)])))))) (Keeps.tail (keeps_loseSegments _ _) (Keeps.refl _)))

theorem keeps_regionsOff : ∀ x1, Keeps x1 (regionsOff x1) := by
  intro x1
  unfold regionsOff
  exact (Keeps.upd (Keeps.fold (fun _ _ => (Keeps.tail (keeps_rset _ _ _ _ _) (Keeps.tail (keeps_rset _ _ _ _ _) (Keeps.tail (keeps_rset _ _ _ _ _)
      (Keeps.tail (keeps_rset _ _ _ _ _) (Keeps.tail (keeps_rset _ _ _ _ _) (Keeps.refl _))))))) (Keeps.tail (keeps_loseCombs _ _) (Keeps.refl _))))

theorem keeps_execPowerFailSequence : ∀ x1, KeepsO x1 (execPowerFailSequence x1) := by
  intro x1
  unfold execPowerFailSequence
  exact (show Keeps _ _ from (Keeps.ite (Keeps.refl _) (Keeps.upd (Keeps.tail (keeps_segmentsOff _ _) (Keeps.tail (keeps_regionsOff _)
      (Keeps.refl _))))))

theorem keeps_execBladeIdle : ∀ x1 x2, KeepsO x2 (execBladeIdle x1 x2) := by
  intro x1 x2
  unfold execBladeIdle
  exact (show Keeps _ _ from (Keeps.ite (Keeps.tail (keeps_raise _ _ _) (Keeps.refl _)) (Keeps.refl _)))

theorem keeps_execPerstN : ∀ x1, KeepsO x1 (execPerstN x1) := by
  intro x1
  unfold execPerstN
  exact (show Keeps _ _ from (Keeps.tail (keeps_deviceReset _) (Keeps.refl _)))

theorem keeps_execHotReset : ∀ x1, KeepsO x1 (execHotReset x1) := by
  intro x1
  unfold execHotReset
  exact (show Keeps _ _ from (Keeps.tail (keeps_deviceReset _) (Keeps.refl _)))

theorem keeps_execPfFlr : ∀ x1, KeepsO x1 (execPfFlr x1) := by
  intro x1
  unfold execPfFlr
  exact (show Keeps _ _ from (Keeps.tail (keeps_deviceReset _) (Keeps.refl _)))

theorem keeps_execVfFlr : ∀ x1 x2, KeepsO x2 (execVfFlr x1 x2) := by
  intro x1 x2
  unfold execVfFlr
  exact (Keeps.iteO (show Keeps _ _ from (Keeps.refl _)) (show Keeps _ _ from (by (try dsimp only); first | (split; exacts [(Keeps.tail
      (keeps_ctxResetReq _ _ _) (Keeps.tail (keeps_resetHst _ _) (Keeps.refl _))), (Keeps.tail (keeps_resetHst _ _) (Keeps.refl _))]))))

theorem keeps_warmCtx : ∀ x1 x2, Keeps x2 (warmCtx x1 x2) := by
  intro x1 x2
  unfold warmCtx
  exact (Keeps.ite (Keeps.refl _) (Keeps.tail (keeps_rset _ _ _ _ _) (Keeps.tail (keeps_ctxSet _ _ _) (Keeps.tail (keeps_closeFlows _ _) (Keeps.tail
      (keeps_newGen _ _ _) (Keeps.tail (keeps_closeServed _ _) (Keeps.tail (keeps_movesAtRidge _ _) (Keeps.refl _))))))))

theorem keeps_goStages : ∀ x1 x2, Keeps x2 (goStages x1 x2) := by
  intro x1
  induction x1 with
  | nil => intro x2; exact Keeps.refl _
  | cons a r ih =>
    intro x2
    unfold goStages
    exact (Keeps.ite (Keeps.tail (ih _) (Keeps.tail (keeps_raise _ _ _) (Keeps.tail (keeps_jrn _ _ _ _ _ _) (Keeps.tail (keeps_setAlt _ _)
      (Keeps.refl _))))) (Keeps.tail (keeps_beginStage _ _) (Keeps.refl _)))

theorem keeps_warmReset : ∀ x1, Keeps x1 (warmReset x1) := by
  intro x1
  unfold warmReset
  exact (Keeps.tail (keeps_goStages _ _) (Keeps.tail (keeps_rset _ _ _ _ _) (Keeps.tail (keeps_rset _ _ _ _ _) (Keeps.tail (keeps_rset _ _ _ _ _)
      (Keeps.tail (keeps_rset _ _ _ _ _) (Keeps.tail (keeps_rset _ _ _ _ _) (Keeps.tail (keeps_rset _ _ _ _ _) (Keeps.ite (Keeps.tail
      (keeps_setAdmit _ _) (Keeps.upd (Keeps.fold (fun _ _ => (by (try dsimp only); first | (split; exacts [(Keeps.tail (keeps_bindAllot _ _ _)
      (Keeps.refl _)), (Keeps.refl _)]))) (Keeps.upd (Keeps.fold (fun _ _ => (Keeps.ite (Keeps.tail (keeps_rset _ _ _ _ _) (Keeps.refl _))
      (Keeps.refl _))) (Keeps.tail (keeps_regionsOff _) (Keeps.fold (fun _ _ => (Keeps.tail (keeps_warmCtx _ _) (Keeps.refl _))) (Keeps.fold
      (fun _ _ => (Keeps.tail (keeps_dmaStopNow _ _) (Keeps.refl _))) (Keeps.tail (keeps_endAllCmds _) (Keeps.refl _)))))))))) (Keeps.fold
      (fun _ _ => (by (try dsimp only); first | (split; exacts [(Keeps.tail (keeps_bindAllot _ _ _) (Keeps.refl _)), (Keeps.refl _)]))) (Keeps.upd
      (Keeps.fold (fun _ _ => (Keeps.ite (Keeps.tail (keeps_rset _ _ _ _ _) (Keeps.refl _)) (Keeps.refl _))) (Keeps.tail (keeps_regionsOff _)
      (Keeps.fold (fun _ _ => (Keeps.tail (keeps_warmCtx _ _) (Keeps.refl _))) (Keeps.fold (fun _ _ => (Keeps.tail (keeps_dmaStopNow _ _)
      (Keeps.refl _))) (Keeps.tail (keeps_endAllCmds _) (Keeps.refl _))))))))))))))))

theorem keeps_execWarmModuleReset : ∀ x1, KeepsO x1 (execWarmModuleReset x1) := by
  intro x1
  unfold execWarmModuleReset
  exact (show Keeps _ _ from (Keeps.ite (Keeps.tail (keeps_warmReset _) (Keeps.refl _)) (Keeps.refl _)))

theorem keeps_execContextReset : ∀ x1 x2, KeepsO x2 (execContextReset x1 x2) := by
  intro x1 x2
  unfold execContextReset
  exact (by (try dsimp only); first | (split; exacts [(show Keeps _ _ from (Keeps.ite (Keeps.ite (Keeps.tail (keeps_contextReset _ _ _) (Keeps.tail
      (keeps_endMoves _ _) (Keeps.refl _))) (Keeps.tail (keeps_endMoves _ _) (Keeps.refl _))) (Keeps.refl _))), (show Keeps _ _ from
      (Keeps.refl _))]))

theorem keeps_execKeeperReset : ∀ x1, KeepsO x1 (execKeeperReset x1) := by
  intro x1
  unfold execKeeperReset
  exact (show Keeps _ _ from (Keeps.ite (Keeps.refl _) (Keeps.tail (keeps_bump _ _ _ _ _ _) (Keeps.tail (keeps_rset _ _ _ _ _) (Keeps.tail
      (keeps_rset _ _ _ _ _) (Keeps.upd (Keeps.refl _)))))))

theorem keeps_referenceGone : ∀ x1, Keeps x1 (referenceGone x1) := by
  intro x1
  unfold referenceGone
  exact (Keeps.upd (Keeps.fold (fun _ _ => (Keeps.tail (keeps_rset _ _ _ _ _) (Keeps.tail (keeps_rset _ _ _ _ _) (by (try dsimp only); first |
      (split; exacts [(Keeps.tail (keeps_portDown _ _ _) (Keeps.refl _)), (Keeps.refl _)]))))) (Keeps.tail (keeps_loseSegments _ _) (Keeps.tail
      (keeps_raise _ _ _) (Keeps.tail (keeps_tripNow _) (Keeps.tail (keeps_rset _ _ _ _ _) (Keeps.refl _)))))))

theorem keeps_referenceLate : ∀ x1, Keeps x1 (referenceLate x1) := by
  intro x1
  unfold referenceLate
  exact (Keeps.ite (Keeps.tail (keeps_referenceGone _) (Keeps.refl _)) (Keeps.refl _))

theorem keeps_holdStart : ∀ x1 x2, Keeps x2 (holdStart x1 x2) := by
  intro x1 x2
  unfold holdStart
  exact (Keeps.tail (keeps_raise _ _ _) (Keeps.tail (keeps_jrn _ _ _ _ _ _) (Keeps.tail (keeps_rset _ _ _ _ _) (Keeps.tail (keeps_rset _ _ _ _ _)
      (Keeps.tail (keeps_rset _ _ _ _ _) (Keeps.refl _))))))

theorem keeps_failStage : ∀ x1 x2 x3, Keeps x3 (failStage x1 x2 x3) := by
  intro x1 x2 x3
  unfold failStage
  exact (Keeps.ite (Keeps.tail (keeps_goStages _ _) (Keeps.tail (keeps_rset _ _ _ _ _) (Keeps.tail (keeps_raise _ _ _) (Keeps.tail
      (keeps_jrn _ _ _ _ _ _) (Keeps.refl _))))) (Keeps.ite (Keeps.tail (keeps_holdStart _ _) (Keeps.tail (keeps_rset _ _ _ _ _) (Keeps.upd
      (Keeps.tail (keeps_segmentsOff _ _) (Keeps.tail (keeps_regionsOff _) (Keeps.tail (keeps_raise _ _ _) (Keeps.tail (keeps_jrn _ _ _ _ _ _)
      (Keeps.refl _)))))))) (Keeps.tail (keeps_beginStage _ _) (Keeps.tail (keeps_rset _ _ _ _ _) (Keeps.upd (Keeps.tail (keeps_segmentsOff _ _)
      (Keeps.tail (keeps_regionsOff _) (Keeps.tail (keeps_raise _ _ _) (Keeps.tail (keeps_jrn _ _ _ _ _ _) (Keeps.refl _))))))))))

theorem keeps_execKeeperResume : ∀ x1 x2 x3 x4 x5, KeepsO x5 (execKeeperResume x1 x2 x3 x4 x5) := by
  intro x1 x2 x3 x4 x5
  unfold execKeeperResume
  exact (Keeps.iteO (show Keeps _ _ from (Keeps.refl _)) (Keeps.iteO (show Keeps _ _ from (Keeps.tail (keeps_coldReset _ _) (Keeps.refl _)))
      (show Keeps _ _ from (Keeps.ite (Keeps.tail (keeps_failStage _ _ _) (Keeps.tail (keeps_referenceLate _) (Keeps.tail (keeps_rset _ _ _ _ _)
      (Keeps.upd (Keeps.refl _))))) (Keeps.ite (Keeps.tail (keeps_duties _ _) (Keeps.tail (keeps_referenceLate _) (Keeps.tail (keeps_rset _ _ _ _ _)
      (Keeps.upd (Keeps.refl _))))) (Keeps.tail (keeps_referenceLate _) (Keeps.tail (keeps_rset _ _ _ _ _) (Keeps.upd (Keeps.refl _)))))))))

theorem keeps_execReferenceLoss : ∀ x1, KeepsO x1 (execReferenceLoss x1) := by
  intro x1
  unfold execReferenceLoss
  exact (Keeps.iteO (show Keeps _ _ from (Keeps.refl _)) (show Keeps _ _ from (Keeps.ite (Keeps.upd (Keeps.tail (keeps_rset _ _ _ _ _) (Keeps.tail
      (keeps_rset _ _ _ _ _) (Keeps.refl _)))) (Keeps.tail (keeps_referenceGone _) (Keeps.tail (keeps_rset _ _ _ _ _) (Keeps.tail
      (keeps_rset _ _ _ _ _) (Keeps.refl _)))))))

theorem keeps_execTrip : ∀ x1 x2, KeepsO x2 (execTrip x1 x2) := by
  intro x1 x2
  unfold execTrip
  exact (show Keeps _ _ from (by (try dsimp only); first | (split; exacts [(Keeps.tail (keeps_trip _) (Keeps.refl _)), (Keeps.ite (Keeps.refl _)
      (Keeps.tail (keeps_trip _) (Keeps.refl _)))])))

theorem keeps_execHotSet : ∀ x1 x2 x3 x4, KeepsO x4 (execHotSet x1 x2 x3 x4) := by
  intro x1 x2 x3 x4
  unfold execHotSet
  exact (Keeps.iteO (show Keeps _ _ from (Keeps.refl _)) (show Keeps _ _ from (Keeps.tail (keeps_bump _ _ _ _ _ _) (Keeps.tail
      (keeps_rset _ _ _ _ _) (Keeps.tail (keeps_rset _ _ _ _ _) (Keeps.tail (keeps_rset _ _ _ _ _) (Keeps.tail (keeps_rset _ _ _ _ _)
      (Keeps.refl _))))))))

theorem keeps_execCombArraySwitchOff : ∀ x1 x2, KeepsO x2 (execCombArraySwitchOff x1 x2) := by
  intro x1 x2
  unfold execCombArraySwitchOff
  exact (Keeps.iteO (show Keeps _ _ from (Keeps.tail (keeps_leaveRegion _ _) (Keeps.tail (keeps_offRecord _ _) (Keeps.upd (Keeps.tail
      (keeps_combArrayOff _ _ _) (Keeps.refl _)))))) (show Keeps _ _ from (Keeps.refl _)))

theorem keeps_execHotOffReturn : ∀ x1 x2, KeepsO x2 (execHotOffReturn x1 x2) := by
  intro x1 x2
  unfold execHotOffReturn
  exact (Keeps.iteO (show Keeps _ _ from (Keeps.upd (Keeps.refl _))) (show Keeps _ _ from (Keeps.refl _)))

theorem keeps_execSpineFault : ∀ x1 x2, KeepsO x2 (execSpineFault x1 x2) := by
  intro x1 x2
  unfold execSpineFault
  exact (Keeps.iteO (show Keeps _ _ from (Keeps.refl _)) (show Keeps _ _ from (Keeps.tail (keeps_spineFault _ _) (Keeps.tail
      (keeps_bump _ _ _ _ _ _) (Keeps.refl _)))))

theorem keeps_execCombArrayPllLoss : ∀ x1 x2, KeepsO x2 (execCombArrayPllLoss x1 x2) := by
  intro x1 x2
  unfold execCombArrayPllLoss
  exact (Keeps.iteO (show Keeps _ _ from (Keeps.refl _)) (show Keeps _ _ from (Keeps.tail (keeps_leaveRegion _ _) (Keeps.tail
      (keeps_combArrayOff _ _ _) (Keeps.tail (keeps_bump _ _ _ _ _ _) (Keeps.refl _))))))

theorem keeps_execSegmentFault : ∀ x1 x2, KeepsO x2 (execSegmentFault x1 x2) := by
  intro x1 x2
  unfold execSegmentFault
  exact (show Keeps _ _ from (Keeps.tail (keeps_segmentFault _ _) (Keeps.refl _)))

theorem keeps_execDomainReady : ∀ x1 x2, KeepsO x2 (execDomainReady x1 x2) := by
  intro x1 x2
  unfold execDomainReady
  exact (Keeps.iteO (show Keeps _ _ from (Keeps.refl _)) (Keeps.iteO (Keeps.iteO (show Keeps _ _ from (Keeps.tail (keeps_rset _ _ _ _ _) (Keeps.tail
      (keeps_rset _ _ _ _ _) (Keeps.refl _)))) (show Keeps _ _ from (Keeps.refl _))) (Keeps.iteO (Keeps.iteO (show Keeps _ _ from (Keeps.tail
      (keeps_rset _ _ _ _ _) (Keeps.tail (keeps_rset _ _ _ _ _) (Keeps.refl _)))) (show Keeps _ _ from (Keeps.refl _))) (Keeps.iteO
      (show Keeps _ _ from (Keeps.tail (keeps_combArrayOn _ _) (Keeps.refl _))) (show Keeps _ _ from (Keeps.refl _))))))

theorem keeps_stageWork : ∀ x1 x2 x3, KeepsOpt x3 (stageWork x1 x2 x3) := by
  intro x1 x2 x3
  unfold stageWork
  split
  · exact KeepsOpt.some' (keeps_endStage0 _)
  · exact keeps_endStage1 _ _
  · exact keeps_endStage3 _ _
  · exact KeepsOpt.some' (keeps_endStage4 _ _)
  · exact KeepsOpt.some' (keeps_endStage5 _ _)
  · exact KeepsOpt.some' (keeps_endStage6 _ _)
  · exact KeepsOpt.some' (keeps_endStage7 _ _)
  · exact KeepsOpt.some' (keeps_endStage8 _ _)
  · exact KeepsOpt.some' (keeps_endStage9 _ _)
  · exact KeepsOpt.some' (keeps_endStageA _ _)
  · exact KeepsOpt.some' (keeps_endStageB _ _)
  · exact KeepsOpt.some' (keeps_endStageD _)
  · exact KeepsOpt.some' (Keeps.refl _)

theorem keeps_nextStage : ∀ x1 x2, Keeps x2 (nextStage x1 x2) := by
  intro x1 x2
  unfold nextStage
  exact (Keeps.ite (Keeps.refl _) (Keeps.ite (Keeps.tail (keeps_rset _ _ _ _ _) (Keeps.refl _)) (Keeps.tail (keeps_goStages _ _) (Keeps.refl _))))

end Sys2Proof.Machine
end

