-- ==== Sys2Proof/Laws/KeepsC.lean ====
section
/-! SUPPORT. What each operation keeps, part 3 of 4: one lemma for each operation, in the order in which they build on each other. -/

namespace Sys2Proof.Machine

theorem keeps_holdFuses : ∀ x1 x2, Keeps x2 (holdFuses x1 x2) := by
  intro x1 x2
  unfold holdFuses
  exact (Keeps.tail (keeps_holdStart _ _) (Keeps.upd (by (try dsimp only); first | (split; exacts [(Keeps.tail (keeps_raise _ _ _) (Keeps.tail
      (keeps_rset _ _ _ _ _) (Keeps.refl _))), (Keeps.refl _)]))))

theorem keeps_execStageEnd : ∀ x1 x2, KeepsO x2 (execStageEnd x1 x2) := by
  intro x1 x2
  unfold execStageEnd
  have h := keeps_stageWork (stageOf x2) x1 x2
  dsimp only
  split
  · exact Keeps.refl _
  · split
    · rename_i t ht
      exact Keeps.tail (keeps_nextStage _ _) (Keeps.tail (keeps_jrn _ _ _ _ _ _) (h t ht))
    · exact Keeps.ite (keeps_failStage _ _ _) (keeps_holdFuses _ _)

theorem keeps_execStageFail : ∀ x1 x2, KeepsO x2 (execStageFail x1 x2) := by
  intro x1 x2
  unfold execStageFail
  exact (show Keeps _ _ from (Keeps.ite (Keeps.tail (keeps_failStage _ _ _) (Keeps.refl _)) (Keeps.refl _)))

theorem keeps_tickHardware : ∀ x1 x2, Keeps x2 (tickHardware x1 x2) := by
  intro x1 x2
  unfold tickHardware
  exact (Keeps.fold (fun _ _ => (Keeps.ite (Keeps.tail (keeps_ctxMod _ _ _) (Keeps.refl _)) (Keeps.refl _))) (Keeps.fold (fun _ _ => (Keeps.ite
      (Keeps.tail (keeps_rset _ _ _ _ _) (Keeps.tail (keeps_rset _ _ _ _ _) (Keeps.refl _))) (Keeps.tail (keeps_rset _ _ _ _ _) (Keeps.refl _))))
      (Keeps.fold (fun _ _ => (Keeps.fold (fun _ _ => (Keeps.ite (Keeps.tail (keeps_rset _ _ _ _ _) (Keeps.refl _)) (Keeps.refl _)))
      (Keeps.refl _))) (Keeps.fold (fun _ _ => (Keeps.fold (fun _ _ => (Keeps.ite (Keeps.tail (keeps_rset _ _ _ _ _) (Keeps.refl _))
      (Keeps.refl _))) (Keeps.refl _))) (Keeps.fold (fun _ _ => (Keeps.tail (keeps_rset _ _ _ _ _) (Keeps.refl _))) (Keeps.tail
      (keeps_rset _ _ _ _ _) (Keeps.upd (Keeps.refl _))))))))

theorem keeps_execTickBoundary : ∀ x1 x2, KeepsO x2 (execTickBoundary x1 x2) := by
  intro x1 x2
  unfold execTickBoundary
  exact (Keeps.iteO (show Keeps _ _ from (Keeps.refl _)) (show Keeps _ _ from (Keeps.ite (Keeps.tail (keeps_duties _ _) (Keeps.tail
      (keeps_tickHardware _ _) (Keeps.refl _))) (Keeps.tail (keeps_tickHardware _ _) (Keeps.refl _)))))

theorem keeps_execFlowLow : ∀ x1, KeepsO x1 (execFlowLow x1) := by
  intro x1
  unfold execFlowLow
  exact (Keeps.iteO (show Keeps _ _ from (Keeps.refl _)) (show Keeps _ _ from (Keeps.tail (keeps_healthSet _ _ _) (Keeps.tail (keeps_raise _ _ _)
      (Keeps.upd (Keeps.refl _))))))

theorem keeps_execStepWatchdog : ∀ x1 x2, KeepsO x2 (execStepWatchdog x1 x2) := by
  intro x1 x2
  unfold execStepWatchdog
  exact (Keeps.iteO (Keeps.iteO (show Keeps _ _ from (Keeps.fold (fun _ _ => (Keeps.tail (keeps_failStep _ _ _ _) (Keeps.refl _))) (Keeps.tail
      (keeps_failStep _ _ _ _) (Keeps.tail (keeps_raise _ _ _) (Keeps.tail (keeps_ctxMod _ _ _) (Keeps.tail (keeps_bump _ _ _ _ _ _)
      (Keeps.refl _))))))) (show Keeps _ _ from (Keeps.tail (keeps_schedFault _ _ _) (Keeps.tail (keeps_raise _ _ _) (Keeps.tail
      (keeps_ctxMod _ _ _) (Keeps.tail (keeps_bump _ _ _ _ _ _) (Keeps.refl _))))))) (show Keeps _ _ from (Keeps.refl _)))

theorem keeps_execHoldTimeout : ∀ x1 x2, KeepsO x2 (execHoldTimeout x1 x2) := by
  intro x1 x2
  unfold execHoldTimeout
  exact (show Keeps _ _ from (Keeps.tail (keeps_holdTimeout _ _) (Keeps.refl _)))

theorem keeps_execCombSharedLogicFault : ∀ x1 x2 x3, KeepsO x3 (execCombSharedLogicFault x1 x2 x3) := by
  intro x1 x2 x3
  unfold execCombSharedLogicFault
  exact (show Keeps _ _ from (Keeps.ite (Keeps.refl _) (Keeps.tail (keeps_combFault _ _) (Keeps.refl _))))

theorem keeps_execCombFence : ∀ x1 x2 x3, KeepsO x3 (execCombFence x1 x2 x3) := by
  intro x1 x2 x3
  unfold execCombFence
  exact (by (try dsimp only); first | (split; exacts [(show Keeps _ _ from (Keeps.refl _)), (Keeps.iteO (show Keeps _ _ from (Keeps.refl _))
      (Keeps.iteO (show Keeps _ _ from (Keeps.tail (keeps_writeRmap _ _) (Keeps.tail (keeps_pcMod _ _ _) (Keeps.ite (Keeps.upd (Keeps.refl _))
      (Keeps.tail (keeps_recordAdd _ _) (Keeps.upd (Keeps.refl _))))))) (show Keeps _ _ from (Keeps.tail (keeps_makeMoves _ _) (Keeps.tail
      (keeps_armMove _ _ _) (by (try dsimp only); first | (split; exacts [(Keeps.ite (Keeps.tail (keeps_ctxMod _ _ _) (Keeps.tail
      (keeps_discardTraffic _ _) (Keeps.tail (keeps_pcMod _ _ _) (Keeps.ite (Keeps.upd (Keeps.refl _)) (Keeps.tail (keeps_recordAdd _ _) (Keeps.upd
      (Keeps.refl _))))))) (Keeps.tail (keeps_pcMod _ _ _) (Keeps.ite (Keeps.upd (Keeps.refl _)) (Keeps.tail (keeps_recordAdd _ _) (Keeps.upd
      (Keeps.refl _)))))), (Keeps.tail (keeps_pcMod _ _ _) (Keeps.ite (Keeps.upd (Keeps.refl _)) (Keeps.tail (keeps_recordAdd _ _) (Keeps.upd
      (Keeps.refl _)))))])))))))]))

theorem keeps_fenceMarginal : ∀ x1 x2 x3, Keeps x3 (fenceMarginal x1 x2 x3) := by
  intro x1 x2 x3
  unfold fenceMarginal
  exact (Keeps.tail (keeps_rset _ _ _ _ _) (Keeps.tail (keeps_fenceWorker _ _ _) (Keeps.refl _)))

theorem keeps_stressFail : ∀ x1 x2 x3 x4 x5, Keeps x5 (stressFail x1 x2 x3 x4 x5) := by
  intro x1 x2 x3 x4 x5
  unfold stressFail
  exact (Keeps.ite (Keeps.tail (keeps_fenceMarginal _ _ _) (Keeps.tail (keeps_raise _ _ _) (Keeps.refl _))) (Keeps.ite (Keeps.upd (Keeps.tail
      (keeps_raise _ _ _) (Keeps.refl _))) (Keeps.ite (Keeps.tail (keeps_fenceMarginal _ _ _) (Keeps.upd (Keeps.tail (keeps_raise _ _ _)
      (Keeps.refl _)))) (Keeps.upd (Keeps.tail (keeps_pcMod _ _ _) (Keeps.tail (keeps_raise _ _ _) (Keeps.refl _)))))))

theorem keeps_execScoutVerdict : ∀ x1 x2 x3 x4 x5, KeepsO x5 (execScoutVerdict x1 x2 x3 x4 x5) := by
  intro x1 x2 x3 x4 x5
  unfold execScoutVerdict
  exact (Keeps.iteO (show Keeps _ _ from (Keeps.refl _)) (show Keeps _ _ from (by (try dsimp only); first | (split; exacts [(Keeps.tail
      (keeps_cleanPass _ _ _) (Keeps.tail (keeps_pcMod _ _ _) (by (try dsimp only); first | (split; exacts [(Keeps.tail (keeps_bump _ _ _ _ _ _)
      (Keeps.upd (Keeps.tail (keeps_pcMod _ _ _) (Keeps.refl _)))), (Keeps.upd (Keeps.tail (keeps_pcMod _ _ _) (Keeps.refl _)))])))), (Keeps.tail
      (keeps_fenceWorker _ _ _) (Keeps.tail (keeps_suspectReport _ _ _ _ _) (Keeps.tail (keeps_raise _ _ _) (by (try dsimp only); first |
      (split; exacts [(Keeps.tail (keeps_bump _ _ _ _ _ _) (Keeps.tail (keeps_pcMod _ _ _) (Keeps.refl _))), (Keeps.tail (keeps_pcMod _ _ _)
      (Keeps.refl _))]))))), (Keeps.tail (keeps_stressFail _ _ _ _ _) (by (try dsimp only); first | (split; exacts [(Keeps.tail
      (keeps_bump _ _ _ _ _ _) (Keeps.tail (keeps_pcMod _ _ _) (Keeps.refl _))), (Keeps.tail (keeps_pcMod _ _ _) (Keeps.refl _))])))]))))

theorem keeps_execRotationGridPoint : ∀ x1, KeepsO x1 (execRotationGridPoint x1) := by
  intro x1
  unfold execRotationGridPoint
  exact (Keeps.iteO (show Keeps _ _ from (Keeps.refl _)) (show Keeps _ _ from (Keeps.upd (Keeps.refl _))))

theorem keeps_execPauseSliceGrid : ∀ x1, KeepsO x1 (execPauseSliceGrid x1) := by
  intro x1
  unfold execPauseSliceGrid
  exact (Keeps.iteO (show Keeps _ _ from (Keeps.refl _)) (show Keeps _ _ from (Keeps.upd (Keeps.refl _))))

theorem keeps_execIdleSleep : ∀ x1 x2, KeepsO x2 (execIdleSleep x1 x2) := by
  intro x1 x2
  unfold execIdleSleep
  exact (Keeps.iteO (show Keeps _ _ from (Keeps.tail (keeps_rset _ _ _ _ _) (Keeps.tail (keeps_rset _ _ _ _ _) (Keeps.tail (keeps_rset _ _ _ _ _)
      (Keeps.refl _))))) (show Keeps _ _ from (Keeps.refl _)))

theorem keeps_execRegionTestComplete : ∀ x1 x2 x3, KeepsO x3 (execRegionTestComplete x1 x2 x3) := by
  intro x1 x2 x3
  unfold execRegionTestComplete
  exact (Keeps.iteO (show Keeps _ _ from (Keeps.refl _)) (show Keeps _ _ from (Keeps.tail (keeps_endGrants _) (Keeps.tail (keeps_refreshRegions _)
      (Keeps.ite (Keeps.tail (keeps_writeRmap _ _) (Keeps.upd (Keeps.fold (fun _ _ => (Keeps.tail (keeps_rset _ _ _ _ _) (Keeps.refl _)))
      (Keeps.fold (fun _ _ => (Keeps.ite (Keeps.tail (keeps_pcMod _ _ _) (Keeps.refl _)) (Keeps.refl _))) (Keeps.fold (fun _ _ => (Keeps.ite
      (Keeps.tail (keeps_mapWorkers _ _) (Keeps.refl _)) (Keeps.refl _))) (Keeps.fold (fun _ _ => (Keeps.tail (keeps_applyBad _ _ _)
      (Keeps.refl _))) (Keeps.tail (keeps_binRegion _ _ _) (Keeps.tail (keeps_mergeTests _ _ _ _) (Keeps.refl _))))))))) (Keeps.tail
      (keeps_countMaps _ _ _) (Keeps.tail (keeps_placeRegion _ _) (Keeps.upd (Keeps.fold (fun _ _ => (Keeps.tail (keeps_rset _ _ _ _ _)
      (Keeps.refl _))) (Keeps.fold (fun _ _ => (Keeps.ite (Keeps.tail (keeps_pcMod _ _ _) (Keeps.refl _)) (Keeps.refl _))) (Keeps.fold (fun _ _ =>
      (Keeps.ite (Keeps.tail (keeps_mapWorkers _ _) (Keeps.refl _)) (Keeps.refl _))) (Keeps.fold (fun _ _ => (Keeps.tail (keeps_applyBad _ _ _)
      (Keeps.refl _))) (Keeps.tail (keeps_binRegion _ _ _) (Keeps.tail (keeps_mergeTests _ _ _ _) (Keeps.refl _)))))))))))))))

theorem keeps_execSpareCombTest : ∀ x1 x2 x3 x4, KeepsO x4 (execSpareCombTest x1 x2 x3 x4) := by
  intro x1 x2 x3 x4
  unfold execSpareCombTest
  exact (Keeps.iteO (show Keeps _ _ from (Keeps.refl _)) (show Keeps _ _ from (Keeps.tail (keeps_loseSpare _ _ _) (Keeps.refl _))))

theorem keeps_execPortRetrain : ∀ x1 x2, KeepsO x2 (execPortRetrain x1 x2) := by
  intro x1 x2
  unfold execPortRetrain
  exact (show Keeps _ _ from (Keeps.ite (Keeps.tail (keeps_rset _ _ _ _ _) (Keeps.refl _)) (Keeps.refl _)))

theorem keeps_execLifeCounterWrite : ∀ x1, KeepsO x1 (execLifeCounterWrite x1) := by
  intro x1
  unfold execLifeCounterWrite
  exact (show Keeps _ _ from (Keeps.ite (Keeps.upd (Keeps.refl _)) (Keeps.refl _)))

theorem keeps_execServiceLifePrediction : ∀ x1, KeepsO x1 (execServiceLifePrediction x1) := by
  intro x1
  unfold execServiceLifePrediction
  exact (Keeps.iteO (show Keeps _ _ from (Keeps.refl _)) (show Keeps _ _ from (Keeps.tail (keeps_rset _ _ _ _ _) (Keeps.tail (keeps_rset _ _ _ _ _)
      (Keeps.upd (Keeps.refl _))))))

theorem keeps_hostRec : ∀ x1 x2 x3 x4 x5, Keeps x5 (hostRec x1 x2 x3 x4 x5) := by
  intro x1 x2 x3 x4 x5
  unfold hostRec
  exact (Keeps.tail (keeps_raise _ _ _) (Keeps.refl _))

theorem keeps_inboxWrite : ∀ x1 x2 x3 x4, Keeps x4 (inboxWrite x1 x2 x3 x4) := by
  intro x1 x2 x3 x4
  unfold inboxWrite
  exact (Keeps.ite (Keeps.refl _) (Keeps.ite (Keeps.tail (keeps_hostRec _ _ _ _ _) (Keeps.tail (keeps_bump _ _ _ _ _ _) (Keeps.refl _))) (Keeps.ite
      (Keeps.tail (keeps_bump _ _ _ _ _ _) (Keeps.refl _)) (Keeps.tail (keeps_hostSet _ _ _) (Keeps.tail (keeps_rset _ _ _ _ _) (Keeps.refl _))))))

theorem keeps_execInboxWrite : ∀ x1 x2 x3 x4, KeepsO x4 (execInboxWrite x1 x2 x3 x4) := by
  intro x1 x2 x3 x4
  unfold execInboxWrite
  exact (show Keeps _ _ from (Keeps.tail (keeps_inboxWrite _ _ _ _) (Keeps.refl _)))

theorem keeps_runCmd : ∀ x1 x2 x3 x4, (∀ z0 z1, Keeps z1 (x3 z0 z1)) → Keeps x4 (runCmd x1 x2 x3 x4) := by
  intro x1 x2 x3 x4 h_x3
  unfold runCmd
  exact (by (try dsimp only); first | (split; exacts [(Keeps.refl _), (by (try dsimp only); first | (split; exacts [(Keeps.tail
      (keeps_endCmd _ _ _ _ _) (Keeps.refl _)), (Keeps.ite (Keeps.refl _) (Keeps.tail (h_x3 _ _) (Keeps.refl _)))]))]))

theorem keeps_execNop : ∀ x1 x2, KeepsO x2 (execNop x1 x2) := by
  intro x1 x2
  unfold execNop
  exact (show Keeps _ _ from (Keeps.tail (keeps_runCmd _ _ _ _ (fun _ _ => (Keeps.tail (keeps_endCmd _ _ _ _ _) (Keeps.refl _)))) (Keeps.refl _)))

theorem keeps_showAllot : ∀ x1 x2 x3 x4 x5, Keeps x5 (showAllot x1 x2 x3 x4 x5) := by
  intro x1 x2 x3 x4 x5
  unfold showAllot
  exact (Keeps.tail (keeps_rset _ _ _ _ _) (Keeps.tail (keeps_rset _ _ _ _ _) (Keeps.tail (keeps_rset _ _ _ _ _) (Keeps.tail (keeps_rset _ _ _ _ _)
      (Keeps.tail (keeps_rset _ _ _ _ _) (Keeps.tail (keeps_rset _ _ _ _ _) (Keeps.tail (keeps_rset _ _ _ _ _) (Keeps.tail (keeps_rset _ _ _ _ _)
      (Keeps.refl _)))))))))

theorem keeps_startCmd : ∀ x1 x2, Keeps x2 (startCmd x1 x2) := by
  intro x1 x2
  unfold startCmd
  exact (Keeps.upd (Keeps.refl _))

theorem keeps_grant : ∀ x1 x2 x3, Keeps x3 (grant x1 x2 x3) := by
  intro x1 x2 x3
  unfold grant
  exact (by (try dsimp only); first | (split; exacts [(Keeps.tail (keeps_endCmd _ _ _ _ _) (Keeps.refl _)), (Keeps.tail (keeps_endGrants _)
      (Keeps.tail (keeps_startCmd _ _) (Keeps.tail (keeps_rset _ _ _ _ _) (Keeps.tail (keeps_rset _ _ _ _ _) (Keeps.tail (keeps_rset _ _ _ _ _)
      (Keeps.tail (keeps_newGen _ _ _) (Keeps.tail (keeps_unlockCfg _ _) (Keeps.tail (keeps_ctxSet _ _ _) (Keeps.tail (keeps_bindAllot _ _ _)
      (Keeps.tail (keeps_showAllot _ _ _ _ _) (Keeps.refl _)))))))))))]))

theorem keeps_execGrant : ∀ x1 x2, KeepsO x2 (execGrant x1 x2) := by
  intro x1 x2
  unfold execGrant
  exact (by (try dsimp only); first | (split; exacts [(show Keeps _ _ from (Keeps.refl _)), (by (try dsimp only); first |
      (split; exacts [(show Keeps _ _ from (Keeps.tail (keeps_endCmd _ _ _ _ _) (Keeps.refl _))), (show Keeps _ _ from (Keeps.tail
      (keeps_runCmd _ _ _ _ (fun _ _ => (Keeps.ite (Keeps.tail (keeps_endCmd _ _ _ _ _) (Keeps.refl _)) (by (try dsimp only); first |
      (split; exacts [(Keeps.tail (keeps_endCmd _ _ _ _ _) (Keeps.refl _)), (Keeps.ite (Keeps.refl _) (Keeps.tail (keeps_grant _ _ _)
      (Keeps.refl _)))]))))) (Keeps.refl _)))]))]))

theorem keeps_execLoad : ∀ x1 x2, KeepsO x2 (execLoad x1 x2) := by
  intro x1 x2
  unfold execLoad
  exact (show Keeps _ _ from (Keeps.ite (Keeps.refl _) (Keeps.tail (keeps_runCmd _ _ _ _ (fun _ _ => (Keeps.ite (Keeps.tail (keeps_endCmd _ _ _ _ _)
      (Keeps.refl _)) (Keeps.ite (Keeps.refl _) (Keeps.ite (Keeps.tail (keeps_endCmd _ _ _ _ _) (Keeps.refl _)) (Keeps.ite (Keeps.tail
      (keeps_endCmd _ _ _ _ _) (Keeps.refl _)) (Keeps.tail (keeps_startCmd _ _) (Keeps.tail (keeps_ctxSet _ _ _) (Keeps.refl _)))))))))
      (Keeps.refl _))))

theorem keeps_showReady : ∀ x1 x2, Keeps x2 (showReady x1 x2) := by
  intro x1 x2
  unfold showReady
  exact (by (try dsimp only); first | (split; exacts [(Keeps.refl _), (Keeps.fold (fun _ _ => (Keeps.ite (Keeps.refl _) (Keeps.tail
      (keeps_chSet _ _ _) (Keeps.refl _)))) (Keeps.fold (fun _ _ => (Keeps.fold (fun _ _ => (Keeps.ite (Keeps.refl _) (Keeps.tail
      (keeps_swSet _ _ _ _) (Keeps.refl _)))) (Keeps.refl _))) (Keeps.fold (fun _ _ => (Keeps.ite (Keeps.refl _) (Keeps.tail (keeps_wMod _ _ _)
      (Keeps.refl _)))) (Keeps.refl _))))]))

theorem keeps_execImageAccepted : ∀ x1 x2, KeepsO x2 (execImageAccepted x1 x2) := by
  intro x1 x2
  unfold execImageAccepted
  exact (by (try dsimp only); first | (split; exacts [(show Keeps _ _ from (Keeps.refl _)), (Keeps.iteO (show Keeps _ _ from (Keeps.refl _)) (by
      (try dsimp only); first | (split; exacts [(show Keeps _ _ from (Keeps.ite (Keeps.tail (keeps_raise _ _ _) (Keeps.tail (keeps_bump _ _ _ _ _ _)
      (Keeps.tail (keeps_endLoad _ _ _ _) (Keeps.refl _)))) (Keeps.tail (keeps_endLoad _ _ _ _) (Keeps.refl _)))), (show Keeps _ _ from (Keeps.tail
      (keeps_showReady _ _) (Keeps.tail (keeps_ctxMod _ _ _) (Keeps.tail (keeps_clearShadows _ _) (Keeps.refl _)))))])))]))

theorem keeps_readyShadows : ∀ x1 x2, Keeps x2 (readyShadows x1 x2) := by
  intro x1 x2
  unfold readyShadows
  exact (Keeps.fold (fun _ _ => (Keeps.tail (keeps_chSet _ _ _) (Keeps.refl _))) (Keeps.fold (fun _ _ => (Keeps.fold (fun _ _ => (Keeps.tail
      (keeps_swSet _ _ _ _) (Keeps.refl _))) (Keeps.refl _))) (Keeps.fold (fun _ _ => (Keeps.tail (keeps_wMod _ _ _) (Keeps.refl _)))
      (Keeps.refl _))))

theorem keeps_execLoadComplete : ∀ x1 x2, KeepsO x2 (execLoadComplete x1 x2) := by
  intro x1 x2
  unfold execLoadComplete
  exact (by (try dsimp only); first | (split; exacts [(show Keeps _ _ from (Keeps.refl _)), (by (try dsimp only); first |
      (split; exacts [(Keeps.iteO (show Keeps _ _ from (Keeps.refl _)) (show Keeps _ _ from (Keeps.tail (keeps_finishCmd _ _ _ _ _) (Keeps.tail
      (keeps_ctxMod _ _ _) (Keeps.tail (keeps_readyShadows _ _) (Keeps.refl _)))))), (show Keeps _ _ from (Keeps.refl _))]))]))

theorem keeps_takeThatch : ∀ x1 x2, Keeps x2 (takeThatch x1 x2) := by
  intro x1 x2
  unfold takeThatch
  exact (Keeps.tail (keeps_ctxMod _ _ _) (Keeps.refl _))

theorem keeps_writePresets : ∀ x1 x2 x3, Keeps x3 (writePresets x1 x2 x3) := by
  intro x1 x2 x3
  unfold writePresets
  exact (Keeps.fold (fun _ _ => (Keeps.tail (keeps_dmaSetPresets _ _ _) (Keeps.refl _))) (Keeps.refl _))

theorem keeps_writeObjs : ∀ x1 x2, Keeps x2 (writeObjs x1 x2) := by
  intro x1 x2
  unfold writeObjs
  exact (Keeps.upd (Keeps.refl _))

theorem keeps_swapTimed : ∀ x1 x2, Keeps x2 (swapTimed x1 x2) := by
  intro x1 x2
  unfold swapTimed
  exact (Keeps.fold (fun _ _ => (Keeps.tail (keeps_chSet _ _ _) (Keeps.refl _))) (Keeps.fold (fun _ _ => (Keeps.tail (keeps_dropSet _ _ _)
      (Keeps.refl _))) (Keeps.refl _)))

theorem keeps_flipAll : ∀ x1 x2, Keeps x2 (flipAll x1 x2) := by
  intro x1 x2
  unfold flipAll
  exact (Keeps.fold (fun _ _ => (Keeps.fold (fun _ _ => (Keeps.tail (keeps_swSet _ _ _ _) (Keeps.refl _))) (Keeps.refl _))) (Keeps.fold (fun _ _ =>
      (Keeps.tail (keeps_wMod _ _ _) (Keeps.refl _))) (Keeps.refl _)))

theorem keeps_flipNow : ∀ x1 x2, Keeps x2 (flipNow x1 x2) := by
  intro x1 x2
  unfold flipNow
  exact (by (try dsimp only); first | (split; exacts [(Keeps.refl _), (Keeps.tail (keeps_takeThatch _ _) (Keeps.tail (keeps_writePresets _ _ _)
      (Keeps.tail (keeps_writeObjs _ _) (Keeps.tail (keeps_swapTimed _ _) (Keeps.tail (keeps_flipAll _ _) (Keeps.refl _))))))]))

theorem keeps_execCourse : ∀ x1 x2, KeepsO x2 (execCourse x1 x2) := by
  intro x1 x2
  unfold execCourse
  exact (show Keeps _ _ from (Keeps.tail (keeps_runCmd _ _ _ _ (fun _ _ => (Keeps.ite (Keeps.tail (keeps_endCmd _ _ _ _ _) (Keeps.refl _)) (by
      (try dsimp only); first | (split; exacts [(Keeps.tail (keeps_endCmd _ _ _ _ _) (Keeps.refl _)), (Keeps.ite (Keeps.tail
      (keeps_endCmd _ _ _ _ _) (Keeps.refl _)) (Keeps.ite (Keeps.tail (keeps_endCmd _ _ _ _ _) (Keeps.refl _)) (Keeps.ite (Keeps.tail
      (keeps_endCmd _ _ _ _ _) (Keeps.refl _)) (by (try dsimp only); first | (split; exacts [(Keeps.tail (keeps_startCmd _ _) (Keeps.tail
      (keeps_ctxSet _ _ _) (Keeps.refl _))), (Keeps.tail (keeps_endCmd _ _ _ _ _) (Keeps.tail (keeps_ctxMod _ _ _) (Keeps.tail
      (keeps_rset _ _ _ _ _) (Keeps.tail (keeps_flipNow _ _) (Keeps.refl _)))))])))))]))))) (Keeps.refl _)))

theorem keeps_execReset : ∀ x1 x2, KeepsO x2 (execReset x1 x2) := by
  intro x1 x2
  unfold execReset
  exact (show Keeps _ _ from (Keeps.tail (keeps_runCmd _ _ _ _ (fun _ _ => (Keeps.ite (Keeps.tail (keeps_endCmd _ _ _ _ _) (Keeps.refl _))
      (Keeps.ite (Keeps.tail (keeps_endCmd _ _ _ _ _) (Keeps.refl _)) (Keeps.tail (keeps_startCmd _ _) (Keeps.tail (keeps_ctxResetReq _ _ _)
      (Keeps.refl _))))))) (Keeps.refl _)))

theorem keeps_execRelease : ∀ x1 x2, KeepsO x2 (execRelease x1 x2) := by
  intro x1 x2
  unfold execRelease
  exact (show Keeps _ _ from (Keeps.tail (keeps_runCmd _ _ _ _ (fun _ _ => (Keeps.ite (Keeps.tail (keeps_endFree _ _ _) (Keeps.refl _)) (Keeps.ite
      (Keeps.tail (keeps_enterRelease _ _) (Keeps.tail (keeps_startCmd _ _) (Keeps.refl _))) (Keeps.tail (keeps_ctxMod _ _ _) (Keeps.tail
      (keeps_ctxResetReq _ _ _) (Keeps.tail (keeps_startCmd _ _) (Keeps.refl _)))))))) (Keeps.refl _)))

theorem keeps_freeAllot : ∀ x1 x2, Keeps x2 (freeAllot x1 x2) := by
  intro x1 x2
  unfold freeAllot
  exact (by (try dsimp only); first | (split; exacts [(Keeps.refl _), (Keeps.tail (keeps_ctxSet _ _ _) (Keeps.tail (keeps_clearUnits _ _)
      (Keeps.tail (keeps_rset _ _ _ _ _) (Keeps.tail (keeps_rset _ _ _ _ _) (Keeps.tail (keeps_rset _ _ _ _ _) (Keeps.tail
      (keeps_showAllot _ _ _ _ _) (Keeps.tail (keeps_rset _ _ _ _ _) (Keeps.tail (keeps_rset _ _ _ _ _) (Keeps.fold (fun _ _ => (Keeps.tail
      (keeps_rset _ _ _ _ _) (Keeps.tail (keeps_rset _ _ _ _ _) (Keeps.tail (keeps_rset _ _ _ _ _) (Keeps.tail (keeps_dmSet _ _ _)
      (Keeps.refl _)))))) (Keeps.fold (fun _ _ => (Keeps.tail (keeps_holdLane _ _ _ _) (Keeps.refl _))) (Keeps.fold (fun _ _ => (Keeps.tail
      (keeps_rset _ _ _ _ _) (Keeps.tail (keeps_rset _ _ _ _ _) (Keeps.refl _)))) (Keeps.refl _))))))))))))]))

theorem keeps_wipeAllot : ∀ x1 x2, Keeps x2 (wipeAllot x1 x2) := by
  intro x1 x2
  unfold wipeAllot
  exact (Keeps.wipe (Keeps.refl _) rfl rfl rfl)

theorem keeps_execReleaseWipeComplete : ∀ x1 x2, KeepsO x2 (execReleaseWipeComplete x1 x2) := by
  intro x1 x2
  unfold execReleaseWipeComplete
  exact (Keeps.iteO (show Keeps _ _ from (Keeps.refl _)) (show Keeps _ _ from (by (try dsimp only); first | (split; exacts [(Keeps.tail
      (keeps_endCmd _ _ _ _ _) (Keeps.tail (keeps_freeAllot _ _) (Keeps.tail (keeps_wipeAllot _ _) (Keeps.refl _)))), (Keeps.tail
      (keeps_freeAllot _ _) (Keeps.tail (keeps_wipeAllot _ _) (Keeps.refl _)))]))))

theorem keeps_execWarmReset : ∀ x1 x2, KeepsO x2 (execWarmReset x1 x2) := by
  intro x1 x2
  unfold execWarmReset
  exact (show Keeps _ _ from (Keeps.tail (keeps_runCmd _ _ _ _ (fun _ _ => (Keeps.ite (Keeps.tail (keeps_endCmd _ _ _ _ _) (Keeps.refl _))
      (Keeps.tail (keeps_warmRequest _) (Keeps.upd (Keeps.tail (keeps_startCmd _ _) (Keeps.refl _))))))) (Keeps.refl _)))

theorem keeps_execColdReset : ∀ x1 x2, KeepsO x2 (execColdReset x1 x2) := by
  intro x1 x2
  unfold execColdReset
  exact (show Keeps _ _ from (Keeps.tail (keeps_runCmd _ _ _ _ (fun _ _ => (Keeps.ite (Keeps.refl _) (Keeps.tail (keeps_coldReset _ _)
      (Keeps.refl _))))) (Keeps.refl _)))

theorem keeps_execShutdown : ∀ x1 x2, KeepsO x2 (execShutdown x1 x2) := by
  intro x1 x2
  unfold execShutdown
  exact (show Keeps _ _ from (Keeps.tail (keeps_runCmd _ _ _ _ (fun _ _ => (Keeps.ite (Keeps.tail (keeps_endFree _ _ _) (Keeps.refl _)) (Keeps.ite
      (Keeps.upd (Keeps.tail (keeps_startCmd _ _) (Keeps.upd (Keeps.refl _)))) (Keeps.tail (keeps_endCmd _ _ _ _ _) (Keeps.upd (Keeps.refl _)))))))
      (Keeps.refl _)))

theorem keeps_execShutdownTestComplete : ∀ x1 x2, KeepsO x2 (execShutdownTestComplete x1 x2) := by
  intro x1 x2
  unfold execShutdownTestComplete
  exact (by (try dsimp only); first | (split; exacts [(show Keeps _ _ from (Keeps.refl _)), (show Keeps _ _ from (Keeps.tail
      (keeps_endCmd _ _ _ _ _) (Keeps.upd (Keeps.ite (Keeps.updDraw (Keeps.refl _)) (Keeps.refl _)))))]))

theorem keeps_windowFaulted : ∀ x1 x2 x3 x4, Keeps x4 (windowFaulted x1 x2 x3 x4) := by
  intro x1 x2 x3 x4
  unfold windowFaulted
  exact (Keeps.tail (keeps_hostRec _ _ _ _ _) (Keeps.ite (Keeps.tail (keeps_bump _ _ _ _ _ _) (Keeps.refl _)) (Keeps.tail (keeps_rset _ _ _ _ _)
      (Keeps.tail (keeps_rset _ _ _ _ _) (Keeps.tail (keeps_rset _ _ _ _ _) (Keeps.tail (keeps_bump _ _ _ _ _ _) (Keeps.refl _)))))))

theorem keeps_qpop : ∀ x1 x2 x3, Keeps x3 (qpop x1 x2 x3).2 := by
  intro x1 x2 x3
  unfold qpop
  exact (by (try dsimp only); first | (split; exacts [(Keeps.tail (keeps_rset _ _ _ _ _) (Keeps.refl _)), (Keeps.tail (keeps_creditBack _ _ _)
      (Keeps.tail (keeps_rset _ _ _ _ _) (Keeps.tail (keeps_rset _ _ _ _ _) (Keeps.tail (keeps_rset _ _ _ _ _) (Keeps.tail (keeps_rset _ _ _ _ _)
      (Keeps.tail (keeps_rset _ _ _ _ _) (Keeps.tail (keeps_wMod _ _ _) (Keeps.refl _))))))))]))

theorem keeps_regReadAt : ∀ x1 x2 x3 x4 x5 x6 x7 x8, Keeps x8 (regReadAt x1 x2 x3 x4 x5 x6 x7 x8).2 := by
  intro x1 x2 x3 x4 x5 x6 x7 x8
  unfold regReadAt
  exact (Keeps.ite2 (Keeps.refl _) (Keeps.ite2 (Keeps.ite2 (Keeps.tail (keeps_qpop _ _ _) (Keeps.refl _)) (Keeps.refl _)) (Keeps.ite2 (Keeps.ite
      (Keeps.tail (keeps_clearRc _ _ _ _) (Keeps.refl _)) (Keeps.refl _)) (Keeps.ite2 (Keeps.ite (Keeps.upd (Keeps.ite (Keeps.tail
      (keeps_clearRc _ _ _ _) (Keeps.refl _)) (Keeps.refl _))) (Keeps.ite (Keeps.tail (keeps_clearRc _ _ _ _) (Keeps.refl _)) (Keeps.refl _))) (by
      (try dsimp only); first | (split; exacts [(Keeps.upd (Keeps.ite (Keeps.tail (keeps_clearRc _ _ _ _) (Keeps.refl _)) (Keeps.refl _))),
      (Keeps.ite (Keeps.tail (keeps_clearRc _ _ _ _) (Keeps.refl _)) (Keeps.refl _))]))))))

theorem keeps_regRead : ∀ x1 x2 x3 x4, Keeps x4 (regRead x1 x2 x3 x4).2 := by
  intro x1 x2 x3 x4
  unfold regRead
  exact (by (try dsimp only); first | (split; exacts [(Keeps.refl _), (Keeps.refl _), (Keeps.tail (keeps_regReadAt _ _ _ _ _ _ _ _) (Keeps.refl _)),
      (Keeps.refl _), (Keeps.refl _), (Keeps.refl _), (Keeps.refl _), (Keeps.refl _)]))

theorem keeps_poisonReads : ∀ x1 x2 x3 x4, Keeps x4 (poisonReads x1 x2 x3 x4) := by
  intro x1 x2 x3 x4
  unfold poisonReads
  exact (Keeps.fold (fun _ _ => (by (try dsimp only); first | (split; exacts [(Keeps.ite (Keeps.tail (keeps_poisonBlock _ _ _ _) (Keeps.refl _))
      (Keeps.refl _)), (Keeps.tail (keeps_poisonSeen _ _ _) (Keeps.refl _)), (Keeps.refl _)]))) (Keeps.refl _))

theorem keeps_execHiveWindowRead : ∀ x1 x2 x3 x4, KeepsO x4 (execHiveWindowRead x1 x2 x3 x4) := by
  intro x1 x2 x3 x4
  unfold execHiveWindowRead
  exact (Keeps.iteO (show Keeps _ _ from (Keeps.refl _)) (Keeps.iteO (show Keeps _ _ from (Keeps.upd (Keeps.tail (keeps_windowFaulted _ _ _ _)
      (Keeps.refl _)))) (Keeps.iteO (show Keeps _ _ from (keeps_readTo (Keeps.tail (keeps_regRead _ _ _ _) (Keeps.refl _)))) (show Keeps _ _ from
      (Keeps.upd (Keeps.tail (keeps_poisonReads _ _ _ _) (Keeps.tail (keeps_checkRead _ _ _ _ _) (Keeps.refl _))))))))

theorem keeps_poisonedWrite : ∀ x1 x2 x3, Keeps x3 (poisonedWrite x1 x2 x3) := by
  intro x1 x2 x3
  unfold poisonedWrite
  exact (Keeps.tail (keeps_hostRec _ _ _ _ _) (Keeps.refl _))

theorem keeps_fqCfg : ∀ x1 x2 x3, Keeps x3 (fqCfg x1 x2 x3) := by
  intro x1 x2 x3
  unfold fqCfg
  exact (Keeps.tail (keeps_ringCfg _ _ _ _ _ _ _) (Keeps.refl _))

theorem keeps_fqHead : ∀ x1 x2 x3, Keeps x3 (fqHead x1 x2 x3) := by
  intro x1 x2 x3
  unfold fqHead
  exact (Keeps.tail (keeps_rset _ _ _ _ _) (Keeps.refl _))

theorem keeps_plainWrite : ∀ x1 x2 x3 x4 x5 x6, Keeps x6 (plainWrite x1 x2 x3 x4 x5 x6) := by
  intro x1 x2 x3 x4 x5 x6
  unfold plainWrite
  exact (Keeps.fold (fun _ _ => (by (try dsimp only); first | (split; exacts [(Keeps.tail (keeps_rset _ _ _ _ _) (Keeps.refl _)), (Keeps.tail
      (keeps_rset _ _ _ _ _) (Keeps.refl _)), (Keeps.tail (keeps_rset _ _ _ _ _) (Keeps.refl _)), (Keeps.refl _)]))) (Keeps.refl _))

theorem keeps_objWrite : ∀ x1 x2 x3 x4, Keeps x4 (objWrite x1 x2 x3 x4) := by
  intro x1 x2 x3 x4
  unfold objWrite
  exact (Keeps.tail (keeps_wakeAll _ _ _) (Keeps.tail (keeps_bump _ _ _ _ _ _) (Keeps.tail (keeps_objSet _ _ _ _) (Keeps.refl _))))

theorem keeps_execEavCtxCfgWrite : ∀ x1 x2 x3 x4, KeepsO x4 (execEavCtxCfgWrite x1 x2 x3 x4) := by
  intro x1 x2 x3 x4
  unfold execEavCtxCfgWrite
  exact (Keeps.iteO (show Keeps _ _ from (Keeps.refl _)) (show Keeps _ _ from (Keeps.tail (keeps_ctxMod _ _ _) (Keeps.tail (keeps_rset _ _ _ _ _)
      (Keeps.tail (keeps_rset _ _ _ _ _) (Keeps.tail (keeps_rset _ _ _ _ _) (Keeps.refl _)))))))

theorem keeps_wiring : ∀ x1 x2, Keeps x2 (wiring x1 x2) := by
  intro x1 x2
  unfold wiring
  exact (Keeps.ite (Keeps.refl _) (Keeps.ite (Keeps.tail (keeps_pump _ _) (Keeps.tail (keeps_portHealth _) (Keeps.tail (keeps_repair _) (Keeps.tail
      (keeps_rset _ _ _ _ _) (Keeps.refl _))))) (Keeps.tail (keeps_portHealth _) (Keeps.tail (keeps_repair _) (Keeps.ite (Keeps.tail
      (keeps_rset _ _ _ _ _) (Keeps.refl _)) (Keeps.tail (keeps_portRaise _ _ _ _ _ _) (Keeps.tail (keeps_rset _ _ _ _ _) (Keeps.refl _))))))))

theorem keeps_execPrtTopoWrite : ∀ x1 x2 x3, KeepsO x3 (execPrtTopoWrite x1 x2 x3) := by
  intro x1 x2 x3
  unfold execPrtTopoWrite
  exact (Keeps.iteO (show Keeps _ _ from (Keeps.refl _)) (Keeps.iteO (show Keeps _ _ from (Keeps.tail (keeps_portEvt _ _ _) (Keeps.refl _)))
      (show Keeps _ _ from (Keeps.tail (keeps_portHealth _) (Keeps.fold (fun _ _ => (Keeps.ite (Keeps.tail (keeps_wiring _ _) (Keeps.tail
      (keeps_sendCtl _ _ _) (Keeps.refl _))) (Keeps.refl _))) (Keeps.tail (keeps_rset _ _ _ _ _) (Keeps.tail (keeps_rset _ _ _ _ _) (Keeps.tail
      (keeps_rset _ _ _ _ _) (Keeps.tail (keeps_rset _ _ _ _ _) (Keeps.tail (keeps_rset _ _ _ _ _) (Keeps.tail (keeps_rset _ _ _ _ _) (Keeps.tail
      (keeps_rset _ _ _ _ _) (Keeps.tail (keeps_rset _ _ _ _ _) (Keeps.tail (keeps_rset _ _ _ _ _) (Keeps.refl _)))))))))))))))

theorem keeps_execAdmitOpen : ∀ x1 x2 x3, KeepsO x3 (execAdmitOpen x1 x2 x3) := by
  intro x1 x2 x3
  unfold execAdmitOpen
  exact (Keeps.iteO (show Keeps _ _ from (Keeps.refl _)) (show Keeps _ _ from (Keeps.ite (Keeps.tail (keeps_setAdmit _ _) (Keeps.tail
      (keeps_rset _ _ _ _ _) (Keeps.refl _))) (Keeps.ite (Keeps.tail (keeps_setAdmit _ _) (Keeps.upd (Keeps.tail (keeps_rset _ _ _ _ _)
      (Keeps.refl _)))) (Keeps.tail (keeps_rset _ _ _ _ _) (Keeps.refl _))))))

theorem keeps_twinWrite : ∀ x1 x2 x3, Keeps x3 (twinWrite x1 x2 x3) := by
  intro x1 x2 x3
  unfold twinWrite
  exact (Keeps.ite (Keeps.ite (Keeps.refl _) (Keeps.tail (keeps_rset _ _ _ _ _) (Keeps.refl _))) (keeps_andThen (keeps_execAdmitOpen _ _ _)
      (Keeps.ite (Keeps.refl _) (Keeps.tail (keeps_rset _ _ _ _ _) (Keeps.refl _))) (Keeps.ite (Keeps.refl _) (Keeps.tail (keeps_rset _ _ _ _ _)
      (Keeps.refl _)))))

theorem keeps_spanWrite : ∀ x1 x2 x3, Keeps x3 (spanWrite x1 x2 x3) := by
  intro x1 x2 x3
  unfold spanWrite
  exact (Keeps.ite (Keeps.refl _) (Keeps.tail (keeps_rset _ _ _ _ _) (Keeps.tail (keeps_rset _ _ _ _ _) (Keeps.tail (keeps_rset _ _ _ _ _)
      (Keeps.tail (keeps_rset _ _ _ _ _) (Keeps.tail (keeps_rset _ _ _ _ _) (Keeps.tail (keeps_rset _ _ _ _ _) (Keeps.refl _))))))))

theorem keeps_execMirrorResume : ∀ x1 x2 x3, KeepsO x3 (execMirrorResume x1 x2 x3) := by
  intro x1 x2 x3
  unfold execMirrorResume
  exact (show Keeps _ _ from (Keeps.ite (Keeps.tail (keeps_rset _ _ _ _ _) (Keeps.tail (keeps_rset _ _ _ _ _) (Keeps.tail (keeps_rset _ _ _ _ _)
      (Keeps.tail (keeps_rset _ _ _ _ _) (Keeps.refl _))))) (Keeps.refl _)))

theorem keeps_mirCfgWrite : ∀ x1 x2 x3 x4 x5, Keeps x5 (mirCfgWrite x1 x2 x3 x4 x5) := by
  intro x1 x2 x3 x4 x5
  unfold mirCfgWrite
  exact (by (try dsimp only); split; exacts [(keeps_andThen (keeps_execMirrorResume _ _ _) (Keeps.tail (keeps_rset _ _ _ _ _) (Keeps.tail
      (keeps_rset _ _ _ _ _) (Keeps.refl _))) (Keeps.tail (keeps_rset _ _ _ _ _) (Keeps.tail (keeps_rset _ _ _ _ _) (Keeps.refl _)))), (Keeps.tail
      (keeps_rset _ _ _ _ _) (Keeps.tail (keeps_rset _ _ _ _ _) (Keeps.refl _)))])

theorem keeps_recovLoad : ∀ x1 x2 x3, Keeps x3 (recovLoad x1 x2 x3) := by
  intro x1 x2 x3
  unfold recovLoad
  exact (Keeps.ite (Keeps.refl _) (Keeps.ite (Keeps.tail (keeps_rset _ _ _ _ _) (Keeps.tail (keeps_rset _ _ _ _ _) (Keeps.refl _))) (by
      (try dsimp only); first | (split; exacts [(Keeps.tail (keeps_coldReset _ _) (Keeps.upd (Keeps.tail (keeps_rset _ _ _ _ _) (Keeps.refl _)))),
      (Keeps.tail (keeps_rset _ _ _ _ _) (Keeps.tail (keeps_rset _ _ _ _ _) (Keeps.refl _)))]))))

theorem keeps_rowWrite : ∀ x1 x2 x3 x4 x5 x6 x7 x8, Keeps x8 (rowWrite x1 x2 x3 x4 x5 x6 x7 x8) := by
  intro x1 x2 x3 x4 x5 x6 x7 x8
  unfold rowWrite
  exact (by (try dsimp only); first | (split; exacts [(Keeps.tail (keeps_ctxCtrlWrite _ _ _) (Keeps.refl _)), (Keeps.tail (keeps_cqCfg _ _ _)
      (Keeps.refl _)), (Keeps.tail (keeps_fqCfg _ _ _) (Keeps.refl _)), (Keeps.tail (keeps_cqHead _ _ _) (Keeps.refl _)), (Keeps.tail
      (keeps_fqHead _ _ _) (Keeps.refl _)), (Keeps.ite (Keeps.refl _) (Keeps.tail (keeps_plainWrite _ _ _ _ _ _) (Keeps.refl _))), (Keeps.ite
      (Keeps.refl _) (Keeps.tail (keeps_plainWrite _ _ _ _ _ _) (Keeps.refl _))), (Keeps.tail (keeps_dbgWrite _ _ _) (Keeps.refl _)), (Keeps.ite
      (Keeps.tail (keeps_objWrite _ _ _ _) (Keeps.refl _)) (Keeps.refl _)), (by (try dsimp only); split; exacts [(keeps_andThen
      (keeps_execEavCtxCfgWrite _ _ _ _) (Keeps.refl _) (Keeps.refl _)), (Keeps.refl _)]), (keeps_andThen (keeps_execPrtTopoWrite _ _ _)
      (Keeps.refl _) (Keeps.refl _)), (Keeps.tail (keeps_twinWrite _ _ _) (Keeps.refl _)), (Keeps.tail (keeps_spanWrite _ _ _) (Keeps.refl _)),
      (Keeps.tail (keeps_mirCfgWrite _ _ _ _ _) (Keeps.refl _)), (Keeps.tail (keeps_dmaCtrl _ _ _) (Keeps.refl _)), (Keeps.ite (Keeps.tail
      (keeps_plainWrite _ _ _ _ _ _) (Keeps.refl _)) (Keeps.refl _)), (Keeps.ite (Keeps.tail (keeps_recovLoad _ _ _) (Keeps.refl _)) (Keeps.tail
      (keeps_plainWrite _ _ _ _ _ _) (Keeps.refl _))), (Keeps.tail (keeps_rset _ _ _ _ _) (Keeps.tail (keeps_rset _ _ _ _ _) (Keeps.refl _))),
      (Keeps.tail (keeps_capCfgWrite _ _ _) (Keeps.refl _)), (Keeps.tail (keeps_plainWrite _ _ _ _ _ _) (Keeps.refl _))]))

theorem keeps_msixWrite : ∀ x1 x2 x3 x4, Keeps x4 (msixWrite x1 x2 x3 x4) := by
  intro x1 x2 x3 x4
  unfold msixWrite
  exact (Keeps.ite (Keeps.tail (keeps_msix _ _ _) (Keeps.tail (keeps_hostSet _ _ _) (Keeps.refl _))) (Keeps.tail (keeps_hostSet _ _ _)
      (Keeps.refl _)))

theorem keeps_regWrite : ∀ x1 x2 x3 x4 x5, Keeps x5 (regWrite x1 x2 x3 x4 x5) := by
  intro x1 x2 x3 x4 x5
  unfold regWrite
  exact (Keeps.ite (Keeps.refl _) (by (try dsimp only); first | (split; exacts [(Keeps.ite (Keeps.tail (keeps_rowWrite _ _ _ _ _ _ _ _)
      (Keeps.refl _)) (Keeps.refl _)), (Keeps.ite (Keeps.tail (keeps_msixWrite _ _ _ _) (Keeps.refl _)) (Keeps.ite (Keeps.tail
      (keeps_msixWrite _ _ _ _) (Keeps.tail (keeps_msixWrite _ _ _ _) (Keeps.refl _))) (Keeps.refl _))), (Keeps.tail (keeps_inboxWrite _ _ _ _)
      (Keeps.refl _)), (Keeps.refl _)])))

theorem keeps_execHiveWindowWrite : ∀ x1 x2 x3 x4 x5, KeepsO x5 (execHiveWindowWrite x1 x2 x3 x4 x5) := by
  intro x1 x2 x3 x4 x5
  unfold execHiveWindowWrite
  exact (Keeps.iteO (show Keeps _ _ from (Keeps.refl _)) (by (try dsimp only); first | (split; exacts [(show Keeps _ _ from (Keeps.tail
      (keeps_poisonedWrite _ _ _) (Keeps.refl _))), (show Keeps _ _ from (Keeps.tail (keeps_poisonedWrite _ _ _) (Keeps.refl _))), (Keeps.iteO
      (show Keeps _ _ from (Keeps.tail (keeps_windowFaulted _ _ _ _) (Keeps.refl _))) (Keeps.iteO (show Keeps _ _ from (by (try dsimp only); first |
      (split; exacts [(Keeps.tail (keeps_inboxWrite _ _ _ _) (Keeps.refl _)), (Keeps.tail (keeps_regWrite _ _ _ _ _) (Keeps.refl _))])))
      (show Keeps _ _ from (Keeps.tail (keeps_locWrite _ _ _ _) (Keeps.refl _)))))])))

theorem keeps_execCqHeadWrite : ∀ x1 x2 x3, KeepsO x3 (execCqHeadWrite x1 x2 x3) := by
  intro x1 x2 x3
  unfold execCqHeadWrite
  exact (show Keeps _ _ from (Keeps.tail (keeps_cqHead _ _ _) (Keeps.refl _)))

theorem keeps_execFqHeadWrite : ∀ x1 x2 x3, KeepsO x3 (execFqHeadWrite x1 x2 x3) := by
  intro x1 x2 x3
  unfold execFqHeadWrite
  exact (show Keeps _ _ from (Keeps.tail (keeps_fqHead _ _ _) (Keeps.refl _)))

theorem keeps_execCqEnable : ∀ x1 x2 x3, KeepsO x3 (execCqEnable x1 x2 x3) := by
  intro x1 x2 x3
  unfold execCqEnable
  exact (show Keeps _ _ from (Keeps.tail (keeps_cqCfg _ _ _) (Keeps.refl _)))

theorem keeps_execFqEnable : ∀ x1 x2 x3, KeepsO x3 (execFqEnable x1 x2 x3) := by
  intro x1 x2 x3
  unfold execFqEnable
  exact (show Keeps _ _ from (Keeps.tail (keeps_fqCfg _ _ _) (Keeps.refl _)))

theorem keeps_execLinkSpeedChange : ∀ x1 x2 x3 x4, KeepsO x4 (execLinkSpeedChange x1 x2 x3 x4) := by
  intro x1 x2 x3 x4
  unfold execLinkSpeedChange
  exact (Keeps.iteO (show Keeps _ _ from (Keeps.refl _)) (show Keeps _ _ from (Keeps.ite (Keeps.tail (keeps_hostRec _ _ _ _ _) (Keeps.ite
      (Keeps.tail (keeps_msix _ _ _) (Keeps.tail (keeps_rset _ _ _ _ _) (Keeps.tail (keeps_rset _ _ _ _ _) (Keeps.tail (keeps_rset _ _ _ _ _)
      (Keeps.tail (keeps_rset _ _ _ _ _) (Keeps.refl _)))))) (Keeps.tail (keeps_rset _ _ _ _ _) (Keeps.tail (keeps_rset _ _ _ _ _) (Keeps.tail
      (keeps_rset _ _ _ _ _) (Keeps.tail (keeps_rset _ _ _ _ _) (Keeps.refl _))))))) (Keeps.ite (Keeps.tail (keeps_msix _ _ _) (Keeps.tail
      (keeps_rset _ _ _ _ _) (Keeps.tail (keeps_rset _ _ _ _ _) (Keeps.tail (keeps_rset _ _ _ _ _) (Keeps.tail (keeps_rset _ _ _ _ _)
      (Keeps.refl _)))))) (Keeps.tail (keeps_rset _ _ _ _ _) (Keeps.tail (keeps_rset _ _ _ _ _) (Keeps.tail (keeps_rset _ _ _ _ _) (Keeps.tail
      (keeps_rset _ _ _ _ _) (Keeps.refl _)))))))))

theorem keeps_hostReadFail : ∀ x1 x2 x3, KeepsOpt x3 (hostReadFail x1 x2 x3) := by
  intro x1 x2 x3
  unfold hostReadFail
  exact KeepsOpt.ite KeepsOpt.none' (KeepsOpt.ite (KeepsOpt.ite (KeepsOpt.some' (Keeps.tail (keeps_dmaHalt _ _ _ _ _ _ _)
    (Keeps.tail (keeps_dmMod _ _ _) (Keeps.refl _)))) KeepsOpt.none')
    (KeepsOpt.ite (KeepsOpt.some' (Keeps.tail (keeps_dmaError _ _ _ _ _) (Keeps.refl _))) KeepsOpt.none'))

theorem keeps_execCompletionTimeout : ∀ x1 x2 x3, KeepsO x3 (execCompletionTimeout x1 x2 x3) := by
  intro x1 x2 x3
  unfold execCompletionTimeout
  show Keeps _ _
  have h := keeps_hostReadFail (64 + x1.val) x2 x3
  split
  · exact Keeps.refl _
  · rename_i t ht
    exact Keeps.tail (keeps_raise _ _ _) (h t ht)

theorem keeps_execErrorCompletion : ∀ x1 x2 x3, KeepsO x3 (execErrorCompletion x1 x2 x3) := by
  intro x1 x2 x3
  unfold execErrorCompletion
  exact (show Keeps _ _ from (keeps_getD (keeps_hostReadFail _ _ _) (Keeps.refl _) (Keeps.refl _)))

theorem keeps_execPowerStateChange : ∀ x1 x2 x3, KeepsO x3 (execPowerStateChange x1 x2 x3) := by
  intro x1 x2 x3
  unfold execPowerStateChange
  exact (show Keeps _ _ from (Keeps.ite (Keeps.tail (keeps_hostSet _ _ _) (Keeps.refl _)) (Keeps.fold (fun _ _ => (Keeps.tail (keeps_msix _ _ _)
      (Keeps.refl _))) (Keeps.tail (keeps_hostSet _ _ _) (Keeps.tail (keeps_hostSet _ _ _) (Keeps.refl _))))))

theorem keeps_execRegisterWrite : ∀ x1 x2 x3 x4 x5, KeepsO x5 (execRegisterWrite x1 x2 x3 x4 x5) := by
  intro x1 x2 x3 x4 x5
  unfold execRegisterWrite
  exact (show Keeps _ _ from (Keeps.tail (keeps_regWrite _ _ _ _ _) (Keeps.refl _)))

theorem keeps_execRcCounterRead : ∀ x1 x2 x3 x4, KeepsO x4 (execRcCounterRead x1 x2 x3 x4) := by
  intro x1 x2 x3 x4
  unfold execRcCounterRead
  exact (show Keeps _ _ from (keeps_readTo (Keeps.tail (keeps_regRead _ _ _ _) (Keeps.refl _))))

theorem keeps_execLowHalfRead : ∀ x1 x2 x3, KeepsO x3 (execLowHalfRead x1 x2 x3) := by
  intro x1 x2 x3
  unfold execLowHalfRead
  exact (show Keeps _ _ from (keeps_readTo (Keeps.tail (keeps_regRead _ _ _ _) (Keeps.refl _))))

theorem keeps_execGo : ∀ x1 x2 x3, KeepsO x3 (execGo x1 x2 x3) := by
  intro x1 x2 x3
  unfold execGo
  exact (show Keeps _ _ from (Keeps.ite (Keeps.tail (keeps_dmaGo _ _) (Keeps.refl _)) (Keeps.refl _)))

theorem keeps_execStop : ∀ x1 x2 x3, KeepsO x3 (execStop x1 x2 x3) := by
  intro x1 x2 x3
  unfold execStop
  exact (show Keeps _ _ from (Keeps.ite (Keeps.tail (keeps_dmaStop _ _) (Keeps.refl _)) (Keeps.refl _)))

theorem keeps_execResume : ∀ x1 x2 x3, KeepsO x3 (execResume x1 x2 x3) := by
  intro x1 x2 x3
  unfold execResume
  exact (show Keeps _ _ from (Keeps.ite (Keeps.tail (keeps_dmaResume _ _) (Keeps.refl _)) (Keeps.refl _)))

theorem keeps_execSkip : ∀ x1 x2 x3, KeepsO x3 (execSkip x1 x2 x3) := by
  intro x1 x2 x3
  unfold execSkip
  exact (show Keeps _ _ from (Keeps.ite (Keeps.tail (keeps_dmaSkip _ _) (Keeps.refl _)) (Keeps.refl _)))

theorem keeps_execAbort : ∀ x1 x2 x3, KeepsO x3 (execAbort x1 x2 x3) := by
  intro x1 x2 x3
  unfold execAbort
  exact (show Keeps _ _ from (Keeps.ite (Keeps.tail (keeps_dmaAbort _ _) (Keeps.refl _)) (Keeps.refl _)))

theorem keeps_execPreset : ∀ x1 x2 x3, KeepsO x3 (execPreset x1 x2 x3) := by
  intro x1 x2 x3
  unfold execPreset
  exact (show Keeps _ _ from (Keeps.ite (Keeps.tail (keeps_dmaStartPresets _ _) (Keeps.refl _)) (Keeps.refl _)))

theorem keeps_execCtxResetRequest : ∀ x1 x2 x3 x4, KeepsO x4 (execCtxResetRequest x1 x2 x3 x4) := by
  intro x1 x2 x3 x4
  unfold execCtxResetRequest
  exact (show Keeps _ _ from (Keeps.ite (Keeps.tail (keeps_ctxCtrlWrite _ _ _) (Keeps.refl _)) (Keeps.refl _)))

theorem keeps_execWrkDbgHalt : ∀ x1 x2 x3 x4 x5 x6, KeepsO x6 (execWrkDbgHalt x1 x2 x3 x4 x5 x6) := by
  intro x1 x2 x3 x4 x5 x6
  unfold execWrkDbgHalt
  exact (show Keeps _ _ from (Keeps.ite (Keeps.tail (keeps_dbgWrite _ _ _) (Keeps.refl _)) (Keeps.refl _)))

theorem keeps_execWrkDbgStep : ∀ x1 x2 x3, KeepsO x3 (execWrkDbgStep x1 x2 x3) := by
  intro x1 x2 x3
  unfold execWrkDbgStep
  exact (show Keeps _ _ from (Keeps.ite (Keeps.tail (keeps_dbgStep _ _ _) (Keeps.refl _)) (Keeps.refl _)))

theorem keeps_execSynObjWrite : ∀ x1 x2 x3 x4 x5 x6, KeepsO x6 (execSynObjWrite x1 x2 x3 x4 x5 x6) := by
  intro x1 x2 x3 x4 x5 x6
  unfold execSynObjWrite
  exact (show Keeps _ _ from (Keeps.ite (Keeps.tail (keeps_objWrite _ _ _ _) (Keeps.refl _)) (Keeps.refl _)))

theorem keeps_execMsgQpopRead : ∀ x1 x2 x3 x4 x5 x6, KeepsO x6 (execMsgQpopRead x1 x2 x3 x4 x5 x6) := by
  intro x1 x2 x3 x4 x5 x6
  unfold execMsgQpopRead
  exact (show Keeps _ _ from (Keeps.ite (Keeps.upd (Keeps.tail (keeps_qpop _ _ _) (Keeps.refl _))) (Keeps.upd (Keeps.refl _))))

theorem keeps_execKprRecovLoad : ∀ x1 x2 x3 x4, KeepsO x4 (execKprRecovLoad x1 x2 x3 x4) := by
  intro x1 x2 x3 x4
  unfold execKprRecovLoad
  exact (show Keeps _ _ from (Keeps.ite (Keeps.tail (keeps_recovLoad _ _ _) (Keeps.refl _)) (Keeps.refl _)))

theorem keeps_execGetVersion : ∀ x1 x2, KeepsO x2 (execGetVersion x1 x2) := by
  intro x1 x2
  unfold execGetVersion
  exact (show Keeps _ _ from (Keeps.tail (keeps_spdm _ _ _ (fun _ => (Keeps.tail (keeps_respond _ _ _ _) (Keeps.refl _)))) (Keeps.refl _)))

theorem keeps_execGetCapabilities : ∀ x1 x2, KeepsO x2 (execGetCapabilities x1 x2) := by
  intro x1 x2
  unfold execGetCapabilities
  exact (show Keeps _ _ from (Keeps.tail (keeps_spdm _ _ _ (fun _ => (Keeps.tail (keeps_respond _ _ _ _) (Keeps.refl _)))) (Keeps.refl _)))

theorem keeps_execNegotiateAlgorithms : ∀ x1 x2 x3, KeepsO x3 (execNegotiateAlgorithms x1 x2 x3) := by
  intro x1 x2 x3
  unfold execNegotiateAlgorithms
  exact (show Keeps _ _ from (Keeps.tail (keeps_attest _ _ _ (fun _ => (Keeps.tail (keeps_respond _ _ _ _) (Keeps.refl _)))) (Keeps.refl _)))

theorem keeps_execGetDigests : ∀ x1 x2, KeepsO x2 (execGetDigests x1 x2) := by
  intro x1 x2
  unfold execGetDigests
  exact (show Keeps _ _ from (Keeps.tail (keeps_attest _ _ _ (fun _ => (Keeps.tail (keeps_respond _ _ _ _) (Keeps.refl _)))) (Keeps.refl _)))

theorem keeps_execGetCertificate : ∀ x1 x2 x3, KeepsO x3 (execGetCertificate x1 x2 x3) := by
  intro x1 x2 x3
  unfold execGetCertificate
  exact (show Keeps _ _ from (Keeps.tail (keeps_attest _ _ _ (fun _ => (Keeps.ite (Keeps.tail (keeps_respond _ _ _ _) (Keeps.refl _)) (Keeps.tail
      (keeps_spdmError _ _ _) (Keeps.refl _))))) (Keeps.refl _)))

theorem keeps_signed : ∀ x1 x2 x3, Keeps x3 (signed x1 x2 x3) := by
  intro x1 x2 x3
  unfold signed
  exact (Keeps.ite (Keeps.tail (keeps_respond _ _ _ _) (Keeps.updDraw (Keeps.refl _))) (Keeps.tail (keeps_respond _ _ _ _) (Keeps.refl _)))

theorem keeps_execChallenge : ∀ x1 x2 x3, KeepsO x3 (execChallenge x1 x2 x3) := by
  intro x1 x2 x3
  unfold execChallenge
  exact (show Keeps _ _ from (Keeps.tail (keeps_attest _ _ _ (fun _ => (Keeps.ite (Keeps.tail (keeps_signed _ _ _) (Keeps.refl _)) (Keeps.tail
      (keeps_spdmError _ _ _) (Keeps.refl _))))) (Keeps.refl _)))

theorem keeps_execGetMeasurements : ∀ x1 x2 x3, KeepsO x3 (execGetMeasurements x1 x2 x3) := by
  intro x1 x2 x3
  unfold execGetMeasurements
  exact (show Keeps _ _ from (Keeps.tail (keeps_attest _ _ _ (fun _ => (Keeps.ite (Keeps.tail (keeps_signed _ _ _) (Keeps.refl _)) (Keeps.ite
      (Keeps.tail (keeps_spdmError _ _ _) (Keeps.refl _)) (Keeps.tail (keeps_signed _ _ _) (Keeps.refl _)))))) (Keeps.refl _)))

theorem keeps_execKeyExchange : ∀ x1 x2, KeepsO x2 (execKeyExchange x1 x2) := by
  intro x1 x2
  unfold execKeyExchange
  exact (show Keeps _ _ from (Keeps.tail (keeps_spdm _ _ _ (fun _ => (by (try dsimp only); first | (split; exacts [(Keeps.tail
      (keeps_spdmError _ _ _) (Keeps.refl _)), (Keeps.tail (keeps_signed _ _ _) (Keeps.upd (Keeps.refl _)))])))) (Keeps.refl _)))

theorem keeps_execFinish : ∀ x1 x2 x3, KeepsO x3 (execFinish x1 x2 x3) := by
  intro x1 x2 x3
  unfold execFinish
  exact (show Keeps _ _ from (Keeps.ite (Keeps.refl _) (by (try dsimp only); first | (split; exacts [(Keeps.tail (keeps_unsupported _)
      (Keeps.refl _)), (by (try dsimp only); first | (split; exacts [(Keeps.ite (Keeps.tail (keeps_authFail _) (Keeps.refl _)) (Keeps.ite
      (Keeps.tail (keeps_authFail _) (Keeps.tail (keeps_dropSession _ _) (Keeps.refl _))) (Keeps.tail (keeps_respond _ _ _ _) (Keeps.upd
      (Keeps.refl _))))), (Keeps.tail (keeps_authFail _) (Keeps.refl _))]))]))))

theorem keeps_inSession : ∀ x1 x2 x3, (∀ z0 z1 z2, Keeps z2 (x2 z0 z1 z2)) → Keeps x3 (inSession x1 x2 x3) := by
  intro x1 x2 x3 h_x2
  unfold inSession
  exact (Keeps.tail (keeps_spdm _ _ _ (fun _ => (by (try dsimp only); first | (split; exacts [(Keeps.tail (keeps_unsupported _) (Keeps.refl _)), (by
      (try dsimp only); first | (split; exacts [(Keeps.tail (h_x2 _ _ _) (Keeps.refl _)), (Keeps.refl _)]))])))) (Keeps.refl _))

theorem keeps_execHeartbeat : ∀ x1 x2, KeepsO x2 (execHeartbeat x1 x2) := by
  intro x1 x2
  unfold execHeartbeat
  exact (show Keeps _ _ from (Keeps.tail (keeps_inSession _ _ _ (fun _ _ _ => (Keeps.tail (keeps_respond _ _ _ _) (Keeps.refl _)))) (Keeps.refl _)))

theorem keeps_execKeyUpdate : ∀ x1 x2, KeepsO x2 (execKeyUpdate x1 x2) := by
  intro x1 x2
  unfold execKeyUpdate
  exact (show Keeps _ _ from (Keeps.tail (keeps_inSession _ _ _ (fun _ _ _ => (Keeps.tail (keeps_respond _ _ _ _) (Keeps.upd (Keeps.refl _)))))
      (Keeps.refl _)))

theorem keeps_execEndSession : ∀ x1 x2, KeepsO x2 (execEndSession x1 x2) := by
  intro x1 x2
  unfold execEndSession
  exact (show Keeps _ _ from (Keeps.tail (keeps_inSession _ _ _ (fun _ _ _ => (Keeps.tail (keeps_respond _ _ _ _) (Keeps.tail
      (keeps_dropSession _ _) (Keeps.refl _))))) (Keeps.refl _)))

theorem keeps_execIdeKm : ∀ x1 x2, KeepsO x2 (execIdeKm x1 x2) := by
  intro x1 x2
  unfold execIdeKm
  exact (show Keeps _ _ from (Keeps.tail (keeps_inSession _ _ _ (fun _ _ _ => (Keeps.ite (Keeps.tail (keeps_respond _ _ _ _) (Keeps.tail
      (keeps_rset _ _ _ _ _) (Keeps.upd (Keeps.refl _)))) (Keeps.tail (keeps_unsupported _) (Keeps.refl _))))) (Keeps.refl _)))

theorem keeps_lcRequest : ∀ x1 x2 x3, (∀ z0, Keeps z0 (x2 z0)) → Keeps x3 (lcRequest x1 x2 x3) := by
  intro x1 x2 x3 h_x2
  unfold lcRequest
  exact (Keeps.tail (keeps_spdm _ _ _ (fun _ => (Keeps.ite (Keeps.tail (h_x2 _) (Keeps.refl _)) (Keeps.tail (keeps_unsupported _) (Keeps.refl _)))))
      (Keeps.refl _))

theorem keeps_execLcNonce : ∀ x1 x2, KeepsO x2 (execLcNonce x1 x2) := by
  intro x1 x2
  unfold execLcNonce
  exact (show Keeps _ _ from (Keeps.tail (keeps_lcRequest _ _ _ (fun _ => (Keeps.tail (keeps_respond _ _ _ _) (Keeps.updDraw (Keeps.refl _)))))
      (Keeps.refl _)))

theorem keeps_lcFail : ∀ x1 x2 x3, Keeps x3 (lcFail x1 x2 x3) := by
  intro x1 x2 x3
  unfold lcFail
  exact (Keeps.tail (keeps_respond _ _ _ _) (Keeps.tail (keeps_raise _ _ _) (Keeps.tail (keeps_bump _ _ _ _ _ _) (Keeps.refl _))))

theorem keeps_lcRun : ∀ x1 x2 x3 x4 x5, (∀ z0, Keeps z0 (x4 z0)) → Keeps x5 (lcRun x1 x2 x3 x4 x5) := by
  intro x1 x2 x3 x4 x5 h_x4
  unfold lcRun
  exact (Keeps.tail (keeps_lcRequest _ _ _ (fun _ => (Keeps.ite (Keeps.tail (keeps_lcFail _ _ _) (Keeps.upd (Keeps.refl _))) (Keeps.ite (Keeps.tail
      (h_x4 _) (Keeps.upd (Keeps.refl _))) (Keeps.tail (keeps_lcFail _ _ _) (Keeps.ite (Keeps.upd (Keeps.upd (Keeps.refl _))) (Keeps.upd
      (Keeps.refl _)))))))) (Keeps.refl _))

theorem keeps_lcOk : ∀ x1 x2, Keeps x2 (lcOk x1 x2) := by
  intro x1 x2
  unfold lcOk
  exact (Keeps.tail (keeps_respond _ _ _ _) (Keeps.refl _))

theorem keeps_lcChange : ∀ x1 x2, Keeps x2 (lcChange x1 x2) := by
  intro x1 x2
  unfold lcChange
  exact (Keeps.tail (keeps_raise _ _ _) (Keeps.refl _))

theorem keeps_nextLife : ∀ x1, Keeps x1 (nextLife x1) := by
  intro x1
  unfold nextLife
  exact (Keeps.tail (keeps_lcChange _ _) (Keeps.tail (keeps_setLife _) (Keeps.tail (keeps_burnLife _) (Keeps.refl _))))

theorem keeps_execProvision : ∀ x1 x2 x3 x4, KeepsO x4 (execProvision x1 x2 x3 x4) := by
  intro x1 x2 x3 x4
  unfold execProvision
  exact (show Keeps _ _ from (Keeps.tail (keeps_lcRun _ _ _ _ _ (fun _ => (Keeps.tail (keeps_lcOk _ _) (Keeps.tail (keeps_nextLife _) (Keeps.updDraw
      (Keeps.refl _)))))) (Keeps.refl _)))

theorem keeps_execShip : ∀ x1 x2 x3 x4, KeepsO x4 (execShip x1 x2 x3 x4) := by
  intro x1 x2 x3 x4
  unfold execShip
  exact (show Keeps _ _ from (Keeps.tail (keeps_lcRun _ _ _ _ _ (fun _ => (Keeps.tail (keeps_lcOk _ _) (Keeps.tail (keeps_nextLife _)
      (Keeps.refl _))))) (Keeps.refl _)))

theorem keeps_execDebugOn : ∀ x1 x2 x3, KeepsO x3 (execDebugOn x1 x2 x3) := by
  intro x1 x2 x3
  unfold execDebugOn
  exact (show Keeps _ _ from (Keeps.tail (keeps_lcRun _ _ _ _ _ (fun _ => (Keeps.tail (keeps_lcOk _ _) (Keeps.tail (keeps_lcChange _ _) (Keeps.tail
      (keeps_rset _ _ _ _ _) (Keeps.refl _)))))) (Keeps.refl _)))

theorem keeps_execDebugOff : ∀ x1 x2 x3, KeepsO x3 (execDebugOff x1 x2 x3) := by
  intro x1 x2 x3
  unfold execDebugOff
  exact (show Keeps _ _ from (Keeps.tail (keeps_lcRun _ _ _ _ _ (fun _ => (Keeps.tail (keeps_lcOk _ _) (Keeps.tail (keeps_lcChange _ _) (Keeps.tail
      (keeps_rset _ _ _ _ _) (Keeps.upd (Keeps.refl _))))))) (Keeps.refl _)))

theorem keeps_revokeOwner : ∀ x1 x2, Keeps x2 (revokeOwner x1 x2) := by
  intro x1 x2
  unfold revokeOwner
  exact (Keeps.tail (keeps_rset _ _ _ _ _) (Keeps.refl _))

theorem keeps_execReturnOp : ∀ x1 x2 x3 x4, KeepsO x4 (execReturnOp x1 x2 x3 x4) := by
  intro x1 x2 x3 x4
  unfold execReturnOp
  exact (Keeps.iteO (show Keeps _ _ from (Keeps.refl _)) (show Keeps _ _ from (Keeps.tail (keeps_lcRun _ _ _ _ _ (fun _ => (Keeps.tail
      (keeps_rset _ _ _ _ _) (Keeps.upd (Keeps.tail (keeps_nextLife _) (Keeps.tail (keeps_revokeOwner _ _) (Keeps.refl _))))))) (Keeps.refl _))))

theorem keeps_execRefield : ∀ x1 x2 x3 x4, KeepsO x4 (execRefield x1 x2 x3 x4) := by
  intro x1 x2 x3 x4
  unfold execRefield
  exact (show Keeps _ _ from (Keeps.tail (keeps_lcRun _ _ _ _ _ (fun _ => (Keeps.tail (keeps_lcOk _ _) (Keeps.tail (keeps_nextLife _)
      (Keeps.refl _))))) (Keeps.refl _)))

theorem keeps_execScrap : ∀ x1 x2 x3 x4, KeepsO x4 (execScrap x1 x2 x3 x4) := by
  intro x1 x2 x3 x4
  unfold execScrap
  exact (show Keeps _ _ from (Keeps.tail (keeps_lcRun _ _ _ _ _ (fun _ => (Keeps.tail (keeps_lcOk _ _) (Keeps.tail (keeps_lcChange _ _) (Keeps.tail
      (keeps_setLife _) (Keeps.tail (keeps_rset _ _ _ _ _) (Keeps.tail (keeps_rset _ _ _ _ _) (Keeps.refl _)))))))) (Keeps.refl _)))

theorem keeps_execOwnerKey : ∀ x1 x2 x3 x4, KeepsO x4 (execOwnerKey x1 x2 x3 x4) := by
  intro x1 x2 x3 x4
  unfold execOwnerKey
  exact (Keeps.iteO (show Keeps _ _ from (Keeps.refl _)) (show Keeps _ _ from (Keeps.tail (keeps_lcRun _ _ _ _ _ (fun _ => (Keeps.tail
      (keeps_lcOk _ _) (Keeps.tail (keeps_raise _ _ _) (Keeps.tail (keeps_rset _ _ _ _ _) (Keeps.tail (keeps_clearCache _) (Keeps.tail
      (keeps_rset _ _ _ _ _) (Keeps.fold (fun _ _ => (Keeps.tail (keeps_rset _ _ _ _ _) (Keeps.refl _))) (Keeps.refl _))))))))) (Keeps.refl _))))

theorem keeps_execVendorRevoke : ∀ x1 x2 x3 x4, KeepsO x4 (execVendorRevoke x1 x2 x3 x4) := by
  intro x1 x2 x3 x4
  unfold execVendorRevoke
  exact (show Keeps _ _ from (Keeps.tail (keeps_lcRun _ _ _ _ _ (fun _ => (Keeps.tail (keeps_lcOk _ _) (Keeps.tail (keeps_raise _ _ _) (Keeps.tail
      (keeps_clearCache _) (Keeps.tail (keeps_rset _ _ _ _ _) (Keeps.refl _))))))) (Keeps.refl _)))

theorem keeps_execScanOn : ∀ x1 x2 x3, KeepsO x3 (execScanOn x1 x2 x3) := by
  intro x1 x2 x3
  unfold execScanOn
  exact (show Keeps _ _ from (Keeps.tail (keeps_lcRun _ _ _ _ _ (fun _ => (Keeps.tail (keeps_lcOk _ _) (Keeps.tail (keeps_raise _ _ _) (Keeps.tail
      (keeps_rset _ _ _ _ _) (Keeps.tail (keeps_rset _ _ _ _ _) (Keeps.tail (keeps_clearSecrets _) (Keeps.refl _)))))))) (Keeps.refl _)))

theorem keeps_mgmt : ∀ x1 x2 x3, (∀ z0, Keeps z0 (x2 z0)) → Keeps x3 (mgmt x1 x2 x3) := by
  intro x1 x2 x3 h_x2
  unfold mgmt
  exact (Keeps.ite (Keeps.tail (h_x2 _) (Keeps.refl _)) (Keeps.refl _))

theorem keeps_execSetEndpointId : ∀ x1 x2 x3, KeepsO x3 (execSetEndpointId x1 x2 x3) := by
  intro x1 x2 x3
  unfold execSetEndpointId
  exact (show Keeps _ _ from (Keeps.tail (keeps_mgmt _ _ _ (fun _ => (Keeps.tail (keeps_respond _ _ _ _) (Keeps.upd (Keeps.refl _)))))
      (Keeps.refl _)))

theorem keeps_execEntdaa : ∀ x1 x2, KeepsO x2 (execEntdaa x1 x2) := by
  intro x1 x2
  unfold execEntdaa
  exact (show Keeps _ _ from (Keeps.ite (Keeps.refl _) (Keeps.upd (Keeps.refl _))))

theorem keeps_execMctpWarmReset : ∀ x1 x2, KeepsO x2 (execMctpWarmReset x1 x2) := by
  intro x1 x2
  unfold execMctpWarmReset
  exact (show Keeps _ _ from (Keeps.tail (keeps_mgmt _ _ _ (fun _ => (Keeps.ite (Keeps.tail (keeps_respond _ _ _ _) (Keeps.refl _)) (Keeps.tail
      (keeps_warmRequest _) (Keeps.tail (keeps_respond _ _ _ _) (Keeps.refl _)))))) (Keeps.refl _)))

theorem keeps_execMctpColdReset : ∀ x1 x2, KeepsO x2 (execMctpColdReset x1 x2) := by
  intro x1 x2
  unfold execMctpColdReset
  exact (show Keeps _ _ from (Keeps.tail (keeps_mgmt _ _ _ (fun _ => (Keeps.ite (Keeps.upd (Keeps.refl _)) (Keeps.tail (keeps_coldReset _ _)
      (Keeps.tail (keeps_respond _ _ _ _) (Keeps.refl _)))))) (Keeps.refl _)))

theorem keeps_execMctpReadStatus : ∀ x1 x2, KeepsO x2 (execMctpReadStatus x1 x2) := by
  intro x1 x2
  unfold execMctpReadStatus
  exact (show Keeps _ _ from (Keeps.tail (keeps_mgmt _ _ _ (fun _ => (Keeps.tail (keeps_respond _ _ _ _) (Keeps.refl _)))) (Keeps.refl _)))

theorem keeps_execMctpWriteAlert : ∀ x1 x2 x3, KeepsO x3 (execMctpWriteAlert x1 x2 x3) := by
  intro x1 x2 x3
  unfold execMctpWriteAlert
  exact (show Keeps _ _ from (Keeps.tail (keeps_mgmt _ _ _ (fun _ => (by (try dsimp only); first | (split; exacts [(Keeps.tail
      (keeps_respond _ _ _ _) (Keeps.tail (keeps_plainWrite _ _ _ _ _ _) (Keeps.refl _))), (Keeps.refl _)])))) (Keeps.refl _)))

theorem keeps_execPldmDiscovery : ∀ x1 x2 x3, KeepsO x3 (execPldmDiscovery x1 x2 x3) := by
  intro x1 x2 x3
  unfold execPldmDiscovery
  exact (show Keeps _ _ from (Keeps.tail (keeps_mgmt _ _ _ (fun _ => (Keeps.ite (Keeps.tail (keeps_respond _ _ _ _) (Keeps.refl _)) (Keeps.tail
      (keeps_respond _ _ _ _) (Keeps.refl _))))) (Keeps.refl _)))

theorem keeps_execSensorRead : ∀ x1 x2 x3, KeepsO x3 (execSensorRead x1 x2 x3) := by
  intro x1 x2 x3
  unfold execSensorRead
  exact (show Keeps _ _ from (Keeps.tail (keeps_mgmt _ _ _ (fun _ => (by (try dsimp only); first | (split; exacts [(Keeps.tail
      (keeps_respond _ _ _ _) (Keeps.refl _)), (Keeps.tail (keeps_respond _ _ _ _) (Keeps.refl _))])))) (Keeps.refl _)))

theorem keeps_execRequestUpdate : ∀ x1 x2, KeepsO x2 (execRequestUpdate x1 x2) := by
  intro x1 x2
  unfold execRequestUpdate
  exact (show Keeps _ _ from (Keeps.tail (keeps_mgmt _ _ _ (fun _ => (Keeps.ite (Keeps.tail (keeps_respond _ _ _ _) (Keeps.refl _)) (Keeps.tail
      (keeps_respond _ _ _ _) (Keeps.tail (keeps_rset _ _ _ _ _) (Keeps.upd (Keeps.refl _))))))) (Keeps.refl _)))

theorem keeps_execPassComponentTable : ∀ x1 x2 x3, KeepsO x3 (execPassComponentTable x1 x2 x3) := by
  intro x1 x2 x3
  unfold execPassComponentTable
  exact (show Keeps _ _ from (Keeps.tail (keeps_mgmt _ _ _ (fun _ => (Keeps.ite (Keeps.tail (keeps_respond _ _ _ _) (Keeps.refl _)) (Keeps.tail
      (keeps_respond _ _ _ _) (Keeps.refl _))))) (Keeps.refl _)))

theorem keeps_execFirmwareDataReceived : ∀ x1 x2, KeepsO x2 (execFirmwareDataReceived x1 x2) := by
  intro x1 x2
  unfold execFirmwareDataReceived
  exact (show Keeps _ _ from (Keeps.ite (Keeps.ite (Keeps.tail (keeps_respond _ _ _ _) (Keeps.upd (Keeps.refl _))) (Keeps.tail
      (keeps_respond _ _ _ _) (Keeps.tail (keeps_endUpdate _) (Keeps.refl _)))) (Keeps.refl _)))

theorem keeps_execApplyComplete : ∀ x1 x2, KeepsO x2 (execApplyComplete x1 x2) := by
  intro x1 x2
  unfold execApplyComplete
  exact (by (try dsimp only); first | (split; exacts [(show Keeps _ _ from (Keeps.ite (Keeps.refl _) (Keeps.tail (keeps_coldIfAsked _) (Keeps.ite
      (Keeps.tail (keeps_respond _ _ _ _) (Keeps.tail (keeps_endUpdate _) (Keeps.tail (keeps_rset _ _ _ _ _) (Keeps.tail (keeps_rset _ _ _ _ _)
      (Keeps.upd (Keeps.refl _)))))) (Keeps.tail (keeps_respond _ _ _ _) (Keeps.tail (keeps_endUpdate _) (Keeps.upd (Keeps.refl _)))))))),
      (show Keeps _ _ from (Keeps.refl _))]))

theorem keeps_execActivateFirmware : ∀ x1 x2, KeepsO x2 (execActivateFirmware x1 x2) := by
  intro x1 x2
  unfold execActivateFirmware
  exact (show Keeps _ _ from (Keeps.tail (keeps_mgmt _ _ _ (fun _ => (Keeps.ite (Keeps.tail (keeps_respond _ _ _ _) (Keeps.refl _)) (Keeps.tail
      (keeps_respond _ _ _ _) (Keeps.refl _))))) (Keeps.refl _)))

theorem keeps_strike : ∀ x1 x2, Keeps x2 (strike x1 x2) := by
  intro x1 x2
  unfold strike
  exact (Keeps.fold (fun _ _ => (Keeps.tail (keeps_wMod _ _ _) (Keeps.refl _))) (Keeps.refl _))

theorem keeps_readSlots : ∀ x1 x2 x3, Keeps x3 (readSlots x1 x2 x3) := by
  intro x1 x2 x3
  unfold readSlots
  exact (Keeps.fold (fun _ _ => (Keeps.tail (keeps_checkAll _ _) (Keeps.refl _))) (Keeps.tail (keeps_strike _ _) (Keeps.refl _)))

theorem keeps_startTokens : ∀ x1 x2, Keeps x2 (startTokens x1 x2) := by
  intro x1 x2
  unfold startTokens
  exact (Keeps.fold (fun _ _ => (Keeps.tail (keeps_ctlToken _ _ _ _) (Keeps.refl _))) (by (try dsimp only); first | (split; exacts [(Keeps.fold
      (fun _ _ => (Keeps.tail (keeps_ctlToken _ _ _ _) (Keeps.refl _))) (Keeps.refl _)), (Keeps.refl _)])))

theorem keeps_startObjs : ∀ x1 x2, Keeps x2 (startObjs x1 x2) := by
  intro x1 x2
  unfold startObjs
  exact (by (try dsimp only); first | (split; exacts [(Keeps.tail (keeps_writeObjs _ _) (Keeps.refl _)), (Keeps.refl _)]))

theorem keeps_runAttempt : ∀ x1 x2, Keeps x2 (runAttempt x1 x2) := by
  intro x1 x2
  unfold runAttempt
  exact (Keeps.tail (keeps_startTokens _ _) (Keeps.tail (keeps_startObjs _ _) (Keeps.tail (keeps_rset _ _ _ _ _) (Keeps.tail (keeps_ctxMod _ _ _)
      (Keeps.refl _)))))

theorem keeps_startUnits : ∀ x1 x2 x3 x4, Keeps x4 (startUnits x1 x2 x3 x4) := by
  intro x1 x2 x3 x4
  unfold startUnits
  exact (Keeps.upd (Keeps.refl _))

theorem keeps_execStepStart : ∀ x1 x2, KeepsO x2 (execStepStart x1 x2) := by
  intro x1 x2
  unfold execStepStart
  exact (Keeps.iteO (show Keeps _ _ from (Keeps.tail (keeps_readSlots _ _ _) (Keeps.tail (keeps_runAttempt _ _) (Keeps.tail
      (keeps_startUnits _ _ _ _) (Keeps.tail (keeps_ctxMod _ _ _) (Keeps.upd (Keeps.tail (keeps_ungate _ _) (Keeps.tail (keeps_rset _ _ _ _ _)
      (Keeps.upd (Keeps.refl _)))))))))) (show Keeps _ _ from (Keeps.refl _)))

theorem keeps_mirrorAppend : ∀ x1 x2, Keeps x2 (mirrorAppend x1 x2) := by
  intro x1 x2
  unfold mirrorAppend
  exact (Keeps.ite (Keeps.refl _) (Keeps.ite (Keeps.tail (keeps_mirrorSuspend _ _ _) (Keeps.refl _)) (Keeps.ite (Keeps.tail
      (keeps_mirrorSuspend _ _ _) (Keeps.refl _)) (Keeps.ite (Keeps.tail (keeps_mirrorSuspend _ _ _) (Keeps.refl _)) (Keeps.ite (Keeps.ite
      (Keeps.tail (keeps_mirrorSuspend _ _ _) (Keeps.tail (keeps_ctxMod _ _ _) (Keeps.tail (keeps_mirPump _ _ _) (Keeps.tail (keeps_mirSet _ _ _)
      (Keeps.refl _))))) (Keeps.tail (keeps_ctxMod _ _ _) (Keeps.tail (keeps_mirPump _ _ _) (Keeps.tail (keeps_mirSet _ _ _) (Keeps.refl _)))))
      (Keeps.tail (keeps_mirrorSuspend _ _ _) (Keeps.refl _)))))))

theorem keeps_releaseEgress : ∀ x1 x2, Keeps x2 (releaseEgress x1 x2) := by
  intro x1 x2
  unfold releaseEgress
  exact (Keeps.fold (fun _ _ => (by (try dsimp only); first | (split; exacts [(Keeps.tail (keeps_egressSend _ _ _ _) (Keeps.refl _)),
      (Keeps.refl _)]))) (Keeps.upd (Keeps.refl _)))

theorem keeps_execRidgeRelease : ∀ x1 x2, KeepsO x2 (execRidgeRelease x1 x2) := by
  intro x1 x2
  unfold execRidgeRelease
  exact (Keeps.iteO (show Keeps _ _ from (Keeps.tail (keeps_mirrorAppend _ _) (Keeps.tail (keeps_dmaRidge _ _) (Keeps.tail (keeps_releaseEgress _ _)
      (Keeps.tail (keeps_ctxMod _ _ _) (Keeps.ite (Keeps.tail (keeps_finishCmd _ _ _ _ _) (Keeps.ite (Keeps.tail (keeps_ctxMod _ _ _) (Keeps.tail
      (keeps_bump _ _ _ _ _ _) (Keeps.refl _))) (Keeps.refl _))) (Keeps.ite (Keeps.tail (keeps_ctxMod _ _ _) (Keeps.tail (keeps_bump _ _ _ _ _ _)
      (Keeps.refl _))) (Keeps.refl _)))))))) (show Keeps _ _ from (Keeps.refl _)))

theorem keeps_leftover : ∀ x1 x2 x3 x4 x5, Keeps x5 (leftover x1 x2 x3 x4 x5) := by
  intro x1 x2 x3 x4 x5
  unfold leftover
  exact (Keeps.ite (Keeps.refl _) (Keeps.tail (keeps_raise _ _ _) (Keeps.tail (keeps_ctxMod _ _ _) (Keeps.refl _))))

theorem keeps_ridgeDiscard : ∀ x1 x2, Keeps x2 (ridgeDiscard x1 x2) := by
  intro x1 x2
  unfold ridgeDiscard
  exact (Keeps.upd (Keeps.fold (fun _ _ => (Keeps.tail (keeps_raise _ _ _) (Keeps.refl _))) (Keeps.fold (fun _ _ => (Keeps.tail (keeps_raise _ _ _)
      (Keeps.refl _))) (by (try dsimp only); first | (split; exacts [(Keeps.tail (keeps_leftover _ _ _ _ _) (Keeps.fold (fun _ _ => (Keeps.tail
      (keeps_bump _ _ _ _ _ _) (Keeps.refl _))) (Keeps.refl _))), (Keeps.fold (fun _ _ => (Keeps.tail (keeps_bump _ _ _ _ _ _) (Keeps.refl _)))
      (Keeps.refl _))])))))

theorem keeps_mirrorCovered : ∀ x1 x2, Keeps x2 (mirrorCovered x1 x2) := by
  intro x1 x2
  unfold mirrorCovered
  exact (Keeps.ite (Keeps.refl _) (Keeps.ite (Keeps.tail (keeps_rset _ _ _ _ _) (Keeps.tail (keeps_rset _ _ _ _ _) (Keeps.refl _))) (Keeps.tail
      (keeps_rset _ _ _ _ _) (Keeps.refl _))))

theorem keeps_slicesAtRidge : ∀ x1 x2, Keeps x2 (slicesAtRidge x1 x2) := by
  intro x1 x2
  unfold slicesAtRidge
  exact (Keeps.ite (Keeps.refl _) (Keeps.tail (keeps_ctxMod _ _ _) (Keeps.upd (Keeps.refl _))))

theorem keeps_swapsAtRidge : ∀ x1 x2, Keeps x2 (swapsAtRidge x1 x2) := by
  intro x1 x2
  unfold swapsAtRidge
  exact (Keeps.ite (Keeps.refl _) (Keeps.tail (keeps_ctxMod _ _ _) (Keeps.fold (fun _ _ => (Keeps.tail (keeps_swap _ _) (Keeps.refl _)))
      (Keeps.refl _))))

theorem keeps_sendRidge : ∀ x1 x2, Keeps x2 (sendRidge x1 x2) := by
  intro x1 x2
  unfold sendRidge
  exact (Keeps.fold (fun _ _ => (by (try dsimp only); first | (split; exacts [(Keeps.tail (keeps_sendBlocks _ _ _) (Keeps.refl _)),
      (Keeps.refl _)]))) (Keeps.refl _))

theorem keeps_execRidgeSignal : ∀ x1 x2, KeepsO x2 (execRidgeSignal x1 x2) := by
  intro x1 x2
  unfold execRidgeSignal
  exact (Keeps.iteO (Keeps.iteO (show Keeps _ _ from (Keeps.tail (keeps_movesAtRidge _ _) (Keeps.tail (keeps_ridgeDiscard _ _) (Keeps.refl _))))
      (show Keeps _ _ from (Keeps.tail (keeps_slicesAtRidge _ _) (Keeps.tail (keeps_swapsAtRidge _ _) (Keeps.tail (keeps_sendRidge _ _) (Keeps.tail
      (keeps_ctxMod _ _ _) (Keeps.tail (keeps_mirrorCovered _ _) (Keeps.refl _)))))))) (show Keeps _ _ from (Keeps.refl _)))

theorem keeps_gate : ∀ x1 x2, Keeps x2 (gate x1 x2) := by
  intro x1 x2
  unfold gate
  exact (Keeps.fold (fun _ _ => (Keeps.tail (keeps_rset _ _ _ _ _) (Keeps.refl _))) (Keeps.refl _))

theorem keeps_ridgePause : ∀ x1 x2, Keeps x2 (ridgePause x1 x2) := by
  intro x1 x2
  unfold ridgePause
  exact (Keeps.tail (keeps_ctxMod _ _ _) (Keeps.ite (Keeps.refl _) (Keeps.tail (keeps_gate _ _) (Keeps.refl _))))

theorem keeps_ridgeRepin : ∀ x1 x2, Keeps x2 (ridgeRepin x1 x2) := by
  intro x1 x2
  unfold ridgeRepin
  exact (Keeps.ite (Keeps.refl _) (Keeps.tail (keeps_ctxMod _ _ _) (Keeps.fold (fun _ _ => (Keeps.tail (keeps_bump _ _ _ _ _ _) (Keeps.refl _)))
      (Keeps.upd (Keeps.refl _)))))

theorem keeps_ridgeCourse : ∀ x1 x2, Keeps x2 (ridgeCourse x1 x2) := by
  intro x1 x2
  unfold ridgeCourse
  exact (by (try dsimp only); first | (split; exacts [(Keeps.tail (keeps_finishCmd _ _ _ _ _) (Keeps.tail (keeps_flipNow _ _) (Keeps.refl _))),
      (Keeps.tail (keeps_takeThatch _ _) (Keeps.tail (keeps_writePresets _ _ _) (Keeps.tail (keeps_swapTimed _ _) (Keeps.refl _)))), (Keeps.refl _)]))

theorem keeps_execRidgeComplete : ∀ x1 x2, KeepsO x2 (execRidgeComplete x1 x2) := by
  intro x1 x2
  unfold execRidgeComplete
  exact (Keeps.iteO (show Keeps _ _ from (Keeps.ite (Keeps.tail (keeps_setAdmit _ _) (Keeps.upd (Keeps.tail (keeps_ridgePause _ _) (Keeps.tail
      (keeps_ridgeRepin _ _) (Keeps.tail (keeps_ridgeCourse _ _) (Keeps.tail (keeps_ctxMod _ _ _) (Keeps.tail (keeps_rset _ _ _ _ _) (Keeps.tail
      (keeps_ridgeDiscard _ _) (Keeps.ite (Keeps.tail (keeps_bump _ _ _ _ _ _) (Keeps.tail (keeps_rset _ _ _ _ _) (Keeps.refl _))) (Keeps.tail
      (keeps_rset _ _ _ _ _) (Keeps.refl _))))))))))) (Keeps.tail (keeps_ridgePause _ _) (Keeps.tail (keeps_ridgeRepin _ _) (Keeps.tail
      (keeps_ridgeCourse _ _) (Keeps.tail (keeps_ctxMod _ _ _) (Keeps.tail (keeps_rset _ _ _ _ _) (Keeps.tail (keeps_ridgeDiscard _ _) (Keeps.ite
      (Keeps.tail (keeps_bump _ _ _ _ _ _) (Keeps.tail (keeps_rset _ _ _ _ _) (Keeps.refl _))) (Keeps.tail (keeps_rset _ _ _ _ _)
      (Keeps.refl _))))))))))) (show Keeps _ _ from (Keeps.refl _)))

theorem keeps_execRidgeTimeout : ∀ x1 x2, KeepsO x2 (execRidgeTimeout x1 x2) := by
  intro x1 x2
  unfold execRidgeTimeout
  exact (by (try dsimp only); first | (split; exacts [(show Keeps _ _ from (Keeps.refl _)), (Keeps.iteO (show Keeps _ _ from (Keeps.tail
      (keeps_hold _ _ _ _) (Keeps.tail (keeps_raise _ _ _) (Keeps.refl _)))) (show Keeps _ _ from (Keeps.refl _)))]))

theorem keeps_fenceNamed : ∀ x1 x2, Keeps x2 (fenceNamed x1 x2) := by
  intro x1 x2
  unfold fenceNamed
  exact (Keeps.upd (Keeps.refl _))

theorem keeps_standInComb : ∀ x1 x2 x3, Keeps x3 (standInComb x1 x2 x3) := by
  intro x1 x2 x3
  unfold standInComb
  exact (Keeps.ite (Keeps.refl _) (by (try dsimp only); first | (split; exacts [(Keeps.tail (keeps_mapSeq _ _) (Keeps.tail (keeps_pcMod _ _ _)
      (Keeps.fold (fun _ _ => (by (try dsimp only); first | (split; exacts [(Keeps.tail (keeps_handOver _ _ _ _ _) (Keeps.refl _)),
      (Keeps.refl _)]))) (Keeps.refl _)))), (Keeps.tail (keeps_pcMod _ _ _) (Keeps.fold (fun _ _ => (by (try dsimp only); first |
      (split; exacts [(Keeps.tail (keeps_handOver _ _ _ _ _) (Keeps.refl _)), (Keeps.refl _)]))) (Keeps.refl _)))])))

theorem keeps_execStepAbandon : ∀ x1 x2, KeepsO x2 (execStepAbandon x1 x2) := by
  intro x1 x2
  unfold execStepAbandon
  exact (Keeps.iteO (by (try dsimp only); first | (split; exacts [(show Keeps _ _ from (Keeps.tail (keeps_maskEnd _ _ _) (Keeps.tail
      (keeps_fenceNamed _ _) (Keeps.ite (Keeps.tail (keeps_ctxMod _ _ _) (Keeps.tail (keeps_discardTraffic _ _) (Keeps.refl _))) (Keeps.refl _))))),
      (show Keeps _ _ from (Keeps.tail (keeps_ctxMod _ _ _) (Keeps.fold (fun _ _ => (Keeps.tail (keeps_standInComb _ _ _) (Keeps.refl _)))
      (Keeps.tail (keeps_discardTraffic _ _) (Keeps.refl _)))))])) (show Keeps _ _ from (Keeps.refl _)))

theorem keeps_execReplayStart : ∀ x1 x2, KeepsO x2 (execReplayStart x1 x2) := by
  intro x1 x2
  unfold execReplayStart
  exact (Keeps.iteO (show Keeps _ _ from (Keeps.tail (keeps_readSlots _ _ _) (Keeps.tail (keeps_dmaRewind _ _) (Keeps.tail (keeps_runAttempt _ _)
      (Keeps.tail (keeps_ctxMod _ _ _) (Keeps.upd (Keeps.tail (keeps_startUnits _ _ _ _) (Keeps.tail (keeps_bump _ _ _ _ _ _) (Keeps.refl _)))))))))
      (show Keeps _ _ from (Keeps.refl _)))

theorem keeps_execSumLaneFail : ∀ x1 x2 x3 x4 x5 x6 x7 x8, KeepsO x8 (execSumLaneFail x1 x2 x3 x4 x5 x6 x7 x8) := by
  intro x1 x2 x3 x4 x5 x6 x7 x8
  unfold execSumLaneFail
  exact (show Keeps _ _ from (Keeps.tail (keeps_raise _ _ _) (Keeps.tail (keeps_failComb _ _ _ _) (Keeps.tail (keeps_wrkFault _ _ _ _ _ _)
      (Keeps.tail (keeps_bump _ _ _ _ _ _) (Keeps.tail (keeps_rset _ _ _ _ _) (Keeps.tail (keeps_wSet _ _ _) (Keeps.refl _))))))))

theorem keeps_execPlausibilityEvent : ∀ x1 x2 x3 x4, KeepsO x4 (execPlausibilityEvent x1 x2 x3 x4) := by
  intro x1 x2 x3 x4
  unfold execPlausibilityEvent
  exact (by (try dsimp only); first | (split; exacts [(show Keeps _ _ from (Keeps.refl _)), (by (try dsimp only); first |
      (split; exacts [(show Keeps _ _ from (Keeps.tail (keeps_bump _ _ _ _ _ _) (Keeps.tail (keeps_wMod _ _ _) (Keeps.refl _)))), (by
      (try dsimp only); first | (split; exacts [(show Keeps _ _ from (Keeps.tail (keeps_pcMod _ _ _) (Keeps.tail (keeps_bump _ _ _ _ _ _)
      (Keeps.tail (keeps_raise _ _ _) (Keeps.tail (keeps_bump _ _ _ _ _ _) (Keeps.tail (keeps_wMod _ _ _) (Keeps.refl _))))))), (show Keeps _ _ from
      (Keeps.tail (keeps_raise _ _ _) (Keeps.tail (keeps_failStep _ _ _ _) (Keeps.tail (keeps_ctxMod _ _ _) (Keeps.tail (keeps_wrkFault _ _ _ _ _ _)
      (Keeps.tail (keeps_rset _ _ _ _ _) (Keeps.tail (keeps_bump _ _ _ _ _ _) (Keeps.tail (keeps_wMod _ _ _) (Keeps.refl _)))))))))]))]))]))

theorem keeps_execPortParityError : ∀ x1 x2 x3 x4 x5, KeepsO x5 (execPortParityError x1 x2 x3 x4 x5) := by
  intro x1 x2 x3 x4 x5
  unfold execPortParityError
  exact (show Keeps _ _ from (Keeps.tail (keeps_raise _ _ _) (Keeps.tail (keeps_failComb _ _ _ _) (Keeps.tail (keeps_wrkFault _ _ _ _ _ _)
      (Keeps.tail (keeps_rset _ _ _ _ _) (Keeps.refl _))))))

end Sys2Proof.Machine
end

