-- ==== Sys2Proof/Laws/KeepsD.lean ====
section
/-! SUPPORT. What each operation keeps, part 4 of 4: one lemma for each operation, in the order in which they build on each other. -/

namespace Sys2Proof.Machine

theorem keeps_execResidueMismatch : ∀ x1 x2 x3 x4, KeepsO x4 (execResidueMismatch x1 x2 x3 x4) := by
  intro x1 x2 x3 x4
  unfold execResidueMismatch
  exact (show Keeps _ _ from (Keeps.ite (Keeps.tail (keeps_combFault _ _) (Keeps.tail (keeps_raise _ _ _) (Keeps.tail (keeps_failComb _ _ _ _) (by
      (try dsimp only); first | (split; exacts [(Keeps.tail (keeps_ctxMod _ _ _) (Keeps.tail (keeps_bump _ _ _ _ _ _) (Keeps.refl _))), (Keeps.tail
      (keeps_bump _ _ _ _ _ _) (Keeps.refl _))]))))) (Keeps.tail (keeps_raise _ _ _) (Keeps.tail (keeps_failComb _ _ _ _) (by
      (try dsimp only); first | (split; exacts [(Keeps.tail (keeps_ctxMod _ _ _) (Keeps.tail (keeps_bump _ _ _ _ _ _) (Keeps.refl _))), (Keeps.tail
      (keeps_bump _ _ _ _ _ _) (Keeps.refl _))]))))))

theorem keeps_execWaitSendTimeout : ∀ x1 x2 x3 x4 x5, KeepsO x5 (execWaitSendTimeout x1 x2 x3 x4 x5) := by
  intro x1 x2 x3 x4 x5
  unfold execWaitSendTimeout
  exact (by (try dsimp only); first | (split; exacts [(show Keeps _ _ from (Keeps.tail (keeps_wake _ _ _ _) (Keeps.tail
      (keeps_timeoutEnd _ _ _ _ _ _) (Keeps.tail (keeps_objSet _ _ _ _) (Keeps.refl _))))), (by (try dsimp only); first |
      (split; exacts [(show Keeps _ _ from (Keeps.tail (keeps_wake _ _ _ _) (Keeps.tail (keeps_timeoutEnd _ _ _ _ _ _) (Keeps.refl _)))),
      (show Keeps _ _ from (Keeps.refl _))])), (show Keeps _ _ from (Keeps.refl _))]))

theorem keeps_fireOp : ∀ x1 x2 x3, Keeps x3 (fireOp x1 x2 x3) := by
  intro x1 x2 x3
  unfold fireOp
  exact (Keeps.ite (Keeps.tail (keeps_doFire _ _ _ _) (Keeps.refl _)) (Keeps.refl _))

theorem keeps_execMma : ∀ x1 x2, KeepsO x2 (execMma x1 x2) := by
  intro x1 x2
  unfold execMma
  exact (show Keeps _ _ from (Keeps.tail (keeps_fireOp _ _ _) (Keeps.refl _)))

theorem keeps_execMmaz : ∀ x1 x2, KeepsO x2 (execMmaz x1 x2) := by
  intro x1 x2
  unfold execMmaz
  exact (show Keeps _ _ from (Keeps.tail (keeps_fireOp _ _ _) (Keeps.refl _)))

theorem keeps_execDrain : ∀ x1 x2, KeepsO x2 (execDrain x1 x2) := by
  intro x1 x2
  unfold execDrain
  exact (show Keeps _ _ from (Keeps.tail (keeps_fireOp _ _ _) (Keeps.refl _)))

theorem keeps_execClear : ∀ x1 x2, KeepsO x2 (execClear x1 x2) := by
  intro x1 x2
  unfold execClear
  exact (show Keeps _ _ from (Keeps.tail (keeps_fireOp _ _ _) (Keeps.refl _)))

theorem keeps_execVectorAdd : ∀ x1 x2, KeepsO x2 (execVectorAdd x1 x2) := by
  intro x1 x2
  unfold execVectorAdd
  exact (show Keeps _ _ from (Keeps.tail (keeps_fireOp _ _ _) (Keeps.refl _)))

theorem keeps_execVectorSub : ∀ x1 x2, KeepsO x2 (execVectorSub x1 x2) := by
  intro x1 x2
  unfold execVectorSub
  exact (show Keeps _ _ from (Keeps.tail (keeps_fireOp _ _ _) (Keeps.refl _)))

theorem keeps_execVectorMul : ∀ x1 x2, KeepsO x2 (execVectorMul x1 x2) := by
  intro x1 x2
  unfold execVectorMul
  exact (show Keeps _ _ from (Keeps.tail (keeps_fireOp _ _ _) (Keeps.refl _)))

theorem keeps_execFma : ∀ x1 x2, KeepsO x2 (execFma x1 x2) := by
  intro x1 x2
  unfold execFma
  exact (show Keeps _ _ from (Keeps.tail (keeps_fireOp _ _ _) (Keeps.refl _)))

theorem keeps_execFms : ∀ x1 x2, KeepsO x2 (execFms x1 x2) := by
  intro x1 x2
  unfold execFms
  exact (show Keeps _ _ from (Keeps.tail (keeps_fireOp _ _ _) (Keeps.refl _)))

theorem keeps_execVectorMin : ∀ x1 x2, KeepsO x2 (execVectorMin x1 x2) := by
  intro x1 x2
  unfold execVectorMin
  exact (show Keeps _ _ from (Keeps.tail (keeps_fireOp _ _ _) (Keeps.refl _)))

theorem keeps_execVectorMax : ∀ x1 x2, KeepsO x2 (execVectorMax x1 x2) := by
  intro x1 x2
  unfold execVectorMax
  exact (show Keeps _ _ from (Keeps.tail (keeps_fireOp _ _ _) (Keeps.refl _)))

theorem keeps_execAbs : ∀ x1 x2, KeepsO x2 (execAbs x1 x2) := by
  intro x1 x2
  unfold execAbs
  exact (show Keeps _ _ from (Keeps.tail (keeps_fireOp _ _ _) (Keeps.refl _)))

theorem keeps_execNeg : ∀ x1 x2, KeepsO x2 (execNeg x1 x2) := by
  intro x1 x2
  unfold execNeg
  exact (show Keeps _ _ from (Keeps.tail (keeps_fireOp _ _ _) (Keeps.refl _)))

theorem keeps_execIadd : ∀ x1 x2, KeepsO x2 (execIadd x1 x2) := by
  intro x1 x2
  unfold execIadd
  exact (show Keeps _ _ from (Keeps.tail (keeps_fireOp _ _ _) (Keeps.refl _)))

theorem keeps_execIsub : ∀ x1 x2, KeepsO x2 (execIsub x1 x2) := by
  intro x1 x2
  unfold execIsub
  exact (show Keeps _ _ from (Keeps.tail (keeps_fireOp _ _ _) (Keeps.refl _)))

theorem keeps_execImullo : ∀ x1 x2, KeepsO x2 (execImullo x1 x2) := by
  intro x1 x2
  unfold execImullo
  exact (show Keeps _ _ from (Keeps.tail (keeps_fireOp _ _ _) (Keeps.refl _)))

theorem keeps_execImin : ∀ x1 x2, KeepsO x2 (execImin x1 x2) := by
  intro x1 x2
  unfold execImin
  exact (show Keeps _ _ from (Keeps.tail (keeps_fireOp _ _ _) (Keeps.refl _)))

theorem keeps_execImax : ∀ x1 x2, KeepsO x2 (execImax x1 x2) := by
  intro x1 x2
  unfold execImax
  exact (show Keeps _ _ from (Keeps.tail (keeps_fireOp _ _ _) (Keeps.refl _)))

theorem keeps_execVectorAnd : ∀ x1 x2, KeepsO x2 (execVectorAnd x1 x2) := by
  intro x1 x2
  unfold execVectorAnd
  exact (show Keeps _ _ from (Keeps.tail (keeps_fireOp _ _ _) (Keeps.refl _)))

theorem keeps_execVectorOr : ∀ x1 x2, KeepsO x2 (execVectorOr x1 x2) := by
  intro x1 x2
  unfold execVectorOr
  exact (show Keeps _ _ from (Keeps.tail (keeps_fireOp _ _ _) (Keeps.refl _)))

theorem keeps_execVectorXor : ∀ x1 x2, KeepsO x2 (execVectorXor x1 x2) := by
  intro x1 x2
  unfold execVectorXor
  exact (show Keeps _ _ from (Keeps.tail (keeps_fireOp _ _ _) (Keeps.refl _)))

theorem keeps_execVectorShl : ∀ x1 x2, KeepsO x2 (execVectorShl x1 x2) := by
  intro x1 x2
  unfold execVectorShl
  exact (show Keeps _ _ from (Keeps.tail (keeps_fireOp _ _ _) (Keeps.refl _)))

theorem keeps_execVectorShr : ∀ x1 x2, KeepsO x2 (execVectorShr x1 x2) := by
  intro x1 x2
  unfold execVectorShr
  exact (show Keeps _ _ from (Keeps.tail (keeps_fireOp _ _ _) (Keeps.refl _)))

theorem keeps_execVectorSra : ∀ x1 x2, KeepsO x2 (execVectorSra x1 x2) := by
  intro x1 x2
  unfold execVectorSra
  exact (show Keeps _ _ from (Keeps.tail (keeps_fireOp _ _ _) (Keeps.refl _)))

theorem keeps_execVectorEq : ∀ x1 x2, KeepsO x2 (execVectorEq x1 x2) := by
  intro x1 x2
  unfold execVectorEq
  exact (show Keeps _ _ from (Keeps.tail (keeps_fireOp _ _ _) (Keeps.refl _)))

theorem keeps_execVectorNe : ∀ x1 x2, KeepsO x2 (execVectorNe x1 x2) := by
  intro x1 x2
  unfold execVectorNe
  exact (show Keeps _ _ from (Keeps.tail (keeps_fireOp _ _ _) (Keeps.refl _)))

theorem keeps_execVectorLt : ∀ x1 x2, KeepsO x2 (execVectorLt x1 x2) := by
  intro x1 x2
  unfold execVectorLt
  exact (show Keeps _ _ from (Keeps.tail (keeps_fireOp _ _ _) (Keeps.refl _)))

theorem keeps_execVectorLe : ∀ x1 x2, KeepsO x2 (execVectorLe x1 x2) := by
  intro x1 x2
  unfold execVectorLe
  exact (show Keeps _ _ from (Keeps.tail (keeps_fireOp _ _ _) (Keeps.refl _)))

theorem keeps_execVectorGt : ∀ x1 x2, KeepsO x2 (execVectorGt x1 x2) := by
  intro x1 x2
  unfold execVectorGt
  exact (show Keeps _ _ from (Keeps.tail (keeps_fireOp _ _ _) (Keeps.refl _)))

theorem keeps_execVectorGe : ∀ x1 x2, KeepsO x2 (execVectorGe x1 x2) := by
  intro x1 x2
  unfold execVectorGe
  exact (show Keeps _ _ from (Keeps.tail (keeps_fireOp _ _ _) (Keeps.refl _)))

theorem keeps_execVectorSfn : ∀ x1 x2, KeepsO x2 (execVectorSfn x1 x2) := by
  intro x1 x2
  unfold execVectorSfn
  exact (show Keeps _ _ from (Keeps.tail (keeps_fireOp _ _ _) (Keeps.refl _)))

theorem keeps_execRsum : ∀ x1 x2, KeepsO x2 (execRsum x1 x2) := by
  intro x1 x2
  unfold execRsum
  exact (show Keeps _ _ from (Keeps.tail (keeps_fireOp _ _ _) (Keeps.refl _)))

theorem keeps_execRmax : ∀ x1 x2, KeepsO x2 (execRmax x1 x2) := by
  intro x1 x2
  unfold execRmax
  exact (show Keeps _ _ from (Keeps.tail (keeps_fireOp _ _ _) (Keeps.refl _)))

theorem keeps_execRmin : ∀ x1 x2, KeepsO x2 (execRmin x1 x2) := by
  intro x1 x2
  unfold execRmin
  exact (show Keeps _ _ from (Keeps.tail (keeps_fireOp _ _ _) (Keeps.refl _)))

theorem keeps_execRot : ∀ x1 x2, KeepsO x2 (execRot x1 x2) := by
  intro x1 x2
  unfold execRot
  exact (show Keeps _ _ from (Keeps.tail (keeps_fireOp _ _ _) (Keeps.refl _)))

theorem keeps_execBcast : ∀ x1 x2, KeepsO x2 (execBcast x1 x2) := by
  intro x1 x2
  unfold execBcast
  exact (show Keeps _ _ from (Keeps.tail (keeps_fireOp _ _ _) (Keeps.refl _)))

theorem keeps_execSel : ∀ x1 x2, KeepsO x2 (execSel x1 x2) := by
  intro x1 x2
  unfold execSel
  exact (show Keeps _ _ from (Keeps.tail (keeps_fireOp _ _ _) (Keeps.refl _)))

theorem keeps_execVectorCvt : ∀ x1 x2, KeepsO x2 (execVectorCvt x1 x2) := by
  intro x1 x2
  unfold execVectorCvt
  exact (show Keeps _ _ from (Keeps.tail (keeps_fireOp _ _ _) (Keeps.refl _)))

theorem keeps_execScalarAdd : ∀ x1 x2, KeepsO x2 (execScalarAdd x1 x2) := by
  intro x1 x2
  unfold execScalarAdd
  exact (show Keeps _ _ from (Keeps.tail (keeps_fireOp _ _ _) (Keeps.refl _)))

theorem keeps_execScalarSub : ∀ x1 x2, KeepsO x2 (execScalarSub x1 x2) := by
  intro x1 x2
  unfold execScalarSub
  exact (show Keeps _ _ from (Keeps.tail (keeps_fireOp _ _ _) (Keeps.refl _)))

theorem keeps_execScalarAnd : ∀ x1 x2, KeepsO x2 (execScalarAnd x1 x2) := by
  intro x1 x2
  unfold execScalarAnd
  exact (show Keeps _ _ from (Keeps.tail (keeps_fireOp _ _ _) (Keeps.refl _)))

theorem keeps_execScalarOr : ∀ x1 x2, KeepsO x2 (execScalarOr x1 x2) := by
  intro x1 x2
  unfold execScalarOr
  exact (show Keeps _ _ from (Keeps.tail (keeps_fireOp _ _ _) (Keeps.refl _)))

theorem keeps_execScalarXor : ∀ x1 x2, KeepsO x2 (execScalarXor x1 x2) := by
  intro x1 x2
  unfold execScalarXor
  exact (show Keeps _ _ from (Keeps.tail (keeps_fireOp _ _ _) (Keeps.refl _)))

theorem keeps_execScalarShl : ∀ x1 x2, KeepsO x2 (execScalarShl x1 x2) := by
  intro x1 x2
  unfold execScalarShl
  exact (show Keeps _ _ from (Keeps.tail (keeps_fireOp _ _ _) (Keeps.refl _)))

theorem keeps_execScalarShr : ∀ x1 x2, KeepsO x2 (execScalarShr x1 x2) := by
  intro x1 x2
  unfold execScalarShr
  exact (show Keeps _ _ from (Keeps.tail (keeps_fireOp _ _ _) (Keeps.refl _)))

theorem keeps_execScalarSra : ∀ x1 x2, KeepsO x2 (execScalarSra x1 x2) := by
  intro x1 x2
  unfold execScalarSra
  exact (show Keeps _ _ from (Keeps.tail (keeps_fireOp _ _ _) (Keeps.refl _)))

theorem keeps_execScalarMul : ∀ x1 x2, KeepsO x2 (execScalarMul x1 x2) := by
  intro x1 x2
  unfold execScalarMul
  exact (show Keeps _ _ from (Keeps.tail (keeps_fireOp _ _ _) (Keeps.refl _)))

theorem keeps_execScalarMin : ∀ x1 x2, KeepsO x2 (execScalarMin x1 x2) := by
  intro x1 x2
  unfold execScalarMin
  exact (show Keeps _ _ from (Keeps.tail (keeps_fireOp _ _ _) (Keeps.refl _)))

theorem keeps_execScalarMax : ∀ x1 x2, KeepsO x2 (execScalarMax x1 x2) := by
  intro x1 x2
  unfold execScalarMax
  exact (show Keeps _ _ from (Keeps.tail (keeps_fireOp _ _ _) (Keeps.refl _)))

theorem keeps_execScalarEq : ∀ x1 x2, KeepsO x2 (execScalarEq x1 x2) := by
  intro x1 x2
  unfold execScalarEq
  exact (show Keeps _ _ from (Keeps.tail (keeps_fireOp _ _ _) (Keeps.refl _)))

theorem keeps_execScalarNe : ∀ x1 x2, KeepsO x2 (execScalarNe x1 x2) := by
  intro x1 x2
  unfold execScalarNe
  exact (show Keeps _ _ from (Keeps.tail (keeps_fireOp _ _ _) (Keeps.refl _)))

theorem keeps_execScalarLt : ∀ x1 x2, KeepsO x2 (execScalarLt x1 x2) := by
  intro x1 x2
  unfold execScalarLt
  exact (show Keeps _ _ from (Keeps.tail (keeps_fireOp _ _ _) (Keeps.refl _)))

theorem keeps_execLtu : ∀ x1 x2, KeepsO x2 (execLtu x1 x2) := by
  intro x1 x2
  unfold execLtu
  exact (show Keeps _ _ from (Keeps.tail (keeps_fireOp _ _ _) (Keeps.refl _)))

theorem keeps_execScalarLe : ∀ x1 x2, KeepsO x2 (execScalarLe x1 x2) := by
  intro x1 x2
  unfold execScalarLe
  exact (show Keeps _ _ from (Keeps.tail (keeps_fireOp _ _ _) (Keeps.refl _)))

theorem keeps_execLeu : ∀ x1 x2, KeepsO x2 (execLeu x1 x2) := by
  intro x1 x2
  unfold execLeu
  exact (show Keeps _ _ from (Keeps.tail (keeps_fireOp _ _ _) (Keeps.refl _)))

theorem keeps_execMov : ∀ x1 x2, KeepsO x2 (execMov x1 x2) := by
  intro x1 x2
  unfold execMov
  exact (show Keeps _ _ from (Keeps.tail (keeps_fireOp _ _ _) (Keeps.refl _)))

theorem keeps_execFadd : ∀ x1 x2, KeepsO x2 (execFadd x1 x2) := by
  intro x1 x2
  unfold execFadd
  exact (show Keeps _ _ from (Keeps.tail (keeps_fireOp _ _ _) (Keeps.refl _)))

theorem keeps_execFmul : ∀ x1 x2, KeepsO x2 (execFmul x1 x2) := by
  intro x1 x2
  unfold execFmul
  exact (show Keeps _ _ from (Keeps.tail (keeps_fireOp _ _ _) (Keeps.refl _)))

theorem keeps_execFmin : ∀ x1 x2, KeepsO x2 (execFmin x1 x2) := by
  intro x1 x2
  unfold execFmin
  exact (show Keeps _ _ from (Keeps.tail (keeps_fireOp _ _ _) (Keeps.refl _)))

theorem keeps_execFmax : ∀ x1 x2, KeepsO x2 (execFmax x1 x2) := by
  intro x1 x2
  unfold execFmax
  exact (show Keeps _ _ from (Keeps.tail (keeps_fireOp _ _ _) (Keeps.refl _)))

theorem keeps_execMoveToLoopCounter : ∀ x1 x2, KeepsO x2 (execMoveToLoopCounter x1 x2) := by
  intro x1 x2
  unfold execMoveToLoopCounter
  exact (show Keeps _ _ from (Keeps.tail (keeps_fireOp _ _ _) (Keeps.refl _)))

theorem keeps_execMoveFromLoopCounter : ∀ x1 x2, KeepsO x2 (execMoveFromLoopCounter x1 x2) := by
  intro x1 x2
  unfold execMoveFromLoopCounter
  exact (show Keeps _ _ from (Keeps.tail (keeps_fireOp _ _ _) (Keeps.refl _)))

theorem keeps_execLdv : ∀ x1 x2, KeepsO x2 (execLdv x1 x2) := by
  intro x1 x2
  unfold execLdv
  exact (show Keeps _ _ from (Keeps.tail (keeps_fireOp _ _ _) (Keeps.refl _)))

theorem keeps_execStv : ∀ x1 x2, KeepsO x2 (execStv x1 x2) := by
  intro x1 x2
  unfold execStv
  exact (show Keeps _ _ from (Keeps.tail (keeps_fireOp _ _ _) (Keeps.refl _)))

theorem keeps_execLds : ∀ x1 x2, KeepsO x2 (execLds x1 x2) := by
  intro x1 x2
  unfold execLds
  exact (show Keeps _ _ from (Keeps.tail (keeps_fireOp _ _ _) (Keeps.refl _)))

theorem keeps_execSts : ∀ x1 x2, KeepsO x2 (execSts x1 x2) := by
  intro x1 x2
  unfold execSts
  exact (show Keeps _ _ from (Keeps.tail (keeps_fireOp _ _ _) (Keeps.refl _)))

theorem keeps_execCmrd : ∀ x1 x2, KeepsO x2 (execCmrd x1 x2) := by
  intro x1 x2
  unfold execCmrd
  exact (show Keeps _ _ from (Keeps.tail (keeps_fireOp _ _ _) (Keeps.refl _)))

theorem keeps_execCmwr : ∀ x1 x2, KeepsO x2 (execCmwr x1 x2) := by
  intro x1 x2
  unfold execCmwr
  exact (show Keeps _ _ from (Keeps.tail (keeps_fireOp _ _ _) (Keeps.refl _)))

theorem keeps_execRtls : ∀ x1 x2, KeepsO x2 (execRtls x1 x2) := by
  intro x1 x2
  unfold execRtls
  exact (show Keeps _ _ from (Keeps.tail (keeps_fireOp _ _ _) (Keeps.refl _)))

theorem keeps_execRtb : ∀ x1 x2, KeepsO x2 (execRtb x1 x2) := by
  intro x1 x2
  unfold execRtb
  exact (show Keeps _ _ from (Keeps.tail (keeps_fireOp _ _ _) (Keeps.refl _)))

theorem keeps_execLdb : ∀ x1 x2, KeepsO x2 (execLdb x1 x2) := by
  intro x1 x2
  unfold execLdb
  exact (show Keeps _ _ from (Keeps.tail (keeps_fireOp _ _ _) (Keeps.refl _)))

theorem keeps_execSelect : ∀ x1 x2, KeepsO x2 (execSelect x1 x2) := by
  intro x1 x2
  unfold execSelect
  exact (show Keeps _ _ from (Keeps.tail (keeps_fireOp _ _ _) (Keeps.refl _)))

theorem keeps_execSwitch : ∀ x1 x2, KeepsO x2 (execSwitch x1 x2) := by
  intro x1 x2
  unfold execSwitch
  exact (show Keeps _ _ from (Keeps.tail (keeps_fireOp _ _ _) (Keeps.refl _)))

theorem keeps_execMerge : ∀ x1 x2, KeepsO x2 (execMerge x1 x2) := by
  intro x1 x2
  unfold execMerge
  exact (show Keeps _ _ from (Keeps.tail (keeps_fireOp _ _ _) (Keeps.refl _)))

theorem keeps_execGate : ∀ x1 x2, KeepsO x2 (execGate x1 x2) := by
  intro x1 x2
  unfold execGate
  exact (show Keeps _ _ from (Keeps.tail (keeps_fireOp _ _ _) (Keeps.refl _)))

theorem keeps_execEmit : ∀ x1 x2, KeepsO x2 (execEmit x1 x2) := by
  intro x1 x2
  unfold execEmit
  exact (show Keeps _ _ from (Keeps.tail (keeps_fireOp _ _ _) (Keeps.refl _)))

theorem keeps_execForward : ∀ x1 x2, KeepsO x2 (execForward x1 x2) := by
  intro x1 x2
  unfold execForward
  exact (show Keeps _ _ from (Keeps.tail (keeps_fireOp _ _ _) (Keeps.refl _)))

theorem keeps_execSig : ∀ x1 x2, KeepsO x2 (execSig x1 x2) := by
  intro x1 x2
  unfold execSig
  exact (show Keeps _ _ from (Keeps.tail (keeps_fireOp _ _ _) (Keeps.refl _)))

theorem keeps_execWait : ∀ x1 x2, KeepsO x2 (execWait x1 x2) := by
  intro x1 x2
  unfold execWait
  exact (show Keeps _ _ from (Keeps.tail (keeps_fireOp _ _ _) (Keeps.refl _)))

theorem keeps_execRsig : ∀ x1 x2, KeepsO x2 (execRsig x1 x2) := by
  intro x1 x2
  unfold execRsig
  exact (show Keeps _ _ from (Keeps.tail (keeps_fireOp _ _ _) (Keeps.refl _)))

theorem keeps_execSend : ∀ x1 x2, KeepsO x2 (execSend x1 x2) := by
  intro x1 x2
  unfold execSend
  exact (show Keeps _ _ from (Keeps.tail (keeps_fireOp _ _ _) (Keeps.refl _)))

theorem keeps_execPop : ∀ x1 x2, KeepsO x2 (execPop x1 x2) := by
  intro x1 x2
  unfold execPop
  exact (show Keeps _ _ from (Keeps.tail (keeps_fireOp _ _ _) (Keeps.refl _)))

theorem keeps_fireNext : ∀ x1 x2 x3, Keeps x3 (fireNext x1 x2 x3) := by
  intro x1 x2 x3
  unfold fireNext
  exact (Keeps.ite (Keeps.tail (keeps_doFire _ _ _ _) (Keeps.refl _)) (Keeps.refl _))

theorem keeps_execNextSeq : ∀ x1 x2, KeepsO x2 (execNextSeq x1 x2) := by
  intro x1 x2
  unfold execNextSeq
  exact (show Keeps _ _ from (Keeps.tail (keeps_fireNext _ _ _) (Keeps.refl _)))

theorem keeps_execJump : ∀ x1 x2, KeepsO x2 (execJump x1 x2) := by
  intro x1 x2
  unfold execJump
  exact (show Keeps _ _ from (Keeps.tail (keeps_fireNext _ _ _) (Keeps.refl _)))

theorem keeps_execBrt : ∀ x1 x2, KeepsO x2 (execBrt x1 x2) := by
  intro x1 x2
  unfold execBrt
  exact (show Keeps _ _ from (Keeps.tail (keeps_fireNext _ _ _) (Keeps.refl _)))

theorem keeps_execBrf : ∀ x1 x2, KeepsO x2 (execBrf x1 x2) := by
  intro x1 x2
  unfold execBrf
  exact (show Keeps _ _ from (Keeps.tail (keeps_fireNext _ _ _) (Keeps.refl _)))

theorem keeps_execLoop : ∀ x1 x2, KeepsO x2 (execLoop x1 x2) := by
  intro x1 x2
  unfold execLoop
  exact (show Keeps _ _ from (Keeps.tail (keeps_fireNext _ _ _) (Keeps.refl _)))

theorem keeps_execEndStep : ∀ x1 x2, KeepsO x2 (execEndStep x1 x2) := by
  intro x1 x2
  unfold execEndStep
  exact (show Keeps _ _ from (Keeps.tail (keeps_fireNext _ _ _) (Keeps.refl _)))

theorem keeps_portMark : ∀ x1 x2 x3 x4, Keeps x4 (portMark x1 x2 x3 x4) := by
  intro x1 x2 x3 x4
  unfold portMark
  exact (Keeps.tail (keeps_swSet _ _ _ _) (Keeps.refl _))

theorem keeps_execCourseMarkEmit : ∀ x1 x2 x3 x4, KeepsO x4 (execCourseMarkEmit x1 x2 x3 x4) := by
  intro x1 x2 x3 x4
  unfold execCourseMarkEmit
  exact (by (try dsimp only); first | (split; exacts [(show Keeps _ _ from (Keeps.refl _)), (Keeps.iteO (show Keeps _ _ from (Keeps.tail
      (keeps_wMod _ _ _) (Keeps.fold (fun _ _ => (Keeps.tail (keeps_portMark _ _ _ _) (Keeps.refl _))) (Keeps.refl _)))) (show Keeps _ _ from
      (Keeps.refl _)))]))

theorem keeps_execWorkerFlip : ∀ x1 x2 x3 x4, KeepsO x4 (execWorkerFlip x1 x2 x3 x4) := by
  intro x1 x2 x3 x4
  unfold execWorkerFlip
  exact (by (try dsimp only); first | (split; exacts [(show Keeps _ _ from (Keeps.refl _)), (Keeps.iteO (show Keeps _ _ from (Keeps.ite (Keeps.tail
      (keeps_checkAll _ _) (Keeps.tail (keeps_wSet _ _ _) (Keeps.refl _))) (Keeps.tail (keeps_leftover _ _ _ _ _) (Keeps.tail
      (keeps_bump _ _ _ _ _ _) (Keeps.tail (keeps_checkAll _ _) (Keeps.tail (keeps_wSet _ _ _) (Keeps.refl _))))))) (show Keeps _ _ from
      (Keeps.refl _)))]))

theorem keeps_outSend : ∀ x1 x2 x3 x4 x5, Keeps x5 (outSend x1 x2 x3 x4 x5) := by
  intro x1 x2 x3 x4 x5
  unfold outSend
  exact (Keeps.ite (by (try dsimp only); first | (split; exacts [(Keeps.tail (keeps_swSet _ _ _ _) (Keeps.refl _)), (Keeps.refl _)])) (Keeps.tail
      (keeps_feedMma _ _ _) (Keeps.ite (Keeps.tail (keeps_bump _ _ _ _ _ _) (Keeps.tail (keeps_wSet _ _ _) (Keeps.refl _))) (Keeps.tail
      (keeps_wSet _ _ _) (Keeps.refl _)))))

theorem keeps_sendMarks : ∀ x1 x2 x3 x4, Keeps x4 (sendMarks x1 x2 x3 x4) := by
  intro x1 x2 x3 x4
  unfold sendMarks
  exact (Keeps.fold (fun _ _ => (Keeps.ite (Keeps.tail (keeps_outSend _ _ _ _ _) (Keeps.tail (keeps_swSet _ _ _ _) (Keeps.refl _))) (Keeps.refl _)))
      (Keeps.refl _))

theorem keeps_execSwitchFlip : ∀ x1 x2 x3 x4, KeepsO x4 (execSwitchFlip x1 x2 x3 x4) := by
  intro x1 x2 x3 x4
  unfold execSwitchFlip
  exact (by (try dsimp only); first | (split; exacts [(show Keeps _ _ from (Keeps.refl _)), (Keeps.iteO (show Keeps _ _ from (Keeps.tail
      (keeps_sendMarks _ _ _ _) (Keeps.tail (keeps_swSet _ _ _ _) (Keeps.refl _)))) (show Keeps _ _ from (Keeps.refl _)))]))

theorem keeps_execCourseMarkMismatch : ∀ x1 x2 x3 x4 x5, KeepsO x5 (execCourseMarkMismatch x1 x2 x3 x4 x5) := by
  intro x1 x2 x3 x4 x5
  unfold execCourseMarkMismatch
  exact (by (try dsimp only); first | (split; exacts [(Keeps.iteO (show Keeps _ _ from (Keeps.tail (keeps_ctxMod _ _ _) (Keeps.tail
      (keeps_schedFault _ _ _) (Keeps.tail (keeps_raise _ _ _) (Keeps.refl _))))) (show Keeps _ _ from (Keeps.refl _))), (show Keeps _ _ from
      (Keeps.refl _))]))

theorem keeps_fireGroup : ∀ x1 x2 x3 x4, Keeps x4 (fireGroup x1 x2 x3 x4) := by
  intro x1 x2 x3 x4
  unfold fireGroup
  exact (Keeps.fold (fun _ _ => (by (try dsimp only); first | (split; exacts [(Keeps.tail (keeps_flushOut _ _ _) (Keeps.refl _)), (Keeps.refl _)])))
      (Keeps.fold (fun _ _ => (Keeps.tail (keeps_outSend _ _ _ _ _) (Keeps.refl _))) (Keeps.tail (keeps_swSet _ _ _ _) (Keeps.refl _))))

theorem keeps_routeGroupFire : ∀ x1 x2 x3 x4, Keeps x4 (routeGroupFire x1 x2 x3 x4) := by
  intro x1 x2 x3 x4
  unfold routeGroupFire
  exact (Keeps.ite (Keeps.refl _) (Keeps.ite (Keeps.tail (keeps_fireGroup _ _ _ _) (Keeps.refl _)) (Keeps.tail (keeps_balanceStall _ _ _ _)
      (Keeps.refl _))))

theorem keeps_execRouteGroupFire : ∀ x1 x2 x3 x4 x5, KeepsO x5 (execRouteGroupFire x1 x2 x3 x4 x5) := by
  intro x1 x2 x3 x4 x5
  unfold execRouteGroupFire
  exact (Keeps.iteO (show Keeps _ _ from (Keeps.tail (keeps_routeGroupFire _ _ _ _) (Keeps.tail (keeps_sendMarks _ _ _ _) (Keeps.refl _))))
      (show Keeps _ _ from (Keeps.refl _)))

theorem keeps_holdBack : ∀ x1 x2 x3 x4 x5 x6, Keeps x6 (holdBack x1 x2 x3 x4 x5 x6) := by
  intro x1 x2 x3 x4 x5 x6
  unfold holdBack
  exact (Keeps.tail (keeps_swSet _ _ _ _) (Keeps.refl _))

theorem keeps_execStaticLinkCheckFail : ∀ x1 x2 x3 x4 x5 x6 x7, KeepsO x7 (execStaticLinkCheckFail x1 x2 x3 x4 x5 x6 x7) := by
  intro x1 x2 x3 x4 x5 x6 x7
  unfold execStaticLinkCheckFail
  exact (Keeps.iteO (show Keeps _ _ from (Keeps.refl _)) (Keeps.iteO (show Keeps _ _ from (Keeps.tail (keeps_chargeComb _ _ _) (Keeps.tail
      (keeps_holdBack _ _ _ _ _ _) (Keeps.upd (Keeps.tail (keeps_bump _ _ _ _ _ _) (Keeps.refl _)))))) (show Keeps _ _ from (Keeps.tail
      (keeps_combFault _ _) (Keeps.tail (keeps_holdBack _ _ _ _ _ _) (Keeps.upd (Keeps.tail (keeps_bump _ _ _ _ _ _) (Keeps.refl _))))))))

theorem keeps_execCrossingWander : ∀ x1 x2 x3 x4 x5, KeepsO x5 (execCrossingWander x1 x2 x3 x4 x5) := by
  intro x1 x2 x3 x4 x5
  unfold execCrossingWander
  exact (Keeps.iteO (show Keeps _ _ from (Keeps.upd (Keeps.ite (Keeps.tail (keeps_charge _ _ _) (Keeps.tail (keeps_bump _ _ _ _ _ _) (Keeps.tail
      (keeps_rset _ _ _ _ _) (Keeps.refl _)))) (Keeps.tail (keeps_bump _ _ _ _ _ _) (Keeps.tail (keeps_rset _ _ _ _ _) (Keeps.refl _))))))
      (show Keeps _ _ from (Keeps.refl _)))

theorem keeps_execStreamSlot : ∀ x1 x2 x3, KeepsO x3 (execStreamSlot x1 x2 x3) := by
  intro x1 x2 x3
  unfold execStreamSlot
  exact (by (try dsimp only); first | (split; exacts [(show Keeps _ _ from (Keeps.refl _)), (Keeps.iteO (show Keeps _ _ from (Keeps.refl _)) (by
      (try dsimp only); first | (split; exacts [(show Keeps _ _ from (Keeps.tail (keeps_chSet _ _ _) (Keeps.refl _))), (Keeps.iteO
      (show Keeps _ _ from (Keeps.tail (keeps_chSet _ _ _) (Keeps.refl _))) (Keeps.iteO (show Keeps _ _ from (Keeps.tail (keeps_chMod _ _ _)
      (Keeps.tail (keeps_chSet _ _ _) (Keeps.refl _)))) (Keeps.iteO (show Keeps _ _ from (Keeps.tail (keeps_lossOverrun _ _ _ _) (Keeps.tail
      (keeps_chSet _ _ _) (Keeps.refl _)))) (show Keeps _ _ from (Keeps.upd (Keeps.tail (keeps_chMod _ _ _) (Keeps.tail (keeps_chSet _ _ _)
      (Keeps.refl _))))))))])))]))

theorem keeps_execMaintenanceSlot : ∀ x1 x2 x3 x4, KeepsO x4 (execMaintenanceSlot x1 x2 x3 x4) := by
  intro x1 x2 x3 x4
  unfold execMaintenanceSlot
  exact (Keeps.iteO (show Keeps _ _ from (Keeps.tail (keeps_chSet _ _ _) (Keeps.refl _))) (show Keeps _ _ from (Keeps.refl _)))

theorem keeps_execRafterInject : ∀ x1 x2 x3, KeepsO x3 (execRafterInject x1 x2 x3) := by
  intro x1 x2 x3
  unfold execRafterInject
  exact (by (try dsimp only); first | (split; exacts [(show Keeps _ _ from (Keeps.refl _)), (Keeps.iteO (show Keeps _ _ from (Keeps.refl _))
      (Keeps.iteO (show Keeps _ _ from (Keeps.upd (Keeps.tail (keeps_chSet _ _ _) (Keeps.refl _)))) (Keeps.iteO (show Keeps _ _ from (Keeps.tail
      (keeps_poisonBlock _ _ _ _) (Keeps.upd (Keeps.tail (keeps_chSet _ _ _) (Keeps.tail (keeps_chErr _ _ _) (Keeps.tail (keeps_bump _ _ _ _ _ _)
      (Keeps.refl _))))))) (Keeps.iteO (show Keeps _ _ from (Keeps.upd (Keeps.tail (keeps_chSet _ _ _) (Keeps.tail (keeps_chErr _ _ _) (Keeps.tail
      (keeps_bump _ _ _ _ _ _) (Keeps.refl _)))))) (show Keeps _ _ from (Keeps.tail (keeps_poisonBlock _ _ _ _) (Keeps.upd (Keeps.tail
      (keeps_chSet _ _ _) (Keeps.tail (keeps_bump _ _ _ _ _ _) (Keeps.tail (keeps_chErr _ _ _) (Keeps.tail (keeps_bump _ _ _ _ _ _)
      (Keeps.refl _))))))))))))]))

theorem keeps_setVerdict : ∀ x1 x2 x3 x4, Keeps x4 (setVerdict x1 x2 x3 x4) := by
  intro x1 x2 x3 x4
  unfold setVerdict
  exact (Keeps.upd (Keeps.refl _))

theorem keeps_execRereadVerdict : ∀ x1 x2 x3 x4, KeepsO x4 (execRereadVerdict x1 x2 x3 x4) := by
  intro x1 x2 x3 x4
  unfold execRereadVerdict
  exact (by (try dsimp only); first | (split; exacts [(show Keeps _ _ from (Keeps.refl _)), (Keeps.iteO (show Keeps _ _ from (Keeps.tail
      (keeps_setVerdict _ _ _ _) (Keeps.tail (keeps_bump _ _ _ _ _ _) (Keeps.tail (keeps_chSet _ _ _) (Keeps.refl _))))) (Keeps.iteO
      (show Keeps _ _ from (Keeps.tail (keeps_chSet _ _ _) (Keeps.tail (keeps_chErr _ _ _) (Keeps.refl _)))) (show Keeps _ _ from (Keeps.tail
      (keeps_setVerdict _ _ _ _) (Keeps.tail (keeps_poisonBlock _ _ _ _) (Keeps.tail (keeps_chSet _ _ _) (Keeps.tail (keeps_chErr _ _ _)
      (Keeps.refl _))))))))]))

theorem keeps_execDropArrival : ∀ x1 x2 x3 x4 x5 x6, KeepsO x6 (execDropArrival x1 x2 x3 x4 x5 x6) := by
  intro x1 x2 x3 x4 x5 x6
  unfold execDropArrival
  exact (by (try dsimp only); first | (split; exacts [(show Keeps _ _ from (Keeps.refl _)), (Keeps.iteO (show Keeps _ _ from (Keeps.upd
      (Keeps.refl _))) (by (try dsimp only); first | (split; exacts [(show Keeps _ _ from (Keeps.upd (Keeps.refl _))), (Keeps.iteO
      (show Keeps _ _ from (Keeps.tail (keeps_dropPending _ _ _ _ _) (Keeps.upd (Keeps.ite (Keeps.tail (keeps_rset _ _ _ _ _) (Keeps.tail
      (keeps_dropSet _ _ _) (Keeps.upd (Keeps.refl _)))) (Keeps.tail (keeps_rset _ _ _ _ _) (Keeps.tail (keeps_dropSet _ _ _) (Keeps.upd
      (Keeps.refl _)))))))) (Keeps.iteO (show Keeps _ _ from (Keeps.tail (keeps_dropPending _ _ _ _ _) (Keeps.tail (keeps_dropSet _ _ _) (Keeps.upd
      (Keeps.refl _))))) (show Keeps _ _ from (Keeps.tail (keeps_dropBlock _ _ _ _ _ _ _) (Keeps.ite (Keeps.tail (keeps_chargeComb _ _ _)
      (Keeps.tail (keeps_dropSet _ _ _) (Keeps.upd (Keeps.refl _)))) (Keeps.tail (keeps_dropSet _ _ _) (Keeps.upd (Keeps.refl _))))))))])))]))

theorem keeps_wakeReads : ∀ x1 x2 x3 x4, Keeps x4 (wakeReads x1 x2 x3 x4) := by
  intro x1 x2 x3 x4
  unfold wakeReads
  exact (Keeps.upd (Keeps.fold (fun _ _ => (by (try dsimp only); first | (split; exacts [(Keeps.tail (keeps_cmToLs _ _ _ _ _ _) (Keeps.refl _)),
      (Keeps.refl _)]))) (Keeps.refl _)))

theorem keeps_execRepairAnswer : ∀ x1 x2 x3 x4, KeepsO x4 (execRepairAnswer x1 x2 x3 x4) := by
  intro x1 x2 x3 x4
  unfold execRepairAnswer
  exact (by (try dsimp only); first | (split; exacts [(show Keeps _ _ from (Keeps.refl _)), (by (try dsimp only); first |
      (split; exacts [(show Keeps _ _ from (Keeps.refl _)), (by (try dsimp only); first | (split; exacts [(show Keeps _ _ from (Keeps.tail
      (keeps_cutBeats _ _ _ _) (Keeps.tail (keeps_wMod _ _ _) (Keeps.tail (keeps_chargeComb _ _ _) (Keeps.ite (Keeps.tail (keeps_bump _ _ _ _ _ _)
      (Keeps.upd (Keeps.refl _))) (Keeps.upd (Keeps.refl _))))))), (show Keeps _ _ from (Keeps.tail (keeps_wakeReads _ _ _ _) (Keeps.tail
      (keeps_dropWrite _ _ _ _ _) (Keeps.tail (keeps_chargeComb _ _ _) (Keeps.ite (Keeps.tail (keeps_bump _ _ _ _ _ _) (Keeps.upd (Keeps.refl _)))
      (Keeps.upd (Keeps.refl _)))))))]))]))]))

theorem keeps_laneOut : ∀ x1 x2 x3 x4, Keeps x4 (laneOut x1 x2 x3 x4) := by
  intro x1 x2 x3 x4
  unfold laneOut
  exact (Keeps.tail (keeps_raise _ _ _) (by (try dsimp only); first | (split; exacts [(Keeps.tail (keeps_askReset _ _ _) (Keeps.tail
      (keeps_degrade _ _) (Keeps.tail (keeps_rset _ _ _ _ _) (Keeps.tail (keeps_rset _ _ _ _ _) (Keeps.refl _))))), (Keeps.tail (keeps_degrade _ _)
      (Keeps.tail (keeps_rset _ _ _ _ _) (Keeps.tail (keeps_rset _ _ _ _ _) (Keeps.refl _))))])))

theorem keeps_execRafterLaneTest : ∀ x1 x2 x3 x4 x5, KeepsO x5 (execRafterLaneTest x1 x2 x3 x4 x5) := by
  intro x1 x2 x3 x4 x5
  unfold execRafterLaneTest
  exact (Keeps.iteO (show Keeps _ _ from (Keeps.refl _)) (show Keeps _ _ from (Keeps.fold (fun _ _ => (Keeps.tail (keeps_laneOut _ _ _ _)
      (Keeps.refl _))) (Keeps.tail (keeps_takeSpares _ _ _ _) (Keeps.fold (fun _ _ => (Keeps.tail (keeps_ctxMod _ _ _) (Keeps.refl _))) (Keeps.upd
      (Keeps.refl _)))))))

theorem keeps_scrubBlock : ∀ x1 x2 x3 x4, Keeps x4 (scrubBlock x1 x2 x3 x4) := by
  intro x1 x2 x3 x4
  unfold scrubBlock
  exact (by (try dsimp only); first | (split; exacts [(Keeps.upd (Keeps.tail (keeps_mwrite _ _ _) (Keeps.refl _))), (Keeps.upd (Keeps.refl _))]))

theorem keeps_execPatrolScrubRead : ∀ x1 x2 x3, KeepsO x3 (execPatrolScrubRead x1 x2 x3) := by
  intro x1 x2 x3
  unfold execPatrolScrubRead
  exact (Keeps.iteO (show Keeps _ _ from (Keeps.tail (keeps_chSet _ _ _) (Keeps.ite (Keeps.fold (fun _ _ => (Keeps.tail (keeps_scrubBlock _ _ _ _)
      (Keeps.tail (keeps_chErr _ _ _) (Keeps.refl _)))) (Keeps.refl _)) (Keeps.tail (keeps_raise _ _ _) (Keeps.tail (keeps_recordAdd _ _) (Keeps.upd
      (Keeps.tail (keeps_bump _ _ _ _ _ _) (Keeps.fold (fun _ _ => (Keeps.tail (keeps_scrubBlock _ _ _ _) (Keeps.tail (keeps_chErr _ _ _)
      (Keeps.refl _)))) (Keeps.refl _))))))))) (show Keeps _ _ from (Keeps.ite (Keeps.tail (keeps_rset _ _ _ _ _) (Keeps.tail (keeps_chSet _ _ _)
      (Keeps.ite (Keeps.fold (fun _ _ => (Keeps.tail (keeps_scrubBlock _ _ _ _) (Keeps.tail (keeps_chErr _ _ _) (Keeps.refl _)))) (Keeps.refl _))
      (Keeps.tail (keeps_raise _ _ _) (Keeps.tail (keeps_recordAdd _ _) (Keeps.upd (Keeps.tail (keeps_bump _ _ _ _ _ _) (Keeps.fold (fun _ _ =>
      (Keeps.tail (keeps_scrubBlock _ _ _ _) (Keeps.tail (keeps_chErr _ _ _) (Keeps.refl _)))) (Keeps.refl _))))))))) (Keeps.tail
      (keeps_chSet _ _ _) (Keeps.ite (Keeps.fold (fun _ _ => (Keeps.tail (keeps_scrubBlock _ _ _ _) (Keeps.tail (keeps_chErr _ _ _)
      (Keeps.refl _)))) (Keeps.refl _)) (Keeps.tail (keeps_raise _ _ _) (Keeps.tail (keeps_recordAdd _ _) (Keeps.upd (Keeps.tail
      (keeps_bump _ _ _ _ _ _) (Keeps.fold (fun _ _ => (Keeps.tail (keeps_scrubBlock _ _ _ _) (Keeps.tail (keeps_chErr _ _ _) (Keeps.refl _))))
      (Keeps.refl _)))))))))))

theorem keeps_execCmemRefresh : ∀ x1 x2 x3 x4 x5 x6, KeepsO x6 (execCmemRefresh x1 x2 x3 x4 x5 x6) := by
  intro x1 x2 x3 x4 x5 x6
  unfold execCmemRefresh
  exact (Keeps.iteO (show Keeps _ _ from (Keeps.tail (keeps_chargeComb _ _ _) (Keeps.refl _))) (show Keeps _ _ from (Keeps.fold (fun _ _ =>
      (Keeps.tail (keeps_raise _ _ _) (Keeps.refl _))) (Keeps.ite (Keeps.tail (keeps_recordAdd _ _) (Keeps.tail (keeps_bump _ _ _ _ _ _) (Keeps.upd
      (Keeps.tail (keeps_chargeComb _ _ _) (Keeps.refl _))))) (Keeps.tail (keeps_bump _ _ _ _ _ _) (Keeps.tail (keeps_bump _ _ _ _ _ _) (Keeps.upd
      (Keeps.tail (keeps_chargeComb _ _ _) (Keeps.refl _)))))))))

theorem keeps_execRdreqPacket : ∀ x1 x2, KeepsO x2 (execRdreqPacket x1 x2) := by
  intro x1 x2
  unfold execRdreqPacket
  exact (show Keeps _ _ from (Keeps.ite (Keeps.refl _) (Keeps.tail (keeps_arrive _ _ _ (fun _ => (Keeps.ite (Keeps.tail (keeps_launch _ _)
      (Keeps.tail (keeps_mshDrop _ _ _ _) (Keeps.refl _))) (by (try dsimp only); first | (split; exacts [(Keeps.tail (keeps_egressTake _ _ _)
      (Keeps.refl _)), (Keeps.ite (Keeps.tail (keeps_launch _ _) (Keeps.tail (keeps_poisonReads _ _ _ _) (Keeps.tail (keeps_checkRead _ _ _ _ _)
      (Keeps.tail (keeps_dynTags _ _ _ _) (Keeps.refl _))))) (Keeps.refl _))]))))) (Keeps.refl _))))

theorem keeps_refuseFlow : ∀ x1 x2, Keeps x2 (refuseFlow x1 x2) := by
  intro x1 x2
  unfold refuseFlow
  exact (Keeps.upd (Keeps.refl _))

theorem keeps_flowCheck : ∀ x1 x2, Keeps x2 (flowCheck x1 x2).2 := by
  intro x1 x2
  unfold flowCheck
  exact (Keeps.ite2 (Keeps.tail (keeps_launch _ _) (Keeps.tail (keeps_bump _ _ _ _ _ _) (Keeps.tail (keeps_refuseFlow _ _) (Keeps.refl _))))
      (Keeps.ite2 (Keeps.ite (Keeps.tail (keeps_mshDrop _ _ _ _) (Keeps.refl _)) (Keeps.tail (keeps_launch _ _) (Keeps.tail (keeps_mshDrop _ _ _ _)
      (Keeps.tail (keeps_refuseFlow _ _) (Keeps.refl _))))) (Keeps.ite2 (Keeps.tail (keeps_mshDrop _ _ _ _) (Keeps.ite (Keeps.upd (Keeps.refl _))
      (Keeps.refl _))) (Keeps.ite2 (Keeps.tail (keeps_launch _ _) (Keeps.tail (keeps_mshDrop _ _ _ _) (Keeps.upd (Keeps.ite (Keeps.upd
      (Keeps.refl _)) (Keeps.refl _))))) (Keeps.ite (Keeps.upd (Keeps.refl _)) (Keeps.refl _))))))

theorem keeps_refuseWr : ∀ x1 x2, Keeps x2 (refuseWr x1 x2) := by
  intro x1 x2
  unfold refuseWr
  exact (by (try dsimp only); first | (split; exacts [(Keeps.ite (Keeps.tail (keeps_dmaError _ _ _ _ _) (Keeps.refl _)) (Keeps.refl _)), (Keeps.tail
      (keeps_launch _ _) (Keeps.refl _)), (Keeps.refl _)]))

theorem keeps_flowAdvance : ∀ x1 x2, Keeps x2 (flowAdvance x1 x2) := by
  intro x1 x2
  unfold flowAdvance
  exact (Keeps.tail (keeps_launch _ _) (Keeps.ite (Keeps.upd (Keeps.refl _)) (Keeps.upd (Keeps.refl _))))

theorem keeps_execWrPacket : ∀ x1 x2, KeepsO x2 (execWrPacket x1 x2) := by
  intro x1 x2
  unfold execWrPacket
  exact (show Keeps _ _ from (Keeps.ite (Keeps.refl _) (Keeps.tail (keeps_arrive _ _ _ (fun _ => (Keeps.ite (Keeps.tail (keeps_launch _ _)
      (Keeps.tail (keeps_mshDrop _ _ _ _) (Keeps.refl _))) (by (try dsimp only); first | (split; exacts [(Keeps.tail (keeps_egressTake _ _ _)
      (Keeps.refl _)), (Keeps.ite (Keeps.refl _) (Keeps.ite (Keeps.tail (keeps_flowCheck _ _) (Keeps.refl _)) (Keeps.ite (Keeps.tail
      (keeps_refuseWr _ _) (Keeps.tail (keeps_flowCheck _ _) (Keeps.refl _))) (Keeps.tail (keeps_flowAdvance _ _) (Keeps.tail
      (keeps_locWrite _ _ _ _) (Keeps.tail (keeps_dynTags _ _ _ _) (Keeps.tail (keeps_flowCheck _ _) (Keeps.refl _))))))))]))))) (Keeps.refl _))))

theorem keeps_execRdrspPacket : ∀ x1 x2, KeepsO x2 (execRdrspPacket x1 x2) := by
  intro x1 x2
  unfold execRdrspPacket
  exact (show Keeps _ _ from (Keeps.ite (Keeps.refl _) (Keeps.tail (keeps_arrive _ _ _ (fun _ => (Keeps.ite (Keeps.tail (keeps_mshDrop _ _ _ _)
      (Keeps.refl _)) (Keeps.refl _)))) (Keeps.refl _))))

theorem keeps_unstall : ∀ x1 x2 x3, Keeps x3 (unstall x1 x2 x3) := by
  intro x1 x2
  induction x2 generalizing x1 with
  | zero => intro x3; exact Keeps.refl _
  | succ k ih =>
    intro x3
    unfold unstall
    exact (by (try dsimp only); first | (split; exacts [(Keeps.refl _), (Keeps.ite (Keeps.refl _) (Keeps.tail (ih _ _) (Keeps.tail
      (keeps_portMod _ _ _) (Keeps.tail (keeps_giveCredit _ _ _) (Keeps.tail (keeps_takeBlock _ _ _ _) (Keeps.tail (keeps_portMod _ _ _)
      (Keeps.refl _)))))))]))

theorem keeps_inFlowAck : ∀ x1 x2 x3 x4, Keeps x4 (inFlowAck x1 x2 x3 x4) := by
  intro x1 x2 x3 x4
  unfold inFlowAck
  exact (Keeps.ite (Keeps.tail (keeps_unstall _ _ _) (Keeps.tail (keeps_portMod _ _ _) (Keeps.refl _))) (Keeps.refl _))

theorem keeps_replyOut : ∀ x1 x2 x3, Keeps x3 (replyOut x1 x2 x3) := by
  intro x1 x2 x3
  unfold replyOut
  exact (by (try dsimp only); first | (split; exacts [(Keeps.refl _), (by (try dsimp only); first | (split; exacts [(Keeps.tail
      (keeps_sendBlocks _ _ _) (Keeps.refl _)), (Keeps.refl _)]))]))

theorem keeps_loaderAck : ∀ x1 x2, Keeps x2 (loaderAck x1 x2) := by
  intro x1 x2
  unfold loaderAck
  exact (by (try dsimp only); first | (split; exacts [(Keeps.refl _), (Keeps.tail (keeps_ctxMod _ _ _) (Keeps.refl _))]))

theorem keeps_sourceAck : ∀ x1 x2 x3, Keeps x3 (sourceAck x1 x2 x3) := by
  intro x1 x2 x3
  unfold sourceAck
  exact (by (try dsimp only); first | (split; exacts [(Keeps.refl _), (by (try dsimp only); first | (split; exacts [(Keeps.upd (Keeps.refl _)),
      (Keeps.ite (Keeps.upd (Keeps.tail (keeps_dmaAck _ _ _ _) (Keeps.upd (Keeps.refl _)))) (Keeps.tail (keeps_dmaAck _ _ _ _) (Keeps.upd
      (Keeps.refl _))))]))]))

theorem keeps_execAckPacket : ∀ x1 x2, KeepsO x2 (execAckPacket x1 x2) := by
  intro x1 x2
  unfold execAckPacket
  exact (show Keeps _ _ from (Keeps.ite (Keeps.refl _) (Keeps.tail (keeps_arrive _ _ _ (fun _ => (Keeps.ite (Keeps.tail (keeps_mshDrop _ _ _ _)
      (Keeps.refl _)) (by (try dsimp only); first | (split; exacts [(Keeps.tail (keeps_inFlowAck _ _ _ _) (Keeps.tail (keeps_replyOut _ _ _)
      (Keeps.refl _))), (Keeps.ite (Keeps.tail (keeps_loaderAck _ _) (Keeps.refl _)) (Keeps.tail (keeps_sourceAck _ _ _) (Keeps.refl _)))])))))
      (Keeps.refl _))))

theorem keeps_remoteFail : ∀ x1 x2 x3, Keeps x3 (remoteFail x1 x2 x3) := by
  intro x1 x2 x3
  unfold remoteFail
  exact (Keeps.ite (Keeps.tail (keeps_dmaHalt _ _ _ _ _ _ _) (Keeps.refl _)) (Keeps.refl _))

theorem keeps_flowFail : ∀ x1 x2 x3 x4, Keeps x4 (flowFail x1 x2 x3 x4) := by
  intro x1 x2 x3 x4
  unfold flowFail
  exact (by (try dsimp only); first | (split; exacts [(Keeps.tail (keeps_dmaFlowFail _ _ _ _) (by (try dsimp only); first |
      (split; exacts [(Keeps.upd (Keeps.refl _)), (Keeps.refl _)]))), (Keeps.ite (by (try dsimp only); first | (split; exacts [(Keeps.tail
      (keeps_endLoad _ _ _ _) (by (try dsimp only); first | (split; exacts [(Keeps.upd (Keeps.refl _)), (Keeps.refl _)]))), (by
      (try dsimp only); first | (split; exacts [(Keeps.upd (Keeps.refl _)), (Keeps.refl _)]))])) (by (try dsimp only); first |
      (split; exacts [(Keeps.upd (Keeps.refl _)), (Keeps.refl _)])))]))

theorem keeps_execNackPacket : ∀ x1 x2, KeepsO x2 (execNackPacket x1 x2) := by
  intro x1 x2
  unfold execNackPacket
  exact (show Keeps _ _ from (Keeps.ite (Keeps.refl _) (Keeps.tail (keeps_arrive _ _ _ (fun _ => (Keeps.ite (Keeps.tail (keeps_mshDrop _ _ _ _)
      (Keeps.refl _)) (by (try dsimp only); first | (split; exacts [(Keeps.tail (keeps_replyOut _ _ _) (Keeps.refl _)), (Keeps.ite (by
      (try dsimp only); first | (split; exacts [(Keeps.upd (Keeps.refl _)), (Keeps.refl _)])) (Keeps.ite (by (try dsimp only); first |
      (split; exacts [(Keeps.tail (keeps_remoteFail _ _ _) (Keeps.refl _)), (Keeps.refl _)])) (Keeps.tail (keeps_flowFail _ _ _ _)
      (Keeps.refl _))))]))))) (Keeps.refl _))))

theorem keeps_execSendPacket : ∀ x1 x2, KeepsO x2 (execSendPacket x1 x2) := by
  intro x1 x2
  unfold execSendPacket
  exact (show Keeps _ _ from (Keeps.ite (Keeps.refl _) (Keeps.tail (keeps_arrive _ _ _ (fun _ => (Keeps.ite (Keeps.ite (Keeps.tail
      (keeps_bump _ _ _ _ _ _) (Keeps.tail (keeps_wMod _ _ _) (Keeps.refl _))) (Keeps.tail (keeps_wMod _ _ _) (Keeps.refl _))) (Keeps.tail
      (keeps_launch _ _) (Keeps.tail (keeps_bump _ _ _ _ _ _) (Keeps.ite (Keeps.tail (keeps_mshDrop _ _ _ _) (Keeps.refl _)) (Keeps.refl _)))))))
      (Keeps.refl _))))

theorem keeps_execCreditPacket : ∀ x1 x2, KeepsO x2 (execCreditPacket x1 x2) := by
  intro x1 x2
  unfold execCreditPacket
  exact (show Keeps _ _ from (Keeps.ite (Keeps.refl _) (Keeps.tail (keeps_arrive _ _ _ (fun _ => (Keeps.ite (Keeps.tail (keeps_mshDrop _ _ _ _)
      (Keeps.refl _)) (by (try dsimp only); first | (split; exacts [(Keeps.refl _), (Keeps.ite (Keeps.fold (fun _ _ => (Keeps.tail
      (keeps_wake _ _ _ _) (Keeps.tail (keeps_goneFail _ _ _ _) (Keeps.refl _)))) (Keeps.tail (keeps_wMod _ _ _) (Keeps.tail (keeps_wMod _ _ _)
      (Keeps.refl _)))) (Keeps.tail (keeps_creditWake _ _ _ _) (Keeps.tail (keeps_wMod _ _ _) (Keeps.refl _))))]))))) (Keeps.refl _))))

theorem keeps_execSigPacket : ∀ x1 x2, KeepsO x2 (execSigPacket x1 x2) := by
  intro x1 x2
  unfold execSigPacket
  exact (show Keeps _ _ from (Keeps.ite (Keeps.refl _) (Keeps.tail (keeps_arrive _ _ _ (fun _ => (Keeps.ite (Keeps.tail (keeps_launch _ _)
      (Keeps.tail (keeps_bump _ _ _ _ _ _) (Keeps.tail (keeps_mshDrop _ _ _ _) (Keeps.refl _)))) (Keeps.tail (keeps_launch _ _) (Keeps.tail
      (keeps_signal _ _ _ _) (Keeps.refl _)))))) (Keeps.refl _))))

theorem keeps_execSigackPacket : ∀ x1 x2, KeepsO x2 (execSigackPacket x1 x2) := by
  intro x1 x2
  unfold execSigackPacket
  exact (show Keeps _ _ from (Keeps.ite (Keeps.refl _) (Keeps.tail (keeps_arrive _ _ _ (fun _ => (Keeps.ite (Keeps.tail (keeps_mshDrop _ _ _ _)
      (Keeps.refl _)) (Keeps.tail (keeps_wMod _ _ _) (Keeps.refl _))))) (Keeps.refl _))))

theorem keeps_execRidgePacket : ∀ x1 x2, KeepsO x2 (execRidgePacket x1 x2) := by
  intro x1 x2
  unfold execRidgePacket
  exact (show Keeps _ _ from (Keeps.ite (Keeps.refl _) (Keeps.tail (keeps_arrive _ _ _ (fun _ => (Keeps.ite (Keeps.tail (keeps_ctxMod _ _ _)
      (Keeps.tail (keeps_mshDrop _ _ _ _) (Keeps.refl _))) (Keeps.ite (Keeps.tail (keeps_ctxMod _ _ _) (Keeps.refl _)) (Keeps.tail
      (keeps_ctxMod _ _ _) (Keeps.refl _)))))) (Keeps.refl _))))

theorem keeps_finishSect : ∀ x1 x2 x3 x4, Keeps x4 (finishSect x1 x2 x3 x4) := by
  intro x1 x2 x3 x4
  unfold finishSect
  exact (by (try dsimp only); first | (split; exacts [(Keeps.refl _), (Keeps.ite (Keeps.tail (keeps_showReady _ _) (Keeps.tail (keeps_ctxMod _ _ _)
      (Keeps.fold (fun _ _ => (Keeps.tail (keeps_shadowWrite _ _ _ _) (Keeps.refl _))) (Keeps.refl _)))) (Keeps.ite (Keeps.tail
      (keeps_endLoad _ _ _ _) (Keeps.refl _)) (Keeps.tail (keeps_ctxMod _ _ _) (Keeps.refl _))))]))

theorem keeps_mgmtStore : ∀ x1 x2 x3 x4, Keeps x4 (mgmtStore x1 x2 x3 x4) := by
  intro x1 x2 x3 x4
  unfold mgmtStore
  exact (by (try dsimp only); first | (split; exacts [(Keeps.refl _), (Keeps.ite (Keeps.tail (keeps_finishSect _ _ _ _) (Keeps.tail
      (keeps_ctxMod _ _ _) (Keeps.refl _))) (Keeps.tail (keeps_ctxMod _ _ _) (Keeps.refl _)))]))

theorem keeps_mcastCount : ∀ x1 x2 x3 x4 x5, Keeps x5 (mcastCount x1 x2 x3 x4 x5) := by
  intro x1 x2 x3 x4 x5
  unfold mcastCount
  exact (Keeps.tail (keeps_ctxMod _ _ _) (Keeps.refl _))

theorem keeps_mgmtAt : ∀ x1 x2 x3 x4, Keeps x3 (mgmtAt x1 x2 x3 x4) := by
  intro x1 x2 x3 x4
  unfold mgmtAt
  exact (by (try dsimp only); first | (split; exacts [(Keeps.refl _), (Keeps.ite (Keeps.refl _) (Keeps.ite (Keeps.ite (Keeps.tail
      (keeps_mgmtStore _ _ _ _) (Keeps.tail (keeps_flowAdvance _ _) (Keeps.tail (keeps_flowCheck _ _) (Keeps.refl _)))) (Keeps.tail
      (keeps_flowCheck _ _) (Keeps.refl _))) (Keeps.ite (Keeps.tail (keeps_mshDrop _ _ _ _) (Keeps.refl _)) (Keeps.ite (Keeps.tail
      (keeps_launch _ _) (Keeps.tail (keeps_mshDrop _ _ _ _) (Keeps.tail (keeps_refuseFlow _ _) (Keeps.refl _)))) (Keeps.tail
      (keeps_mgmtStore _ _ _ _) (Keeps.tail (keeps_launch _ _) (Keeps.tail (keeps_mcastCount _ _ _ _ _) (Keeps.upd (Keeps.refl _)))))))))]))

theorem keeps_execMgmtPacket : ∀ x1 x2 x3 x4, KeepsO x4 (execMgmtPacket x1 x2 x3 x4) := by
  intro x1 x2 x3 x4
  unfold execMgmtPacket
  exact (show Keeps _ _ from (Keeps.ite (Keeps.refl _) (Keeps.tail (keeps_arrive _ _ _ (fun _ => (Keeps.ite (Keeps.tail (keeps_mshDrop _ _ _ _)
      (Keeps.ite (Keeps.tail (keeps_charge _ _ _) (Keeps.refl _)) (Keeps.refl _))) (by (try dsimp only); first | (split; exacts [(Keeps.ite
      (Keeps.tail (keeps_charge _ _ _) (Keeps.refl _)) (Keeps.refl _)), (Keeps.ite (Keeps.fold (fun _ _ => (Keeps.tail (keeps_mgmtAt _ _ _ _)
      (Keeps.refl _))) (Keeps.tail (keeps_dropOff _ _) (Keeps.ite (Keeps.tail (keeps_charge _ _ _) (Keeps.refl _)) (Keeps.refl _)))) (Keeps.fold
      (fun _ _ => (Keeps.tail (keeps_mgmtAt _ _ _ _) (Keeps.refl _))) (Keeps.ite (Keeps.tail (keeps_charge _ _ _) (Keeps.refl _))
      (Keeps.refl _))))]))))) (Keeps.refl _))))

theorem keeps_execFaultPacket : ∀ x1 x2, KeepsO x2 (execFaultPacket x1 x2) := by
  intro x1 x2
  unfold execFaultPacket
  exact (by (try dsimp only); first | (split; exacts [(show Keeps _ _ from (Keeps.refl _)), (Keeps.iteO (show Keeps _ _ from (Keeps.refl _))
      (show Keeps _ _ from (Keeps.tail (keeps_acceptRec _ _) (Keeps.upd (Keeps.refl _)))))]))

theorem keeps_execPacketAgeDrop : ∀ x1 x2 x3 x4, KeepsO x4 (execPacketAgeDrop x1 x2 x3 x4) := by
  intro x1 x2 x3 x4
  unfold execPacketAgeDrop
  exact (show Keeps _ _ from (Keeps.ite (Keeps.tail (keeps_mshDrop _ _ _ _) (Keeps.upd (Keeps.refl _))) (Keeps.refl _)))

theorem keeps_execMeshLinkCheckFail : ∀ x1 x2 x3 x4, KeepsO x4 (execMeshLinkCheckFail x1 x2 x3 x4) := by
  intro x1 x2 x3 x4
  unfold execMeshLinkCheckFail
  exact (show Keeps _ _ from (Keeps.ite (Keeps.tail (keeps_bump _ _ _ _ _ _) (Keeps.upd (Keeps.refl _))) (Keeps.tail (keeps_spineFault _ _)
      (Keeps.tail (keeps_bump _ _ _ _ _ _) (Keeps.upd (Keeps.refl _))))))

theorem keeps_execWindowTimeout : ∀ x1 x2 x3, KeepsO x3 (execWindowTimeout x1 x2 x3) := by
  intro x1 x2 x3
  unfold execWindowTimeout
  exact (show Keeps _ _ from (Keeps.ite (Keeps.tail (keeps_flowFail _ _ _ _) (Keeps.tail (keeps_bump _ _ _ _ _ _) (Keeps.refl _))) (Keeps.refl _)))

theorem keeps_execOpenRetry : ∀ x1 x2 x3, KeepsO x3 (execOpenRetry x1 x2 x3) := by
  intro x1 x2 x3
  unfold execOpenRetry
  exact (by (try dsimp only); first | (split; exacts [(show Keeps _ _ from (Keeps.fold (fun _ _ => (Keeps.tail (keeps_launch _ _) (Keeps.refl _)))
      (Keeps.upd (Keeps.refl _)))), (show Keeps _ _ from (Keeps.refl _))]))

theorem keeps_execMulticastAckTimeout : ∀ x1 x2, KeepsO x2 (execMulticastAckTimeout x1 x2) := by
  intro x1 x2
  unfold execMulticastAckTimeout
  exact (by (try dsimp only); first | (split; exacts [(show Keeps _ _ from (Keeps.ite (Keeps.tail (keeps_endLoad _ _ _ _) (Keeps.refl _))
      (Keeps.refl _))), (show Keeps _ _ from (Keeps.refl _))]))

theorem keeps_execDescriptorStart : ∀ x1 x2, KeepsO x2 (execDescriptorStart x1 x2) := by
  intro x1 x2
  unfold execDescriptorStart
  exact (Keeps.iteO (show Keeps _ _ from (Keeps.refl _)) (Keeps.iteO (show Keeps _ _ from (Keeps.tail (keeps_dmaPump _ _) (Keeps.refl _))) (by
      (try dsimp only); first | (split; exacts [(show Keeps _ _ from (Keeps.tail (keeps_dmaHalt _ _ _ _ _ _ _) (Keeps.tail (keeps_dmMod _ _ _)
      (Keeps.tail (keeps_rset _ _ _ _ _) (Keeps.refl _))))), (by (try dsimp only); first | (split; exacts [(show Keeps _ _ from (Keeps.tail
      (keeps_dmaHalt _ _ _ _ _ _ _) (Keeps.tail (keeps_dmMod _ _ _) (Keeps.tail (keeps_rset _ _ _ _ _) (Keeps.refl _))))), (show Keeps _ _ from
      (Keeps.tail (keeps_dmaPump _ _) (Keeps.tail (keeps_dmMod _ _ _) (Keeps.tail (keeps_dmMod _ _ _) (Keeps.tail (keeps_rset _ _ _ _ _)
      (Keeps.refl _))))))]))]))))

theorem keeps_execDmaTransferError : ∀ x1 x2 x3 x4, KeepsO x4 (execDmaTransferError x1 x2 x3 x4) := by
  intro x1 x2 x3 x4
  unfold execDmaTransferError
  exact (Keeps.iteO (show Keeps _ _ from (Keeps.tail (keeps_dmaError _ _ _ _ _) (Keeps.ite (Keeps.tail (keeps_poisonReads _ _ _ _) (Keeps.tail
      (keeps_checkRead _ _ _ _ _) (Keeps.refl _))) (Keeps.refl _)))) (show Keeps _ _ from (Keeps.refl _)))

theorem keeps_execDescriptorComplete : ∀ x1 x2, KeepsO x2 (execDescriptorComplete x1 x2) := by
  intro x1 x2
  unfold execDescriptorComplete
  exact (Keeps.iteO (show Keeps _ _ from (Keeps.ite (Keeps.tail (keeps_dmaReport _ _ _) (Keeps.refl _)) (Keeps.tail (keeps_dmaAfter _ _ _)
      (Keeps.refl _)))) (show Keeps _ _ from (Keeps.refl _)))

theorem keeps_execPortTraining : ∀ x1 x2 x3, KeepsO x3 (execPortTraining x1 x2 x3) := by
  intro x1 x2 x3
  unfold execPortTraining
  exact (Keeps.iteO (show Keeps _ _ from (Keeps.refl _)) (Keeps.iteO (show Keeps _ _ from (Keeps.ite (Keeps.tail (keeps_portDown _ _ _) (Keeps.tail
      (keeps_portMod _ _ _) (Keeps.tail (keeps_rset _ _ _ _ _) (Keeps.refl _)))) (Keeps.tail (keeps_portMod _ _ _) (Keeps.tail
      (keeps_rset _ _ _ _ _) (Keeps.refl _))))) (Keeps.iteO (show Keeps _ _ from (Keeps.tail (keeps_portDown _ _ _) (Keeps.tail
      (keeps_rset _ _ _ _ _) (Keeps.refl _)))) (show Keeps _ _ from (Keeps.ite (Keeps.tail (keeps_portDown _ _ _) (Keeps.tail (keeps_rset _ _ _ _ _)
      (Keeps.tail (keeps_portMod _ _ _) (Keeps.tail (keeps_rset _ _ _ _ _) (Keeps.tail (keeps_rset _ _ _ _ _) (Keeps.tail (keeps_rset _ _ _ _ _)
      (Keeps.tail (keeps_rset _ _ _ _ _) (Keeps.tail (keeps_rset _ _ _ _ _) (Keeps.tail (keeps_rset _ _ _ _ _) (Keeps.tail (keeps_rset _ _ _ _ _)
      (Keeps.refl _))))))))))) (Keeps.tail (keeps_wiring _ _) (Keeps.tail (keeps_sendCtl _ _ _) (Keeps.tail (keeps_rset _ _ _ _ _) (Keeps.tail
      (keeps_portMod _ _ _) (Keeps.tail (keeps_rset _ _ _ _ _) (Keeps.tail (keeps_rset _ _ _ _ _) (Keeps.tail (keeps_rset _ _ _ _ _) (Keeps.tail
      (keeps_rset _ _ _ _ _) (Keeps.tail (keeps_rset _ _ _ _ _) (Keeps.tail (keeps_rset _ _ _ _ _) (Keeps.tail (keeps_rset _ _ _ _ _)
      (Keeps.refl _)))))))))))))))))

theorem keeps_execIdleBlock : ∀ x1 x2 x3, KeepsO x3 (execIdleBlock x1 x2 x3) := by
  intro x1 x2 x3
  unfold execIdleBlock
  exact (show Keeps _ _ from (Keeps.ite (Keeps.refl _) (Keeps.tail (keeps_ackRetry _ _ _) (Keeps.refl _))))

theorem keeps_execPacketBlock : ∀ x1 x2 x3 x4, KeepsO x4 (execPacketBlock x1 x2 x3 x4) := by
  intro x1 x2 x3 x4
  unfold execPacketBlock
  exact (show Keeps _ _ from (Keeps.tail (keeps_dataBlock _ _ _ _ _) (Keeps.refl _)))

theorem keeps_execStreamBlock : ∀ x1 x2 x3 x4, KeepsO x4 (execStreamBlock x1 x2 x3 x4) := by
  intro x1 x2 x3 x4
  unfold execStreamBlock
  exact (show Keeps _ _ from (Keeps.tail (keeps_dataBlock _ _ _ _ _) (Keeps.refl _)))

theorem keeps_execCreditRecord : ∀ x1 x2 x3, KeepsO x3 (execCreditRecord x1 x2 x3) := by
  intro x1 x2 x3
  unfold execCreditRecord
  exact (show Keeps _ _ from (Keeps.ite (Keeps.refl _) (Keeps.tail (keeps_pump _ _) (Keeps.tail (keeps_portMod _ _ _) (Keeps.refl _)))))

theorem keeps_execResendRecord : ∀ x1 x2 x3 x4, KeepsO x4 (execResendRecord x1 x2 x3 x4) := by
  intro x1 x2 x3 x4
  unfold execResendRecord
  exact (Keeps.iteO (show Keeps _ _ from (Keeps.refl _)) (show Keeps _ _ from (Keeps.ite (Keeps.tail (keeps_portDown _ _ _) (Keeps.fold (fun _ _ =>
      (Keeps.tail (keeps_charge _ _ _) (Keeps.refl _))) (Keeps.tail (keeps_portEvt _ _ _) (Keeps.tail (keeps_portMod _ _ _) (Keeps.refl _)))))
      (Keeps.fold (fun _ _ => (Keeps.tail (keeps_charge _ _ _) (Keeps.refl _))) (Keeps.tail (keeps_portEvt _ _ _) (Keeps.tail (keeps_portMod _ _ _)
      (Keeps.refl _)))))))

theorem keeps_spareLane : ∀ x1 x2 x3 x4 x5, Keeps x5 (spareLane x1 x2 x3 x4 x5) := by
  intro x1 x2 x3 x4 x5
  unfold spareLane
  exact (by (try dsimp only); first | (split; exacts [(Keeps.tail (keeps_rset _ _ _ _ _) (Keeps.refl _)), (Keeps.tail (keeps_rset _ _ _ _ _)
      (Keeps.tail (keeps_rset _ _ _ _ _) (Keeps.tail (keeps_rset _ _ _ _ _) (Keeps.refl _)))), (Keeps.tail (keeps_rset _ _ _ _ _) (Keeps.tail
      (keeps_rset _ _ _ _ _) (Keeps.refl _)))]))

theorem keeps_execSpareRecord : ∀ x1 x2 x3, KeepsO x3 (execSpareRecord x1 x2 x3) := by
  intro x1 x2 x3
  unfold execSpareRecord
  exact (Keeps.iteO (show Keeps _ _ from (Keeps.refl _)) (show Keeps _ _ from (Keeps.ite (Keeps.tail (keeps_afterRemoval _ _ _) (Keeps.tail
      (keeps_portRaise _ _ _ _ _ _) (Keeps.tail (keeps_portEvt _ _ _) (Keeps.tail (keeps_sendCtl _ _ _) (Keeps.tail (keeps_spareLane _ _ _ _ _)
      (Keeps.refl _)))))) (Keeps.tail (keeps_portRaise _ _ _ _ _ _) (Keeps.tail (keeps_portEvt _ _ _) (Keeps.tail (keeps_sendCtl _ _ _) (Keeps.tail
      (keeps_spareLane _ _ _ _ _) (Keeps.refl _))))))))

theorem keeps_execSpareackRecord : ∀ x1 x2 x3, KeepsO x3 (execSpareackRecord x1 x2 x3) := by
  intro x1 x2 x3
  unfold execSpareackRecord
  exact (show Keeps _ _ from (Keeps.tail (keeps_portMod _ _ _) (Keeps.refl _)))

theorem keeps_execIdentRecord : ∀ x1 x2 x3, KeepsO x3 (execIdentRecord x1 x2 x3) := by
  intro x1 x2 x3
  unfold execIdentRecord
  exact (Keeps.iteO (show Keeps _ _ from (Keeps.refl _)) (show Keeps _ _ from (Keeps.tail (keeps_wiring _ _) (Keeps.tail (keeps_portMod _ _ _)
      (Keeps.tail (keeps_rset _ _ _ _ _) (Keeps.tail (keeps_rset _ _ _ _ _) (Keeps.refl _)))))))

theorem keeps_execDownRecord : ∀ x1 x2 x3, KeepsO x3 (execDownRecord x1 x2 x3) := by
  intro x1 x2 x3
  unfold execDownRecord
  exact (show Keeps _ _ from (Keeps.tail (keeps_portDown _ _ _) (Keeps.refl _)))

theorem keeps_execLaneFault : ∀ x1 x2 x3 x4, KeepsO x4 (execLaneFault x1 x2 x3 x4) := by
  intro x1 x2 x3 x4
  unfold execLaneFault
  exact (Keeps.iteO (show Keeps _ _ from (Keeps.refl _)) (show Keeps _ _ from (Keeps.ite (Keeps.tail (keeps_afterRemoval _ _ _) (Keeps.tail
      (keeps_portRaise _ _ _ _ _ _) (Keeps.tail (keeps_portEvt _ _ _) (Keeps.tail (keeps_sendCtl _ _ _) (Keeps.fold (fun _ _ => (Keeps.tail
      (keeps_spareLane _ _ _ _ _) (Keeps.refl _))) (Keeps.refl _)))))) (Keeps.tail (keeps_portRaise _ _ _ _ _ _) (Keeps.tail (keeps_portEvt _ _ _)
      (Keeps.tail (keeps_sendCtl _ _ _) (Keeps.fold (fun _ _ => (Keeps.tail (keeps_spareLane _ _ _ _ _) (Keeps.refl _))) (Keeps.refl _))))))))

theorem keeps_execLossOfLight : ∀ x1 x2, KeepsO x2 (execLossOfLight x1 x2) := by
  intro x1 x2
  unfold execLossOfLight
  exact (show Keeps _ _ from (Keeps.tail (keeps_portDown _ _ _) (Keeps.refl _)))

theorem keeps_execPortSilent : ∀ x1 x2, KeepsO x2 (execPortSilent x1 x2) := by
  intro x1 x2
  unfold execPortSilent
  exact (show Keeps _ _ from (Keeps.tail (keeps_portDown _ _ _) (Keeps.refl _)))

theorem keeps_execMirrorWaitTimeout : ∀ x1 x2, KeepsO x2 (execMirrorWaitTimeout x1 x2) := by
  intro x1 x2
  unfold execMirrorWaitTimeout
  exact (show Keeps _ _ from (Keeps.ite (Keeps.refl _) (Keeps.tail (keeps_mirrorSuspend _ _ _) (Keeps.refl _))))

theorem keeps_execSoftStart : ∀ x1 x2, KeepsO x2 (execSoftStart x1 x2) := by
  intro x1 x2
  unfold execSoftStart
  exact (show Keeps _ _ from (Keeps.ite (Keeps.upd (Keeps.refl _)) (Keeps.ite (Keeps.upd (Keeps.refl _)) (Keeps.refl _))))

theorem keeps_execInputSwitchClose : ∀ x1, KeepsO x1 (execInputSwitchClose x1) := by
  intro x1
  unfold execInputSwitchClose
  exact (show Keeps _ _ from (Keeps.ite (Keeps.upd (Keeps.refl _)) (Keeps.refl _)))

theorem keeps_execHousekeepingSlice : ∀ x1 x2 x3 x4, KeepsO x4 (execHousekeepingSlice x1 x2 x3 x4) := by
  intro x1 x2 x3 x4
  unfold execHousekeepingSlice
  exact (Keeps.iteO (show Keeps _ _ from (Keeps.ite (Keeps.tail (keeps_pcMod _ _ _) (Keeps.refl _)) (Keeps.tail (keeps_sharedFault _ _) (Keeps.tail
      (keeps_pcMod _ _ _) (Keeps.refl _))))) (show Keeps _ _ from (Keeps.refl _)))

theorem keeps_wipeCombs : ∀ x1, Keeps x1 (wipeCombs x1) := by
  intro x1
  unfold wipeCombs
  exact (Keeps.wipe (Keeps.refl _) rfl rfl rfl)

theorem keeps_execReturnWipeComplete : ∀ x1, KeepsO x1 (execReturnWipeComplete x1) := by
  intro x1
  unfold execReturnWipeComplete
  exact (show Keeps _ _ from (by (try dsimp only); first | (split; exacts [(Keeps.refl _), (Keeps.tail (keeps_lcOk _ _) (Keeps.tail
      (keeps_rset _ _ _ _ _) (Keeps.tail (keeps_eraseFlash _) (Keeps.tail (keeps_wipeCombs _) (Keeps.tail (keeps_wipeEave _) (Keeps.upd
      (Keeps.refl _)))))))])))

theorem keeps_execIdeIntegrityFailure : ∀ x1, KeepsO x1 (execIdeIntegrityFailure x1) := by
  intro x1
  unfold execIdeIntegrityFailure
  exact (show Keeps _ _ from (Keeps.ite (Keeps.tail (keeps_raise _ _ _) (Keeps.tail (keeps_bump _ _ _ _ _ _) (Keeps.refl _))) (Keeps.refl _)))

theorem keeps_exec : ∀ x1 x2, KeepsO x2 (exec x1 x2) := by
  intro x1 x2
  unfold exec
  exact (by (try dsimp only); first | (split; exacts [(keeps_execInputPowerGood _), (keeps_execSoftStartFault _), (keeps_execInputOvervoltage _),
      (keeps_execPowerFailSequence _), (keeps_execBladeIdle _ _), (keeps_execPerstN _), (keeps_execHotReset _), (keeps_execPfFlr _),
      (keeps_execVfFlr _ _), (keeps_execWarmModuleReset _), (keeps_execContextReset _ _), (keeps_execKeeperReset _),
      (keeps_execKeeperResume _ _ _ _ _), (keeps_execReferenceLoss _), (keeps_execTrip _ _), (keeps_execHotSet _ _ _ _),
      (keeps_execCombArraySwitchOff _ _), (keeps_execHotOffReturn _ _), (keeps_execSpineFault _ _), (keeps_execCombArrayPllLoss _ _),
      (keeps_execSegmentFault _ _), (keeps_execDomainReady _ _), (keeps_execStageEnd _ _), (keeps_execStageFail _ _), (keeps_execTickBoundary _ _),
      (keeps_execFlowLow _), (keeps_execStepWatchdog _ _), (keeps_execHoldTimeout _ _), (keeps_execCombSharedLogicFault _ _ _),
      (keeps_execCombFence _ _ _), (keeps_execScoutVerdict _ _ _ _ _), (keeps_execRotationGridPoint _), (keeps_execPauseSliceGrid _),
      (keeps_execIdleSleep _ _), (keeps_execRegionTestComplete _ _ _), (keeps_execSpareCombTest _ _ _ _), (keeps_execPortRetrain _ _),
      (keeps_execLifeCounterWrite _), (keeps_execServiceLifePrediction _), (keeps_execInboxWrite _ _ _ _), (keeps_execNop _ _),
      (keeps_execGrant _ _), (keeps_execLoad _ _), (keeps_execImageAccepted _ _), (keeps_execLoadComplete _ _), (keeps_execCourse _ _),
      (keeps_execReset _ _), (keeps_execRelease _ _), (keeps_execReleaseWipeComplete _ _), (keeps_execWarmReset _ _), (keeps_execColdReset _ _),
      (keeps_execShutdown _ _), (keeps_execShutdownTestComplete _ _), (keeps_execHiveWindowRead _ _ _ _), (keeps_execHiveWindowWrite _ _ _ _ _),
      (keeps_execCqHeadWrite _ _ _), (keeps_execFqHeadWrite _ _ _), (keeps_execCqEnable _ _ _), (keeps_execFqEnable _ _ _),
      (keeps_execLinkSpeedChange _ _ _ _), (keeps_execCompletionTimeout _ _ _), (keeps_execErrorCompletion _ _ _),
      (keeps_execPowerStateChange _ _ _), (keeps_execRegisterWrite _ _ _ _ _), (keeps_execRcCounterRead _ _ _ _), (keeps_execLowHalfRead _ _ _),
      (keeps_execGo _ _ _), (keeps_execStop _ _ _), (keeps_execResume _ _ _), (keeps_execSkip _ _ _), (keeps_execAbort _ _ _),
      (keeps_execPreset _ _ _), (keeps_execCtxResetRequest _ _ _ _), (keeps_execWrkDbgHalt _ _ _ _ _ _), (keeps_execWrkDbgStep _ _ _),
      (keeps_execSynObjWrite _ _ _ _ _ _), (keeps_execMsgQpopRead _ _ _ _ _ _), (keeps_execEavCtxCfgWrite _ _ _ _), (keeps_execPrtTopoWrite _ _ _),
      (keeps_execAdmitOpen _ _ _), (keeps_execMirrorResume _ _ _), (keeps_execKprRecovLoad _ _ _ _), (keeps_execGetVersion _ _),
      (keeps_execGetCapabilities _ _), (keeps_execNegotiateAlgorithms _ _ _), (keeps_execGetDigests _ _), (keeps_execGetCertificate _ _ _),
      (keeps_execChallenge _ _ _), (keeps_execGetMeasurements _ _ _), (keeps_execKeyExchange _ _), (keeps_execFinish _ _ _),
      (keeps_execHeartbeat _ _), (keeps_execKeyUpdate _ _), (keeps_execEndSession _ _), (keeps_execIdeKm _ _), (keeps_execLcNonce _ _),
      (keeps_execProvision _ _ _ _), (keeps_execShip _ _ _ _), (keeps_execDebugOn _ _ _), (keeps_execDebugOff _ _ _), (keeps_execReturnOp _ _ _ _),
      (keeps_execRefield _ _ _ _), (keeps_execScrap _ _ _ _), (keeps_execOwnerKey _ _ _ _), (keeps_execVendorRevoke _ _ _ _),
      (keeps_execScanOn _ _ _), (keeps_execSetEndpointId _ _ _), (keeps_execEntdaa _ _), (keeps_execMctpWarmReset _ _),
      (keeps_execMctpColdReset _ _), (keeps_execMctpReadStatus _ _), (keeps_execMctpWriteAlert _ _ _), (keeps_execPldmDiscovery _ _ _),
      (keeps_execSensorRead _ _ _), (keeps_execRequestUpdate _ _), (keeps_execPassComponentTable _ _ _), (keeps_execFirmwareDataReceived _ _),
      (keeps_execApplyComplete _ _), (keeps_execActivateFirmware _ _), (keeps_execStepStart _ _), (keeps_execRidgeRelease _ _),
      (keeps_execRidgeSignal _ _), (keeps_execRidgeComplete _ _), (keeps_execRidgeTimeout _ _), (keeps_execStepAbandon _ _),
      (keeps_execReplayStart _ _), (keeps_execSumLaneFail _ _ _ _ _ _ _ _), (keeps_execPlausibilityEvent _ _ _ _),
      (keeps_execPortParityError _ _ _ _ _), (keeps_execResidueMismatch _ _ _ _), (keeps_execWaitSendTimeout _ _ _ _ _), (keeps_execMma _ _),
      (keeps_execMmaz _ _), (keeps_execDrain _ _), (keeps_execClear _ _), (keeps_execVectorAdd _ _), (keeps_execVectorSub _ _),
      (keeps_execVectorMul _ _), (keeps_execFma _ _), (keeps_execFms _ _), (keeps_execVectorMin _ _), (keeps_execVectorMax _ _),
      (keeps_execAbs _ _), (keeps_execNeg _ _), (keeps_execIadd _ _), (keeps_execIsub _ _), (keeps_execImullo _ _), (keeps_execImin _ _),
      (keeps_execImax _ _), (keeps_execVectorAnd _ _), (keeps_execVectorOr _ _), (keeps_execVectorXor _ _), (keeps_execVectorShl _ _),
      (keeps_execVectorShr _ _), (keeps_execVectorSra _ _), (keeps_execVectorEq _ _), (keeps_execVectorNe _ _), (keeps_execVectorLt _ _),
      (keeps_execVectorLe _ _), (keeps_execVectorGt _ _), (keeps_execVectorGe _ _), (keeps_execVectorSfn _ _), (keeps_execRsum _ _),
      (keeps_execRmax _ _), (keeps_execRmin _ _), (keeps_execRot _ _), (keeps_execBcast _ _), (keeps_execSel _ _), (keeps_execVectorCvt _ _),
      (keeps_execScalarAdd _ _), (keeps_execScalarSub _ _), (keeps_execScalarAnd _ _), (keeps_execScalarOr _ _), (keeps_execScalarXor _ _),
      (keeps_execScalarShl _ _), (keeps_execScalarShr _ _), (keeps_execScalarSra _ _), (keeps_execScalarMul _ _), (keeps_execScalarMin _ _),
      (keeps_execScalarMax _ _), (keeps_execScalarEq _ _), (keeps_execScalarNe _ _), (keeps_execScalarLt _ _), (keeps_execLtu _ _),
      (keeps_execScalarLe _ _), (keeps_execLeu _ _), (keeps_execMov _ _), (keeps_execFadd _ _), (keeps_execFmul _ _), (keeps_execFmin _ _),
      (keeps_execFmax _ _), (keeps_execMoveToLoopCounter _ _), (keeps_execMoveFromLoopCounter _ _), (keeps_execLdv _ _), (keeps_execStv _ _),
      (keeps_execLds _ _), (keeps_execSts _ _), (keeps_execCmrd _ _), (keeps_execCmwr _ _), (keeps_execRtls _ _), (keeps_execRtb _ _),
      (keeps_execLdb _ _), (keeps_execSelect _ _), (keeps_execSwitch _ _), (keeps_execMerge _ _), (keeps_execGate _ _), (keeps_execEmit _ _),
      (keeps_execForward _ _), (keeps_execSig _ _), (keeps_execWait _ _), (keeps_execRsig _ _), (keeps_execSend _ _), (keeps_execPop _ _),
      (keeps_execNextSeq _ _), (keeps_execJump _ _), (keeps_execBrt _ _), (keeps_execBrf _ _), (keeps_execLoop _ _), (keeps_execEndStep _ _),
      (keeps_execCourseMarkEmit _ _ _ _), (keeps_execWorkerFlip _ _ _ _), (keeps_execSwitchFlip _ _ _ _), (keeps_execCourseMarkMismatch _ _ _ _ _),
      (keeps_execRouteGroupFire _ _ _ _ _), (keeps_execStaticLinkCheckFail _ _ _ _ _ _ _), (keeps_execCrossingWander _ _ _ _ _),
      (keeps_execStreamSlot _ _ _), (keeps_execMaintenanceSlot _ _ _ _), (keeps_execRafterInject _ _ _), (keeps_execRereadVerdict _ _ _ _),
      (keeps_execDropArrival _ _ _ _ _ _), (keeps_execRepairAnswer _ _ _ _), (keeps_execRafterLaneTest _ _ _ _ _),
      (keeps_execPatrolScrubRead _ _ _), (keeps_execCmemRefresh _ _ _ _ _ _), (keeps_execRdreqPacket _ _), (keeps_execWrPacket _ _),
      (keeps_execRdrspPacket _ _), (keeps_execAckPacket _ _), (keeps_execNackPacket _ _), (keeps_execSendPacket _ _), (keeps_execCreditPacket _ _),
      (keeps_execSigPacket _ _), (keeps_execSigackPacket _ _), (keeps_execRidgePacket _ _), (keeps_execMgmtPacket _ _ _ _),
      (keeps_execFaultPacket _ _), (keeps_execPacketAgeDrop _ _ _ _), (keeps_execMeshLinkCheckFail _ _ _ _), (keeps_execWindowTimeout _ _ _),
      (keeps_execOpenRetry _ _ _), (keeps_execMulticastAckTimeout _ _), (keeps_execDescriptorStart _ _), (keeps_execDmaTransferError _ _ _ _),
      (keeps_execDescriptorComplete _ _), (keeps_execPortTraining _ _ _), (keeps_execIdleBlock _ _ _), (keeps_execPacketBlock _ _ _ _),
      (keeps_execStreamBlock _ _ _ _), (keeps_execCreditRecord _ _ _), (keeps_execResendRecord _ _ _ _), (keeps_execSpareRecord _ _ _),
      (keeps_execSpareackRecord _ _ _), (keeps_execIdentRecord _ _ _), (keeps_execDownRecord _ _ _), (keeps_execLaneFault _ _ _ _),
      (keeps_execLossOfLight _ _), (keeps_execPortSilent _ _), (keeps_execMirrorWaitTimeout _ _), (keeps_execSoftStart _ _),
      (keeps_execInputSwitchClose _), (keeps_execHousekeepingSlice _ _ _ _), (keeps_execReturnWipeComplete _), (keeps_execIdeIntegrityFailure _)]))

theorem keeps_idle : ∀ x1, Keeps x1 (idle x1) := by
  intro x1
  unfold idle
  exact (Keeps.upd (Keeps.refl _))

theorem keeps_thSet : ∀ x1 x2 x3 x4, Keeps x4 (thSet x1 x2 x3 x4) := by
  intro x1 x2 x3 x4
  unfold thSet
  exact (Keeps.tail (keeps_wMod _ _ _) (Keeps.refl _))

end Sys2Proof.Machine
end

