-- ==== Sys2Proof/Tests/Slice0.lean ====
section
/-! SUPPORT. Tests: ill-formed commands are refused, the premises of the statements are met clause by clause, and results worked out by hand
from the manual. -/

namespace Sys2Proof.Tests

open Sys2Proof.Machine

-- One theorem at a time: many kernel evaluations side by side need more memory than one.
set_option Elab.async false

/-! ### Helpers -/

/-- The state after a command. -/
def after (c : Instr) (s : State) : State :=
  match exec c s with
  | .next t => t
  | _ => s

/-- A slot word from the low bits and values of its fields. -/
def word (l : List (Nat × Nat)) : BitVec 256 := BitVec.ofNat 256 (l.foldl (fun n e => n + e.2 <<< e.1) 0)

/-- Thread 0 of worker 0 of comb (0, 0). -/
def f0 : Fire := ⟨0, 0, 0, 0, 0, 0, .good, []⟩

/-- Context 0 holds region 0, and runs its work phase. -/
def ctxRun : Ctx := { ctx0 with allot := some ⟨0, 0, 0, 0, [0], [(0, 0)], [0, 64], 0, 0⟩, phase := .work }

/-- A thread at slot 0 that holds `w`; words 1 and 2 hold `a` and `b`. -/
def thr (w : BitVec 256) (a b : Word) : Thread :=
  { thread0 with s := (List.replicate 16 0).set 1 a |>.set 2 b, slot := w }

def wkOn (w : BitVec 256) (a b : Word) : Worker :=
  { worker0 with act := { wcfg0 with present := true, slots := [w, 0] }, th := [(0, thr w a b)] }

/-- A module in service with contexts `cs`. -/
def served (cs : List (Nat × Ctx)) : State :=
  { State.reset with flds := [], ctxs := cs } |> rset .HST_STATUS_STAGE 0 0 14

/-- The same, where context 0 is `x` and in `RUN`. -/
def runs (x : Ctx) : State := rset .CTX_STATE_STATE 0 0 2 (served [(0, x)])

/-- Context 0 runs a step in which worker 0 of comb (0, 0) is `k`. -/
def runK (k : Worker) : State := { runs ctxRun with workers := [(0, k)] }

def slotRun (l : List (Nat × Nat)) (a b : Word) : State := runK (wkOn (word l) a b)

/-! ### Ill-formed commands -/

theorem test_ill_formed : wellFormed (.rdreqPacket ⟨{ op := 1, payload := [0] }, []⟩) = false ∧ wellFormed (.ackPacket { op := 4, payload := [0] }) = false ∧
    wellFormed (.nackPacket { op := 5, payload := [0] }) = false ∧ wellFormed (.creditPacket { op := 7, payload := [0] }) = false ∧
    wellFormed (.sigPacket { op := 8, payload := [0] }) = false ∧ wellFormed (.sigackPacket { op := 9, payload := [0] }) = false ∧
    wellFormed (.ridgePacket { op := 10, payload := [0] }) = false := by decide

theorem test_ill_formed_flits : wellFormed (.wrPacket { op := 2, payload := List.replicate 31 0 }) = false ∧
    wellFormed (.wrPacket { op := 2, payload := List.replicate 544 0 }) = false ∧ wellFormed (.rdrspPacket { op := 3, payload := [0] }) = false ∧
    wellFormed (.mgmtPacket { op := 11, payload := [0] } 0 0) = false ∧ wellFormed (.sendPacket { op := 6, payload := [] }) = false ∧
    wellFormed (.wrPacket { op := 2, payload := List.replicate 512 0 }) = true := by decide +kernel

/-! ### The scalar group -/

def scalarSlot (op : Nat) : List (Nat × Nat) := [(122, op), (118, 3), (114, 1), (110, 2), (107, 1)]

theorem test_scalar_premises : ∀ op ∈ [0x01, 0x02, 0x03, 0x04, 0x05, 0x06, 0x07, 0x08, 0x09, 0x0A, 0x0B, 0x10, 0x11, 0x12, 0x13, 0x14, 0x15, 0x18,
    0x20, 0x21, 0x22, 0x23, 0x28, 0x29],
    let s := slotRun (scalarSlot op) 7 9
    issues f0 s = true ∧ onlyScalar (slotNow f0 s) = true ∧ (slotNow f0 s).sop = op ∧ (slotNow f0 s).sout = 0 ∧ f0.ecc = .good := by decide +kernel

/-- `s[3]` after a scalar operation on `a` and `b`. -/
def sRes (c : Fire → Instr) (op : Nat) (a b : Word) : Word := wordAt (thNow f0 (after (c f0) (slotRun (scalarSlot op) a b))).s 3

/-- `p[1]` after a compare. -/
def pRes (c : Fire → Instr) (op : Nat) (a b : Word) : Bool := predOf (thNow f0 (after (c f0) (slotRun (scalarSlot op) a b))) 1

theorem test_scalar_integer : sRes .scalarAdd 1 0xFFFFFFFF 2 = 1 ∧ sRes .scalarSub 2 0 1 = 0xFFFFFFFF ∧ sRes .scalarAnd 3 0xF0F0 0xFF00 = 0xF000 ∧
    sRes .scalarOr 4 0xF0F0 0xFF00 = 0xFFF0 ∧ sRes .scalarXor 5 0xF0F0 0xFF00 = 0x0FF0 ∧ sRes .scalarMul 9 0x10001 0x10001 = 0x20001 := by
  decide +kernel

theorem test_scalar_shift : sRes .scalarShl 6 1 33 = 2 ∧ sRes .scalarShr 7 0x80000000 1 = 0x40000000 ∧ sRes .scalarSra 8 0x80000000 1 = 0xC0000000 := by
  decide +kernel

theorem test_scalar_min_max : sRes .scalarMin 0xA 0xFFFFFFFF 1 = 0xFFFFFFFF ∧ sRes .scalarMax 0xB 0xFFFFFFFF 1 = 1 := by decide +kernel

theorem test_scalar_compare : pRes .scalarEq 0x10 5 5 = true ∧ pRes .scalarNe 0x11 5 5 = false ∧ pRes .scalarLt 0x12 0xFFFFFFFF 1 = true ∧
    pRes .ltu 0x13 0xFFFFFFFF 1 = false ∧ pRes .scalarLe 0x14 1 0xFFFFFFFF = false ∧ pRes .leu 0x15 1 0xFFFFFFFF = true := by decide +kernel

theorem test_scalar_float : sRes .fadd 0x20 0x3F800000 0x40000000 = 0x40400000 ∧ sRes .fmul 0x21 0x40000000 0x40400000 = 0x40C00000 ∧
    sRes .fmin 0x22 0xBF800000 0x3F800000 = 0xBF800000 ∧ sRes .fmax 0x23 0xBF800000 0x3F800000 = 0x3F800000 := by decide +kernel

theorem test_scalar_moves : sRes .mov 0x18 7 9 = 7 ∧ (thNow f0 (after (.moveToLoopCounter f0) (slotRun (scalarSlot 0x28) 0x12345 0))).l = [0, 0, 0x2345, 0] ∧
    sRes .moveFromLoopCounter 0x29 7 9 = 0 := by decide +kernel

theorem test_scalar_immediate : wordAt (thNow f0 (after (.mov f0) (slotRun [(122, 0x18), (118, 3), (109, 1), (0, 0xDEADBEEF)] 1 2))).s 3 = 0xDEADBEEF := by
  decide +kernel

/-! ### The vector group -/

/-- Vector registers 0 and 1 hold `a` and `b` in every lane; the result goes to register 2, a mask to m2. -/
def vecSlot (op fmt : Nat) : List (Nat × Nat) := [(170, op), (168, fmt), (165, 2), (159, 1)]

def vecOn (l : List (Nat × Nat)) (a b : Word) : State :=
  let w := word l
  runK { wkOn w 0 0 with th := [(0, { thr w 0 0 with v := [List.replicate 32 a, List.replicate 32 b, zeroVec, zeroVec] })] }

def vRes (c : Fire → Instr) (op fmt : Nat) (a b : Word) : Word :=
  wordAt ((thNow f0 (after (c f0) (vecOn (vecSlot op fmt) a b))).v.getD 2 zeroVec) 31

def mRes (c : Fire → Instr) (op fmt : Nat) (a b : Word) : Word := wordAt (thNow f0 (after (c f0) (vecOn (vecSlot op fmt) a b))).m 2

theorem test_vector_premises : ∀ op ∈ [0x01, 0x02, 0x03, 0x04, 0x05, 0x06, 0x07, 0x08, 0x09, 0x10, 0x11, 0x12, 0x13, 0x14, 0x15, 0x16, 0x17, 0x18,
    0x19, 0x1A, 0x20, 0x21, 0x22, 0x23, 0x24, 0x25, 0x28, 0x30, 0x31, 0x32, 0x33, 0x34, 0x35, 0x38],
    let s := vecOn (vecSlot op 1) 7 9
    issues f0 s = true ∧ onlyVector (slotNow f0 s) = true ∧ vecLsOk f0 s true = true ∧ vecLsOk f0 s false = true ∧ (slotNow f0 s).vop = op ∧
      (slotNow f0 s).vdst < 4 ∧ (slotNow f0 s).vsrca ≠ 6 ∧ (slotNow f0 s).vsrcb ≠ 6 := by decide +kernel

theorem test_vector_store_premises :
    let s := vecOn [(170, 1), (165, 6), (152, 1)] 7 9
    issues f0 s = true ∧ onlyVector (slotNow f0 s) = true ∧ vecLsOk f0 s true = true ∧ (slotNow f0 s).vdst = 6 := by decide +kernel

theorem test_vector_integer : vRes .iadd 0x10 1 0xFFFFFFFF 2 = 1 ∧ vRes .isub 0x11 1 0 1 = 0xFFFFFFFF ∧ vRes .imullo 0x12 1 0x10001 0x10001 = 0x20001 ∧
    vRes .imin 0x13 1 0xFFFFFFFF 1 = 0xFFFFFFFF ∧ vRes .imax 0x14 1 0xFFFFFFFF 1 = 1 ∧ vRes .vectorAnd 0x15 1 0xF0 0xFF00 = 0 ∧
    vRes .vectorOr 0x16 1 0xF0 0xFF00 = 0xFFF0 ∧ vRes .vectorXor 0x17 1 0xFF0 0xFF00 = 0xF0F0 := by decide +kernel

theorem test_vector_shift : vRes .vectorShl 0x18 1 1 33 = 2 ∧ vRes .vectorShr 0x19 1 0x80000000 1 = 0x40000000 ∧
    vRes .vectorSra 0x1A 1 0x80000000 1 = 0xC0000000 := by decide +kernel

theorem test_vector_float : vRes .vectorAdd 1 0 0x3F800000 0x40000000 = 0x40400000 ∧ vRes .vectorSub 2 0 0x3F800000 0x40000000 = 0xBF800000 ∧
    vRes .vectorMul 3 0 0x40000000 0x40400000 = 0x40C00000 ∧ vRes .vectorMin 6 0 0xBF800000 0x3F800000 = 0xBF800000 ∧
    vRes .vectorMax 7 0 0xBF800000 0x3F800000 = 0x3F800000 ∧ vRes .abs 8 0 0xBF800000 0 = 0x3F800000 ∧ vRes .neg 9 0 0x3F800000 0 = 0xBF800000 := by
  decide +kernel

/-- SRCC is register 0, the first operand: 2 × 3 + 2 = 8, and 2 × 3 − 2 = 4. -/
theorem test_vector_fused : vRes .fma 4 0 0x40000000 0x40400000 = 0x41000000 ∧ vRes .fms 5 0 0x40000000 0x40400000 = 0x40800000 := by decide +kernel

theorem test_vector_compare : mRes .vectorEq 0x20 1 5 5 = 0xFFFFFFFF ∧ mRes .vectorNe 0x21 1 5 5 = 0 ∧ mRes .vectorLt 0x22 1 0xFFFFFFFF 1 = 0xFFFFFFFF ∧
    mRes .vectorLe 0x23 1 1 0xFFFFFFFF = 0 ∧ mRes .vectorGt 0x24 1 1 0xFFFFFFFF = 0xFFFFFFFF ∧ mRes .vectorGe 0x25 1 1 1 = 0xFFFFFFFF ∧
    mRes .vectorLe 0x23 0 0x7FC00000 0x7FC00000 = 0 ∧ mRes .vectorNe 0x21 0 0x7FC00000 0x7FC00000 = 0xFFFFFFFF := by decide +kernel

/-- The elements of a reduction over 32 lanes of 1: the sum is 32, 0x42000000 in FP32. -/
theorem test_vector_reduce :
    let r (c : Fire → Instr) (op fmt : Nat) (a : Word) := (thNow f0 (after (c f0) (vecOn (vecSlot op fmt) a 0))).v.getD 2 zeroVec
    wordAt (r .rsum 0x30 1 1) 0 = 32 ∧ wordAt (r .rsum 0x30 0 0x3F800000) 0 = 0x42000000 ∧ wordAt (r .rsum 0x30 1 1) 1 = 0 ∧
    wordAt (r .rmax 0x31 1 0xFFFFFFFF) 0 = 0xFFFFFFFF ∧ wordAt (r .rmin 0x32 1 5) 0 = 5 := by decide +kernel

/-- Lanes 0 to 31 hold 0 to 31: ROT by 1 brings lane 0 to lane 31 and lane 1 to lane 0; BCAST of lane 3 puts 3 everywhere. -/
theorem test_vector_lanes :
    let s (op : Nat) (ctrl : Nat) : State :=
      let w := word (vecSlot op 1 ++ [(132, ctrl)])
      runK { wkOn w 0 0 with th := [(0, { thr w 0 0 with v := [lanes fun i => BitVec.ofNat 32 i, zeroVec, zeroVec, zeroVec] })] }
    let r (c : Fire → Instr) (op ctrl : Nat) (i : Nat) := wordAt ((thNow f0 (after (c f0) (s op ctrl))).v.getD 2 zeroVec) i
    r .rot 0x33 1 31 = 0 ∧ r .rot 0x33 1 0 = 1 ∧ r .bcast 0x34 3 17 = 3 ∧ r .sel 0x35 0 9 = 9 := by decide +kernel

/-- 2 to the power 2.0 is 4.0, the reciprocal of 2.0 is 0.5, and 1.5 converts from FP32 to INT32 as 2, ties to even. -/
theorem test_vector_sfn_cvt :
    let r (c : Fire → Instr) (op lo v : Nat) (a : Word) : Word :=
      wordAt ((thNow f0 (after (c f0) (vecOn (vecSlot op 0 ++ [(lo, v)]) a 0))).v.getD 2 zeroVec) 0
    r .vectorSfn 0x28 140 0 0x40000000 = 0x40800000 ∧ r .vectorSfn 0x28 140 2 0x40000000 = 0x3F000000 ∧
    r .vectorCvt 0x38 132 0xB0 0x3FC00000 = 2 := by decide +kernel

/-! ### The matrix group -/

/-- An entry of INT8 weights: 1 at the first place of every column; and 16 bytes of A, 1 in every row. -/
def onesEntry : Nat := (List.range 16).foldl (fun n c => n + 1 <<< (256 * c)) 0

def matRun (l : List (Nat × Nat)) (t : Tile) : State :=
  let w := word ([(214, 5), (210, 5), (203, 1)] ++ l)
  lsWrite 0 0 (List.replicate 16 1)
    (runK { wkOn w 0 0 with tiles := [t, tile0, tile0, tile0], wbuf := onesEntry :: List.replicate 15 0
                            fifo := [[⟨false, List.replicate 16 0x01010101, 0⟩], [], [], [], [], []] })

def matOk (s : State) : Bool := issues f0 s && onlyMatrix (slotNow f0 s) && badTn (slotNow f0 s) (wGet s 0).wbuf (tileNow f0 s) == []

theorem test_matrix_premises : (∀ op ∈ [1, 2, 3, 4], matOk (matRun [(220, op)] tile0) = true) ∧
    (let s := matRun [(220, 1)] tile0; mmaAddr f0 s + mmaSteps f0 s * mmaBytes f0 s ≤ lsSize ∧ (slotNow f0 s).asrc = 0) ∧
    (∀ op ∈ [1, 2], let s := matRun [(220, op), (207, 1)] { tile0 with ty := .int }
      matOk s = true ∧ (slotNow f0 s).ksteps = 0 ∧ ((wGet s (fireWk f0)).head ((slotNow f0 s).asrc - 1)).isSome = true ∧
        (tileNow f0 s).ty = pairTy (slotNow f0 s)) ∧
    (∀ d ∈ [0, 1, 2], let s := matRun [(220, 3), (184, d)] tile0
      matOk s = true ∧ (slotNow f0 s).mdst = d ∧ (wordAt (thNow f0 s).s (slotNow f0 s).dreg).toNat + 1024 ≤ lsSize) := by decide +kernel

theorem test_other_type_premises : let s := matRun [(220, 1)] { tile0 with ty := .fp }
    issues f0 s = true ∧ onlyMatrix (slotNow f0 s) = true ∧ (slotNow f0 s).mop = 1 ∧ (tileNow f0 s).ty ≠ .none ∧
      (tileNow f0 s).ty ≠ pairTy (slotNow f0 s) := by decide +kernel

def accs (c : Fire → Instr) (s : State) : List Word := ((wGet (after (c f0) s) 0).tiles.getD 0 tile0).acc

/-- One K-step of ones by ones adds 1 to every accumulator; MMAZ starts from 0. -/
theorem test_mma : let two := { tile0 with acc := List.replicate 256 2, ty := .int }
    accs .mma (matRun [(220, 1)] two) = List.replicate 256 3 ∧ accs .mmaz (matRun [(220, 2)] two) = List.replicate 256 1 ∧
    accs .clear (matRun [(220, 4)] two) = List.replicate 256 0 := by decide +kernel

/-- DRAIN as INT32 (code 0xB) to VO0: 16 rows leave, in which every element is 2. -/
theorem test_drain : let t := after (.drain f0) (matRun [(220, 3), (187, 0xB)] { tile0 with acc := List.replicate 256 2, ty := .int })
    ((wGet t 0).lastDrain == List.replicate 16 (ofLanes (List.replicate 16 2))) = true := by decide +kernel

/-! ### The memory group -/

def memRun (l : List (Nat × Nat)) (a : Word) : State :=
  let w := word ((84, 1) :: l)
  lsWrite 0 128 [1, 2, 3, 4] (mwrite (cmKey 0 256) [5, 6, 7, 8] { runK { wkOn w a 0 with tap := [7, 9] } with poison := [cmBlock 0 512] })

def memOk (s : State) : Bool := issues f0 s && onlyMemory (slotNow f0 s) && Memory.wf s.mem

theorem test_memory_premises : ∀ op ∈ [1, 2, 3, 4, 7, 8, 9], let s := memRun [(92, op)] 0x7FE00
    memOk s = true ∧ (slotNow f0 s).memop = op ∧ lsOk (memBase f0 s) 512 = true := by decide +kernel

/-- Two blocks end at the last byte of the local store. -/
theorem test_comb_memory_premises : ∀ op ∈ [5, 6], let s := memRun [(92, op), (66, 1), (72, 4094)] 256
    memOk s = true ∧ (slotNow f0 s).memop = op ∧ memBase f0 s % 128 = 0 ∧ memBase f0 s + 256 ≤ cmSize ∧
      128 * (slotNow f0 s).offset + 128 * ((slotNow f0 s).blocks + 1) = lsSize ∧
      absentComb s (combNow f0) = false ∧ tagsOk s (fireWk f0) ((slotNow f0 s).blocks + 1) = true := by decide +kernel

/-- A drop still waits for block 2 of the comb's memory, from 256 on. -/
def memPending (l : List (Nat × Nat)) : State := { memRun l 256 with dropWaits := [⟨5, 0, none, 2, false⟩] }

theorem test_pending_read : pendingBlock (memPending [(92, 5), (72, 8)]) 0 256 = some 5 ∧
    (let t := after (.cmrd f0) (memPending [(92, 5), (72, 8)]);
      lsRead t 0 1024 4 = [0, 0, 0, 0] ∧ (t.tags.map fun g => (g.comb, g.owner, g.pending, g.ls)) = [(0, some (0, 0), some 5, 1024)]) := by decide +kernel

/-- 64 tags of worker 0 are taken. -/
theorem test_tags : tagsOk { (memRun [(92, 5)] 256) with tags := List.replicate 64 ⟨0, some (0, 1), true, true, 1, none, 10⟩ } 0 1 = false := by
  decide +kernel

theorem test_store_fault_premises : ∀ e ∈ [(1, 0x7FF81), (2, 0x80000), (3, 0x7FFFE), (4, 0x80000), (9, 0x7FF00)],
    let s := memRun [(92, e.1)] (BitVec.ofNat 32 e.2)
    memOk s = true ∧ (slotNow f0 s).memop = e.1 ∧ lsOk (memBase f0 s) (if e.1 < 3 then 128 else if e.1 < 5 then 4 else 512) = false := by
  decide +kernel

theorem test_tap_fault_premises : let s := memRun [(92, 7), (72, 1)] 0
    memOk s = true ∧ lsOk (128 * (slotNow f0 s).offset) 512 = false := by decide +kernel

theorem test_load_store : let ld := after (.lds f0) (memRun [(92, 3), (88, 3), (65, 1)] 128)
    wordAt (thNow f0 ld).s 3 = 0x04030201 ∧ wordAt (thNow f0 ld).s 1 = 132 ∧
    wordAt ((thNow f0 (after (.ldv f0) (memRun [(92, 1), (88, 3)] 128))).v.getD 3 zeroVec) 0 = 0x04030201 ∧
    lsRead (after (.sts f0) (memRun [(92, 4), (88, 1), (72, 1)] 128)) 0 128 8 = [1, 2, 3, 4, 128, 0, 0, 0] ∧
    lsRead (after (.stv f0) (memRun [(92, 2)] 128)) 0 128 4 = [0, 0, 0, 0] := by decide +kernel

theorem test_tap : lsRead (after (.rtls f0) (memRun [(92, 7), (72, 4)] 0)) 0 512 1 = [7] ∧
    (wGet (after (.rtb f0) (memRun [(92, 8), (88, 3)] 0)) 0).wbuf.getD 3 0 = 7 ∧ (wGet (after (.rtb f0) (memRun [(92, 8), (88, 3)] 0)) 0).tap = [9] ∧
    (wGet (after (.ldb f0) (memRun [(92, 9), (88, 3)] 0)) 0).wbuf.getD 3 0 = 0x04030201 <<< 1024 := by decide +kernel

/-- The bytes of a poisoned block read as 0, and a full-block write clears the mark. -/
theorem test_comb_memory : lsRead (after (.cmrd f0) (memRun [(92, 5), (72, 8)] 256)) 0 1024 4 = [5, 6, 7, 8] ∧
    lsRead (after (.cmrd f0) (memRun [(92, 5), (72, 1)] 512)) 0 128 4 = [0, 0, 0, 0] ∧
    mread (after (.cmwr f0) (memRun [(92, 6), (72, 1)] 512)) (cmKey 0 512) 4 = [1, 2, 3, 4] ∧
    (after (.cmwr f0) (memRun [(92, 6), (72, 1)] 512)).poison = [] := by decide +kernel

/-- A re-read that passes is counted and the block arrives; one that fails gives zeros, the mark and its record. -/
theorem test_comb_reread : let ok := after (.cmrd { f0 with crc := [.reread 20] }) (memRun [(92, 5), (72, 8)] 256)
    let bad := after (.cmrd { f0 with crc := [.failed 32] }) (memRun [(92, 5), (72, 8)] 256)
    lsRead ok 0 1024 4 = [5, 6, 7, 8] ∧ rget ok .TND_EVT_COUNT 0 0 = 1 ∧ rget ok .TND_EVT_COUNT 0 1 = 0 ∧
    lsRead bad 0 1024 4 = [0, 0, 0, 0] ∧ rget bad .TND_EVT_COUNT 0 1 = 1 ∧ bad.poison.contains (cmBlock 0 256) = true ∧
    ((tget [] bad.faultBuf (regionOf 0)).map (·.cls)).contains clsCmemPoison = true := by decide +kernel

/-! ### Steering -/

/-- CI0 holds a token; VI0 and VI1 hold words that came in cycles 5 and 3. -/
def steerRun (op token : Nat) (l : List (Nat × Nat)) : State :=
  let w := word ([(61, op), (56, 1)] ++ l)
  runK { wkOn w 0 0 with fifo := [[⟨false, [11], 5⟩], [⟨false, [22], 3⟩], [], [], [⟨false, [BitVec.ofNat 32 token], 0⟩], []] }

theorem test_steering_premises : ∀ e ∈ [(1, 3), (1, 4), (2, 3), (2, 4), (3, 3), (4, 3), (4, 4), (5, 3), (6, 1)],
    let s := steerRun e.1 e.2 [(51, if e.1 = 5 then 1 else 0)]
    issues f0 s = true ∧ onlySteer (slotNow f0 s) = true ∧ (slotNow f0 s).steer = e.1 ∧
      readyOf s (fireWk f0) (wGet s (fireWk f0)) f0.thread.val = .fire := by decide +kernel

theorem test_token_premises : ∀ op ∈ [1, 2, 4], ∀ k ∈ [1, 2], let s := steerRun op k []
    issues f0 s = true ∧ (slotNow f0 s).steer = op ∧ readyOf s (fireWk f0) (wGet s (fireWk f0)) f0.thread.val = .tokenRefused := by decide +kernel

/-- The word at the head of the switch input that VO0, VO1 or CO0 of worker 0 feeds. -/
def voHead (s : State) (p : Nat) : Option Word := ((swGet s 0 (if p = 3 then 2 else 0)).q (4 + if p = 3 then 0 else p)).head?.map fun n => wordAt n.data 0

theorem test_steering : voHead (after (.select f0) (steerRun 1 3 [])) 0 = some 11 ∧ voHead (after (.select f0) (steerRun 1 4 [])) 0 = some 22 ∧
    voHead (after (.switch f0) (steerRun 2 4 [])) 1 = some 11 ∧ voHead (after (.merge f0) (steerRun 3 3 [])) 0 = some 22 ∧
    voHead (after (.gate f0) (steerRun 4 4 [])) 0 = none ∧ voHead (after (.emit f0) (steerRun 5 3 [(51, 2)])) 3 = some 2 ∧
    voHead (after (.forward f0) (steerRun 6 2 [])) 3 = some 2 := by decide +kernel

theorem test_token_refused : (thNow f0 (after (.select f0) (steerRun 1 1 []))).park = .fault ∧
    (wGet (after (.select f0) (steerRun 1 1 [])) 0).fifo.getD 4 [] = [] := by decide +kernel

/-! ### Sync and messages -/

/-- A sync slot: object and binding 1, words from s[1], the timeout in s[2]. -/
def syncSlot (op need : Nat) : List (Nat × Nat) := [(40, 1), (28, op), (16, 1), (13, 1), (9, 1), (5, 2), (248, need)]

def syncWk (op need : Nat) (a tmo : Word) (cred : Nat) (gone : Bool) : Worker :=
  let k := wkOn (word (syncSlot op need)) a tmo
  { k with act := { k.act with qb := [(1, ⟨0, 0, 1, 2, 4⟩)], sb := [(1, ⟨0, 0, 9⟩)] }
           cred := (List.replicate 8 0).set 1 cred, gone := (List.replicate 8 false).set 1 gone, queues := [[⟨[5, 6], 0, 3⟩], [], [], [], [], [], [], []] }

def syncRun (op need : Nat) (a tmo : Word) (cred : Nat) (gone : Bool) : State :=
  { runK (syncWk op need a tmo cred gone) with objs := [(objKey 0 1, ⟨0, 4, 0, 0, []⟩)] }

def syncOk (s : State) : Bool := issues f0 s && onlySync (slotNow f0 s)

theorem test_signal_premises : (∀ op ∈ [1, 3], syncOk (syncRun op 0 7 0 0 false) = true ∧ needsMQ (slotNow f0 (syncRun op 0 7 0 0 false)) = false) ∧
    (sbind (wGet (issued f0 (syncRun 3 0 7 0 0 false)) (fireWk f0)) 1).isSome = true ∧
    (let s := syncRun 5 1 7 0 0 false; syncOk s = true ∧ needsMQ (slotNow f0 s) = true ∧ (slotNow f0 s).yop = 5 ∧
      (((wGet s (fireWk f0)).queues.getD (slotNow f0 s).qsel []).head?).isSome = true) := by decide +kernel

def waitOk (a tmo : Word) (ok : Bool) : Bool :=
  let s := syncRun 2 0 a tmo 0 false
  syncOk s && (slotNow f0 s).yop == 2 && !needsMQ (slotNow f0 s) && (syncTmo f0 s == 0) == (tmo == 0) &&
    (objWait (objGet s (combNow f0) (slotNow f0 s).yobj) ⟨fireWk f0, f0.thread.val, syncReg f0 s⟩).1 == ok

theorem test_wait_premises : waitOk 4 0 true = true ∧ waitOk 5 1 false = true ∧ waitOk 5 0 false = true := by decide +kernel

theorem test_send_premises : ∀ e ∈ [(0, (0 : Word), true), (1, 0, false), (0, 1, false), (0, 0, false)], let s := syncRun 4 0 7 e.2.1 e.1 e.2.2
    let w := wGet (issued f0 s) (fireWk f0)
    syncOk s = true ∧ (slotNow f0 s).yop = 4 ∧ needsMQ (slotNow f0 s) = false ∧ (qbind w (slotNow f0 s).ybind).isSome = true ∧
      w.gone.getD 1 false = e.2.2 ∧ w.cred.getD 1 0 = e.1 ∧ (syncTmo f0 s = 0 ↔ e.2.1 = 0) := by decide +kernel

theorem test_signal : (objGet (after (.sig f0) (syncRun 1 0 7 0 0 false)) 0 1).value = 11 ∧
    ((after (.rsig f0) (syncRun 3 0 7 0 0 false)).flight.map fun p => (p.op, p.value)) = [(8, 7)] ∧
    (thNow f0 (after (.pop f0) (syncRun 5 1 7 0 0 false))).s.take 5 = [0, 5, 6, 0, 0] := by decide +kernel

theorem test_wait : predOf (thNow f0 (after (.wait f0) (syncRun 2 0 4 0 0 false))) 3 = true ∧
    (thNow f0 (after (.wait f0) (syncRun 2 0 5 1 0 false))).park = .wait 1 5 ∧ (thNow f0 (after (.wait f0) (syncRun 2 0 5 0 0 false))).ptr = 1 := by
  decide +kernel

theorem test_send : (wGet (after (.send f0) (syncRun 4 0 7 0 2 false)) 0).cred.getD 1 0 = 1 ∧
    ((after (.send f0) (syncRun 4 0 7 0 2 false)).flight.map fun p => (p.op, p.payload.take 4)) = [(6, [7, 0, 0, 0])] ∧
    (thNow f0 (after (.send f0) (syncRun 4 0 7 1 0 false))).park = .credit 1 [7] := by decide +kernel

/-! ### Next-slot control -/

/-- A slot with TARGET 511, p0 for branches and l0 for loops; p is 0 or 1 and l0 is `n`. -/
def nextRun (code p n : Nat) (pcond : Nat) : State :=
  let w := word [(237, code), (228, 511), (243, pcond), (122, 1), (118, 3)]
  let w := if pcond = 0 then word [(237, code), (228, 511)] else w
  runK { wkOn w 0 0 with th := [(0, { thr w 7 0 with p := p, l := [n, 0, 0, 0] })] }

theorem test_next_premises : ∀ code ∈ [0, 1, 2, 3, 4, 5], let s := nextRun code 0 1 0
    issues f0 s = true ∧ onlyNext (slotNow f0 s) = true ∧ (slotNow f0 s).next = code := by decide +kernel

theorem test_failed_predicate_premises : ∀ code ∈ [0, 1, 2, 3, 4, 5], let s := nextRun code 0 1 1
    workerRuns s (fireWk f0) (wGet s (fireWk f0)) = true ∧ pick s (fireWk f0) (wGet s (fireWk f0)) = some f0.thread.val ∧
      predOk (slotNow f0 s) (thNow f0 s) = false ∧ (slotNow f0 s).next = code := by decide +kernel

def ptr (c : Instr) (s : State) : Nat := (thNow f0 (after c s)).ptr

theorem test_next : ptr (.nextSeq f0) (nextRun 0 0 0 0) = 1 ∧ ptr (.jump f0) (nextRun 1 0 0 0) = 511 ∧ ptr (.brt f0) (nextRun 2 0 0 0) = 1 ∧
    ptr (.brf f0) (nextRun 3 0 0 0) = 511 ∧ ptr (.loop f0) (nextRun 4 0 2 0) = 511 ∧ ptr (.loop f0) (nextRun 4 0 1 0) = 1 ∧
    ptr (.loop f0) (nextRun 4 0 0 0) = 1 ∧ (thNow f0 (after (.loop f0) (nextRun 4 0 0 0))).l = [0, 0, 0, 0] ∧
    (thNow f0 (after (.endStep f0) (nextRun 5 0 0 0))).ended = true := by decide +kernel

theorem test_ended_premises : let k := wGet (nextRun 5 0 0 0) 0
    let s := runK { k with act := { k.act with threads := 0 } }
    let t := after (.endStep f0) s
    ((wGet s 0).thr 0).ended = false ∧ ((wGet s 0).thr 0).park = .none ∧ workersDone s 0 = false ∧
      (thNow f0 t).ended = true ∧ (wGet t 0).done = true ∧ workersDone t 0 = true ∧ (ctxHas t 0 0 = true ∧ 0 ∈ (wGet s 0).actives) := by decide +kernel

theorem test_failed_predicate : wordAt (thNow f0 (after (.jump f0) (nextRun 1 0 0 1))).s 3 = 0 ∧ ptr (.jump f0) (nextRun 1 0 0 1) = 511 := by
  decide +kernel

/-! ### Input power -/

/-- The input switches as `p` has them. -/
def powered (p : PowerIn) : State := { served [] with powerIn := p }

theorem test_input_power_premises : (powered ⟨0, 0, false, false, false⟩).powerIn.switch = 0 ∧ (powered ⟨1, 2, false, false, false⟩).powerIn.switch = 1 ∧
    (powered ⟨2, 0, false, false, false⟩).powerIn.good = false ∧ (powered ⟨2, 0, false, true, false⟩).powerIn.good = true ∧
    dutiesRun (rset .TLM_POWER_W 0 0 1000 (served [])) = true ∧ 1000 ≤ rget (rset .TLM_POWER_W 0 0 1000 (served [])) .TLM_POWER_W := by decide +kernel

/-- 44.0 V and 60.0 V start, 43.999 V does not (R468). -/
theorem test_soft_start : let s := powered ⟨0, 0, false, false, false⟩
    (after (.softStart 44000) s).powerIn.switch = 1 ∧ (after (.softStart 60000) s).powerIn.switch = 1 ∧
    (after (.softStart 43999) s).powerIn.switch = 0 := by decide +kernel

/-- The third failure in a row locks the switches. -/
theorem test_soft_start_fault : (after .softStartFault (powered ⟨1, 1, false, false, false⟩)).powerIn = ⟨0, 2, false, false, false⟩ ∧
    (after .softStartFault (powered ⟨1, 2, false, false, false⟩)).powerIn = ⟨0, 3, true, false, false⟩ ∧
    (after .inputSwitchClose (powered ⟨1, 2, false, false, false⟩)).powerIn = ⟨2, 0, false, false, false⟩ ∧
    (after .inputOvervoltage (powered ⟨2, 0, false, true, false⟩)).powerIn.switch = 0 := by decide +kernel

theorem test_power_good : let t := after .inputPowerGood (powered ⟨2, 0, false, false, false⟩)
    t.powerIn.good = true ∧ rget t .HST_STATUS_STAGE = 0 ∧ t.ctxs = [] := by decide +kernel

theorem test_power_fail : let t := after .powerFailSequence { powered ⟨2, 0, false, true, false⟩ with mem := [⟨emKey 3 5, 1⟩, ⟨cmKey 0 0, 1⟩] }
    mget t.mem (emKey 3 5) = 0 ∧ rget t .PWR_RSTAT_CA_STATE 41 = 3 ∧ t.powerIn = ⟨0, 0, false, false, true⟩ := by decide +kernel

theorem test_blade_idle :
    ((tget [] (after (.bladeIdle 1) (rset .TLM_POWER_W 0 0 1000 (served []))).faultBuf 50).map fun r => (r.cls, r.detail)) = [(0x33, 6)] := by decide +kernel

/-! ### The host interface -/

theorem test_inbox_premises : let s := served []
    (hostGet s 0).d3 = false ∧ 0xFC0 < 0x1000 ∧ 0xFC0 % 64 = 0 ∧ (List.replicate 64 (1 : Byte)).length = 64 ∧
      (rget s .HST_INBOX_ACCEPTED 0 + 65536 - rget s .HST_INBOX_RETURNED 0) % 65536 < 64 := by decide +kernel

theorem test_inbox : let t := after (.inboxWrite 0 0xFC0 (1 :: List.replicate 63 0)) (served [])
    rget t .HST_INBOX_ACCEPTED 0 = 1 ∧ (hostGet t 0).inbox = [⟨0, 1, 0, 0, 0, 0, false, false⟩] := by decide +kernel

theorem test_ring_premises : (0x80000006#32).getLsbD 31 = true ∧ rget (served []) .HST_CQ_CFG_ENABLE 0 = 0 ∧
    rget (served []) .HST_FQ_CFG_ENABLE 0 = 0 := by decide +kernel

theorem test_rings : let s := rset .HST_CQ_PTR_TAIL 0 0 9 (rset .HST_FQ_PTR_TAIL 0 0 9 (served []))
    rget (after (.cqEnable 0 0x80000006) s) .HST_CQ_PTR_TAIL 0 = 0 ∧ rget (after (.fqEnable 0 0x80000000) s) .HST_FQ_CFG_LOG2 0 = 6 ∧
    rget (after (.fqEnable 0 0x8000001F) s) .HST_FQ_CFG_LOG2 0 = 16 ∧ rget (after (.cqHeadWrite 0 0xFFFF) s) .HST_CQ_PTR_HEAD 0 = 0xFFFF ∧
    rget (after (.fqHeadWrite 0 7) s) .HST_FQ_PTR_HEAD 0 = 7 := by decide +kernel

theorem test_link : rget (after (.linkSpeedChange 2 1 false) (served [])) .HST_STATUS_LINK_SLOW = 1 ∧
    rget (after (.linkSpeedChange 5 2 true) (served [])) .HST_STATUS_LINK_SLOW = 0 ∧ (hostGet (after (.powerStateChange 3 true) (served [])) 3).d3 = true := by
  decide +kernel

/-- Channel 64, a host channel of context 0, runs a descriptor of 256 bytes whose source is host memory at 0. -/
def hostDesc : List Byte := toLe 64 (256 <<< 32 ||| 8 <<< 124)

def dmaRun (c : Nat) (x : DmaCh) (st : Nat) : State := rset .DMA_STATUS_STATE c 0 st { runs ctxRun with dmas := [(c, x)] }

theorem test_host_error_premises : let s := dmaRun 64 { dma0 with desc := hostDesc } 1
    rget s .DMA_STATUS_STATE 64 = 1 ∧ (dmGet s 64).record = none ∧ (dmGet s 64).fetch = false ∧ fld (dSrc (dmGet s 64).desc) 60 4 = 8 ∧
      255 < dLen (dmGet s 64).desc := by decide +kernel

/-! ### Resets of the device -/

theorem test_device_reset_premises : rget (served []) .HST_STATUS_STAGE = 14 ∧ (served []).start.shutdown = none ∧
    rget (served []) .HST_STATUS_BOUND 15 = 0 ∧ warmReady { served [] with start := { start0 with warmDue := true } } = true := by decide +kernel

theorem test_device_reset : (after .perstN (served [])).start.warmDue = true ∧ (after .hotReset (served [])).start.warmDue = true ∧
    (after .pfFlr { served [] with taken := [⟨0, 1, 0, 0, 0, 0, false, false⟩] }).taken = [] ∧
    (after (.vfFlr 3) { served [] with taken := [⟨3, 1, 0, 0, 0, 0, false, false⟩, ⟨4, 1, 0, 0, 0, 0, false, false⟩] }).taken =
      [⟨4, 1, 0, 0, 0, 0, false, false⟩] := by decide +kernel

/-! ### Commands -/

/-- A command of the physical function for context 0. -/
def cmd (op a0 a1 : Nat) : HostCmd := ⟨0, op, 0, 9, a0, a1, false, false⟩

def takes (h : HostCmd) (s : State) : State := { s with taken := [h] }

theorem test_module_command_premises : (∀ op ∈ [1, 7, 8, 9], findCmd (takes (cmd op 0 0) (served [])) 0 op = some (cmd op 0 0) ∧
      cmdFail (takes (cmd op 0 0) (served [])) (cmd op 0 0) = none) ∧ warming (served []) = false ∧ tripHot (served []) = false ∧
    writingImage (served []) = false ∧ (∀ c, c < 16 → rget (served []) .CTX_STATE_STATE c = 0) := by decide +kernel

theorem test_module_command_admitted : admitted (takes (cmd 9 1 30) (served [])) 0 9 (cmd 9 1 30) :=
  ⟨by decide +kernel, by decide +kernel, by decide +kernel⟩

theorem test_nop : let t := after (.nop 0) (takes (cmd 1 0 0) (served []))
    t.taken = [] ∧ ((hostGet t 0).held.map fun c => (c.kind, c.status, c.tag)) = [(1, 0, 9)] := by decide +kernel

theorem test_module_commands : (after (.warmReset 0) (takes (cmd 7 0 0) (served []))).start.warmDue = true ∧
    rget (after (.coldReset 0) (takes (cmd 8 0 0) (served []))) .HST_STATUS_STAGE = 0 ∧
    (after (.shutdown 0) (takes (cmd 9 0 0) (served []))).start.shutdown.isSome = true ∧
    (after (.shutdown 0) (takes (cmd 9 1 30) (served []))).start.shutTest = some ({ cmd 9 1 30 with started := true }, 30) := by decide +kernel

theorem test_shutdown_test : let s := rset .SEC_STATE_KEY_OK 0 0 1 { served [] with start := { start0 with shutTest := some (cmd 9 1 30, 30) } }
    s.start.shutTest = some (cmd 9 1 30, 30) ∧ rget s .SEC_STATE_KEY_OK = 1 ∧ ([] : List (BitVec 64)).length ≤ 8184 := by decide +kernel

/-! ### Contexts -/

/-- A grant block for region 0 and eave channel 0, and a module in which region 0 runs and channel 0 is in service. -/
def grantState : State :=
  { served [] with mem := [⟨hmKey 0x100, 1⟩] } |> rset .PWR_RSTAT_CA_STATE 0 0 0 |> rset .PWR_RSTAT_SP_STATE 0 0 0 |> rset .EAV_SEG_STATE 0 0 0

theorem test_grant_premises : let s := takes (cmd 2 0 0) grantState
    findCmd s 0 2 = some (cmd 2 0 0) ∧ cmdFail s (cmd 2 0 0) = none ∧ warming s = false ∧ (grantBlock s 0).isSome = true ∧
      (match grantBlock s 0 with | some g => grantCheck s g | none => some 0) = none ∧ rget s .HST_STATUS_LINK_SLOW = 0 ∧
      ((List.range 16).find? fun c => rget s .CTX_STATE_STATE c == 0) = some 0 := by decide +kernel

/-- Context 0 is `x` in state `st`. -/
def ctxIn (x : Ctx) (st : Nat) : State := rset .CTX_STATE_STATE 0 0 st (served [(0, x)])

theorem test_context_premises : (actsFor (ctxIn ctxRun 3) (.ctx 0) = some 0) ∧ (actsFor (ctxIn ctxRun 3) .pf = none) ∧
    (0x800000FF#32).getLsbD 31 = true ∧ (0x800000FF#32).getLsbD 30 = false ∧ rget (ctxIn ctxRun 3) .CTX_STATE_STATE 0 = 3 ∧
    rget (ctxIn ctxRun 3) .CTX_CTRL_HOLD_TICKS 0 ≤ (ctxGet (ctxIn { ctxRun with heldTicks := 256 } 3) 0).heldTicks ∧
    resetDue (ctxIn { ctxRun with resetReq := some none } 2) 0 = true := by decide +kernel

theorem test_context_command_premises : ∀ e ∈ [(5, 255, 2), (6, 0, 1)], let s := takes (cmd e.1 e.2.1 0) (ctxIn ctxRun e.2.2)
    findCmd s 0 e.1 = some (cmd e.1 e.2.1 0) ∧ cmdFail s (cmd e.1 e.2.1 0) = none ∧ warming s = false ∧
      rget s .CTX_STATE_STATE 0 = e.2.2 ∧ (ctxGet s 0).resetReq = none := by decide +kernel

theorem test_context : (ctxGet (after (.ctxResetRequest (.ctx 0) 0 0x80000000) (ctxIn ctxRun 2)) 0).resetReq.isSome = true ∧
    rget (after (.ctxResetRequest (.ctx 0) 0 0x80000000) (ctxIn ctxRun 2)) .CTX_CTRL_HOLD_TICKS 0 = 1 ∧
    rget (after (.contextReset 0) (ctxIn { ctxRun with resetReq := some none } 2)) .CTX_STATE_STATE 0 = 1 ∧
    (ctxGet (after (.reset 0) (takes (cmd 5 0 0) (ctxIn ctxRun 2))) 0).resetReq.isSome = true ∧
    rget (after (.release 0) (takes (cmd 6 0 0) (ctxIn ctxRun 1))) .CTX_STATE_STATE 0 = 5 ∧
    rget (after (.releaseWipeComplete 0) (ctxIn ctxRun 5)) .CTX_STATE_STATE 0 = 0 := by decide +kernel

theorem test_hold_timeout : (ctxGet (after (.holdTimeout 0) (ctxIn { ctxRun with heldTicks := 256 } 3)) 0).resetReq.isSome = true := by decide +kernel

/-! ### Life cycle, images and firmware: the key behind them is k · G with k = 0x5151, and each signature was made with it -/

def keyX : Nat := 0x1F96DFE50769119F0AC58B12D50B88BDE09F6F2A1100A81A956A82FB9876512CCB22440A96D86888150C193344B9C9A08B371996C9A0951B8F708D892989B04893E

def keyY : Nat := 0x18DEABFB6105068E61F45AD23C09DA1494D93EB3CECFFC2CF530F8706159453582D7BB67E62589F44149DCD7E978D3A1EDEB11AF5291504D00BF1180E99A6D52CEF

def pub : List Byte := 4 :: toBe 66 keyX ++ toBe 66 keyY

/-- The SHA-512 of the key, little-endian. -/
def pubHash : Nat := 0xCCF962641AE2715EA3FECAB497E7FEE91EE2FBDEFD467ACCEF071511682BBA798AE68A42B18D210B5BB39B5D4C1A125298036658335D3A5CEAC1DD00C39835BF

/-- A token of an operation with its argument, signer and payload, for the module whose identity key is `pub` and the nonce of 32 bytes 7. -/
def token (op arg signer payload r s : Nat) : List Byte :=
  toLe 8 (0x4B54434C ||| op <<< 32 ||| arg <<< 40) ++ toLe 64 pubHash ++ List.replicate 32 7 ++ toLe 64 payload ++ List.replicate 24 0 ++
    toLe 8 signer ++ pub ++ List.replicate 3 0 ++ toBe 66 r ++ toBe 66 s ++ List.replicate 12 0

def provisionToken : List Byte := token 1 0 1 0
  0xFAC4E7A5FDB90D37D8B6845F48F3C40C3C168B8DCE87C471F19E9CD1CAA4D9DB4036052F5F7A27A29DB66D4B0D94D88FE3163A7C22EB44FA325CB5D7A425E9A1E5
  0xE690C398B37D213C5FB9E1ACD7C7F8FC42FB9253B1961CB2517CBD8B47F529F316E1523F76D29EE0A30A3064E3527CF3E86C959FE5B959EA25BFCD41009BC9451E

def shipToken : List Byte := token 2 0 1 0
  0xFAC4E7A5FDB90D37D8B6845F48F3C40C3C168B8DCE87C471F19E9CD1CAA4D9DB4036052F5F7A27A29DB66D4B0D94D88FE3163A7C22EB44FA325CB5D7A425E9A1E5
  0x23634156D881D4E246434FCBB1BB6F839C3C6183AA504C48062A72A1DE0C78292E5162DA919DF3A09574881BD028C0C726A93C14732662E32172A6A04C608234BF

def debugOnToken : List Byte := token 3 0 1 0
  0xFAC4E7A5FDB90D37D8B6845F48F3C40C3C168B8DCE87C471F19E9CD1CAA4D9DB4036052F5F7A27A29DB66D4B0D94D88FE3163A7C22EB44FA325CB5D7A425E9A1E5
  0x113C2883BF481CFC82F359F53786C8023D384FC2641FA9EED3BF7C5B1D45BEB7B3FA2861A71140F0D218B8CF58AB7812B0A780516A22E7B1856F9951B39F35937B8

def returnToken : List Byte := token 5 0 1 0
  0xFAC4E7A5FDB90D37D8B6845F48F3C40C3C168B8DCE87C471F19E9CD1CAA4D9DB4036052F5F7A27A29DB66D4B0D94D88FE3163A7C22EB44FA325CB5D7A425E9A1E5
  0xDAC1DE49C5F784850036BD6E41E6B09BE6FAC9A8AC6494916BC5D2E5AFC8B4F2D8B977C80E440D01BE64DC84D5B0151436A5B206F94A3B9AED413FDFB94EEF31EB

def refieldToken : List Byte := token 6 0 1 0
  0xFAC4E7A5FDB90D37D8B6845F48F3C40C3C168B8DCE87C471F19E9CD1CAA4D9DB4036052F5F7A27A29DB66D4B0D94D88FE3163A7C22EB44FA325CB5D7A425E9A1E5
  0x1A9DF7FB8EE248620EA6AF86489D2894DD77823DB4335C7F10A3C82564C5DE5CDE4A8CCEAEA3182E4D5E389CE5B0AF41CA387CD290F13EE226675013788A8E1B496

def scrapToken : List Byte := token 7 0 1 0
  0xFAC4E7A5FDB90D37D8B6845F48F3C40C3C168B8DCE87C471F19E9CD1CAA4D9DB4036052F5F7A27A29DB66D4B0D94D88FE3163A7C22EB44FA325CB5D7A425E9A1E5
  0xFE9D13529AC20CD505FFCDADAA2D84E2586561FD8206892BC6C1055F279069AB50619C4A643BCDD33AB3E33FD8CE9DDB182AB6C3A57856F6DD7968713AE3A8251

def ownerKeyToken : List Byte := token 8 0 2 pubHash
  0xFAC4E7A5FDB90D37D8B6845F48F3C40C3C168B8DCE87C471F19E9CD1CAA4D9DB4036052F5F7A27A29DB66D4B0D94D88FE3163A7C22EB44FA325CB5D7A425E9A1E5
  0x569C6D9500C8816793BEB020B660E9078E182808FC88EFB5AE81CC9E460683C27936A6F75B57577355F8F674055A406994191216840C8CA2429AFFE743BCA2A1E4

def vendorRevokeToken : List Byte := token 9 1 1 0
  0xFAC4E7A5FDB90D37D8B6845F48F3C40C3C168B8DCE87C471F19E9CD1CAA4D9DB4036052F5F7A27A29DB66D4B0D94D88FE3163A7C22EB44FA325CB5D7A425E9A1E5
  0xED043E6C2610B401F59C7CC900E0F94642BD83C28D01E5AF1030DA005AC46B3A02C5D2951E81D4A14FF06B4903D5735379CF898F071DFB404CD2AE98D86331EE52

def scanOnToken : List Byte := token 10 0 1 0
  0xFAC4E7A5FDB90D37D8B6845F48F3C40C3C168B8DCE87C471F19E9CD1CAA4D9DB4036052F5F7A27A29DB66D4B0D94D88FE3163A7C22EB44FA325CB5D7A425E9A1E5
  0x6693D87739A14CD2E27CEFB0B7AB4EAEA93726B31FDDBAA61D46AC71FE5CE61D494C1BAD9A5057EEB0CE386D9F43195802E7D7E40C5DEEF794BC9B43BCF9AE9710

/-- Fields at byte offsets: (offset, bytes, value). -/
def sparse (k : Nat) (l : List (Nat × Nat)) : List Byte := toLe k (l.foldl (fun n e => n + e.2 <<< (8 * e.1)) 0)

/-- A signature block by vendor key 0 (R158), and its signature. -/
def signBlock : List Byte := sparse 8 [(0, 1)] ++ pub ++ List.replicate 3 0

def signed (r s : Nat) : List Byte := signBlock ++ toBe 66 r ++ toBe 66 s ++ List.replicate 12 0

/-- A thatch image of one step, one empty DMA preset of channel 0, and its signature. -/
def image : List Byte :=
  sparse 512 [(0, 0x48434854), (4, 0x0100), (6, 0x200), (8, 0x5A42), (0x0E, 1), (0x10, 928), (0x18, 77), (0x2C, 1), (0x2E, 1), (0x3C, 2), (0x48, 0x4F71A8E7),
      (0x50, 10000), (0x54, 1024), (0x58, 118), (0x5C, 881), (0x1FC, 0x9842A154)] ++
    sparse 64 [(0, 0xD), (16, 576), (24, 64), (28, 0x3C8EB67), (32, 0xE), (48, 640), (56, 288), (60, 0x1110EEBE)] ++ List.replicate 64 0 ++ signed
  0xFAC4E7A5FDB90D37D8B6845F48F3C40C3C168B8DCE87C471F19E9CD1CAA4D9DB4036052F5F7A27A29DB66D4B0D94D88FE3163A7C22EB44FA325CB5D7A425E9A1E5
  0x41220BD8739007D8EEE8208D10B21389A5934CB5EE95772F7E26DDC0ADABC3E5FA62441A8320A2D1DE59CDF3554FF063C1ADBE9C227A6789FEC11ECBD5E57DDCF4

/-- A firmware image of version 5 with three empty sections (R457). -/
def firmware : List Byte :=
  sparse 0x50 ([(0, 0x4957465A), (4, 0x0100), (6, 5), (8, 0x170), (0xC, 0x5A42)] ++
      (List.range 3).flatMap fun k => [(0x10 + 16 * k, 0x50), (0x18 + 16 * k, 0xBDB8EF7E35E183CF)]) ++ signed
  0xFAC4E7A5FDB90D37D8B6845F48F3C40C3C168B8DCE87C471F19E9CD1CAA4D9DB4036052F5F7A27A29DB66D4B0D94D88FE3163A7C22EB44FA325CB5D7A425E9A1E5
  0x14A9BBF5EBFE46847D93485AA9DE3BFD06EE1917D5072314E9E9E2D6773DE624812A3C8BB8CEFD9971595522489A423EFD90A8C92CF75AFCA2C9208BB11DF15E51

/-- Words `j` of a slot's hash. -/
def hashed (f : F) (k : Nat) (s : State) : State := (List.range 8).foldl (fun s j => rset f 0 (8 * k + j) (fld pubHash (64 * j) 64) s) s

/-- A module in a life-cycle state, whose identity key and vendor key 0 are `pub`, with a session over I3C. -/
def lifeIn (st life : Nat) : State :=
  let s := served []
  let s := { s with sec := { sec0 with pub := some pub, nonce := some (List.replicate 32 7), sessions := [(0, ⟨.i3c, true, 0⟩)] } }
  hashed .SEC_VKEY_HASH 0 (rset .SEC_STATE_CERT_OK 0 0 1 (rset .SEC_STATE_LIFE 0 0 life (rset .SEC_STATE_VFUSED 0 0 3 (rset .SEC_STATE_STATE 0 0 st s))))

def inSession : Via := ⟨.i3c, some 0⟩

theorem test_life_cycle_premises : let s := lifeIn 2 1
    spdmUp s = true ∧ inSession.session = some 0 ∧ sessionOf s 0 = some ⟨.i3c, true, 0⟩ ∧ lcPath inSession = true ∧ rget s .SEC_STATE_BUSY = 0 ∧
      loading s = false := by decide +kernel

theorem test_debug_off : lcStatus 4 [] [3] true false true true [] (lifeIn 3 1) = 0 ∧
    rget (after (.debugOff inSession []) (rset .WRK_DBG_HALT 5 0 1 (lifeIn 3 1))) .WRK_DBG_HALT 5 = 0 := by decide +kernel

theorem test_provision_premise : lcStatus 1 [.vendor] [0] true false true true provisionToken (lifeIn 0 0) = 0 := by decide +kernel

theorem test_ship_premise : lcStatus 2 [.vendor] [1] (rget (lifeIn 1 1) .SEC_STATE_CERT_OK == 1) false true true shipToken (lifeIn 1 1) = 0 := by
  decide +kernel

theorem test_debug_on_premise : lcStatus 3 [.owner] [2] true false true true debugOnToken (lifeIn 2 1) = 0 := by decide +kernel

theorem test_return_premise : lcStatus 5 [.owner, .vendor] [2, 3] true true true true (returnToken ++ returnToken) (lifeIn 2 1) = 0 := by decide +kernel

theorem test_refield_premise : let s := lifeIn 4 2
    lcStatus 6 [.vendor] [4] (decide (rget s .SEC_STATE_LIFE ≤ 2)) false true true refieldToken s = 0 := by decide +kernel

theorem test_scrap_premise : lcStatus 7 [.vendor] [1, 4] true true true true scrapToken (lifeIn 4 3) = 0 := by decide +kernel

theorem test_owner_key_premise : let s := lifeIn 2 1
    lcStatus 8 [.payload] [2] (!bit (rget s .SEC_STATE_OREVOKED) 0) false (!bit (rget s .SEC_STATE_OFUSED) 0) true ownerKeyToken s = 0 := by decide +kernel

theorem test_vendor_revoke_premise : let s := lifeIn 2 1
    lcStatus 9 [.vendorOther] [0, 1, 2, 3, 4] true false (vendorLeft s (tokArg vendorRevokeToken)) true vendorRevokeToken s = 0 := by decide +kernel

theorem test_scan_on_premise : lcStatus 10 [.vendor] [0, 4] true true true true scanOnToken (lifeIn 4 1) = 0 := by decide +kernel

theorem test_wipe_premise : { (lifeIn 4 1) with sec := { sec0 with wipe := some inSession } }.sec.wipe = some inSession := by decide +kernel

/-! ### Firmware -/

theorem test_firmware_check : fwCheck (lifeIn 2 1) firmware = 0 := by decide +kernel

theorem test_firmware_refused : fwCheck (lifeIn 2 1) [] = 2 ∧ keeperUp (lifeIn 2 1) = true ∧ mctpPath .vdm = true := by decide +kernel

theorem test_firmware_premises : (lifeIn 2 1).keeper.update = none ∧
    { (lifeIn 2 1) with keeper := { keeper0 with update := some none } }.keeper.update = some none ∧
    rget (rset .KPR_FWUPD_PENDING 0 0 1 (lifeIn 2 1)) .KPR_FWUPD_PENDING = 1 ∧ isPf .pf = true ∧
    rget (rset .KPR_STATUS_RECOVERY 0 0 1 (lifeIn 2 1)) .KPR_STATUS_RECOVERY ≠ 0 := by decide +kernel

/-- The cells that hold a byte string from a key on: its bytes that are not 0. -/
def cells (k : Nat) : List Byte → List Host.Cell
  | [] => []
  | b :: r => if b = 0 then cells (k + 1) r else (k, b) :: cells (k + 1) r

theorem mget_cells_below : ∀ (l : List Byte) (k a : Nat), a < k → mget (cells k l) a = 0
  | [], _, _, _ => rfl
  | b :: r, k, a, h => by
    unfold cells
    split
    · exact mget_cells_below r (k + 1) a (by omega)
    · rw [mget, if_neg (by omega)]
      exact mget_cells_below r (k + 1) a (by omega)

theorem mget_cells : ∀ (l : List Byte) (k i : Nat), mget (cells k l) (k + i) = l.getD i 0
  | [], k, i => by simp [cells, mget]
  | b :: r, k, 0 => by
    unfold cells
    split
    · next h => simp [mget_cells_below r (k + 1) k (by omega), h]
    · simp [mget]
  | b :: r, k, i + 1 => by
    unfold cells
    have h : mget (cells (k + 1) r) (k + (i + 1)) = r.getD i 0 := by
      rw [← mget_cells r (k + 1) i, show k + 1 + i = k + (i + 1) by omega]
    split
    · simpa using h
    · rw [mget, if_neg (by omega)]
      simpa using h

theorem range_getD (l : List Byte) : ((List.range l.length).map fun i => l.getD i 0) = l := by
  refine List.ext_getElem (by simp) fun i h _ => ?_
  have h : i < l.length := by simpa using h
  simp [List.getD, List.getElem?_eq_getElem h]

/-- An image of 16 KiB whose first bytes are `firmware`, staged in host memory at 0x40000. -/
def staged : State := { rset .KPR_STATUS_RECOVERY 0 0 1 (lifeIn 2 1) with mem := cells (hmKey 0x40000) firmware }

theorem staged_read : mread staged (hmKey (0x40 * 4096)) (1 * 16384) = (List.range (1 * 16384)).map fun i => firmware.getD i 0 :=
  List.map_congr_left fun i _ => mget_cells firmware (hmKey 0x40000) i

theorem test_recovery_premise : 0x40 * 4096 + 1 * 16384 ≤ 2 ^ 57 ∧ 2 ^ 57 < 2 ^ 45 * 4096 + 1 * 16384 ∧
    fwCheck (rset .KPR_RECOV_ADDR 0 0 0x40 staged) (mread staged (hmKey (0x40 * 4096)) (1 * 16384)) = 0 := by
  rw [staged_read]
  decide +kernel

/-! ### Loading -/

def ctxIdle : Ctx := { ctxRun with phase := .idle, cfgWritten := true }

def job : LoadJob := ⟨0, 928, 9, 0, false, none, [], [], [], []⟩

/-- Context 0 holds region 0 and channel 0; the image is staged at 0 of its eave memory, and its load is in the check pass. -/
def loadNow : State :=
  rset .CTX_STATE_STATE 0 0 1 { lifeIn 2 1 with ctxs := [(0, { ctxIdle with load := some job })], mem := cells (emKey 0 64) image }

theorem image_read : emRead loadNow (.ctx 0) 0 928 = image := by
  have h : emRead loadNow (.ctx 0) 0 928 = (List.range 928).map fun i => image.getD i 0 := by
    refine List.map_congr_left fun i hi => ?_
    have hi : i < 928 := List.mem_range.mp hi
    have hk : emByteKey (emPlace (viewChans loadNow (.ctx 0)) (viewGran loadNow (.ctx 0)) (0 + i)) = emKey 0 64 + i := by
      rw [show viewChans loadNow (.ctx 0) = [0] by decide +kernel, show viewGran loadNow (.ctx 0) = 4096 by decide +kernel]
      simp only [emPlace, emByteKey, rawOf, emKey, List.length_singleton, Nat.mod_one, List.getD_cons_zero]
      omega
    rw [show emSource loadNow (.ctx 0) (0 + i) = emPlace (viewChans loadNow (.ctx 0)) (viewGran loadNow (.ctx 0)) (0 + i) from rfl, hk]
    exact mget_cells image (emKey 0 64) i
  rw [h, show 928 = image.length by decide +kernel]
  exact range_getD image

theorem test_image_accepted_premise : (ctxGet loadNow 0).load = some job ∧ job.accepted = false ∧ loadNow.keeper.inReset = false ∧
    checkImage loadNow 0 job.addr job.bytes (emRead loadNow (.ctx 0) job.addr job.bytes) = none :=
  ⟨by decide +kernel, rfl, by decide +kernel, by rw [show emRead loadNow (.ctx 0) job.addr job.bytes = image from image_read]; decide +kernel⟩

/-- Empty memory is no image: its length is wrong, code 2. -/
theorem test_image_refused_premise : let s := { loadNow with mem := [] }
    (ctxGet s 0).load = some job ∧ checkImage s 0 0 928 (emRead s (.ctx 0) 0 928) = some ⟨2, noIdx, 0x10⟩ := by decide +kernel

/-! ### Loading and coursing, the other clauses -/

/-- A thatch of one step, base 0 of eave memory. -/
def thatch1 : Thatch :=
  { id := 77, pred := 0, loadSeq := 3, steps := [⟨10000, 1024, 118, 881⟩], courseBudget := 0, courseRidgeTo := 0, nondet := false, syncObjects := 0
    dir := [], syncInit := [], presets := [], trees := [], base := 0, bytes := 928 }

theorem test_load_premises : let s := takes (cmd 3 4096 928) (ctxIn { ctxRun with phase := .idle } 1)
    findCmd s 0 3 = some (cmd 3 4096 928) ∧ cmdFail s (cmd 3 4096 928) = none ∧ warming s = false ∧ (∀ k, k < 16 → (ctxGet s k).load = none) ∧
      (ctxGet s 0).arm = .none ∧ rget s .CTX_STATE_RESTART_BLOCKED 0 = 0 ∧ 4096 + 928 ≤ aperture s (.ctx 0) ∧
      (heldRanges s 0).any (overlaps 4096 928) = false := by decide +kernel

theorem test_load : ((ctxGet (after (.load 0) (takes (cmd 3 4096 928) (ctxIn { ctxRun with phase := .idle } 1))) 0).load.map fun j => (j.addr, j.bytes)) =
    some (4096, 928) := by decide +kernel

/-- A load of nothing to deliver, and one of an image in empty memory. -/
def doneJob : LoadJob := ⟨0, 928, 9, 0, true, some thatch1, [], [], [], []⟩

theorem test_load_complete_premises : let s := ctxIn { ctxRun with phase := .idle, load := some doneJob } 1
    (ctxGet s 0).load = some doneJob ∧ doneJob.accepted = true ∧ doneJob.thatch = some thatch1 ∧ s.keeper.inReset = false ∧
      (deliveries (emRead s (.ctx 0) 0 928)).length = 0 ∧ doneJob.mwin.length = 0 := by decide +kernel

theorem test_load_complete :
    (ctxGet (after (.loadComplete 0) (ctxIn { ctxRun with phase := .idle, load := some doneJob } 1)) 0).waiting = some thatch1 := by decide +kernel

def courseState : State := takes (cmd 4 0 0) (ctxIn { ctxRun with phase := .idle, waiting := some thatch1 } 1)

theorem test_course_premises : findCmd courseState 0 4 = some (cmd 4 0 0) ∧ cmdFail courseState (cmd 4 0 0) = none ∧ warming courseState = false ∧
    (ctxGet courseState 0).waiting = some thatch1 ∧ thatch1.pred = 0 ∧ (ctxGet courseState 0).arm = .none ∧ (ctxGet courseState 0).load = none ∧
    (ctxGet courseState 0).active = none := by decide +kernel

theorem test_course : let t := after (.course 0) courseState
    rget t .CTX_STATE_STATE 0 = 2 ∧ (ctxGet t 0).active = some thatch1 := by decide +kernel

/-! ### Steps -/

def stepIn (p : Phase) : State := runs { ctxRun with phase := p, active := some thatch1, pauseDue := 5 }

theorem test_step_premises : rget (stepIn .idle) .CTX_STATE_STATE 0 = 2 ∧ (ctxGet (stepIn .idle) 0).active.isSome = true ∧
    (let s := stepIn .work; (ctxGet s 0).failed = false ∧ (ctxGet s 0).schedFault = false ∧ workersDone s 0 = true ∧ programsPast s 0 = true ∧
      unitsFlipped s 0 = true) ∧
    (let s := stepIn .released; dmaRidgeDone s 0 = true ∧ mirrorClear s 0 = true ∧ movesDue s 0 = []) ∧
    spanPeers (stepIn .wait) 0 = [] := by decide +kernel

/-- A comb move waits for the ridge of context 0, which has released its step. -/
def moveWaits : State := { stepIn .released with pcombs := [(0, { pcGet (stepIn .released) 0 with moving := true })] }

theorem test_step_clauses : movesDue moveWaits 0 ≠ [] ∧ (ctxGet moveWaits 0).phase = .released ∧ dmaRidgeDone moveWaits 0 = true ∧ mirrorClear moveWaits 0 = true ∧
    movesDue (stepIn .idle) 0 = [] ∧ movesDue (stepIn .abandoned) 0 = [] ∧ (ctxGet (stepIn .idle) 0).pauseAt = none ∧
    (ctxGet (runs { ctxRun with pauseAt := some 7 }) 0).pauseAt = some 7 ∧ lapsed (stepIn .work) 0 = false := by decide +kernel

theorem test_step_start : let t := after (.stepStart ⟨0, []⟩) (stepIn .idle)
    (ctxGet t 0).phase = .work ∧ (ctxGet t 0).start = 5 := by decide +kernel

theorem test_step_life : (ctxGet (after (.replayStart ⟨0, []⟩) (stepIn .abandoned)) 0).replayed = true ∧
    (ctxGet (after (.ridgeRelease 0) (stepIn .work)) 0).phase = .released ∧ (ctxGet (after (.ridgeSignal 0) (stepIn .released)) 0).phase = .wait ∧
    rget (after (.ridgeComplete 0) (stepIn .wait)) .CTX_STEP_COUNT 0 = 1 := by decide +kernel

/-- A span of two modules in X, of which this is module 0. -/
def spanned (s : State) : State :=
  rset .PRT_SPAN_VALID 0 0 1 (rset .PRT_SPAN_NXS1 0 0 1 (rset .PRT_TOPO_NX1 0 0 1 (rset .PRT_TOPO_VALID 0 0 1 s)))

theorem test_ridge_timeout : let s := spanned (stepIn .wait)
    ((spanPeers s 0).filter fun m => !(ctxGet s 0).peers.contains m) = [1] ∧
    rget (after (.ridgeTimeout 0) s) .CTX_STATE_STATE 0 = 3 := by decide +kernel

def failedIn (p : Phase) (replayed : Bool) : State := runs { ctxRun with phase := p, active := some thatch1, failed := true, replayed := replayed }

theorem test_failure_premises : maskingEnds (failedIn .work false) 0 = none ∧ maskingEnds (failedIn .wait true) 0 = some 0 ∧
    (∀ e ∈ (stepIn .work).flds, e.1.f ≠ .WRK_DBG_HALT) ∧ (stepIn .work).keeper.inReset = false ∧ (ctxGet (stepIn .work) 0).hangs = 0 ∧
    (ctxGet (runs { ctxRun with hangs := 1 }) 0).hangs ≠ 0 := by decide +kernel

theorem test_failure : (ctxGet (after (.stepAbandon 0) (failedIn .work false)) 0).phase = .abandoned ∧
    (ctxGet (after (.stepWatchdog 0) (stepIn .work)) 0).failed = true ∧
    (ctxGet (after (.stepWatchdog 0) (runs { ctxRun with hangs := 1 })) 0).schedFault = true := by decide +kernel

theorem test_sum_lane : let t := after (.sumLaneFail 0 0 0 0 0 0 false) (stepIn .work)
    (ctxGet t 0).failed = true ∧ rget t .WRK_EVT_COUNT 0 0 = 1 := by decide +kernel

theorem test_plausibility : let s := runK { wkOn 0 0 0 with plaus := [⟨0, 1, 2, 3, 4⟩] }
    (wGet s (wkOf 0 0 0)).plaus = [⟨0, 1, 2, 3, 4⟩] ∧ ctxOfComb s 0 = some 0 ∧ (ctxGet s 0).replayed = false ∧
    (ctxGet (after (.plausibilityEvent 0 0 0) s) 0).failed = true := by decide +kernel

/-! ### The keeper -/

def reads : Readings := { mv := 54000, da := 10, w := 54, uj := 7, inlet := 240, outlet := 320 }

theorem test_keeper_premises : (served []).powerIn.good = true ∧ dutiesRun (tickHardware reads (served [])) = true ∧
    dutiesRun (tickHardware reads { (served []) with keeper := { keeper0 with inReset := true } }) = false ∧ dutiesRun (served []) = true ∧
    (served []).keeper.flowBad = false ∧ (served []).keeper.inReset = false := by decide +kernel

theorem test_tick : let t := tickHardware reads (served [])
    t.tick = 1 ∧ rget t .PWR_ENERGY_UJ = 7 := by decide +kernel

theorem test_flow_low : let s := { (served []) with keeper := { keeper0 with flowLow := 8 } }
    (8 ≤ s.keeper.flowLow) ∧ (after .flowLow s).keeper.flowBad = true := by decide +kernel

theorem test_life_counters : let s := { (served []) with keeper := { keeper0 with hotHours := (1, 2, 800000) } }
    800000 ≤ s.keeper.hotHours.2.2 ∧ dutiesRun s = true ∧ (after .lifeCounterWrite s).keeper.hotHours = (1, 2, 0) := by decide +kernel

/-- The keeper in reset, in service. -/
def noKeeper : State := { (served []) with keeper := { keeper0 with inReset := true } }

theorem test_keeper_reset : rget (after .keeperReset (served [])) .KPR_ALERT_KRESET = 1 := by decide +kernel

theorem test_keeper_resume_premises : noKeeper.keeper.inReset = true ∧ noKeeper.powerIn.good = true ∧ noKeeper.keeper.refPending = false ∧
    stageOpen noKeeper = false ∧
    dutiesRun (rset .KPR_STATUS_KRESET 0 0 0 { noKeeper with keeper := { noKeeper.keeper with inReset := false } }) = true := by decide +kernel

/-- A start whose stage 0x02 has begun. -/
def starting (st : Nat) : State :=
  { rset .HST_STATUS_STAGE 0 0 st (served []) with flash := { flash0 with journal := [⟨0, st, 1, 0, 0, 0, 0, 0⟩] } }

theorem test_keeper_resume_in_start : let s := { starting 2 with keeper := { keeper0 with inReset := true } }
    stageOpen (rset .KPR_STATUS_KRESET 0 0 0 { s with keeper := { s.keeper with inReset := false } }) = true := by decide +kernel

theorem test_management_premises : keeperUp (served []) = true ∧ mctpPath .i3c = true ∧ tripHot (served []) = false ∧ (served []).start.shutdown = none ∧
    rget (served []) .HST_STATUS_STAGE = 14 ∧ writingImage (served []) = false ∧
    writingImage { (served []) with keeper := { keeper0 with update := some (some []) } } = true ∧ sensorValue (served []) 49 = some (rget (served []) .BST_LIFE_DAYS) ∧
    sensorValue (served []) 1 = some (rget (served []) .PWR_HEAT_TMAX) := by decide +kernel

theorem test_management : (after (.setEndpointId .vdm 9) (served [])).keeper.eids = [(.vdm, 9)] ∧ (after (.entdaa 0x2A) (served [])).keeper.i3c = 0x2A ∧
    (after (.mctpWarmReset .i3c) (served [])).start.warmDue = true ∧ rget (after (.mctpColdReset .i3c) (served [])) .HST_STATUS_STAGE = 0 ∧
    rget (after (.mctpWriteAlert .i3c 0x8000000) (rset .KPR_ALERT_KRESET 0 0 1 (served []))) .KPR_ALERT_KRESET = 0 := by decide +kernel

/-- A cold reset asked for while the image area is written follows the apply (R458). -/
theorem test_cold_waits : let s := { (served []) with keeper := { keeper0 with update := some (some []) } }
    (after (.mctpColdReset .i3c) s).keeper.coldAsk = true ∧ rget (after (.applyComplete true) (after (.mctpColdReset .i3c) s)) .HST_STATUS_STAGE = 0 := by
  decide +kernel

/-! ### Heat and domains -/

/-- A module whose region 0 runs. -/
def up (s : State) : State :=
  rset .PWR_RSTAT_CA_STATE 0 0 0 (rset .PWR_RSTAT_SP_STATE 0 0 0 (rset .EAV_SEG_STATE 0 0 0 s))

theorem test_heat_premises : let s := up (served [])
    rget s .PWR_RSTAT_HOT 0 ≠ 1 ∧ rget s .PWR_RSTAT_CA_STATE 0 < 3 ∧ rget s .PWR_HEAT_TRIPPED = 0 ∧ rget s .CLK_STATUS_RC_ACTIVE = 0 := by decide +kernel

theorem test_hot : let t := after (.hotSet 0 7 864) (up (served []))
    rget t .PWR_RSTAT_HOT 0 = 1 ∧ rget t .PWR_RTEMP_TEMP 0 7 = 216 ∧ rget (after (.hotSet 0 7 863) (up (served []))) .PWR_RSTAT_HOT 0 = 0 := by decide +kernel

def hotState : State := rset .PWR_RSTAT_TMAX 0 0 848 (rset .PWR_RSTAT_HOT_TICKS 0 0 2 (rset .PWR_RSTAT_HOT 0 0 1 (up (served []))))

theorem test_switch_off : rget hotState .PWR_RSTAT_HOT_TICKS 0 = 2 ∧ 848 ≤ rget hotState .PWR_RSTAT_TMAX 0 ∧
    rget (after (.combArraySwitchOff 0) hotState) .PWR_RSTAT_CA_STATE 0 = 4 := by decide +kernel

theorem test_hot_return : let s := rset .PWR_RSTAT_CA_STATE 0 0 4 { up (served []) with keeper := { keeper0 with cool := [(0, 8)] } }
    rget s .PWR_RSTAT_CA_STATE 0 = 4 ∧ 8 ≤ tget 0 s.keeper.cool 0 ∧ (after (.hotOffReturn 0) s).keeper.waking = [0] := by decide +kernel

theorem test_trip : rget (after (.trip .sensor) (up (served []))) .PWR_HEAT_TRIPPED = 1 ∧
    rget (after .referenceLoss (up (served []))) .CLK_STATUS_RC_ACTIVE = 1 := by decide +kernel

/-- Every spine runs, and every segment is on. -/
def spinesUp (s : State) : State := (List.range 42).foldl (fun s r => rset .PWR_RSTAT_SP_STATE r 0 0 s) s

def segsUp (s : State) : State := (List.range 8).foldl (fun s g => rset .EAV_SEG_STATE g 0 0 s) s

theorem test_domain_premises : let s := up (served [])
    rget s .PWR_RSTAT_SP_STATE 0 ≠ 2 ∧ rget s .PWR_RSTAT_CA_STATE 0 < 2 ∧ rget s .EAV_SEG_STATE 0 ≠ 3 ∧
    (let d := rset .EAV_SEG_STATE 1 0 2 (starting 2); rget d .HST_STATUS_STAGE = 2 ∧ rget d .EAV_SEG_STATE 1 = 2) ∧
    (let d := rset .EAV_SEG_STATE 7 0 2 (starting 4); rget d .HST_STATUS_STAGE = 4 ∧ rget d .EAV_SEG_STATE 7 = 2) ∧
    (let d := rset .PWR_RSTAT_SP_STATE 41 0 2 (spinesUp (starting 6)); rget d .HST_STATUS_STAGE = 6 ∧ rget d .PWR_RSTAT_SP_STATE 41 = 2 ∧
      d.keeper.spineBad.contains 41 = false ∧ (∀ r, r < 41 → spineOver d r = true)) ∧
    (∀ h ∈ segsBefore 7, rget (rset .EAV_SEG_STATE 7 0 2 (segsUp (starting 4))) .EAV_SEG_STATE h ≠ 2) ∧
    (let d := rset .PWR_RSTAT_CA_STATE 1 0 3 (spinesUp (up (starting 6))); rget d .PWR_RSTAT_CA_STATE 1 = 3 ∧ rget d .PWR_RSTAT_SP_STATE 1 = 0 ∧
      rget d .CMB_RMAP_WITHDRAWN 1 = 0 ∧ (∀ r, r < 42 → spineOver d r = true) ∧ ∀ r, r < 1 → arrayOver d r = true) ∧
    (let s := { up (served []) with keeper := { keeper0 with waking := [0] } }; wakes s 0 = true) := by decide +kernel

theorem test_domains : rget (after (.spineFault 0) (up (served []))) .PWR_RSTAT_SP_STATE 0 = 2 ∧
    rget (after (.combArrayPllLoss 0) (up (served []))) .PWR_RSTAT_CA_STATE 0 = 3 ∧
    rget (after (.domainReady 2) (rset .EAV_SEG_STATE 1 0 2 (starting 2))) .EAV_SEG_STATE 1 = 0 ∧
    rget (after (.domainReady 50) (rset .PWR_RSTAT_SP_STATE 41 0 2 (spinesUp (starting 6)))) .PWR_RSTAT_SPLL_LOCK 41 = 1 ∧
    (let s := rset .PWR_RSTAT_CA_STATE 0 0 2 { up (served []) with keeper := { keeper0 with waking := [0] } };
      rget (after (.domainReady 51) s) .PWR_RSTAT_CA_STATE 0 = 0) := by decide +kernel

def idleState : State := rset .PWR_CTRL_AUTO_SLEEP 0 0 1 { up (served []) with keeper := { keeper0 with idle := [(0, 65535)] } }

theorem test_idle_sleep : rget idleState .PWR_CTRL_AUTO_SLEEP = 1 ∧ rget idleState .PWR_CTRL_IDLE_TICKS ≤ tget 0 idleState.keeper.idle 0 ∧
    rget idleState .PWR_RSTAT_CA_STATE 0 = 0 ∧ idleState.keeper.testing.contains 0 = false ∧
    rget (after (.idleSleep 0) idleState) .PWR_RSTAT_CA_STATE 0 = 2 := by decide +kernel

theorem test_idle_premise : ∀ c a, c < 16 → (ctxGet idleState c).allot = some a → a.hasRegion 0 = false := by
  intro c a _ h
  exact absurd h (by simp [ctxGet, idleState, up, served, rset, tget, ctx0])

theorem test_mesh_link : rget (after (.meshLinkCheckFail 0 0 ⟨1, false⟩) (up (served []))) .MSH_EVT_COUNT 0 3 = 1 ∧
    (let s := { up (served []) with links := [(meshKey 0 1, ⟨3, false⟩)] };
      (tget link0 s.links (meshKey 0 1)).fails = 3 ∧ rget (after (.meshLinkCheckFail 0 0 ⟨1, true⟩) s) .PWR_RSTAT_SP_STATE 0 = 2) := by decide +kernel

/-! ### Bring-up -/

theorem test_stage_premises : (∀ st ∈ [0, 1, 2, 3, 5], stageOpen (starting st) = true ∧ stageOf (starting st) = st) ∧
    (stageWork 2 {} (rset .EAV_SEG_STATE 1 0 0 (starting 2))).isSome = true ∧ rget (rset .EAV_SEG_STATE 1 0 0 (starting 2)) .EAV_SEG_STATE 1 = 0 ∧
    fwCheck (starting 1) (starting 1).flash.image ≠ 0 ∧ (starting 1).flash.pendingImage = none ∧
    ({ fuseEcc := some 5 } : StageResult).fuseEcc.isSome = true := by decide +kernel

theorem test_stage_zero : let t := after (.stageEnd {}) (starting 0)
    rget t .CLK_STATUS_REF_OK = 1 ∧ rget t .CLK_STATUS_KPLL_LOCK = 1 ∧ rget t .HST_STATUS_STAGE = 1 := by decide +kernel

/-! ### Self-test and repair -/

def rotating : State := rset .BST_CTRL_SCOUTS 0 0 1 (rset .BST_CTRL_ROTATION 0 0 1 (up (served [])))

theorem test_repair_premises : let s := rotating
    s.keeper.inReset = false ∧ rget s .BST_CTRL_ROTATION ≠ 0 ∧ rget s .BST_CTRL_SCOUTS ≠ 0 ∧ (pcGet s 0).good = true ∧ (pcGet s 0).test = 33 ∧
      (pcGet s 0).suiteDone = false ∧ rget (rset .BST_CTRL_MARGIN 0 0 1 s) .BST_CTRL_MARGIN ≠ 0 ∧ s.keeper.slicing.contains 0 = false ∧
      absentComb s 0 = false ∧ rget s .PWR_RSTAT_CA_STATE (regionOf 0) < 2 ∧ rget s .TND_STATUS_MODE 0 ≠ 3 := by decide +kernel

theorem test_scouts : (after .rotationGridPoint rotating).keeper.grid = 1 ∧ (pcGet (after (.scoutVerdict 0 0 33 .pass) rotating) 0).suiteDone = true := by
  decide +kernel

theorem test_nominal_fail : (pcGet (after (.scoutVerdict 0 0 33 (.nominal 4)) rotating) 0).fenced = [33] := by decide +kernel

/-- A comb fault on comb (0, 0): its comb is absent, serves no context, or serves one in one of three phases. -/
def faulty (s : State) : State := { s with combFaults := [0] }

theorem test_fence_premises : (∀ s ∈ [served [], rset .CMB_STATUS_STATE 0 0 3 (served []), runs { ctxRun with phase := .wait }, runs ctxRun,
      runs { ctxRun with phase := .released }],
    (faulty s).combFaults.find? (fun k => pcOf (faulty s) k == pcIx 0 0) = some 0 ∧ s.keeper.inReset = false ∧ (pcGet s 0).good = true) ∧
    absentComb (rset .CMB_STATUS_STATE 0 0 3 (served [])) 0 = true ∧ ctxOfComb (served []) 0 = none ∧ ctxOfComb (runs ctxRun) 0 = some 0 := by decide +kernel

theorem test_fence : (pcGet (after (.combFence 0 0) (faulty (runs { ctxRun with phase := .released }))) 0).moving = true ∧
    (pcGet (after (.combFence 0 0) (faulty (served []))) 0).good = false := by decide +kernel

theorem test_comb_fault : (after (.combSharedLogicFault 0 0) (runs ctxRun)).combFaults = [0] ∧
    tenderRuns rotating 0 = true ∧ (pcGet (after (.housekeepingSlice 0 0 true) rotating) 0).beat = 1 ∧
    (let t := after (.housekeepingSlice 0 0 false) rotating; (pcGet t 0).fault = true ∧ t.combFaults = [0] ∧ tenderRuns t 0 = false) ∧
    lcOf rotating 0 = some 0 := by decide +kernel

theorem test_spare : lcOf (served []) (pcIx 4 0) = none ∧ (pcGet (after (.spareCombTest 4 0 false) (served [])) (pcIx 4 0)).good = false ∧
    { (served []) with keeper := { keeper0 with testing := [41] } }.keeper.testing.contains 41 = true := by decide +kernel

/-- The region tests bin the rows of their region (R326): 64 ms for row 5, 256 ms again for row 7. -/
theorem test_region_bins : let s := binRegion 0 [(5, 0)] { (served []) with rowBins := [(7, 1)] }
    tget s.start.binBase s.rowBins 5 = 0 ∧ tget s.start.binBase s.rowBins 7 = 2 := by decide +kernel

/-- The first worker of an anomaly, which waits for the test, becomes the reserve (R320). -/
theorem test_anomaly_waiting : let k := anomalyPassed 4 { (pcGet (served []) 0) with test := 3, reserve := 63, waiting := [4], reserveDone := false }
    k.test = 3 ∧ k.reserve = 4 ∧ k.waiting = [] ∧ k.reserveDone = true := by decide +kernel

theorem test_life : let t := after .serviceLifePrediction (served [])
    rget t .BST_LIFE_DAYS ≤ 65535 ∧ (served []).keeper.inReset = false := by decide +kernel

/-! ### Fabric ports -/

/-- A module whose segment 2, where port 0 stands, is on. -/
def lit : State := rset .EAV_SEG_STATE 2 0 0 (served [])

/-- Port 0 is up with all its lanes, on a module whose topology is set; a block waits for its acknowledgement. -/
def portState : State :=
  rset .PRT_STATUS_PEER_VALID 0 0 1 <| rset .PRT_TOPO_VALID 0 0 1 (rset .PRT_STATUS_STATE 0 0 2
    { lit with ports := [(0, { port0 with retry := [(false, {})], resends := (0, 14) })] })

theorem test_port_premises : 2 ≤ rget portState .PRT_STATUS_STATE 0 ∧ portLive portState 0 = true ∧ (portGet (ackRetry 0 0 portState) 0).rxSeq = 0 ∧
    (portGet (ackRetry 0 0 portState) 0).fails + 1 < 16 ∧ (∃ e ∈ (portGet portState 0).retry, e.2.seq.toNat = 0 % 65536) ∧
    (portGet portState 0).resends = (0, 14) := by decide +kernel

theorem test_port_blocks : (portGet (after (.packetBlock 0 { ack := 0xFFFF } true) portState) 0).rxSeq = 1 ∧
    (portGet (after (.packetBlock 0 { seq := 1, ack := 0xFFFF } true) portState) 0).rxSeq = 0 ∧
    (portGet (after (.streamBlock 0 { ack := 0xFFFF } false) portState) 0).discard = true ∧
    (portGet (after (.idleBlock 0 { ack := 0xFFFF }) portState) 0).retry.length = 1 := by decide +kernel

theorem test_port_records : (portGet (after (.creditRecord 0 0x0000800000000005) portState) 0).returned = [(1, 5)] ∧
    rget (after (.resendRecord 0 0 3) portState) .PRT_EVT_COUNT 0 1 = 1 ∧ (portGet (after (.resendRecord 0 0 3) portState) 0).resends = (0, 15) ∧
    (let s := { portState with ports := [(0, { port0 with retry := [(false, {})], resends := (0, 15) })] };
      rget (after (.resendRecord 0 0 3) s) .PRT_STATUS_STATE 0 = 0) := by decide +kernel

theorem test_port_link_premises : fld (0#64).toNat 46 2 < 2 ∧ fld (0x0000400000000000#64).toNat 46 2 = 1 ∧
    bit (rget (rset .PRT_LANES_RX_OK 0 0 0xFFFF portState) .PRT_LANES_RX_OK 0) 15 = true ∧
    rget (rset .PRT_LANES_RX_W1SP 0 0 15 portState) .PRT_LANES_RX_W1SP 0 = 15 ∧ portPowered portState 0 = true ∧
    rget lit .PRT_STATUS_STATE 0 = 0 ∧ ({ ok := true, fibre := 300 } : TrainResult).fibre.toNat ≤ 300 := by decide +kernel

theorem test_port_links : rget (after (.portRetrain 0) lit) .PRT_STATUS_STATE 0 = 1 ∧
    rget (after (.portTraining 0 { ok := true, fibre := 300 }) lit) .PRT_LAT_LAT 0 = 280 ∧
    rget (after (.portTraining 0 { ok := true, fibre := 300, tx := 0x7FFF }) lit) .PRT_STATUS_STATE 0 = 3 ∧
    rget (after (.identRecord 0 0x0000154000000003) portState) .PRT_STATUS_PEER 0 = 0x55 ∧
    rget (after (.downRecord 0 0) portState) .PRT_STATUS_CAUSE 0 = 4 ∧ rget (after (.lossOfLight 0) portState) .PRT_STATUS_CAUSE 0 = 1 ∧
    rget (after (.portSilent 0) portState) .PRT_STATUS_CAUSE 0 = 2 := by decide +kernel

theorem test_spares : rget (after (.spareRecord 0 0x0008000000000000) portState) .PRT_LANES_TX_W1SP 0 = 0 ∧
    rget (after (.laneFault 0 9 false) (rset .PRT_LANES_RX_W1SP 0 0 15 (rset .PRT_LANES_RX_OK 0 0 0xFFFF portState))) .PRT_LANES_RX_W1SP 0 = 1 ∧
    (portGet (after (.spareackRecord 0 0x0009000000000000) { portState with ports := [(0, { port0 with ctl := [0x0309000000000000] })] }) 0).ctl = [] := by
  decide +kernel

theorem test_mirror : let s := { (served []) with mirror := [(3, ⟨2, 1, true, []⟩)] }
    mirrorClear s 3 = false ∧ mirrorClear s 4 = true ∧ rget s .PRT_MIRSTAT_SUSPENDED 0 3 ≠ 1 ∧
    rget (after (.mirrorWaitTimeout 3) s) .PRT_MIRSTAT_CAUSE 0 3 = 3 ∧
    rget (after (.mirrorResume .pf 3) (after (.mirrorWaitTimeout 3) s)) .PRT_MIRSTAT_SUSPENDED 0 3 = 0 := by decide +kernel

theorem test_admit : rget (after (.admitOpen .pf true) (rset .PRT_TWIN_ADMIT 0 0 1 (served []))) .PRT_TWIN_ADMIT = 2 ∧
    rget (rset .PRT_TWIN_ADMIT 0 0 1 (served [])) .PRT_TWIN_ADMIT = 1 := by decide +kernel

/-- X 2 of 0 to 3, Y 1 of 0 to 1, P 1: module 0x112. -/
theorem test_topology : (∀ c, c < 16 → runOrHeld (served []) c = false) ∧ (∀ k, k < 6 → rget (served []) .PRT_STATUS_STATE k < 2) ∧
    runOrHeld (runs ctxRun) 0 = true ∧ rget (after (.prtTopoWrite .pf 0xCC484000) (served [])) .PRT_TOPO_MODULE = 0x112 ∧
    rget (after (.prtTopoWrite .pf 0xCC484000) (runs ctxRun)) .PRT_TOPO_MODULE = 0 := by decide +kernel

/-! ### Registers and the hive window -/

/-- `PWR_CTRL`, a register of 32 bits, and `CLK_CYCLE`, one of 64 that the module counts. -/
def pwrCtrl : BitVec 64 := 0x3500000000004000#64

def clkCycle : BitVec 64 := 0x3500000000004110#64

theorem test_register_premises : (∃ r, r ∈ regRows ∧ regHit (served []) .pf pwrCtrl.toNat = .reg r 0 0 0 ∧ accessOk r 0 4 = true ∧ accessOk r 0 8 = false ∧
      canWrite (served []) .pf r 0 0 = true ∧ r.r ≠ .MSG_QPOP ∧ r.bits = 32) ∧
    (∃ r, r ∈ regRows ∧ regHit (served []) .pf clkCycle.toNat = .reg r 0 0 0 ∧ r.bits = 64 ∧ latches r = true ∧ r.r ≠ .MSG_QPOP ∧
      accessOk r 0 8 = true) := by
  decide +kernel

theorem test_registers : rget (after (.registerWrite .pf pwrCtrl 4 0xFFFFFFFF) (served [])) .PWR_CTRL_AUTO_SLEEP = 1 ∧
    (let s := { (served []) with cycle := 0x500000007 };
      (after (.lowHalfRead .pf clkCycle) s).readData = 7 ∧ (after (.lowHalfRead .pf clkCycle) s).latch = [(.pf, clkCycle.toNat, 5)] ∧
      (after (.rcCounterRead .pf clkCycle 8) s).readData = 0x500000007) := by decide +kernel

def debugOn (s : State) : State := rset .SEC_STATE_STATE 0 0 3 s

theorem test_debug_premises : dbgReach (debugOn (slotRun [] 0 0)) .pf 0 = true ∧ isPf .pf = true ∧ (0x80000000#32).getLsbD 30 = false ∧
    (let s := rset .WRK_DBG_HALT 0 0 1 (debugOn (slotRun [] 0 0));
      (wGet s 0).act.present = true ∧ (wGet s 0).stopped = false ∧ rget s .WRK_DBG_HALT 0 = 1 ∧ ctxOfComb s 0 = some 0 ∧ stepping s 0 = true ∧
        pick s 0 (wGet s 0) = some 0) ∧
    (objGet (debugOn (slotRun [] 0 0)) 0 4095).ty = 0 ∧
    (let s := debugOn (syncRun 5 1 7 0 0 false); fieldDebug s = true ∧ absentComb s 0 = false ∧ (wGet s 0).queues.getD 0 [] ≠ []) := by decide +kernel

theorem test_debug : rget (after (.wrkDbgHalt .pf 0 0 0 0x80000000) (debugOn (served []))) .WRK_DBG_HALT 0 = 1 ∧
    (objGet (after (.synObjWrite .pf 0 0 4095 77) (debugOn (served []))) 0 4095).value = 77 ∧
    (after (.msgQpopRead .pf 0 0 0 0) (debugOn (syncRun 5 1 7 0 0 false))).readData = 5 ∧
    rget (after (.wrkDbgStep .pf f0) (rset .WRK_DBG_HALT 0 0 1 (debugOn (slotRun [] 0 0)))) .WRK_ISSUED_COUNT 0 = 1 := by decide +kernel

/-- The window at base 0 shows eave memory of the physical function; channel 0 is in service there. -/
def windowState (b : Nat) : State := rset .HST_WIN_BASE_BASE 0 0 b { (up (served [])) with mem := [(emKey 0 64, 9)] }

theorem test_window_premises : (hostGet (windowState 0) 0).d3 = false ∧ windowAddr (windowState 0) 0 0 = 0 ∧
    windowFault (windowState 0) .pf 0 8 false = false ∧ windowFault (windowState 0) .pf 0 8 true = false ∧
    (let s := windowState 0x3500000;
      fld (windowAddr s 0 0x4110) 60 4 = 3 ∧ windowFault s .pf (windowAddr s 0 0x4110) 8 false = false) ∧
    (let s := windowState 0x7000000;
      windowFault s .pf (windowAddr s 0 0) 8 false = true ∧ windowFault s .pf (windowAddr s 0 0) 8 true = true ∧
        rget s .HST_AFINFO_VALID 0 = 0) := by decide +kernel

theorem test_window_fault : let t := after (.hiveWindowRead 0 0 ⟨4, []⟩) (windowState 0x7000000)
    t.readData = 0xFFFFFFFF ∧ rget t .HST_AFINFO_VALID 0 = 1 ∧ rget t .HST_EVT_COUNT 0 2 = 1 := by decide +kernel

theorem test_window_read : (after (.hiveWindowRead 0 0 ⟨4, []⟩) (windowState 0)).readData = 9 := by decide +kernel

/-! ### DMA -/

/-- A descriptor that copies 64 bytes from 0x1000 to 0x2000 of the local store of worker 0 of comb (0, 0). -/
def copyDesc : List Byte := sparse 64 [(4, 64), (8, 2 <<< 60 ||| 0x1000), (16, 2 <<< 60 ||| 0x2000), (0x3C, 0x85CF06F5)]

/-- Channel 0 in a state, with its current descriptor at 0 of that store. -/
def dmaAt (x : DmaCh) (st cur : Nat) (d : List Byte) : State :=
  rset .DMA_CUR_ADDR 0 0 cur (lsWrite 0 0 d (dmaRun 0 x st))

theorem test_descriptor_premises : let s := dmaAt { dma0 with fetch := true } 1 (2 <<< 60) copyDesc
    rget s .DMA_STATUS_STATE 0 = 1 ∧ (dmGet s 0).fetch = true ∧ (dmGet s 0).presetAt = none ∧ (2 <<< 60) % 64 = 0 ∧
      rangeFault (rset .DMA_DONE_BYTES 0 0 0 s) (dmaCtx s 0) (2 <<< 60) 64 = none ∧
      locPoisoned (rset .DMA_DONE_BYTES 0 0 0 s) (dmaCtx s 0) (2 <<< 60) 64 = false ∧
      locRead (rset .DMA_DONE_BYTES 0 0 0 s) (dmaCtx s 0) (2 <<< 60) 64 = copyDesc ∧ dCheck s 0 (2 <<< 60) copyDesc = none := by decide +kernel

/-- 60 zero bytes have a check code that is not 0, so a descriptor of zeros fails its CRC (cause 2). -/
theorem test_descriptor_crc : dCheck (dmaAt dma0 1 0 []) 0 0 (List.replicate 64 0) = some (2, 0, 0) := by decide +kernel

theorem test_descriptor_misplaced : let s := dmaAt { dma0 with fetch := true } 1 (2 <<< 60 + 1) []
    rget s .DMA_CUR_ADDR 0 % 64 ≠ 0 ∧ rget (after (.descriptorStart 0) s) .DMA_STATUS_CAUSE 0 = 9 := by decide +kernel

def noteDesc (notify : Nat) : List Byte := sparse 64 [(2, notify), (4, 64)]

theorem test_complete_premises : (∀ n ∈ [0, 1], let s := rset .DMA_DONE_BYTES 0 0 64 (dmaRun 0 { dma0 with desc := noteDesc n } 1)
      rget s .DMA_STATUS_STATE 0 = 1 ∧ (dmGet s 0).fetch = false ∧ (dmGet s 0).record = none ∧ rget s .DMA_DONE_BYTES 0 = dLen (dmGet s 0).desc ∧
        dNotify (dmGet s 0).desc = (n == 1)) ∧ dmaPlace (dmaRun 0 dma0 1) 0 = true ∧
    dmaPlace { dmaRun 0 dma0 1 with hosts := [(0, { host0 with held := List.replicate 184 ⟨2, 0, none, 0, 0, 0, 0⟩ })] } 0 = false := by decide +kernel

theorem test_transfer_error_premises : (let s := dmaRun 0 { dma0 with desc := copyDesc } 1; 63 < dLen (dmGet s 0).desc) ∧
    (let d := sparse 64 [(4, 64), (8, 1 <<< 60 ||| 63 <<< 36)]
      let s := { dmaRun 0 { dma0 with desc := d } 1 with poison := [cmBlock 0 0] }
      locPoisoned s (dmaCtx s 0) (dSrc (dmGet s 0).desc + 0) 1 = true) := by decide +kernel

theorem test_transfer_error : rget (after (.dmaTransferError 0 0x14 63) (dmaRun 0 { dma0 with desc := copyDesc } 1)) .DMA_STATUS_CAUSE 0 = 0x14 := by
  decide +kernel

theorem test_dma_control_premises : dmaOwned (dmaRun 0 dma0 0) .pf 0 = true ∧ (∀ st ∈ [0, 1, 2, 3], rget (dmaRun 0 dma0 st) .DMA_STATUS_STATE 0 = st) ∧
    (dmGet (dmaRun 0 dma0 3) 0).record = none ∧ (dmGet (dmaRun 0 dma0 3) 0).checkFail = false ∧ rget (dmaRun 0 dma0 3) .DMA_STATUS_CAUSE 0 ≠ 9 ∧
    rget (rset .DMA_STATUS_CAUSE 0 0 9 (dmaRun 0 dma0 3)) .DMA_STATUS_CAUSE 0 = 9 ∧ dRidge copyDesc = false := by decide +kernel

theorem test_dma_control : rget (after (.go .pf 0) (dmaRun 0 dma0 0)) .DMA_STATUS_STATE 0 = 1 ∧
    rget (after (.go .pf 0) (dmaRun 0 dma0 2)) .DMA_STATUS_STATE 0 = 1 ∧ rget (after (.stop .pf 0) (dmaRun 0 dma0 1)) .DMA_STATUS_STOP_PEND 0 = 1 ∧
    (dmGet (after (.resume .pf 0) (dmaRun 0 { dma0 with checkFail := true } 3)) 0).fetch = true ∧
    rget (after (.resume .pf 0) (dmaRun 0 { dma0 with desc := copyDesc } 3)) .DMA_STATUS_STATE 0 = 1 ∧
    rget (after (.preset .pf 0) (dmaRun 0 { dma0 with presets := [copyDesc] } 0)) .DMA_STATUS_STATE 0 = 1 := by decide +kernel

theorem test_skip_abort : rget (after (.skip .pf 0) (dmaRun 0 { dma0 with desc := copyDesc } 3)) .DMA_STATUS_STATE 0 ≠ 3 ∧
    rget (after (.abort .pf 0) (dmaRun 0 { dma0 with desc := copyDesc } 3)) .DMA_STATUS_STATE 0 ≠ 3 := by decide +kernel

/-! ### Streams and drops -/

/-- One run of one block in slots 0 (metadata burst), 1 and 2 of channel 0. -/
def run1 : Run := ⟨0, 1, 0, 0, 0, 0, 1, 0⟩

def streamState (x : Channel) : State := { up (runs ctxRun) with chans := [(0, x)] }

def chan1 : Channel := { chan0 with act := ⟨true, 0, [run1], 0, 0⟩ }

/-- A block of channel 0 on lane 0 of rafter 0 at the top, injected in cycle 160. -/
def blk (st : Nat) (v : Option Nat) : LaneBlk := ⟨5, 0, 0, 0, 0, 0, 160, st, 9, 0, [], v⟩

theorem test_stream_premises : let s := streamState chan1
    chanOwner s 0 = some 0 ∧ stepping s 0 = true ∧ chInService s 0 = true ∧
    ∀ k ∈ [0, 1, 2], (pickProg s 0 chan1.act chan1.sh (slotCycle (rget s .EAV_SEG_RATE 0) 0 k)).runs.findSome?
      (fun r => (runAt r (usableIx k)).map fun e => (r, e)) = some (run1, 0, k) := by decide +kernel

/-- The first data slot takes a read entry, the second one fills it: slot 2 of a channel at its lowest rate begins in cycle 4. -/
theorem test_stream : let t := after (.streamSlot 0 1) (streamState chan1)
    ((chGet t 0).feed.map fun b => (b.st, b.inject)) = [(0, 0)] ∧ ((chGet (after (.streamSlot 0 2) t) 0).feed.map fun b => (b.st, b.inject)) = [(1, 164)] ∧
    (let full := streamState { chan1 with feed := List.replicate 32 (blk 1 none) }; 32 ≤ (chGet full 0).feed.length ∧
      (ctxGet (after (.streamSlot 0 1) full) 0).schedFault = true) ∧ (chGet (after (.maintenanceSlot 0 15 .scrub) (streamState chan1)) 0).nextSlot = 16 := by
  decide +kernel

theorem test_feed_premises : let s := streamState { chan1 with feed := [blk 1 none], repairs := [⟨blk 2 none, 0⟩, ⟨blk 2 none, 1⟩] }
    s.poison.contains (emBlockKey 0 0 0) = false ∧ 2 ≤ (chGet s 0).repairs.length ∧ ((chGet s 0).repairs[0]?.map (·.tries)) = some 0 ∧
      ((chGet s 0).repairs[1]?.map (·.tries)) = some 1 := by decide +kernel

theorem test_feed : let s := streamState { chan1 with feed := [blk 1 none] }
    (after (.rafterInject 0 true) s).lane = [blk 1 none] ∧ (after (.rafterInject 0 false) s).lane = [blk 2 none] ∧
    (let r := streamState { chan1 with repairs := [⟨blk 2 none, 1⟩] }; (after (.rereadVerdict 0 0 false) r).poison = [emBlockKey 0 0 0]) ∧
    (let r := streamState { chan1 with repairs := [⟨blk 2 none, 0⟩] }; (chGet (after (.rereadVerdict 0 0 false) r) 0).repairs = [⟨blk 2 none, 1⟩]) := by
  decide +kernel

/-- Comb (0, 0) takes what arrives on lane 0 of its top rafter in cycle 168 (R239: 160 + 8) into block 3 of its memory. -/
def rec1 : DropRec := ⟨2, 0, 0, 168, 168, some 3, 0⟩

def dropState (st : Nat) : State := { runs ctxRun with lane := [blk st none], drops := [(0, (⟨true, [], [rec1], 0, 0⟩, drop0))] }

theorem test_drop_premises : let s := dropState 1
    rafterOf 0 2 = (0, 0, 0) ∧ arrivalAt 160 0 = 168 ∧ ctxHas s 0 0 = true ∧ stepping s 0 = true ∧ (ctxGet s 0).arm = .none ∧
      (dropGet s 0).1.recs.find? (fun r => r.takes 2 0 168) = some rec1 ∧
      s.lane.find? (fun b => b.chan / 256 == 0 && b.rafter == 0 && b.lane == 0 && !b.seen.contains 0) = some (blk 1 none) := by decide +kernel

theorem test_drop : mget (after (.dropArrival 0 0 2 0 ⟨true, 0⟩) (dropState 1)).mem (cmKey 0 384) = 9 ∧
    (after (.dropArrival 0 0 2 0 ⟨true, 0⟩) (dropState 2)).dropWaits.length = 1 ∧ (after (.dropArrival 0 0 2 0 ⟨false, 0⟩) (dropState 1)).laneFails = [(0, 1)] := by
  decide +kernel

def waitState (w : Option Nat) : State := { dropState 2 with lane := [blk 2 (some 1)], dropWaits := [⟨5, 0, w, 3, false⟩] }

theorem test_repair_answer : (∀ w ∈ [none, some 0], (waitState w).dropWaits.find? (fun d => d.comb == 0 &&
      match (waitState w).lane.find? (fun b => b.id == d.id) with | some b => b.st != 2 || b.verdict.isSome | none => false) = some ⟨5, 0, w, 3, false⟩) ∧
    Memory.wf (waitState none).mem = true ∧ mget (after (.repairAnswer 0 0 0) (waitState none)).mem (cmKey 0 384) = 9 := by decide +kernel

theorem test_lane_test : let s := { (served [(0, ctxIdle)]) with laneTests := [0] }
    s.laneTests.contains 0 = true ∧ (∀ c ∈ rafterHolders s 0 0, stepping s c = false) ∧
    rget (after (.rafterLaneTest 0 0 0 [⟨0, 0, 32⟩]) s) .RFT_STAT_SPARES 0 0 = 32 ∧ rget (after (.rafterLaneTest 0 0 0 [⟨0, 0, 32⟩]) s) .RFT_STAT_FAILED 0 0 = 0 ∧
    rget (after (.rafterLaneTest 0 0 0 [⟨0, 0, 33⟩]) s) .RFT_STAT_FAILED 0 0 = 1 := by decide +kernel

theorem test_scrub : (chGet (served []) 2047).scrubAt + 1 < 2033600 ∧ (after (.patrolScrubRead 2047 [15]) (served [])).scrubLog = [(2047, 0)] ∧
    tget 2 (after (.cmemRefresh 0 0 0 0 ⟨[63], 0⟩) (served [])).rowBins 0 = 1 ∧
    (after (.cmemRefresh 0 0 0 0 ⟨[63], 0⟩) (served [])).poison = [cmKey 0 (63 * 2048) / 128] := by decide +kernel

theorem test_context_memory : let s := ctxIn ctxRun 1
    rget s .CTX_STATE_STATE 0 ≠ 0 ∧ rget s .CTX_STATE_STATE 0 ≠ 5 ∧ (ctxGet s 0).cfgWritten = false ∧
    (ctxGet (after (.eavCtxCfgWrite .pf 0 0) s) 0).cfgWritten = true ∧ rget (after (.eavCtxCfgWrite .pf 0 0x8000000000000000) s) .EAV_CTX_CFG_GRANULE 0 0 = 2 ∧
    (ctxGet (ctxIn { ctxRun with cfgWritten := true } 1) 0).cfgWritten = true := by decide +kernel

/-! ### SPDM -/

def attesting : State := rset .SEC_STATE_KEY_OK 0 0 1 (rset .SEC_STATE_STATE 0 0 2 (served []))

theorem test_spdm_premises : spdmUp attesting = true ∧ attests attesting = true ∧ canSign attesting = true ∧ (⟨.i3c, none⟩ : Via).session = none ∧
    measureIndices attesting ⟨.i3c, none⟩ 6 ≠ [] ∧ (List.range 4).find? (fun k => (sessionOf attesting k).isNone) = some 0 := by decide +kernel

def inSess (opened : Bool) (p : Binding) : State := { attesting with sec := { sec0 with sessions := [(3, ⟨p, opened, 0⟩)] } }

theorem test_session_premises : sessionOf (inSess false .i3c) 3 = some ⟨.i3c, false, 0⟩ ∧ sessionOf (inSess true (.doe 0)) 3 = some ⟨.doe 0, true, 0⟩ ∧
    spdmUp (inSess true (.doe 0)) = true ∧ (⟨.doe 0, some 3⟩ : Via).session = some 3 ∧ lcPath ⟨.doe 0, some 3⟩ = true ∧
    rget (rset .HST_STATUS_IDE 0 0 1 (inSess true (.doe 0))) .HST_STATUS_IDE = 1 := by decide +kernel

theorem test_spdm : (after (.getVersion ⟨.i3c, none⟩) attesting).reply = some ⟨"VERSION", 0, [0x13]⟩ ∧
    sessionOf (after (.finish ⟨.i3c, some 3⟩ true) (inSess false .i3c)) 3 = some ⟨.i3c, true, 0⟩ ∧
    sessionOf (after (.finish ⟨.i3c, some 3⟩ false) (inSess false .i3c)) 3 = none ∧
    (after (.endSession ⟨.doe 0, some 3⟩) (inSess true (.doe 0))).sec.sessions = [] ∧
    rget (after (.ideKm ⟨.doe 0, some 3⟩) (inSess true (.doe 0))) .HST_STATUS_IDE = 1 := by decide +kernel

/-! ### Static networks, courses and records -/

/-- The vector switch of comb (0, 0) moves the word of VO0 of worker 0 to VI0 of worker 0, whose FIFO holds `n` words. -/
def netState (n : Nat) : State :=
  { runK { wkOn 0 0 0 with fifo := [List.replicate n ⟨false, [1], 0⟩, [], [], [], [], []] } with
    switches := [(0, { switch0 with act := ⟨true, 1, [], [⟨0, 0, 4, [4], 1⟩]⟩, qs := [(4, [⟨false, [7], 0⟩])] })] }

theorem test_network_premises : ∀ n ∈ [3, 4], let s := netState n
    let k := swGet s 0 0
    let g := groupOf k 4
    ctxOfComb s 0 = some 0 ∧ stepping s 0 = true ∧ k.marks = [] ∧ g ≠ [] ∧ (∀ r ∈ g, k.open r = true) ∧ groupWords k 0 s.cycle g = true ∧
    k.stallAt ≠ some s.cycle ∧
      ∀ r ∈ g, outRoom s 0 0 r.2.out = (n == 3) := by decide +kernel

theorem test_network : ((wGet (after (.routeGroupFire 0 0 .vector 4) (netState 3)) 0).fifo.getD 0 []).length = 4 ∧
    (let t := after (.routeGroupFire 0 0 .vector 4) (netState 4)
     vget t .NET_STATUS_STALLED 0 0 = 1 ∧ (swGet t 0 0).stallAt = some t.cycle ∧
     rget (after (.routeGroupFire 0 0 .vector 4) t) .NET_EVT_COUNT 0 0 = 1) ∧ (neighbour 0 1).isSome = true ∧
    innerSide 0 1 = true ∧ innerSide 41 0 = true ∧ innerSide 6 1 = false := by decide +kernel

/-- The east input of comb (0, 0) holds two words; its link has failed three times in a row. -/
def linkState : State :=
  { runs ctxRun with switches := [(0, { switch0 with qs := [(1, [⟨false, [1], 0⟩, ⟨false, [2], 0⟩])] })], links := [(linkKey 0 0 1, ⟨3, false⟩)] }

/-- The failed word, and not the one before it, is there again after the re-send; the fourth failure stops the link. -/
theorem test_links : linkStopped linkState 0 0 1 = false ∧
    (let t := after (.staticLinkCheckFail 0 0 .vector 1 0 ⟨false, 400⟩) linkState
     rget t .NET_EVT_COUNT 0 3 = 1 ∧ rget t .CTX_STEPSTAT_SLIP 0 = 400 ∧ ((swGet t 0 0).q 1).map (·.cyc) = [0, 400]) ∧
    (let t := after (.staticLinkCheckFail 0 0 .vector 1 1 ⟨true, 0⟩) linkState
     t.combFaults = [0] ∧ linkStopped t 0 0 1 = true ∧ ((swGet t 0 0).q 1).map (·.cyc) = [2 ^ 64, 2 ^ 64]) ∧
    rget (after (.portParityError 0 0 0 3) (runs ctxRun)) .WRK_FAULT_DETAIL 0 = 3 := by decide +kernel

/-- Context 0 holds regions 0 and 1, and the control switch of comb (3, 0) sends eastward over the crossing between them. -/
def crossState : State :=
  { runs { ctxRun with allot := some ⟨0, 1, 0, 0, [0], [(0, 0)], [0, 64], 0, 0⟩ } with
    switches := [(3 * 3 + 2, { switch0 with act := ⟨true, 1, [], [⟨0, 0, 1, [4], 1⟩]⟩ })] }

theorem test_crossing : crossingUser crossState 0 1 0 = true ∧ crossingUser crossState 0 1 1 = false ∧
    (after (.crossingWander 0 1 9 0) crossState).repins = [(1, 0)] ∧ rget (after (.crossingWander 0 1 9 0) crossState) .NET_XING_WANDER 0 = 4 ∧
    rget (after (.portParityError 0 0 0 3) (runs ctxRun)) .WRK_FAULT_DETAIL 0 = 3 := by decide +kernel

/-- The second residue error at a comb in a replay is a comb fault (R132). -/
theorem test_residue : let s := runs { ctxRun with replayed := true, residueHist := [0] }
    ctxOfComb s 0 = some 0 ∧ (ctxGet s 0).replayed = true ∧ (ctxGet s 0).residueHist.contains 0 = true ∧
    (after (.residueMismatch 0 0 4) s).combFaults = [0] := by decide +kernel

/-- A worker of one thread that has ended, whose program needs CI0 and sends on CO0; a course runs. -/
def flipWk (out : Bool) : Worker :=
  let w := word [(248, 8), (51, 1)]
  let k := wkOn w 0 0
  { k with act := { k.act with threads := 0 }, th := [(0, { thr w 0 0 with ended := true })], marksOut := out
           fifo := [[], [], [], [], [⟨false, [5], 0⟩], []] }

def flipState (out overlap : Bool) : State :=
  { runs { ctxRun with arm := .running overlap } with workers := [(0, flipWk out)] }

theorem test_course_mark_premises : (flipWk false).done = true ∧ coursing (flipState false false) 0 = true ∧ overlappedRunning (flipState true true) 0 = true ∧
    (flipWk false).act.outs = [3] ∧ portRoom (flipState false false) 0 3 = true ∧ (flipWk true).act.ins = [4] ∧
    hasMark (inNet 4) ((flipWk true).fifo.getD 4 []) = true ∧ (flipWk true).flipped = false := by decide +kernel

theorem test_course_marks : (wGet (after (.courseMarkEmit 0 0 0) (flipState false false)) 0).marksOut = true ∧
    (wGet (after (.workerFlip 0 0 ⟨0, []⟩) (flipState true true)) 0).flipped = true := by decide +kernel

def markState (arm : Arm) : State :=
  { runs { ctxRun with arm := arm } with
    switches := [(0, { switch0 with act := ⟨true, 1, [], [⟨0, 0, 4, [4], 1⟩]⟩, qs := [(4, [⟨true, [0], 0⟩])] })] }

theorem test_switch_flip : let s := markState (.running true)
    (swGet s 0 0).act.ins = [4] ∧ isMark 0 ⟨true, [0], 0⟩ = true ∧ ctxOfComb s 0 = some 0 ∧ overlappedRunning s 0 = true ∧
    (swGet (after (.switchFlip 0 0 .vector) s) 0 0).flipped = true ∧
    (ctxGet (after (.courseMarkMismatch 0 0 .vector 4) (markState .none)) 0).schedFault = true := by decide +kernel

theorem test_fault_packet : let r : FaultRec := { cls := 0x33, outcome := 2 }
    let s := { (served []) with faultBuf := [(49, [r])] }
    tget [] s.faultBuf 49 = [r] ∧ s.keeper.inReset = false ∧ (after (.faultPacket 49) s).keeper.log.length = 1 ∧
    rget (after (.faultPacket 49) s) .KPR_FLOG_TOTAL = 1 := by decide +kernel

/-! ### The mesh -/

/-- Address 16 of the memory of comb (0, 0). -/
def combAddr : BitVec 64 := BitVec.ofNat 64 (1 <<< 60 ||| 63 <<< 36 ||| 16)

def rd : Packet := { op := 1, dest := 63, src := 64, addr := combAddr, value := 512 }

def wr (aux : BitVec 32) : Packet := { op := 2, dest := 63, src := 64, flow := 3, aux := aux, addr := combAddr, payload := List.replicate 32 8 }

def opened : State := { up (served []) with rx := [(flowKey (wr 0), ⟨64, 3, 0, false⟩)] }

theorem test_mesh_premises : let s := up (served [])
    intoOff s rd = none ∧ tooOld s rd = false ∧ stale s rd = false ∧ epPort 63 = none ∧ epMem 63 = true ∧ pktSpace combAddr.toNat = true ∧
      rangeFault s none combAddr.toNat 512 = none ∧ writeOk s none combAddr.toNat 32 = true ∧ isOpen (wr 0) = false ∧ isOpen (wr 0x80000000) = true ∧
      (rxOpen s 63).length < 512 ∧ (opened.rx.any fun x => x.1 == flowKey (wr 0)) = true ∧ (tget rx0 opened.rx (flowKey (wr 0))).next = 0 ∧
      stale s { op := 3, dest := 63, ctxv := true, gen := 1 } = true ∧ epPort (portEp 0) = some 0 ∧ epDma (dmaEp 79) = some 79 ∧
      epPort (dmaEp 79) = none := by decide +kernel

theorem test_mesh : ((after (.rdreqPacket ⟨rd, []⟩) (up (served []))).flight.map fun p => (p.op, p.payload.length)) = [(3, 512)] ∧
    mget (after (.wrPacket (wr 0x80000000)) (up (served []))).mem (cmKey 0 47) = 8 ∧ (after (.wrPacket (wr 0)) opened).rx ≠ opened.rx ∧
    (after (.rdrspPacket { op := 3, dest := 63 }) { (up (served [])) with flight := [{ op := 3, dest := 63 }] }).flight = [] := by decide +kernel

/-- A flow 3 from DMA channel 0 has been refused for want of an entry, or waits. -/
def txState (retry : Option Nat) : State := { up (served []) with tx := [(txKey (dmaEp 0) 3, ⟨63, 8, 8, 1, false, retry⟩)] }

theorem test_flow_premises : (txState none).tx.find? (fun x => x.1 == txKey (dmaEp 0) 3) = some (txKey (dmaEp 0) 3, ⟨63, 8, 8, 1, false, none⟩) ∧
    epDma (BitVec.ofNat 16 (dmaEp 0)).toNat = some 0 ∧
    (txState (some 256)).tx.find? (fun x => x.1 == txKey (dmaEp 0) 3 && x.2.retryAt.isSome && !x.2.failed) =
      some (txKey (dmaEp 0) 3, ⟨63, 8, 8, 1, false, some 256⟩) := by decide +kernel

def nack (cause : BitVec 32) : Packet := { op := 5, dest := BitVec.ofNat 16 (dmaEp 0), src := 63, flow := 3, aux := cause }

theorem test_flow : ((after (.nackPacket (nack 2)) (txState none)).tx.map fun x => x.2.retryAt) = [some 256] ∧
    ((after (.nackPacket (nack 3)) (txState none)).tx.map fun x => x.2.failed) = [true] ∧
    ((after (.openRetry (BitVec.ofNat 16 (dmaEp 0)) 3) (txState (some 256))).tx.map fun x => x.2.retryAt) = [none] := by decide +kernel

/-- Channel 0 waits for a credit of its flow to the combs, and the loader engine for the acknowledgement of a block. -/
def creditState : State :=
  { dmaRun 0 { dma0 with desc := copyDesc, opened := [8] } 1 with tx := [(txKey (dmaEp 0) 8, ⟨63, 8, 0, 8, false, none⟩)] }

def loaderState : State := ctxIn { ctxRun with phase := .idle, load := some { doneJob with mwin := [(0, (2, 1))] } } 1

theorem test_window_timeout : creditWait creditState 0 8 = true ∧ isLoader (dmaEp 0) = false ∧
    ((after (.windowTimeout (BitVec.ofNat 16 (dmaEp 0)) 8) creditState).tx.map fun x => x.2.failed) = [true] ∧
    (let e := 31 <<< 11 ||| 32
     isLoader e = true ∧ loaderWait loaderState = true ∧ (ctxGet (after (.windowTimeout (BitVec.ofNat 16 e) 0) loaderState) 0).load = none) := by
  decide +kernel

theorem test_age : let s := { (up (served [])) with cycle := 1001000, flight := [rd] }
    tooOld s rd = true ∧ rd.op ≠ 13 ∧ (after (.packetAgeDrop 0 0 rd) s).flight = [] ∧ tooOld { s with cycle := 1000999 } rd = false := by decide +kernel

/-- A tuple of two words to queue 2 of worker 0 of comb (0, 0), for context 0. -/
def snd : Packet :=
  { op := 6, dest := 0, src := 64, tlen := 1, ctxv := true, addr := BitVec.ofNat 64 (quAddr 0 0 0 2), payload := sparse 32 [(0, 5), (4, 6)] }

def msgState : State := up (runK (syncWk 4 0 7 0 0 false))

theorem test_message_premises : let s := msgState
    intoOff s snd = none ∧ tooOld s snd = false ∧ epOnGrid 0 = true ∧ epN 0 ≤ 31 ∧ queueOk s 0 snd = true ∧ queueOk (up (runs ctxRun)) 0 snd = false ∧
      stale s snd = false ∧ (qbind (wGet s 0) 1).isSome = true ∧ bit (2#32).toNat 8 = false := by decide +kernel

theorem test_messages : ((wGet (after (.sendPacket snd) msgState) 0).queues.getD 2 []).map (·.words) = [[5, 6]] ∧
    (wGet (after (.creditPacket { op := 7, dest := 0, ctxv := true, flow := 1, aux := 31 }) msgState) 0).cred.getD 1 0 = 4 ∧
    (objGet (after (.sigPacket { op := 8, dest := 63, value := 0x10005, addr := BitVec.ofNat 64 (soAddr 0 0 9) }) msgState) 0 9).value = 5 ∧
    (let s := up (runK { syncWk 4 0 7 0 0 false with unacked := [0, 2, 0, 0, 0, 0, 0, 0] })
     (wGet (after (.sigackPacket { op := 9, dest := 0, ctxv := true, flow := 1 }) s) 0).unacked.getD 1 0 = 1) := by decide +kernel

def ridge (value : BitVec 32) : Packet := { op := 10, dest := BitVec.ofNat 16 keeperEp, ctxv := true, aux := 1, value := value }

theorem test_ridge_packet : let s := spanned (up (runs ctxRun))
    intoOff s (ridge 0) = none ∧ (spanPeers s 0).contains 1 = true ∧ rget s .CTX_STATE_STATE 0 = 2 ∧
    (ctxGet (after (.ridgePacket (ridge 0)) s) 0).peers = [1] ∧ (ctxGet (after (.ridgePacket (ridge 1)) s) 0).ridgeDropped = 1 := by decide +kernel

theorem test_delivery_premises : let s := ctxIn { ctxRun with phase := .idle, load := some doneJob } 1
    let p : Packet := { op := 11, dest := BitVec.ofNat 16 (31 <<< 11 ||| 16), src := BitVec.ofNat 16 keeperEp }
    intoOff s p = none ∧ loadingCtx s = some 0 ∧ mcastRoom s 0 p = true ∧ (ctxGet s 0).load = some doneJob ∧ doneJob.accepted = true ∧
    (ctxGet (after (.multicastAckTimeout 0) s) 0).load = none := by decide +kernel

theorem test_timeouts : let w := { wkOn 0 0 0 with th := [(0, { thr 0 0 0 with park := .wait 9 3 })] }
    let c := { syncWk 4 0 7 0 0 false with th := [(0, { thr 0 0 0 with park := .credit 1 [7] })] }
    (thGet (runK w) 0 0).park = .wait 9 3 ∧ (thGet (runK c) 0 0).park = .credit 1 [7] ∧ (qbind (wGet (runK c) 0) 1).isSome = true ∧
    (thGet (after (.waitSendTimeout 0 0 0 0) (runK w)) 0 0).park = .none ∧ rget (after (.waitSendTimeout 0 0 0 0) (runK c)) .WRK_EVT_COUNT 0 5 = 1 := by
  decide +kernel

/-! ### Further premises, clause by clause -/

theorem test_packed_premises : ∀ fmt ∈ [2, 3], let s := vecOn (vecSlot 0x20 fmt) 7 9
    issues f0 s = true ∧ onlyVector (slotNow f0 s) = true ∧ vecLsOk f0 s false = true ∧ vfPacked (vfOf (slotNow f0 s).vfmt) = true ∧
      (wGet s (fireWk f0)).upsets = [] := by decide +kernel

theorem test_comb_fault_premises : (∀ op ∈ [5, 6], ∀ a ∈ [1, 0x7FFFF80], let s := memRun [(92, op), (66, 1)] (BitVec.ofNat 32 a)
      memOk s = true ∧ (slotNow f0 s).memop = op ∧ (memBase f0 s % 128 ≠ 0 ∨ cmSize < memBase f0 s + 128 * ((slotNow f0 s).blocks + 1))) ∧
    (let s := rset .CMB_STATUS_STATE 0 0 3 (memRun [(92, 5)] 0); memOk s = true ∧ absentComb s (combNow f0) = true) := by decide +kernel

/-- Comb (1, 0), to which binding 1 leads, is absent. -/
def goneComb (op : Nat) : State :=
  let k := syncWk op 0 7 0 2 false
  rset .CMB_STATUS_STATE 1 0 3 (runK { k with act := { k.act with qb := [(1, ⟨1, 0, 1, 2, 4⟩)], sb := [(1, ⟨1, 0, 9⟩)] } })

theorem test_absent_premises : syncOk (goneComb 3) = true ∧ sbind (wGet (issued f0 (goneComb 3)) 0) 1 = some ⟨1, 0, 9⟩ ∧
    absentComb (goneComb 3) (cbOf 1 0) = true ∧ absentComb (syncRun 3 0 7 0 0 false) (cbOf 0 0) = false ∧
    syncOk (goneComb 4) = true ∧ qbind (wGet (issued f0 (goneComb 4)) 0) 1 = some ⟨1, 0, 1, 2, 4⟩ ∧ (after (.rsig f0) (goneComb 3)).flight = [] ∧
    (after (.send f0) (goneComb 4)).flight = [] ∧ predOf (thNow f0 (after (.send f0) (goneComb 4))) 3 = false := by decide +kernel

theorem test_reset_premises : ({ (served []) with start := { start0 with shutdown := some (0, 0, 0) } }).start.shutdown.isSome = true ∧
    (rget (starting 6) .HST_STATUS_STAGE < 14 ∧ rget (starting 6) .PWR_HEAT_TRIPPED = 0) ∧ rget (rset .PWR_HEAT_TRIPPED 0 0 1 (starting 6)) .PWR_HEAT_TRIPPED ≠ 0 ∧
    boundCtx (served []) 3 = none ∧ boundCtx (rset .HST_STATUS_BOUND 3 0 1 (served [])) 3 = some 0 ∧ warmReady (served []) = false ∧
    (let t := after .warmModuleReset { (served []) with start := { start0 with warmDue := true } };
      rget t .HST_STATUS_STAGE = 6 ∧ t.start.warmDue = false ∧ rget t .FUS_START_CAUSE = 2) := by decide +kernel

theorem test_context_clauses : grantEarly (takes (cmd 2 0 0) grantState) = false ∧ genOf (ctxIn ctxRun 3) 0 = 0 ∧ movesDue (ctxIn ctxRun 3) 0 = [] ∧
    movesDue moveWaits 0 ≠ [] ∧ actsFor (ctxIn ctxRun 3) (.ctx 1) = some 1 ∧ (0xC0000000#32).toNat / 2 ^ 22 % 256 = 0 ∧ (0xC0000000#32).getLsbD 30 = true ∧
    (let s := { moveWaits with ctxs := [(0, { ctxGet moveWaits 0 with resetReq := some none })] }; resetDue s 0 = true ∧ movesDue s 0 ≠ []) ∧
    (let s := takes (cmd 6 0 0) (ctxIn { ctxRun with resetReq := some none } 1); (ctxGet s 0).resetReq.isSome = true ∧ rget s .CTX_STATE_STATE 0 ∉ [0, 5] ∧
      findCmd s 0 6 = some (cmd 6 0 0) ∧ cmdFail s (cmd 6 0 0) = none) ∧
    (∀ st ∈ [0, 5], rget (takes (cmd 5 256 0) (ctxIn ctxRun st)) .CTX_STATE_STATE 0 = st) ∧ bit 256 8 = true := by decide +kernel

theorem test_grant : let t := after (.grant 0) (takes (cmd 2 0 0) grantState)
    rget t .CTX_STATE_STATE 0 = 1 ∧ genOf t 0 = 1 ∧ (ctxGet t 0).allot.isSome = true := by decide +kernel

theorem test_load_turn : loadTurn (takes (cmd 3 4096 928) (ctxIn { ctxRun with phase := .idle } 1)) 0 = true ∧
    loadTurn { (served []) with taken := [⟨2, 3, 0, 0, 0, 0, false, false⟩, cmd 3 0 0] } 0 = false := by decide +kernel

theorem test_heat_clauses : rget (served []) .CLK_STATUS_RC_ACTIVE ≠ 1 ∧ hotState.keeper.inReset = false ∧ noKeeper.keeper.inReset = true ∧
    rget (rset .PWR_HEAT_TRIPPED 0 0 1 (served [])) .PWR_HEAT_TRIPPED = 1 ∧ rget hotState .PWR_RSTAT_CA_STATE 0 < 3 ∧
    (after (.hotOffReturn 0) (rset .PWR_RSTAT_CA_STATE 0 0 4 { up (served []) with keeper := { keeper0 with cool := [(0, 7)] } })).keeper.waking = [] ∧
    ((tget [] (after (.trip .sensor) hotState).faultBuf 0).map (·.cls)) = [0x31] := by decide +kernel

theorem test_repair_clauses : suiteRuns rotating 0 = true ∧ rotating.keeper.scoutBad = false ∧
    (let s := { rotating with keeper := { rotating.keeper with slicing := [0] } }; s.keeper.slicing.contains 0 = true ∧ ((pcGet s 0).serves 5).isSome = true) ∧
    lcOf rotating (pcIx 34 0) = none ∧ (pcGet rotating (pcIx 34 0)).good = true ∧ absentComb rotating 0 = false ∧
    (let s := { rotating with keeper := { rotating.keeper with testing := [0] } }; s.keeper.testing.contains 0 = true) := by decide +kernel

/-- A block that came early waits at port 0, and one for context 0 finds every flow of the port taken. -/
def earlyState : State := portMod 0 (fun x => { x with early := [(false, { seq := 1, ack := 0xFFFF })] }) portState

def spanState : State :=
  portMod 0 (fun x => { x with inFlows := (List.range 64).map fun i => (i, ⟨none, 0, 0, 0, none, false, 0, i, none⟩) }) (rset .PRT_SPAN_VALID 0 0 1 portState)

def wrBlock : Block := { cls := 2, ack := 0xFFFF, pflow := 99, packet := some { op := 2 } }

theorem test_early_premises : (portGet (ackRetry 0 0xFFFF portState) 0).early = [] ∧
    (portGet (after (.packetBlock 0 { ack := 0xFFFF } true) earlyState) 0).rxSeq = 2 ∧ (portGet (after (.packetBlock 0 { ack := 0xFFFF } true) earlyState) 0).early = [] ∧
    seqLater 1 (portGet portState 0).rxSeq = true ∧ (portGet portState 0).discard = false ∧
    (false, ({ seq := 1, ack := 0xFFFF } : Block)) ∈ (portGet earlyState 0).early ∧ seqLater 0xFFFF (portGet portState 0).rxSeq = false ∧
    waitsFlow spanState 0 false wrBlock = true ∧ waitsFlow portState 0 false {} = false ∧ portLive lit 0 = false ∧
    (portGet (after (.packetBlock 0 wrBlock true) spanState) 0).stall = [(false, wrBlock)] := by decide +kernel

theorem test_failing_block_premises : let s := portMod 0 (fun x => { x with fails := 15 }) portState
    16 ≤ (portGet (ackRetry 0 0xFFFF s) 0).fails + 1 ∧ rget (after (.packetBlock 0 { ack := 0xFFFF } false) s) .PRT_STATUS_STATE 0 = 0 := by decide +kernel

theorem test_link_clauses : fld (0x0000800000000000#64).toNat 46 2 = 2 ∧
    rget (after (.spareRecord 0 0x0000800000000000) (rset .PRT_LANES_TX_OK 0 0 0xFFFF portState)) .PRT_LANES_TX_OK 0 = 0xFFFE ∧
    rget (portDown 0 6 portState) .PRT_STATUS_CAUSE 0 = 6 ∧ (portGet (portDown 0 6 portState) 0).retry = [] ∧
    (portGet lit 0).trainFails < 2 ∧ 2 ≤ (portGet (portMod 0 (fun x => { x with trainFails := 2 }) lit) 0).trainFails ∧
    (∃ e ∈ (portGet portState 0).retry, e.2.seq.toNat = (0#64).toNat % 65536) ∧ (portGet portState 0).resends.2 < 15 := by decide +kernel

theorem test_access_clauses : writeBarred .pf pwrCtrl.toNat = false ∧ viaBar0 .pf = false ∧ dbgHalted (rset .WRK_DBG_HALT 0 0 1 (debugOn (slotRun [] 0 0))) 0 = true ∧
    writeBarred (.bar0 0) (0x3100000000000000#64).toNat = true ∧ (hostGet (after (.powerStateChange 0 true) (windowState 0)) 0).d3 = true := by decide +kernel

/-- A window onto the inbox of function 0. -/
theorem test_window_clauses : let s := windowState 0x3000000
    windowFault s .pf (windowAddr s 0 0) 8 true = false ∧ 3 ≤ fld (windowAddr s 0 0) 60 4 := by decide +kernel

theorem test_descriptor_clauses : (let s := dmaRun 0 { dma0 with fetch := true, presetAt := some 0, presets := [copyDesc] } 1
      (dmGet s 0).presetAt = some 0 ∧ dCheck s 0 (rget s .DMA_CUR_ADDR 0) copyDesc = none ∧ (dmGet s 0).record = none) ∧
    (dmGet (dmaRun 0 { dma0 with desc := copyDesc } 1) 0).fetch = false ∧
    dmaFault (dmaAt { dma0 with fetch := true } 1 (2 <<< 60) copyDesc) none false (2 <<< 60) 64 = none ∧
    (let s := dmaRun 0 { dma0 with desc := sparse 64 [(4, 64), (8, 1 <<< 60 ||| 63 <<< 36)] } 1
     let u := poisonReads none (1 <<< 60 ||| 63 <<< 36) 1 (checkRead none (1 <<< 60 ||| 63 <<< 36) 1 [.failed 0] s)
     dmaCtx s 0 = none ∧ locPoisoned u none (1 <<< 60 ||| 63 <<< 36) 1 = true) := by decide +kernel

theorem test_dma_out : dmaOut (dmaRun 0 dma0 0) 0 = false ∧ dmaOut (rset .EAV_SEG_STATE 0 0 3 (dmaRun 0 dma0 0)) 0 = true ∧
    (dmGet (dmaRun 0 { dma0 with presets := [copyDesc] } 0) 0).presets ≠ [] := by decide +kernel

theorem test_stream_clauses : chanOwner (served []) 0 = none ∧ (let s := streamState chan1
    (run1, 0, 1).2.2 % 2 = 1 ∧ (chGet s 0).feed.length < 32 ∧ s.poison.contains (emBlockKey 0 0 0) = false ∧
      (partnerPlace s 0 0 0 0).isNone = true ∧ (blk 0 none).st = 0) ∧
    (let s := { streamState { chan1 with feed := [blk 1 none] } with poison := [emBlockKey 0 0 0] }
     (chGet (after (.rafterInject 0 true) s) 0).feed = [] ∧ (after (.rafterInject 0 true) s).lane.map (·.st) = [3]) := by decide +kernel

theorem test_scrub_clauses : rget (after (.cmemRefresh 0 0 0 0 ⟨[], 5⟩) (runs ctxRun)) .CTX_STEPSTAT_SLIP 0 = 5 ∧
    tget (rotating.start.binBase) { rotating with rowBins := [(0, 0)] }.rowBins 0 = 0 := by decide +kernel

theorem test_mesh_clauses : let s := up (served [])
    inOrder s rd = true ∧ inOrder { s with flight := [rd, { rd with value := 64 }] } { rd with value := 64 } = false ∧
    waitsTag s rd 512 = false ∧ waitsTag s (wr 0) 32 = false ∧ (tget rx0 opened.rx (flowKey (wr 0))).failed = false ∧
    ({ wr 0 with seq := 3 }).seq.toNat ≠ (tget rx0 opened.rx (flowKey (wr 0))).next ∧ (s.rx.any fun x => x.1 == flowKey (wr 0)) = false ∧
    (let full := { s with rx := (List.range 512).map fun i => (rxKey 63 64 0 + 1024 * 0 + i, rx0) }; 512 ≤ (rxOpen full 63).length) ∧
    (packetStops rd).contains 0 = true ∧ epStop 63 = 0 ∧ isLoader 63 = false ∧
    (let e := BitVec.ofNat 16 (31 <<< 11 ||| 32); isLoader e.toNat = true ∧ mgmtSource { op := 11, src := e, mcast := true } = true) := by decide +kernel

theorem test_refused_flow : let s := up (served [])
    ((after (.wrPacket { wr 0 with seq := 3 }) opened).rx.map fun x => x.2.failed) = [true] ∧
    ((after (.wrPacket { wr 0 with seq := 3 }) opened).flight.map fun p => (p.op, p.aux)) = [(5, 1)] ∧
    (let t := after (.wrPacket (wr 0)) s; (t.flight.map fun p => (p.op, p.aux)) = [(5, 1)] ∧ (after (.wrPacket (wr 0)) t).flight = t.flight) := by decide +kernel

/-! ### The whole machine -/

theorem test_inv : Inv { State.reset with pending := [.nop 0] } := ⟨by decide, by decide⟩

theorem test_step : step { State.reset with pending := [.softStartFault, .nop 0] } = exec .softStartFault { State.reset with pending := [.nop 0] } := by
  rfl

theorem test_idle : step State.reset = .next { State.reset with cycle := 1 } := by rfl

end Sys2Proof.Tests
end

/-! PROOF. Next-slot control: the rows of the table that fire a slot for it, slots whose predicate condition fails, and threads that have
ended (R46 to R49). -/

namespace Sys2Proof.Machine

/-! ### The commands -/

theorem exec_nextSeq (f : Fire) (s : State) : exec (.nextSeq f) s = .next (fireNext f 0 s) := rfl
theorem exec_jump (f : Fire) (s : State) : exec (.jump f) s = .next (fireNext f 1 s) := rfl
theorem exec_brt (f : Fire) (s : State) : exec (.brt f) s = .next (fireNext f 2 s) := rfl
theorem exec_brf (f : Fire) (s : State) : exec (.brf f) s = .next (fireNext f 3 s) := rfl
theorem exec_loop (f : Fire) (s : State) : exec (.loop f) s = .next (fireNext f 4 s) := rfl
theorem exec_endStep (f : Fire) (s : State) : exec (.endStep f) s = .next (fireNext f 5 s) := rfl
theorem exec_ridgeRelease (c : Fin 16) (s : State) : exec (.ridgeRelease c) s = execRidgeRelease c s := rfl

/-! ### Readiness of a thread (R46, R47, R49) -/

/-- A thread that has taken END is not ready. -/
theorem readyOf_ended {s : State} {wk t : Nat} {w : Worker} (h : (w.thr t).ended = true) : readyOf s wk w t = .no := by
  simp [readyOf, h]

/-- A failed predicate condition waits for nothing. -/
theorem readyOf_predFails {s : State} {wk t : Nat} {w : Worker} (he : (w.thr t).ended = false) (hp : (w.thr t).park = .none)
    (h : predOk (slotOf (w.thr t).slot) (w.thr t) = false) : readyOf s wk w t = .fire := by
  simp [readyOf, he, hp, h]

/-- Only a thread that has neither ended nor parked is ready. -/
theorem runs_of_ready {s : State} {wk t : Nat} {w : Worker} (h : readyOf s wk w t ≠ .no) :
    (w.thr t).ended = false ∧ (w.thr t).park = .none := by
  have hc : ¬ ((w.thr t).ended || (w.thr t).park != .none) = true := fun hc => h (by unfold readyOf; exact if_pos hc)
  simpa using hc

/-- R42 never picks a thread that has ended. -/
theorem pick_ne_ended {s : State} {wk t : Nat} {w : Worker} (h : (w.thr t).ended = true) : pick s wk w ≠ some t :=
  fun hp => readyOf_of_pick hp (readyOf_ended h)

/-! ### Rows of next-slot control that fire (R47, R48) -/

theorem goesOn_eq_nextTo (f : Fire) (s0 s : State) : goesOn f s0 s = nextTo f (nextSlot (slotNow f s0)) s := rfl

/-- A row that names the next-slot control of the picked slot fires that slot. -/
theorem fireNext_picked {f : Fire} {s : State} {code : Nat} (hr : workerRuns s (fireWk f) (wGet s (fireWk f)) = true)
    (hp : pick s (fireWk f) (wGet s (fireWk f)) = some f.thread.val) (hn : (slotNow f s).next = code) :
    fireNext f code s = doFire (fireWk f) f.thread.val f s := by
  have hn' : (slotOf ((wGet s (fireWk f)).thr f.thread.val).slot).next = code := hn
  simp [fireNext, hr, hp, hn']

/-- A slot with next-slot control alone takes it once the slot is issued. -/
theorem fires_next {f : Fire} {s : State} {code : Nat} (h : issues f s = true) (ho : onlyNext (slotNow f s) = true)
    (hn : (slotNow f s).next = code) : fireNext f code s = nextTo f (nextSlot (slotNow f s)) (issued f s) := by
  obtain ⟨hr, hp, -⟩ := issues_runs h
  simp only [onlyNext, Bool.and_eq_true, beq_iff_eq, Bool.not_eq_true'] at ho
  obtain ⟨⟨⟨⟨⟨⟨⟨m, v⟩, sc⟩, me⟩, st⟩, tk⟩, sy⟩, mq⟩ := ho
  have hsy : syncOp (slotNow f s) = 0 := by simp [syncOp, sy]
  rw [fireNext_picked hr hp hn, ← fireOp_issues (sel := fun _ => true) h rfl,
    fires_groups h rfl (issues_fire h st (by omega))]
  simp [fireGroups, matrixGroup, m, vectorGroup, v, scalarGroup, sc, memoryGroup, me, steerGroup_idle st tk, mq, syncGroup_idle hsy,
    issued_eq, goesOn_eq_nextTo]

/-- A slot whose predicate condition fails takes its next-slot control in the state in which its firing is counted, whatever its groups say. -/
theorem fireNext_predFails {f : Fire} {s : State} {code : Nat} (hr : workerRuns s (fireWk f) (wGet s (fireWk f)) = true)
    (hp : pick s (fireWk f) (wGet s (fireWk f)) = some f.thread.val) (h : predOk (slotNow f s) (thNow f s) = false)
    (hn : (slotNow f s).next = code) : fireNext f code s = nextTo f (nextSlot (slotNow f s)) (counted f s) := by
  obtain ⟨he, hk⟩ := runs_of_ready (readyOf_of_pick hp)
  have h' : predOk (slotOf ((wGet s (fireWk f)).thr f.thread.val).slot) ((wGet s (fireWk f)).thr f.thread.val) = false := h
  have hf := readyOf_predFails (s := s) (wk := fireWk f) he hk h'
  rw [fireNext_picked hr hp hn, doFire]
  simp only [hf, h', Bool.not_false, if_true]
  rfl

/-! ### What next-slot control does to a thread (R48) -/

section
variable {sl : Slot}

theorem nextSlot_seq (h : sl.next = 0) : nextSlot sl = fun th => { th with ptr := (th.ptr + 1) % 512 } := by
  funext th
  simp [nextSlot, h, ptrNext]

theorem nextSlot_jump (h : sl.next = 1) : nextSlot sl = fun th => { th with ptr := sl.target } := by
  funext th
  simp [nextSlot, h]

theorem nextSlot_brt (h : sl.next = 2) :
    nextSlot sl = fun th => { th with ptr := if predOf th sl.bpsel then sl.target else (th.ptr + 1) % 512 } := by
  funext th
  simp [nextSlot, h, ptrNext]

theorem nextSlot_brf (h : sl.next = 3) :
    nextSlot sl = fun th => { th with ptr := if predOf th sl.bpsel then (th.ptr + 1) % 512 else sl.target } := by
  funext th
  simp [nextSlot, h, ptrNext]

/-- LOOP leaves a counter of 0 alone; any other is decremented, and the new value decides. -/
theorem nextSlot_loop (h : sl.next = 4) :
    nextSlot sl = fun th =>
      if th.l.getD sl.lsel 0 = 0 then { th with ptr := (th.ptr + 1) % 512 }
      else { th with l := th.l.set sl.lsel (th.l.getD sl.lsel 0 - 1)
                     ptr := if th.l.getD sl.lsel 0 - 1 = 0 then (th.ptr + 1) % 512 else sl.target } := by
  funext th
  simp only [nextSlot, h, ptrNext]
  split
  · rfl
  · next hl =>
    have hiff : th.l.getD sl.lsel 0 = 1 ↔ th.l.getD sl.lsel 0 - 1 = 0 := by omega
    simp only [hiff]

theorem nextSlot_end (h : sl.next = 5) : nextSlot sl = fun th => { th with ptr := sl.target, ended := true } := by
  funext th
  simp [nextSlot, h]

end

/-- Where a slot word holds its next-slot control. -/
theorem slotOf_nextFields (b : BitVec 256) :
    (slotOf b).next = b.toNat / 2 ^ 237 % 8 ∧ (slotOf b).target = b.toNat / 2 ^ 228 % 512 ∧ (slotOf b).bpsel = b.toNat / 2 ^ 226 % 4 ∧
    (slotOf b).lsel = b.toNat / 2 ^ 224 % 4 := by
  simp only [slotOf, fld, Nat.shiftRight_eq_div_pow]
  exact ⟨rfl, rfl, rfl, rfl⟩

/-! ### The next step start (R40) -/

theorem tget_map_self {α : Type} (d : α) (g : Nat → α) {l : List Nat} {t : Nat} (h : t ∈ l) :
    tget d (l.map fun i => (i, g i)) t = g t := by
  induction l with
  | nil => cases h
  | cons a r ih =>
    simp only [List.map_cons, tget]
    split
    · next ha => rw [ha]
    · next ha => exact ih ((List.mem_cons.mp h).resolve_left (Ne.symm ha))

/-- An active thread begins a step with what it carries. -/
theorem Worker.start_thr (cyc : Nat) {w : Worker} {t : Nat} (h : t ∈ w.actives) :
    (Worker.start cyc w).thr t = ((w.thr t).carried).thread w cyc :=
  tget_map_self thread0 (fun i => ((w.thr i).carried).thread w cyc) h

/-! ### The obligations O20 and O21 -/

/-- Settles O20, by the table of `nextSlot` for a slot that has next-slot control alone. -/
theorem nextSlotResults : Obligations.NextSlotResults := by
  unfold Obligations.NextSlotResults
  refine ⟨fun f s h ho => ⟨slotOf_nextFields _, fun hn => ?_, fun hn => ?_, fun hn => ?_, fun hn => ?_, fun hn => ?_, fun hn => ?_⟩,
    fun w t cyc ht => ⟨fun he s wk => readyOf_ended he, ?_⟩⟩
  · rw [exec_nextSeq, fires_next h ho hn, nextSlot_seq hn]
  · rw [exec_jump, fires_next h ho hn, nextSlot_jump hn]
  · rw [exec_brt, fires_next h ho hn, nextSlot_brt hn]
  · rw [exec_brf, fires_next h ho hn, nextSlot_brf hn]
  · rw [exec_loop, fires_next h ho hn, nextSlot_loop hn]
  · rw [exec_endStep, fires_next h ho hn, nextSlot_end hn]
  · rw [Worker.start_thr cyc ht]
    exact ⟨rfl, rfl⟩

/-- Settles O21: the slot's groups are never reached. -/
theorem failedPredicateFiresEmpty : Obligations.FailedPredicateFiresEmpty := by
  unfold Obligations.FailedPredicateFiresEmpty
  refine ⟨fun s wk w t he hk h => readyOf_predFails he hk h, fun f s hr hp h => ?_⟩
  have fires {code : Nat} (hn : (slotNow f s).next = code) := congrArg (Host.Outcome.next (φ := Fault) (ρ := Refusal))
    (fireNext_predFails hr hp h hn)
  exact ⟨fun hn => (exec_nextSeq f s).trans (fires hn), fun hn => (exec_jump f s).trans (fires hn),
    fun hn => (exec_brt f s).trans (fires hn), fun hn => (exec_brf f s).trans (fires hn),
    fun hn => (exec_loop f s).trans (fires hn), fun hn => (exec_endStep f s).trans (fires hn)⟩

/-! ### The report of a worker (R49, R183) -/

/-- A worker is done when every active thread has ended. -/
theorem Worker.done_iff (w : Worker) : w.done = true ↔ ∀ t ∈ w.actives, (w.thr t).ended = true := List.all_eq_true

/-- An entry of a sparse table is the default, or stands in the table. -/
theorem tget_eq_or_mem {α : Type} (d : α) (l : List (Nat × α)) (i : Nat) : tget d l i = d ∨ (i, tget d l i) ∈ l := by
  induction l with
  | nil => exact .inl rfl
  | cons e r ih =>
    obtain ⟨k, v⟩ := e
    simp only [tget]
    split
    · next hk => exact .inr (by simp [hk])
    · exact ih.imp_right (List.mem_cons_of_mem _)

/-- The release of the ridge has the report of every worker of the context; one without an entry has no program and no active thread. -/
theorem done_of_workersDone {c wk : Nat} {s : State} (h : workersDone s c = true) (hc : ctxHas s c (wk / 32) = true) :
    (wGet s wk).done = true := by
  obtain ⟨-, hw⟩ := Bool.and_eq_true_iff.mp h
  rcases tget_eq_or_mem worker0 s.workers wk with h0 | hm
  · rw [wGet, h0]
    rfl
  · have he := List.all_eq_true.mp hw _ hm
    simp only [hc, Bool.not_true, Bool.false_or, Bool.and_eq_true] at he
    obtain ⟨⟨⟨⟨⟨hd, -⟩, -⟩, -⟩, -⟩, -⟩ := he
    exact hd

/-- Without that report a ridge is not released. -/
theorem execRidgeRelease_waits {c : Fin 16} {s : State} (h : workersDone s c.val = false) : execRidgeRelease c s = .next s := by
  unfold execRidgeRelease
  exact if_neg fun ⟨_, _, _, _, hd, _⟩ => by simp [h] at hd

/-- A slot row of a thread that has ended fires nothing. -/
theorem fireOp_ended {f : Fire} {s : State} (h : (thNow f s).ended = true) (sel : Slot → Bool) : fireOp f sel s = s := by
  simp [fireOp, pick_ne_ended (s := s) (wk := fireWk f) (w := wGet s (fireWk f)) h]

/-- Neither does a row of next-slot control. -/
theorem fireNext_ended {f : Fire} {s : State} (h : (thNow f s).ended = true) (code : Nat) : fireNext f code s = s := by
  simp [fireNext, pick_ne_ended (s := s) (wk := fireWk f) (w := wGet s (fireWk f)) h]

/-- Settles O22: a ready thread has not ended, so R42 never picks one that has. -/
theorem endedThreadFiresNothing : Obligations.EndedThreadFiresNothing := by
  unfold Obligations.EndedThreadFiresNothing
  refine ⟨Worker.done_iff, fun c wk s h hc => done_of_workersDone h hc,
    fun c s h => (exec_ridgeRelease c s).trans (execRidgeRelease_waits h), fun f s h => ?_⟩
  have row (sel : Slot → Bool) : Host.Outcome.next (φ := Fault) (ρ := Refusal) (fireOp f sel s) = .next s :=
    congrArg _ (fireOp_ended h sel)
  exact ⟨fireOp_ended h, row fun sl => sl.mop == 1, row fun sl => sl.vop == 1, row fun sl => sl.sop == 1, row fun sl => sl.memop == 1,
    row fun sl => sl.steer == 1, row fun sl => syncOp sl == 1, (exec_nextSeq f s).trans (congrArg _ (fireNext_ended h 0)),
    (exec_endStep f s).trans (congrArg _ (fireNext_ended h 5))⟩

end Sys2Proof.Machine

/-! PROOF. The whole machine: a step runs the command at the front of the queue, every command answers a next state, and the invariant
holds at reset and after every step (assumptions 2 and 3). -/

namespace Sys2Proof.Machine

/-! ### A step -/

theorem step_cons {s : State} {c : Instr} {q : List Instr} (h : s.pending = c :: q) : step s = exec c { s with pending := q } := by
  simp [step, h]

theorem step_nil {s : State} (h : s.pending = []) : step s = .next (idle s) := by
  simp [step, h]

/-- Settles O57. -/
theorem stepIsExec : Obligations.StepIsExec := by
  unfold Obligations.StepIsExec
  intro c q s
  exact step_cons rfl

/-! ### Every command answers a next state (assumption 2) -/

theorem ite_next {p : Prop} [Decidable p] {a b : Host.Outcome State Fault Refusal} (ha : ∃ t, a = .next t) (hb : ∃ t, b = .next t) :
    ∃ t, (if p then a else b) = .next t := by
  split <;> assumption

theorem execDropArrival_next (x : Fin 28) (y : Fin 24) (rsel lane : Fin 4) (got : DropCheck) (s : State) :
    ∃ t, execDropArrival x y rsel lane got s = .next t := by
  unfold execDropArrival
  extract_lets cb g mine
  cases s.lane.find? mine with
  | none => exact ⟨_, rfl⟩
  | some b =>
    refine ite_next ⟨_, rfl⟩ ?_
    extract_lets
    split
    · exact ⟨_, rfl⟩
    · exact ite_next ⟨_, rfl⟩ (ite_next ⟨_, rfl⟩ ⟨_, rfl⟩)

/-- Most meanings are a next state outright; the others choose among next states. -/
theorem exec_next (c : Instr) (s : State) : ∃ t, exec c s = .next t := by
  cases c
  case dropArrival x y rsel lane got => exact execDropArrival_next x y rsel lane got s
  all_goals
    first
    | exact ⟨_, rfl⟩
    | simp only [exec,
      execVfFlr, execContextReset, execKeeperResume, execReferenceLoss, execHotSet, execCombArraySwitchOff, execHotOffReturn,
      execSpineFault, execCombArrayPllLoss, execDomainReady, execStageEnd, execTickBoundary, execFlowLow, execStepWatchdog,
      execCombFence, execScoutVerdict, execRotationGridPoint, execPauseSliceGrid, execIdleSleep, execRegionTestComplete,
      execSpareCombTest, execServiceLifePrediction, execGrant, execImageAccepted, execLoadComplete, execReleaseWipeComplete,
      execShutdownTestComplete, execHiveWindowRead, execHiveWindowWrite, execLinkSpeedChange, execEavCtxCfgWrite, execPrtTopoWrite,
      execAdmitOpen, execReturnOp, execOwnerKey, execApplyComplete, execStepStart, execRidgeRelease, execRidgeSignal,
      execRidgeComplete, execRidgeTimeout, execStepAbandon, execReplayStart, execPlausibilityEvent, execWaitSendTimeout,
      execCourseMarkEmit, execWorkerFlip, execSwitchFlip, execCourseMarkMismatch, execRouteGroupFire, execStaticLinkCheckFail,
      execCrossingWander, execStreamSlot, execMaintenanceSlot, execRafterInject, execRereadVerdict, execRepairAnswer,
      execRafterLaneTest, execPatrolScrubRead, execCmemRefresh, execFaultPacket, execOpenRetry, execMulticastAckTimeout,
      execDescriptorStart, execDmaTransferError, execDescriptorComplete, execPortTraining, execResendRecord, execSpareRecord,
      execIdentRecord, execLaneFault, execHousekeepingSlice]
      repeat' split
      all_goals exact ⟨_, rfl⟩

theorem exec_keeps {c : Instr} {s t : State} (h : exec c s = .next t) : Keeps s t := by
  have hk := keeps_exec c s
  rw [h] at hk
  exact hk

/-- A step takes the front of the queue, and keeps everything that `Keeps` names. -/
theorem step_keeps (s : State) : ∃ t, step s = .next t ∧ Keeps { s with pending := s.pending.tail } t := by
  cases hp : s.pending with
  | nil =>
    refine ⟨idle s, step_nil hp, ?_⟩
    rw [List.tail_nil, ← hp]
    exact keeps_idle s
  | cons c q =>
    obtain ⟨t, ht⟩ := exec_next c { s with pending := q }
    exact ⟨t, (step_cons hp).trans ht, exec_keeps ht⟩

/-- Settles O58: every command answers a next state and keeps the queue and the counter of free values. -/
theorem stepTakesTheFront : Obligations.StepTakesTheFront := by
  unfold Obligations.StepTakesTheFront
  intro s
  obtain ⟨t, ht, hpend, hfree, -⟩ := step_keeps s
  exact ⟨⟨t, ht, hpend, hfree⟩, fun h => step_nil h⟩

/-! ### The invariant -/

/-- Settles O59: what a step keeps implies the invariant, because the queue's rest holds commands of the queue alone. -/
theorem stepKeepsInv : Obligations.StepKeepsInv := by
  unfold Obligations.StepKeepsInv
  intro s t hs ht
  obtain ⟨hmem, hwf⟩ := hs
  obtain ⟨u, hu, hpend, -, hm⟩ := step_keeps s
  obtain rfl : u = t := by simpa [hu] using ht
  refine ⟨hm hmem, fun c hc => hwf c ?_⟩
  rw [hpend] at hc
  exact List.mem_of_mem_tail hc

/-! ### Reset -/

theorem inv_reset : Inv State.reset := ⟨rfl, fun _ hc => absurd hc List.not_mem_nil⟩

/-- The one field that reset changes is the count of starts. -/
theorem rget_reset {f : F} (h : f ≠ .TLM_LIFE_STARTS) (i j : Nat) : rget State.reset f i j = coldOf ⟨f, i, j⟩ := by
  have hne : (⟨.TLM_LIFE_STARTS, 0, 0⟩ : FKey) ≠ ⟨f, i, j⟩ := fun e => h (congrArg FKey.f e).symm
  simp [rget, State.reset, findFld, hne]

/-- The fields whose value at reset is the fuses' or that of a domain that is off. -/
theorem coldOf_eq_coldNumber {f : F} {i j : Nat} (h : f ∉ [F.FUS_CMAP_COMB_OK, .FUS_CMAP_WORKER_OK, .FUS_RMAP_SPINE_OK, .FUS_RMAP_CA_OK,
    .FUS_CHMAP_CH_OK, .PWR_RSTAT_CA_STATE, .PWR_RSTAT_SP_STATE, .EAV_SEG_STATE]) : coldOf ⟨f, i, j⟩ = coldNumber f := by
  unfold coldOf
  split <;> simp_all

/-- Settles O60, field by field of the reset state. -/
theorem resetState : Obligations.ResetState := by
  unfold Obligations.ResetState
  refine ⟨inv_reset, rfl, rfl, fun _ => rfl, fun c _ => ⟨?_, ?_, rfl⟩, fun _ => rfl, fun f i j hf => ?_, rfl, rfl, ?_⟩
  · exact rget_reset (by decide) c 0
  · exact rget_reset (by decide) c 0
  · simp only [List.mem_cons, not_or] at hf
    rw [rget_reset (by tauto), coldOf_eq_coldNumber]
    simp only [List.mem_cons, not_or]
    tauto
  · exact rget_reset (by decide) 0 0

end Sys2Proof.Machine

/-! PROOF. The scalar group: its operations, compares, moves and FP32 operations (R55). -/

namespace Sys2Proof.Machine

/-! ### Orders of words -/

theorem ite_slt_eq_ite_le (a b : Word) : (if a.slt b then a else b) = if a.toInt ≤ b.toInt then a else b := by
  by_cases h : a.toInt = b.toInt
  · simp [BitVec.toInt_inj.mp h]
  · have hiff : a.toInt < b.toInt ↔ a.toInt ≤ b.toInt := by omega
    simp only [BitVec.slt_iff_toInt_lt, hiff]

theorem ite_slt_eq_ite_le' (a b : Word) : (if a.slt b then b else a) = if a.toInt ≤ b.toInt then b else a := by
  by_cases h : a.toInt = b.toInt
  · simp [BitVec.toInt_inj.mp h]
  · have hiff : a.toInt < b.toInt ↔ a.toInt ≤ b.toInt := by omega
    simp only [BitVec.slt_iff_toInt_lt, hiff]

theorem mul_eq_ofNat (a b : Word) : a * b = BitVec.ofNat 32 (a.toNat * b.toNat) := by
  apply BitVec.eq_of_toNat_eq
  simp [BitVec.toNat_mul]

/-! ### The scalar group of a slot (R55) -/

section
variable {f : Fire} {s : State} (h : issues f s = true) (ho : onlyScalar (slotNow f s) = true)
include h ho

/-- A slot with the scalar operation `op` alone, which is no compare and no move. -/
theorem fires_scalarOp {op : Nat} {r : Word} (hop : (slotNow f s).sop = op) (hr : scalarOp op (scalarA f s) (scalarB f s) = r)
    (hk : op ≠ 0 ∧ ¬(0x10 ≤ op ∧ op ≤ 0x15) ∧ op ≠ 0x28 ∧ op ≠ 0x18 ∧ op ≠ 0x29) :
    fireOp f (fun sl => sl.sop == op) s = scalarTo f s r := by
  obtain ⟨h0, hcmp, h28, h18, h29⟩ := hk
  rw [fires_scalar h ho (by simp [hop]), ← hr]
  simp only [scalarGroup, hop, h0, hcmp, h28, h18, h29, if_false]
  rfl

/-- A slot with a scalar compare alone. -/
theorem fires_scalarCmp {op : Nat} {r : Bool} (hop : (slotNow f s).sop = op) (hr : scalarCmp op (scalarA f s) (scalarB f s) = r)
    (hk : 0x10 ≤ op ∧ op ≤ 0x15) : fireOp f (fun sl => sl.sop == op) s = scalarFlag f s r := by
  rw [fires_scalar h ho (by simp [hop]), ← hr]
  have h0 : op ≠ 0 := by omega
  simp only [scalarGroup, hop, h0, hk, and_self, if_true, if_false]
  rfl

theorem fires_mov (hop : (slotNow f s).sop = 0x18) :
    fireOp f (fun sl => sl.sop == 0x18) s = scalarTo f s (if (slotNow f s).imm = 1 then scalarB f s else scalarA f s) := by
  rw [fires_scalar h ho (by simp [hop])]
  simp only [scalarGroup, hop]
  rfl

theorem fires_moveToLoopCounter (hop : (slotNow f s).sop = 0x28) : fireOp f (fun sl => sl.sop == 0x28) s =
    goesOn f s (scalarOut f s (scalarA f s &&& 0xFFFF#32)
      (thPut f (fun th => { th with l := th.l.set ((slotNow f s).ssrcb % 4) ((scalarA f s).toNat % 65536) }) (issued f s))) := by
  rw [fires_scalar h ho (by simp [hop])]
  simp only [scalarGroup, hop]
  rfl

theorem fires_moveFromLoopCounter (hop : (slotNow f s).sop = 0x29) : fireOp f (fun sl => sl.sop == 0x29) s =
    scalarTo f s (BitVec.ofNat 32 ((thNow f s).l.getD ((slotNow f s).ssrca % 4) 0)) := by
  rw [fires_scalar h ho (by simp [hop])]
  simp only [scalarGroup, hop]
  rfl

end

/-- Settles O1, by the value of `scalarOp` at each operation. -/
theorem scalarIntegerResults : Obligations.ScalarIntegerResults := by
  unfold Obligations.ScalarIntegerResults
  intro f s h ho a b op
  have run {op : Nat} {r : Word} (hop : (slotNow f s).sop = op) (hr : scalarOp op a b = r)
      (hk : op ≠ 0 ∧ ¬(0x10 ≤ op ∧ op ≤ 0x15) ∧ op ≠ 0x28 ∧ op ≠ 0x18 ∧ op ≠ 0x29) :=
    congrArg (Host.Outcome.next (φ := Fault) (ρ := Refusal)) (fires_scalarOp h ho hop hr hk)
  exact ⟨fun hop => run hop rfl (by decide), fun hop => run hop rfl (by decide), fun hop => run hop rfl (by decide),
    fun hop => run hop rfl (by decide), fun hop => run hop rfl (by decide), fun hop => run hop rfl (by decide),
    fun hop => run hop rfl (by decide), fun hop => run hop rfl (by decide), fun hop => run hop (mul_eq_ofNat a b) (by decide),
    fun hop => run hop (ite_slt_eq_ite_le a b) (by decide), fun hop => run hop (ite_slt_eq_ite_le' a b) (by decide)⟩

/-- What each compare answers, in terms of the values of its operands. -/
theorem scalarCmp_eq (a b : Word) :
    scalarCmp 0x10 a b = decide (a = b) ∧ scalarCmp 0x11 a b = decide (a ≠ b) ∧ scalarCmp 0x12 a b = decide (a.toInt < b.toInt) ∧
    scalarCmp 0x13 a b = decide (a.toNat < b.toNat) ∧ scalarCmp 0x14 a b = decide (a.toInt ≤ b.toInt) ∧
    scalarCmp 0x15 a b = decide (a.toNat ≤ b.toNat) := by
  refine ⟨rfl, ?_, ?_, ?_, ?_, ?_⟩
  · simp [scalarCmp, bne, BEq.beq]
  · simp [scalarCmp, BitVec.slt]
  · simp [scalarCmp, BitVec.ult]
  · simp [scalarCmp, BitVec.slt, ← decide_not]
  · simp [scalarCmp, BitVec.ult, ← decide_not]

/-- Settles O2, by the value of `scalarCmp` at each compare and of `scalarOp` at each FP32 operation. -/
theorem scalarCompareMoveAndFloatResults : Obligations.ScalarCompareMoveAndFloatResults := by
  unfold Obligations.ScalarCompareMoveAndFloatResults
  intro f s h ho a b sl op
  obtain ⟨heq, hne, hlt, hltu, hle, hleu⟩ := scalarCmp_eq a b
  have cmp {op : Nat} {r : Bool} (hop : (slotNow f s).sop = op) (hr : scalarCmp op a b = r) (hk : 0x10 ≤ op ∧ op ≤ 0x15) :=
    congrArg (Host.Outcome.next (φ := Fault) (ρ := Refusal)) (fires_scalarCmp h ho hop hr hk)
  have run {op : Nat} (hop : (slotNow f s).sop = op) (hk : op ≠ 0 ∧ ¬(0x10 ≤ op ∧ op ≤ 0x15) ∧ op ≠ 0x28 ∧ op ≠ 0x18 ∧ op ≠ 0x29) :=
    congrArg (Host.Outcome.next (φ := Fault) (ρ := Refusal)) (fires_scalarOp h ho hop rfl hk)
  exact ⟨fun hop => cmp hop heq (by decide), fun hop => cmp hop hne (by decide), fun hop => cmp hop hlt (by decide),
    fun hop => cmp hop hltu (by decide), fun hop => cmp hop hle (by decide), fun hop => cmp hop hleu (by decide),
    fun hop => congrArg _ (fires_mov h ho hop), fun hop => run hop (by decide), fun hop => run hop (by decide),
    fun hop => run hop (by decide), fun hop => run hop (by decide), fun hop => congrArg _ (fires_moveToLoopCounter h ho hop),
    fun hop => congrArg _ (fires_moveFromLoopCounter h ho hop)⟩

end Sys2Proof.Machine

/-! PROOF. What the issue of a slot leaves behind: the firing worker with its inputs consumed, its thread, and everything else as it was
(R42, R46, R79). -/

namespace Sys2Proof.Machine

/-! ### Consuming inputs (R46) -/

/-- A slot consumes heads of input FIFOs, the tap's beat and a queue entry, and nothing else of its worker. -/
theorem consume_eq (sl : Slot) (w : Worker) :
    consume sl w = { w with fifo := (consume sl w).fifo, tap := (consume sl w).tap, queues := (consume sl w).queues } := by
  have pops (l : List Nat) (x : Worker) : ∃ q, l.foldl (fun w i => if needs sl i && !keeps sl i then w.popIn i else w) x = { x with fifo := q } := by
    induction l generalizing x with
    | nil => exact ⟨x.fifo, rfl⟩
    | cons a r ih =>
      rw [List.foldl_cons]
      split
      · obtain ⟨q, hq⟩ := ih (x.popIn a)
        exact ⟨q, hq⟩
      · exact ih x
  obtain ⟨q, hq⟩ := pops (List.range 6) w
  unfold consume
  simp only [hq]
  split <;> split <;> rfl

@[simp] theorem consume_th (sl : Slot) (w : Worker) : (consume sl w).th = w.th := by rw [consume_eq]

/-! ### Two writes of one worker -/

theorem tset_tset {α : Type} (t : List (Nat × α)) (i : Nat) (v w : α) : tset (tset t i v) i w = tset t i w := by
  simp [tset, List.filter_filter]

@[simp] theorem wSet_wSet (k : Nat) (v w : Worker) (s : State) : wSet k w (wSet k v s) = wSet k w s := by
  simp [wSet, tset_tset]

/-! ### The counted firing (R79) -/

/-- The worker with its firing counted. -/
def firedBy (f : Fire) (s : State) : Worker :=
  { (wGet s (fireWk f)).setThr f.thread.val { thNow f s with lastFire := s.cycle } with lastFired := f.thread.val, nextFire := s.cycle + 1 }

theorem counted_workers (f : Fire) (s : State) : (counted f s).workers = tset s.workers (fireWk f) (firedBy f s) := by
  unfold counted breakpoint
  split <;> rfl

theorem wGet_counted (f : Fire) (s : State) : wGet (counted f s) (fireWk f) = firedBy f s := by
  rw [wGet, counted_workers, tget_tset_same]

/-- The firing changes workers and register fields alone. -/
theorem counted_frame (f : Fire) (s : State) : counted f s = { s with workers := (counted f s).workers, flds := (counted f s).flds } := by
  unfold counted breakpoint
  split <;> rfl

/-- Of the register fields only the firing count and HALT change. -/
theorem rget_counted {f : Fire} {s : State} {g : F} {i : Nat} (j : Nat) (h : ¬ firingFields f g i) :
    rget (counted f s) g i j = rget s g i j := by
  have hne {v : F} (hv : v = .WRK_ISSUED_COUNT ∨ v = .WRK_DBG_HALT) : (⟨g, i, j⟩ : FKey) ≠ ⟨v, fireWk f, 0⟩ := by
    intro e
    injection e with e1 e2
    exact h ⟨e2, by rw [e1]; exact hv⟩
  have hc : rget (countFire (fireWk f) f.thread.val s) g i j = rget s g i j :=
    rget_rset_ne _ _ _ _ _ _ _ _ (hne (.inl rfl))
  unfold counted breakpoint
  split
  · exact (rget_rset_ne _ _ _ _ _ _ _ _ (hne (.inr rfl))).trans hc
  · exact hc

/-! ### The issued slot -/

theorem wGet_issued (f : Fire) (s : State) : wGet (issued f s) (fireWk f) = consume (slotNow f s) (firedBy f s) := by
  rw [issued_eq, wMod, wGet_wSet_same, wGet_counted]

theorem thGet_issued (f : Fire) (s : State) : thGet (issued f s) (fireWk f) f.thread.val = { thNow f s with lastFire := s.cycle } := by
  rw [thGet, wGet_issued, Worker.thr, consume_th]
  exact tget_tset_same _ _ _ _

theorem issued_frame (f : Fire) (s : State) : issued f s = { s with workers := (issued f s).workers, flds := (issued f s).flds } := by
  rw [issued_eq, counted_frame]
  rfl

theorem rget_issued {f : Fire} {s : State} {g : F} {i : Nat} (j : Nat) (h : ¬ firingFields f g i) :
    rget (issued f s) g i j = rget s g i j := rget_counted j h

@[simp] theorem wGet_issued_tiles (f : Fire) (s : State) : (wGet (issued f s) (fireWk f)).tiles = (wGet s (fireWk f)).tiles := issued_tiles f s
@[simp] theorem wGet_issued_wbuf (f : Fire) (s : State) : (wGet (issued f s) (fireWk f)).wbuf = (wGet s (fireWk f)).wbuf := issued_wbuf f s

end Sys2Proof.Machine

/-! PROOF. The vector group: lane-wise operations, compares, lane moves, reductions, special functions and the conversion (R51 to R54, R62,
R101). -/

namespace Sys2Proof.Machine

/-! ### The vector group of a slot (R51 to R53) -/

/-- Operands and draws as the group takes them from an issued slot. -/
theorem vecDraw_issued (f : Fire) (s : State) :
    drawsFor (roundOf (slotNow f s).vround) (vecDraws (slotNow f s)) (thGet (issued f s) (fireWk f) f.thread.val).rng = vecDraw f s := by
  rw [thGet_issued]
  rfl

section
variable {f : Fire} {s : State} (h : issues f s = true) (ho : onlyVector (slotNow f s) = true)
include h ho

/-- A slot with a vector operation alone that is no compare. -/
theorem fires_vectorOp {op : Nat} {m : Word} {r : List Word} (hop : (slotNow f s).vop = op) (hl : vecLsOk f s true = true)
    (hm : (if op = 0x35 then 0xFFFFFFFF#32 else vecMask f s) = m)
    (hr : vecResult (slotNow f s) (vecMask f s) (vecA f s) (vecB f s) (vecC f s) (vecDraw f s).1 = r)
    (hk : op ≠ 0 ∧ (0x20 ≤ op && op ≤ 0x25) = false) : fireOp f (fun sl => sl.vop == op) s = vecTo f s m r := by
  obtain ⟨h0, hcmp⟩ := hk
  have hls : (((slotNow f s).vsrca == 6 || vReadsB op && (slotNow f s).vsrcb == 6 || (!false && (slotNow f s).vdst == 6)) &&
      !lsOk (wordAt (thNow f s).s (slotNow f s).vareg).toNat 128) = false := by
    simpa only [vecLsOk, hop, Bool.or_eq_true, Bool.not_eq_true', Bool.and_eq_false_iff, Bool.not_eq_false', Bool.not_true,
      Bool.not_false] using hl
  rw [fires_vector h ho (by simp [hop]), ← hr, ← hm]
  unfold vectorGroup
  simp only [hop, h0, hcmp, hls, vecSrc_counted, vecDraw_issued, if_false, Bool.false_eq_true]
  simp only [vecTo, vecDrawn, hop]
  rfl

/-- A slot with a compare alone. -/
theorem fires_vectorCmp {op : Nat} (hop : (slotNow f s).vop = op) (hl : vecLsOk f s false = true) (hk : (0x20 ≤ op && op ≤ 0x25) = true) :
    fireOp f (fun sl => sl.vop == op) s =
      (if vfPacked (vfOf (slotNow f s).vfmt) = true then
        vecFlags f s (Config.packedCompare op (slotNow f s).vfmt (vecA f s) (vecB f s) &&& vecMask f s) (issued f s)
      else vecFlags f s (cmpMask (slotNow f s) (vecMask f s) (vecA f s) (vecB f s)) (issued f s)) := by
  have hb : 0x20 ≤ op ∧ op ≤ 0x25 := by simpa using hk
  have hls : (((slotNow f s).vsrca == 6 || vReadsB op && (slotNow f s).vsrcb == 6 || (!true && (slotNow f s).vdst == 6)) &&
      !lsOk (wordAt (thNow f s).s (slotNow f s).vareg).toNat 128) = false := by
    simpa only [vecLsOk, hop, Bool.or_eq_true, Bool.not_eq_true', Bool.and_eq_false_iff, Bool.not_eq_false', Bool.not_true,
      Bool.not_false] using hl
  have hd : vecDraws (slotNow f s) = 0 := by
    unfold vecDraws
    rw [hop]
    dsimp only
    rw [if_neg (by omega), if_neg (by omega), if_neg (by omega)]
  have h0 : op ≠ 0 := by omega
  have h28 : op ≠ 0x28 := by omega
  rw [fires_vector h ho (by simp [hop])]
  unfold vectorGroup
  simp only [hop, h0, h28, hk, hls, hd, vecSrc_counted, if_false, if_true, Bool.false_eq_true]
  split <;> rfl

end

/-! ### Results (R52, R53, R107 to R110) -/

theorem lanes_congr {g k : Nat → Word} (h : ∀ i, g i = k i) : lanes g = lanes k := by rw [funext h]

/-- The integer operations 0x10 to 0x1A of the vector unit. -/
theorem vecResult_int {sl : Slot} (sel : Word) (a b c : List Word) (d : List Nat) (hlo : 0x10 ≤ sl.vop) (hhi : sl.vop ≤ 0x1A) :
    vecResult sl sel a b c d = lanes fun i => intOp sl.vop (wordAt a i) (wordAt b i) 0 := by
  simp only [vecResult, if_neg (show ¬ sl.vop ≤ 9 by omega), if_pos hhi]
  rfl

theorem intOp_mullo (a b : Word) : intOp 0x12 a b 0 = BitVec.ofNat 32 (a.toNat * b.toNat) := by
  simp only [intOp]
  exact mul_eq_ofNat a b

theorem intOp_min (a b c : Word) : intOp 0x06 a b c = (if a.toInt ≤ b.toInt then a else b) ∧
    intOp 0x13 a b 0 = if a.toInt ≤ b.toInt then a else b := by
  simp only [intOp]
  exact ⟨ite_slt_eq_ite_le a b, ite_slt_eq_ite_le a b⟩

theorem intOp_max (a b c : Word) : intOp 0x07 a b c = (if a.toInt ≤ b.toInt then b else a) ∧
    intOp 0x14 a b 0 = if a.toInt ≤ b.toInt then b else a := by
  simp only [intOp]
  exact ⟨ite_slt_eq_ite_le' a b, ite_slt_eq_ite_le' a b⟩

theorem intOp_abs (a b c : Word) : intOp 0x08 a b c = if a.toInt < 0 then -a else a := by
  simp [intOp, BitVec.slt]

/-- The lane-wise operations 0x01 to 0x09, on integers or on the elements of a floating-point format. -/
theorem vecResult_lanewise {f : Fire} {s : State} {gi : Word → Word → Word → Word} {gf : Fmt → (FVal → Nat) → Nat → Nat → Nat → Nat}
    (hop : (slotNow f s).vop ≤ 9) (hi : ∀ a b c, intOp (slotNow f s).vop a b c = gi a b c)
    (hf : ∀ m md d x y z, floatOp (slotNow f s).vop m md d x y z = gf m (roundF m md false d) x y z) :
    vecResult (slotNow f s) (vecMask f s) (vecA f s) (vecB f s) (vecC f s) (vecDraw f s).1 = lanewise f s gi gf := by
  simp only [vecResult, if_pos hop, lanewise, lanes]
  refine List.map_congr_left fun i _ => ?_
  cases vfOf (slotNow f s).vfmt <;> simp only [hi, hf]

/-- Settles O3, by the value of `intOp` at each operation. -/
theorem vectorIntegerResults : Obligations.VectorIntegerResults := by
  unfold Obligations.VectorIntegerResults
  intro f s h ho hl done op
  have run (n : Nat) (g : Word → Word → Word) (hlo : 0x10 ≤ n) (hhi : n ≤ 0x1A) (hg : ∀ a b, intOp n a b 0 = g a b) :
      (slotNow f s).vop = n → Host.Outcome.next (φ := Fault) (ρ := Refusal) (fireOp f (fun sl => sl.vop == n) s) = done g := by
    rintro rfl
    refine congrArg _ (fires_vectorOp h ho rfl hl (if_neg (by omega)) ?_ ⟨by omega, by simp; omega⟩)
    rw [vecResult_int _ _ _ _ _ hlo hhi]
    exact lanes_congr fun i => hg _ _
  have hadd := run 0x10 (fun a b => a + b) (by decide) (by decide) fun _ _ => rfl
  have hsub := run 0x11 (fun a b => a - b) (by decide) (by decide) fun _ _ => rfl
  have hmul := run 0x12 _ (by decide) (by decide) intOp_mullo
  have hmin := run 0x13 _ (by decide) (by decide) fun a b => (intOp_min a b 0).2
  have hmax := run 0x14 _ (by decide) (by decide) fun a b => (intOp_max a b 0).2
  have hand := run 0x15 (fun a b => a &&& b) (by decide) (by decide) fun _ _ => rfl
  have hor := run 0x16 (fun a b => a ||| b) (by decide) (by decide) fun _ _ => rfl
  have hxor := run 0x17 (fun a b => a ^^^ b) (by decide) (by decide) fun _ _ => rfl
  have hshl := run 0x18 (fun a b => a <<< (b.toNat % 32)) (by decide) (by decide) fun _ _ => rfl
  have hshr := run 0x19 (fun a b => a >>> (b.toNat % 32)) (by decide) (by decide) fun _ _ => rfl
  have hsra := run 0x1A (fun a b => a.sshiftRight (b.toNat % 32)) (by decide) (by decide) fun _ _ => rfl
  exact ⟨hadd, hsub, hmul, hmin, hmax, hand, hor, hxor, hshl, hshr, hsra⟩

/-- Settles O4, by the value of `intOp` and `floatOp` at each operation. -/
theorem vectorArithmeticResults : Obligations.VectorArithmeticResults := by
  unfold Obligations.VectorArithmeticResults
  intro f s h ho hl done op
  have run {n : Nat} {gi : Word → Word → Word → Word} {gf : Fmt → (FVal → Nat) → Nat → Nat → Nat → Nat} (hop : (slotNow f s).vop = n)
      (hi : ∀ a b c, intOp n a b c = gi a b c)
      (hf : ∀ m md d x y z, floatOp n m md d x y z = gf m (roundF m md false d) x y z) (h0 : n ≠ 0) (h9 : n ≤ 9) :
      Host.Outcome.next (φ := Fault) (ρ := Refusal) (fireOp f (fun sl => sl.vop == n) s) = done gi gf := by
    subst hop
    exact congrArg _ (fires_vectorOp h ho rfl hl (if_neg (by omega)) (vecResult_lanewise h9 hi hf) ⟨h0, by simp; omega⟩)
  exact ⟨fun hop => run hop (fun _ _ _ => rfl) (fun _ _ _ _ _ _ => rfl) (by decide) (by decide),
    fun hop => run hop (fun _ _ _ => rfl) (fun _ _ _ _ _ _ => rfl) (by decide) (by decide),
    fun hop => run hop (fun _ _ _ => rfl) (fun _ _ _ _ _ _ => rfl) (by decide) (by decide),
    fun hop => run hop (fun _ _ _ => rfl) (fun _ _ _ _ _ _ => rfl) (by decide) (by decide),
    fun hop => run hop (fun _ _ _ => rfl) (fun _ _ _ _ _ _ => rfl) (by decide) (by decide),
    fun hop => run hop (fun a b c => (intOp_min a b c).1) (fun _ _ _ _ _ _ => rfl) (by decide) (by decide),
    fun hop => run hop (fun a b c => (intOp_max a b c).1) (fun _ _ _ _ _ _ => rfl) (by decide) (by decide),
    fun hop => run hop intOp_abs (fun _ _ _ _ _ _ => rfl) (by decide) (by decide),
    fun hop => run hop (fun _ _ _ => rfl) (fun _ _ _ _ _ _ => rfl) (by decide) (by decide)⟩

/-- A compare's mask, when its format is not packed. -/
theorem cmpMask_eq_cmpBits {f : Fire} {s : State} {p : Bool → Bool → Bool → Bool}
    (hp : ∀ lt eq un, cmpOp (slotNow f s).vop lt eq un = p lt eq un) :
    cmpMask (slotNow f s) (vecMask f s) (vecA f s) (vecB f s) = cmpBits f s p := by
  unfold cmpMask cmpBits
  congr 2
  refine List.map_congr_left fun i _ => ?_
  cases vfOf (slotNow f s).vfmt <;> simp only [cmpInt, cmpFloat, hp] <;> rfl

/-- Settles O5, by the value of `cmpOp` at each compare. -/
theorem vectorCompareResults : Obligations.VectorCompareResults := by
  unfold Obligations.VectorCompareResults
  intro f s h ho hl done op
  have run {n : Nat} {p : Bool → Bool → Bool → Bool} (hop : (slotNow f s).vop = n) (hp : ∀ lt eq un, cmpOp n lt eq un = p lt eq un)
      (hk : (0x20 ≤ n && n ≤ 0x25) = true) :
      Host.Outcome.next (φ := Fault) (ρ := Refusal) (fireOp f (fun sl => sl.vop == n) s) = done p := by
    subst hop
    rw [fires_vectorCmp h ho rfl hl hk, cmpMask_eq_cmpBits hp]
  exact ⟨fun hop => run hop (by decide) rfl, fun hop => run hop (by decide) rfl, fun hop => run hop (by decide) rfl,
    fun hop => run hop (by decide) rfl, fun hop => run hop (by decide) rfl, fun hop => run hop (by decide) rfl⟩

/-- Settles O6, by the branch of `vecResult` for each operation. -/
theorem vectorLaneResults : Obligations.VectorLaneResults := by
  unfold Obligations.VectorLaneResults
  intro f s h ho hl sl done a md
  have run {n : Nat} {r : List Word} (hop : (slotNow f s).vop = n)
      (hr : vecResult (slotNow f s) (vecMask f s) (vecA f s) (vecB f s) (vecC f s) (vecDraw f s).1 = r)
      (hk : n ≠ 0 ∧ (0x20 ≤ n && n ≤ 0x25) = false) (hsel : n ≠ 0x35) :
      Host.Outcome.next (φ := Fault) (ρ := Refusal) (fireOp f (fun sl => sl.vop == n) s) = done r :=
    congrArg _ (fires_vectorOp h ho hop hl (if_neg hsel) hr hk)
  have res {n : Nat} (hop : (slotNow f s).vop = n) := congrArg (fun v => vecResult { slotNow f s with vop := v } (vecMask f s) (vecA f s)
    (vecB f s) (vecC f s) (vecDraw f s).1) hop
  exact ⟨fun hop => run hop (res hop) (by decide) (by decide), fun hop => run hop (res hop) (by decide) (by decide),
    fun hop => run hop (res hop) (by decide) (by decide), fun hop => run hop (res hop) (by decide) (by decide),
    fun hop => run hop (res hop) (by decide) (by decide), fun hop => run hop (res hop) (by decide) (by decide),
    fun hop => congrArg _ (fires_vectorOp h ho hop hl rfl (res hop) (by decide)),
    fun hop => run hop (res hop) (by decide) (by decide)⟩

end Sys2Proof.Machine

/-! PROOF. The matrix group: CLEAR, MMA, MMAZ and DRAIN on a tile, the refusal of an MMA on a tile of the other type, and the refusal of a
token (R50, R65, R67, R72, R91, R94, R96, R106). -/

namespace Sys2Proof.Machine

/-! ### Readiness of a picked matrix slot (R72, R96) -/

/-- A picked slot without a steering operation fires or finds its tile of the other type. -/
theorem readyOf_mma {f : Fire} {s : State} (h : issues f s = true) (hst : (slotNow f s).steer = 0) :
    readyOf s (fireWk f) (wGet s (fireWk f)) f.thread.val =
      if (slotNow f s).mop = 1 ∧ (tileNow f s).ty ≠ .none ∧ (tileNow f s).ty ≠ pairTy (slotNow f s) then .tileRefused else .fire := by
  obtain ⟨-, hpick, hpred⟩ := issues_runs h
  have hr := readyOf_of_pick hpick
  have hp : predOk (slotOf ((wGet s (fireWk f)).thr f.thread.val).slot) ((wGet s (fireWk f)).thr f.thread.val) = true := hpred
  have hst' : (slotOf ((wGet s (fireWk f)).thr f.thread.val).slot).steer = 0 := hst
  unfold readyOf at hr ⊢
  simp only [hp, Bool.not_true, Bool.false_eq_true, if_false, steerReady, hst'] at hr ⊢
  split
  · next hc => simp [hc] at hr
  · split
    · rfl
    · next hc hn =>
      rw [if_neg hc, if_neg hn] at hr
      exact absurd rfl hr

theorem steer_of_onlyMatrix {sl : Slot} (h : onlyMatrix sl = true) : sl.steer = 0 := by
  simp only [onlyMatrix, Bool.and_eq_true, beq_iff_eq] at h
  obtain ⟨⟨⟨⟨⟨⟨-, -⟩, -⟩, hst⟩, -⟩, -⟩, -⟩ := h
  exact hst

/-- A refused slot parks its thread and reports. -/
theorem fireOp_refused {f : Fire} {s : State} {sel : Slot → Bool} (h : issues f s = true) (hs : sel (slotNow f s) = true) :
    (readyOf s (fireWk f) (wGet s (fireWk f)) f.thread.val = .tokenRefused →
      fireOp f sel s = refuse (fireWk f) f.thread.val (slotNow f s) 1 s) ∧
    (readyOf s (fireWk f) (wGet s (fireWk f)) f.thread.val = .tileRefused →
      fireOp f sel s = refuse (fireWk f) f.thread.val (slotNow f s) 2 s) := by
  constructor <;> intro hr <;> rw [fireOp_issues h hs, doFire] <;> simp only [hr] <;> rfl

/-- Settles O16: a refused token is refused by whichever row names the slot. -/
theorem tokenIsRefused : Obligations.TokenIsRefused := by
  unfold Obligations.TokenIsRefused
  intro f s h hr done
  have run (n : Nat) : (slotNow f s).steer = n → Host.Outcome.next (φ := Fault) (ρ := Refusal) (fireOp f (fun sl => sl.steer == n) s) = done :=
    fun hop => congrArg _ ((fireOp_refused h (by simp [hop])).1 hr)
  exact ⟨run 1, run 2, run 4⟩

/-- Settles O8. -/
theorem mmaOnOtherTypeIsRefused : Obligations.MmaOnOtherTypeIsRefused := by
  unfold Obligations.MmaOnOtherTypeIsRefused
  intro f s h ho hop hty hpair
  refine congrArg Host.Outcome.next ((fireOp_refused (sel := fun sl => sl.mop == 1) h (by simp [hop])).2 ?_)
  rw [readyOf_mma h (steer_of_onlyMatrix ho), if_pos ⟨hop, hty, hpair⟩]

/-! ### MMA and MMAZ (R50, R65, R94) -/

/-- An MMAZ starts at its slot's entry, whatever the tile keeps. -/
theorem mmaStart_mmaz {sl : Slot} (h : sl.mop = 2) (t : Tile) : mmaStart sl t = (sl.bent, 0) := by
  unfold mmaStart
  split
  · rw [if_neg (by omega)]
  · rfl

/-- Settles O9: the start and the groups of an MMAZ are its slot's, and it begins from a cleared tile. -/
theorem mmazForgetsTheTile : Obligations.MmazForgetsTheTile := by
  unfold Obligations.MmazForgetsTheTile
  intro sl aw wbuf t u h
  simp only [mmaTile, mmaTileOn, mmaGroups, mmaStart_mmaz h, h, if_true]

theorem tnReports_nil (wk t ptr tile : Nat) (s : State) : tnReports wk t ptr tile [] s = s := rfl

/-- An MMA that runs on the words `aw`, on weights without an invalid TN byte, once its unit is held. -/
theorem mmaRun_eq {f : Fire} {s : State} {wb : Nat → List Nat} {aw : List Nat} {m : Option MmaRun}
    (hwb : ∀ i, wb i = (wGet s (fireWk f)).wbuf)
    (hgood : badTn (slotNow f s) (wGet s (fireWk f)).wbuf (tileNow f s) = []) :
    goesOn f s (mmaRun (fireWk f) f.thread.val (thNow f s).ptr (slotNow f s) aw wb
      (wMod (fireWk f) (fun w => { w with mma := m, mmaTill := ((slotNow f s).tile, (issued f s).cycle + mmaCycles (slotNow f s)) })
        (issued f s))) = mmaTo f s aw := by
  obtain rfl : wb = fun _ => (wGet s (fireWk f)).wbuf := funext hwb
  have hg : badTnOn (slotNow f s) (fun _ => (wGet s (fireWk f)).wbuf) (tileNow f s) = [] := hgood
  simp only [tileNow] at hg
  simp only [mmaRun, wMod, wGet_wSet_same, wGet_issued_tiles, hg, tnReports_nil, wSet_wSet, mmaTo, blockEvents, tileNow, mmaTile,
    wGet_issued_wbuf]

section
variable {f : Fire} {s : State} (h : issues f s = true) (ho : onlyMatrix (slotNow f s) = true)
include h ho

/-- A slot with an MMA or MMAZ alone, on a tile of a type that it accepts. -/
theorem fires_mma {op : Nat} (hop : (slotNow f s).mop = op)
    (hty : op = 1 → (tileNow f s).ty = .none ∨ (tileNow f s).ty = pairTy (slotNow f s)) :
    fireOp f (fun sl => sl.mop == op) s = goesOn f s (matrixGroup (fireWk f) f.thread.val (thNow f s).ptr (slotNow f s)
      (wGet s (fireWk f)) (thNow f s) (issued f s)) := by
  refine fires_matrix h ho (by simp [hop]) ?_
  rw [readyOf_mma h (steer_of_onlyMatrix ho), if_neg]
  rintro ⟨h1, hn, hp⟩
  rcases hty (hop ▸ h1) with e | e
  · exact hn e
  · exact hp e

/-- With A in the local store. -/
theorem fires_mma_ls {op : Nat} (hop : (slotNow f s).mop = op) (hk : op = 1 ∨ op = 2)
    (hty : op = 1 → (tileNow f s).ty = .none ∨ (tileNow f s).ty = pairTy (slotNow f s)) (ha : (slotNow f s).asrc = 0)
    (hgood : badTn (slotNow f s) (wGet s (fireWk f)).wbuf (tileNow f s) = [])
    (hr : mmaAddr f s + mmaSteps f s * mmaBytes f s ≤ lsSize) :
    fireOp f (fun sl => sl.mop == op) s = mmaTo f s (aWords s (fireWk f) (mmaAddr f s) (mmaSteps f s) (mmaBytes f s)) := by
  rw [fires_mma h ho hop hty, ← mmaRun_eq (m := (wGet (issued f s) (fireWk f)).mma) (fun _ => rfl) hgood]
  have hls : ¬ lsSize < (wordAt (thNow f s).s (slotNow f s).areg).toNat +
      ((slotNow f s).ksteps + 1) * (16 * kStep (slotNow f s).bfmt * aBytes (slotNow f s).afmt) := Nat.not_lt.mpr hr
  have haw (a k b : Nat) : aWords (issued f s) (fireWk f) a k b = aWords s (fireWk f) a k b := by simp [aWords]
  rcases hk with rfl | rfl <;> simp only [matrixGroup, hop, ha, if_true, if_neg hls, haw] <;> rfl

/-- With one word of A at the head of a vector input. -/
theorem fires_mma_port {op : Nat} {n : NWord} (hop : (slotNow f s).mop = op) (hk : op = 1 ∨ op = 2)
    (hty : op = 1 → (tileNow f s).ty = .none ∨ (tileNow f s).ty = pairTy (slotNow f s)) (ha : (slotNow f s).asrc ≠ 0)
    (hgood : badTn (slotNow f s) (wGet s (fireWk f)).wbuf (tileNow f s) = []) (hks : (slotNow f s).ksteps = 0)
    (hn : (wGet s (fireWk f)).head ((slotNow f s).asrc - 1) = some n) :
    fireOp f (fun sl => sl.mop == op) s = mmaTo f s [ofLanes n.data] := by
  let r : MmaRun := { slot := (thNow f s).slot, thread := f.thread.val, ptr := (thNow f s).ptr, words := [ofLanes n.data]
                      wbufs := [(wGet s (fireWk f)).wbuf] }
  have hwb (i : Nat) : r.wbufs.getD i (wGet s (fireWk f)).wbuf = (wGet s (fireWk f)).wbuf := by
    cases i <;> rfl
  have hsl : slotOf r.slot = slotNow f s := rfl
  rw [fires_mma h ho hop hty, ← mmaRun_eq (m := some r) hwb hgood]
  congr 1
  have hfeed : matrixGroup (fireWk f) f.thread.val (thNow f s).ptr (slotNow f s) (wGet s (fireWk f)) (thNow f s) (issued f s) =
      feedMma (fireWk f) 1 (wMod (fireWk f) (fun w =>
        { w with mma := some r, mmaTill := ((slotNow f s).tile, (issued f s).cycle + mmaCycles (slotNow f s)) }) (issued f s)) := by
    rcases hk with rfl | rfl <;> simp only [matrixGroup, hop, ha, if_false, hn, hks] <;> rfl
  rw [hfeed, feedMma]
  simp only [wMod, wGet_wSet_same, hsl, hks, wGet_issued_wbuf]
  rfl

end

/-- Settles O7. -/
theorem matrixTileResults : Obligations.MatrixTileResults := by
  unfold Obligations.MatrixTileResults
  intro f s h ho sl aw good
  have mma (hty : (tileNow f s).ty = .none ∨ (tileNow f s).ty = pairTy sl) :
      1 = 1 → (tileNow f s).ty = .none ∨ (tileNow f s).ty = pairTy sl := fun _ => hty
  have mmaz : 2 = 1 → (tileNow f s).ty = .none ∨ (tileNow f s).ty = pairTy sl := fun e => absurd e (by decide)
  refine ⟨fun hop => ?_, fun ha hg hr => ⟨fun hop hty => ?_, fun hop => ?_⟩, fun n ha hg hks hn => ⟨fun hop hty => ?_, fun hop => ?_⟩⟩
  · refine congrArg Host.Outcome.next ((fires_matrix h ho (sel := fun sl => sl.mop == 4) (by simpa using hop)
      (issues_fire h (steer_of_onlyMatrix ho) ?_)).trans ?_)
    · have hop' : (slotNow f s).mop = 4 := hop
      omega
    · have hop' : (slotNow f s).mop = 4 := hop
      simp only [matrixGroup, hop']
      rfl
  · exact congrArg Host.Outcome.next (fires_mma_ls h ho hop (.inl rfl) (mma hty) ha hg hr)
  · exact congrArg Host.Outcome.next (fires_mma_ls h ho hop (.inr rfl) mmaz ha hg hr)
  · exact congrArg Host.Outcome.next (fires_mma_port h ho hop (.inl rfl) (mma hty) ha hg hks hn)
  · exact congrArg Host.Outcome.next (fires_mma_port h ho hop (.inr rfl) mmaz ha hg hks hn)

/-! ### DRAIN (R50, R106) -/

/-- What sending the rows of a DRAIN leaves as it was: memory, and of the draining worker everything but the rows that wait and the events of
its monitors. -/
def SendsOnly (wk : Nat) (s t : State) : Prop :=
  t.mem = s.mem ∧ wGet t wk = { wGet s wk with outq := (wGet t wk).outq, plaus := (wGet t wk).plaus }

theorem SendsOnly.refl (wk : Nat) (s : State) : SendsOnly wk s s := ⟨rfl, rfl⟩

theorem SendsOnly.trans {wk : Nat} {s t u : State} (h : SendsOnly wk s t) (g : SendsOnly wk t u) : SendsOnly wk s u := by
  obtain ⟨hm, hw⟩ := h
  obtain ⟨gm, gw⟩ := g
  refine ⟨gm.trans hm, ?_⟩
  rw [gw, hw]

theorem SendsOnly.monitor (wk port : Nat) (sl : Slot) (t ptr : Nat) (l : List Word) (s : State) : SendsOnly wk s (monitor wk port sl t ptr l s) := by
  unfold Machine.monitor
  split
  · exact .refl wk s
  · exact ⟨rfl, by simp only [wMod, wGet_wSet_same]⟩

theorem SendsOnly.monitors (wk port : Nat) (sl : Slot) (t ptr : Nat) (rows : List Nat) (s : State) :
    SendsOnly wk s (rows.foldl (fun s r => Machine.monitor wk port sl t ptr (toLanes 16 r) s) s) := by
  induction rows generalizing s with
  | nil => exact .refl wk s
  | cons r rs ih => exact (SendsOnly.monitor wk port sl t ptr (toLanes 16 r) s).trans (ih _)

theorem SendsOnly.flushOut (wk k : Nat) (s : State) : SendsOnly wk s (flushOut wk k s) := by
  induction k generalizing s with
  | zero => exact .refl wk s
  | succ k ih =>
    unfold Machine.flushOut
    split
    · exact .refl wk s
    · dsimp only
      split
      · refine SendsOnly.trans ?_ (ih _)
        exact ⟨rfl, by simp only [portSend, wMod, wGet_swSet, wGet_wSet_same]⟩
      · exact .refl wk s

theorem SendsOnly.queue {wk : Nat} {s : State} (q : Worker → List (Nat × Nat × NWord)) :
    SendsOnly wk s (wMod wk (fun w => { w with outq := q w }) s) :=
  ⟨rfl, by simp only [wMod, wGet_wSet_same]⟩

/-- Settles O10: the rows are converted before anything is sent, and neither their sending nor the monitors touch the tile or memory. -/
theorem drainResults : Obligations.DrainResults := by
  unfold Obligations.DrainResults
  intro f s h ho hop sl a
  have hfire : fireOp f (fun sl => sl.mop == 3) s =
      goesOn f s (opDrain (fireWk f) f.thread.val (thNow f s).ptr (slotNow f s) (thNow f s) (issued f s)) := by
    rw [fires_matrix h ho (by simp [hop]) (issues_fire h (steer_of_onlyMatrix ho) (by omega))]
    simp only [matrixGroup, hop]
  refine ⟨fun hd hr => ⟨_, congrArg Host.Outcome.next hfire, ?_⟩, fun hd => ⟨_, congrArg Host.Outcome.next hfire, ?_⟩⟩
  · have hd' : (slotNow f s).mdst = 2 := hd
    have hls : ¬ lsSize < (wordAt (thNow f s).s (slotNow f s).dreg).toNat + 1024 := Nat.not_lt.mpr hr
    simp only [opDrain, hd', hls, and_false, if_false, if_true, wGet_issued_tiles]
    refine ⟨?_, ?_⟩
    · simp only [lsWrite, wGet_mwrite, thMod, wMod, wGet_wSet_same, Worker.setThr, wGet_issued_tiles]
    · simp only [lsWrite, mwrite, thMod, wMod, wSet_mem, issued_mem, List.flatMap_map]
      rfl
  · have hd' : (slotNow f s).mdst ≠ 2 := Nat.ne_of_lt hd
    simp only [opDrain, hd', false_and, if_false, wGet_issued_tiles]
    generalize hv : thMod (fireWk f) f.thread.val _ (wMod (fireWk f) _ (issued f s)) = v
    have hvw : (wGet v (fireWk f)).tiles = (wGet s (fireWk f)).tiles ∧ v.mem = s.mem ∧
        (wGet v (fireWk f)).lastDrain = (List.range 16).map fun r =>
          drainRow (slotNow f s) (tileNow f s) (drawsFor (roundOf (slotNow f s).mround) 256 (thNow f s).rng).1 r := by
      subst hv
      simp only [thMod, wMod, wGet_wSet_same, Worker.setThr, wGet_issued_tiles, wSet_mem, issued_mem, true_and]
      rfl
    obtain ⟨hm, hw⟩ := ((SendsOnly.monitors _ _ _ _ _ _ v).trans (SendsOnly.queue _)).trans (SendsOnly.flushOut (fireWk f) 16 _)
    rw [hw, hm]
    obtain ⟨ht, hmem, hl⟩ := hvw
    exact ⟨ht, hmem, hl⟩

end Sys2Proof.Machine

/-! PROOF. The memory group: loads and stores of the local store, the rafter tap, the weight buffer, address faults, and the frame that
STV breaks (R29, R56, R57). -/

namespace Sys2Proof.Machine

theorem ite_not_bool {α : Type} (b : Bool) (x y : α) : (if (!b) = true then x else y) = if b = true then y else x := by
  cases b <;> rfl

/-! ### Each operation: done, or an address fault (R56, R57) -/

/-- The address of an access of `k` bytes per unit of `OFFSET`. -/
def memAt (f : Fire) (s : State) (k : Nat) : Nat := memBase f s + k * (slotNow f s).offset

/-- The access is not made (R57). -/
def memFault (f : Fire) (s : State) (addr : Nat) : State :=
  goesOn f s (addrFault (fireWk f) f.thread.val (thNow f s).ptr addr (issued f s))

section
variable {f : Fire} {s : State} (h : issues f s = true) (ho : onlyMemory (slotNow f s) = true)
include h ho

theorem fires_ldv (hop : (slotNow f s).memop = 1) : fireOp f (fun sl => sl.memop == 1) s =
    if lsOk (memAt f s 128) 128 = true then
      memTo f s 128 (thPut f (fun th => { th with v := th.v.set ((slotNow f s).reg % 4) (lanesOf (lsRead s (fireWk f) (memAt f s 128) 128)) })
        (issued f s))
    else memFault f s (lsAddr (fireWk f) (memAt f s 128)) := by
  rw [fires_memory h ho (by simp [hop])]
  simp only [memoryGroup, hop, ite_not_bool, lsRead_counted, memAt, memBase]
  exact apply_ite (goesOn f s) _ _ _

theorem fires_stv (hop : (slotNow f s).memop = 2) : fireOp f (fun sl => sl.memop == 2) s =
    if lsOk (memAt f s 128) 128 = true then
      memTo f s 128 (lsWrite (fireWk f) (memAt f s 128) (bytesOf ((thNow f s).v.getD ((slotNow f s).reg % 4) zeroVec)) (issued f s))
    else memFault f s (lsAddr (fireWk f) (memAt f s 128)) := by
  rw [fires_memory h ho (by simp [hop])]
  simp only [memoryGroup, hop, ite_not_bool, memAt, memBase]
  exact apply_ite (goesOn f s) _ _ _

theorem fires_lds (hop : (slotNow f s).memop = 3) : fireOp f (fun sl => sl.memop == 3) s =
    if lsOk (memAt f s 4) 4 = true then
      memTo f s 4 (thPut f (fun th => { th with s := th.s.set (slotNow f s).reg (BitVec.ofNat 32 (ofLe (lsRead s (fireWk f) (memAt f s 4) 4))) })
        (issued f s))
    else memFault f s (lsAddr (fireWk f) (memAt f s 4)) := by
  rw [fires_memory h ho (by simp [hop])]
  simp only [memoryGroup, hop, ite_not_bool, lsRead_counted, memAt, memBase]
  exact apply_ite (goesOn f s) _ _ _

theorem fires_sts (hop : (slotNow f s).memop = 4) : fireOp f (fun sl => sl.memop == 4) s =
    if lsOk (memAt f s 4) 4 = true then
      memTo f s 4 (lsWrite (fireWk f) (memAt f s 4) (toLe 4 (wordAt (thNow f s).s (slotNow f s).reg).toNat) (issued f s))
    else memFault f s (lsAddr (fireWk f) (memAt f s 4)) := by
  rw [fires_memory h ho (by simp [hop])]
  simp only [memoryGroup, hop, ite_not_bool, memAt, memBase]
  exact apply_ite (goesOn f s) _ _ _

theorem fires_rtls (hop : (slotNow f s).memop = 7) : fireOp f (fun sl => sl.memop == 7) s =
    if lsOk (128 * (slotNow f s).offset) 512 = true then
      memTo f s 512 (lsWrite (fireWk f) (128 * (slotNow f s).offset) (toLe 512 ((wGet s (fireWk f)).tap.headD 0)) (issued f s))
    else memFault f s (lsAddr (fireWk f) (128 * (slotNow f s).offset)) := by
  rw [fires_memory h ho (by simp [hop])]
  simp only [memoryGroup, hop, ite_not_bool]
  exact apply_ite (goesOn f s) _ _ _

theorem fires_rtb (hop : (slotNow f s).memop = 8) : fireOp f (fun sl => sl.memop == 8) s =
    memTo f s 512 (wMod (fireWk f) (fun w => { w with wbuf := w.wbuf.set (slotNow f s).reg ((wGet s (fireWk f)).tap.headD 0) })
      (issued f s)) := by
  rw [fires_memory h ho (by simp [hop])]
  simp only [memoryGroup, hop]
  rfl

theorem fires_ldb (hop : (slotNow f s).memop = 9) : fireOp f (fun sl => sl.memop == 9) s =
    if lsOk (memAt f s 128) 512 = true then
      memTo f s 512 (wMod (fireWk f) (fun w =>
        { w with wbuf := w.wbuf.set (slotNow f s).reg (ofLe (lsRead s (fireWk f) (memAt f s 128) 512)) }) (issued f s))
    else memFault f s (lsAddr (fireWk f) (memAt f s 128)) := by
  rw [fires_memory h ho (by simp [hop])]
  simp only [memoryGroup, hop, ite_not_bool, lsRead_counted, memAt, memBase]
  exact apply_ite (goesOn f s) _ _ _

/-- A transfer between comb memory and local store, by the group's own operation. -/
theorem fires_cm {op : Nat} (hop : (slotNow f s).memop = op) (hk : op = 5 ∨ op = 6) : fireOp f (fun sl => sl.memop == op) s =
    goesOn f s (opCm (counted f s) (fireWk f) f.thread.val (thNow f s).ptr f (slotNow f s) (thNow f s) (issued f s)) := by
  rw [fires_memory h ho (by simp [hop])]
  rcases hk with rfl | rfl <;> simp only [memoryGroup, hop]

end

/-- The fields that a firing changes leave every comb where it was. -/
@[simp] theorem absentComb_issued (f : Fire) (s : State) (cb : Nat) : absentComb (issued f s) cb = absentComb s cb := by
  simp [absentComb, rget_issued 0 (f := f) (s := s) (g := .CMB_STATUS_STATE) (i := cb) (by simp [firingFields])]

/-- Settles O11: the addresses are inside the store. -/
theorem localStoreResults : Obligations.LocalStoreResults := by
  unfold Obligations.LocalStoreResults
  intro f s h ho sl wk va sa
  exact ⟨fun hop hl => congrArg _ ((fires_ldv h ho hop).trans (if_pos hl)), fun hop hl => congrArg _ ((fires_stv h ho hop).trans (if_pos hl)),
    fun hop hl => congrArg _ ((fires_lds h ho hop).trans (if_pos hl)), fun hop hl => congrArg _ ((fires_sts h ho hop).trans (if_pos hl))⟩

/-- Settles O12. -/
theorem tapAndWeightBufferResults : Obligations.TapAndWeightBufferResults := by
  unfold Obligations.TapAndWeightBufferResults
  intro f s h ho sl wk beat va
  exact ⟨fun hop hl => congrArg _ ((fires_rtls h ho hop).trans (if_pos hl)), fun hop => congrArg _ (fires_rtb h ho hop),
    fun hop hl => congrArg _ ((fires_ldb h ho hop).trans (if_pos hl))⟩

/-- Settles O14: the same operations, on addresses that fail their check. -/
theorem localStoreFaults : Obligations.LocalStoreFaults := by
  unfold Obligations.LocalStoreFaults
  intro f s h ho sl bad va sa
  have off {b : Bool} (hb : b = false) : ¬ b = true := by simp [hb]
  refine ⟨fun hop hl => congrArg _ ((fires_ldv h ho hop).trans (if_neg (off hl))),
    fun hop hl => congrArg _ ((fires_stv h ho hop).trans (if_neg (off hl))),
    fun hop hl => congrArg _ ((fires_lds h ho hop).trans (if_neg (off hl))),
    fun hop hl => congrArg _ ((fires_sts h ho hop).trans (if_neg (off hl))),
    fun hop hl => congrArg _ ((fires_rtls h ho hop).trans (if_neg (off hl))),
    fun hop hl => congrArg _ ((fires_ldb h ho hop).trans (if_neg (off hl))), fun hc => ?_⟩
  intro badCm
  have hcm : opCm (counted f s) (fireWk f) f.thread.val (thNow f s).ptr f (slotNow f s) (thNow f s) (issued f s) =
      addrFault (fireWk f) f.thread.val (thNow f s).ptr (cmAddr (combNow f) (memBase f s)) (issued f s) := by
    unfold opCm
    dsimp only
    rw [absentComb_issued]
    exact if_pos hc
  exact ⟨fun hop => congrArg _ ((fires_cm h ho hop (.inl rfl)).trans (congrArg _ hcm)),
    fun hop => congrArg _ ((fires_cm h ho hop (.inr rfl)).trans (congrArg _ hcm))⟩

/-! ### The frame of STV

A vector register of the model is a list of words of any length: STV stores the words that it finds, and a register of 33 words, which no
operation makes, reaches four bytes beyond the 128 of R56. -/

/-- Thread 0 of worker 0 of comb (0, 0). -/
def firstFire : Fire := ⟨0, 0, 0, 0, 0, 0, .good, []⟩

/-- Context 0 holds region 0 and runs a step in which that thread stores vector register 0, of 33 words, at address 0. -/
def longRegister : State :=
  { State.reset with
    ctxs := [(0, { ctx0 with allot := some ⟨0, 0, 0, 0, [0], [(0, 0)], [0, 64], 0, 0⟩, phase := .work })]
    workers := [(0, { worker0 with
      act := { wcfg0 with present := true }
      th := [(0, { thread0 with v := [List.replicate 33 1#32], slot := 2 <<< 92 })] })] }

theorem longRegister_issues : issues firstFire longRegister = true ∧ onlyMemory (slotNow firstFire longRegister) = true ∧
    (slotNow firstFire longRegister).memop = 2 ∧ memAt firstFire longRegister 128 = 0 := by decide +kernel

/-- Refutes O25: STV of a register of 33 words writes the bytes 128 to 131. -/
theorem not_localStoreFrame : ¬ Obligations.LocalStoreFrame := by
  unfold Obligations.LocalStoreFrame
  intro hall
  obtain ⟨hi, ho, hop, ha⟩ := longRegister_issues
  obtain ⟨-, hstv, -⟩ := hall firstFire longRegister rfl hi ho rfl rfl
  have hls : lsOk (memAt firstFire longRegister 128) 128 = true := by rw [ha]; rfl
  obtain ⟨t, ht, -, -, hframe, -⟩ := hstv hop hls
  obtain rfl : fireOp firstFire (fun sl => sl.memop == 2) longRegister = t := Host.Outcome.next.inj ht
  have hkey := hframe (lsKey 0 128) (fun i hi he => by
    simp only [show memBase firstFire longRegister + 128 * (slotNow firstFire longRegister).offset = 0 from ha, lsKey, fireWk] at he
    simp [firstFire, wkOf, cbOf] at he
    omega)
  exact absurd hkey (by decide +kernel)

end Sys2Proof.Machine

/-! PROOF. The sync and message group: signals, waits, sends and pops (R59, R60, R274 to R283). -/

namespace Sys2Proof.Machine

/-- How a thread goes on from `t` after the answer of its sync group: not at all, or with p3 as answered. -/
def syncEnd (f : Fire) (s : State) (ans : Option (Option Bool)) (t : State) : State :=
  match ans with
  | none => t
  | some none => goesOn f s t
  | some (some b) => syncTo f s b t

/-- A sync slot that takes no queue entry: the group runs on the issued state, and the thread goes on as the group's answer says. -/
theorem fires_sync_alone {f : Fire} {s : State} {sel : Slot → Bool} (h : issues f s = true) (ho : onlySync (slotNow f s) = true)
    (hq : needsMQ (slotNow f s) = false) (hs : sel (slotNow f s) = true) {ans : Option (Option Bool)} {t : State}
    (hg : syncGroup (fireWk f) f.thread.val (slotNow f s) none (thNow f s) (issued f s) = (ans, t)) :
    fireOp f sel s = syncEnd f s ans t := by
  rw [fires_sync h ho hs, hq]
  simp only [Bool.false_eq_true, if_false, Option.elim, hg]
  rfl

theorem syncOp_of_onlySync {sl : Slot} (ho : onlySync sl = true) : syncOp sl = sl.yop := by
  simp only [onlySync, Bool.and_eq_true, beq_iff_eq] at ho
  simp [syncOp, ho.2]

@[simp] theorem objGet_issued (f : Fire) (s : State) (cb n : Nat) : objGet (issued f s) cb n = objGet s cb n := by
  rw [issued_frame]
  rfl

theorem wGet_launch (p : Packet) (s : State) (k : Nat) : wGet (launch p s) k = wGet s k := rfl

theorem set_getD_self (l : List Nat) (i v : Nat) : (l.set i v).getD i 0 = if i < l.length then v else 0 := by
  split
  next h => simp [h]
  next h => simp [Nat.not_lt.mp h]

/-- The packet that an RSIG sends through binding `q` (R258, R283). -/
def rsigPacket (f : Fire) (s : State) (q : STarget) : Packet :=
  { mkPacket (issued f s) 8 (epW (fireWk f)) (epC (cbOf q.x q.y)) (ctxOfComb (issued f s) (fireWk f / 32)) with
    value := BitVec.ofNat 32 ((syncReg f s).toNat % 65536 % 65536), flow := BitVec.ofNat 6 (slotNow f s).ybind
    addr := BitVec.ofNat 64 (soAddr q.x q.y q.obj) }

/-- Settles O17: the sync group, one operation at a time. -/
theorem signalAndPopResults : Obligations.SignalAndPopResults := by
  unfold Obligations.SignalAndPopResults
  intro f s h ho sl wk v
  have hop := syncOp_of_onlySync ho
  have rsig (hy : sl.yop = 3) (hq : needsMQ sl = false) :
      exec (.rsig f) s = .next (goesOn f s (opRsig wk f.thread.val sl.ybind v (issued f s))) := by
    refine congrArg Host.Outcome.next (fires_sync_alone h ho hq (by simp [hop]; exact hy) (ans := some none) ?_)
    simp only [syncGroup, hop, show (slotNow f s).yop = 3 from hy]
    rfl
  refine ⟨fun hy hq => ?_, fun q hy hq hb ha => ?_, fun q hy hq hb ha => ?_, fun e hy hq he => ?_⟩
  · refine congrArg Host.Outcome.next (fires_sync_alone h ho hq (by simp [hop]; exact hy) (ans := some none) ?_)
    simp only [syncGroup, hop, show (slotNow f s).yop = 1 from hy]
    rfl
  · rw [rsig hy hq]
    simp [opRsig, hb, ha]
  · refine ⟨opRsig wk f.thread.val sl.ybind v (issued f s), rsigPacket f s q, rsig hy hq, ?_⟩
    have ht : opRsig wk f.thread.val sl.ybind v (issued f s) = launch (rsigPacket f s q) (wMod wk (fun w =>
        { w with unacked := w.unacked.set sl.ybind (w.unacked.getD sl.ybind 0 + 1) }) (issued f s)) := by
      simp [opRsig, hb, ha]
      rfl
    rw [ht]
    refine ⟨?_, rfl, ?_, ?_, ?_⟩
    · rw [issued_frame]
      rfl
    · simp only [rsigPacket, BitVec.toNat_ofNat, v]
      omega
    · simp [rsigPacket]
    · rw [wGet_launch, wMod, wGet_wSet_same]
      exact set_getD_self _ _ _
  · refine congrArg Host.Outcome.next ((fires_sync h ho (by simp [hop]; exact hy)).trans ?_)
    simp only [show needsMQ (slotNow f s) = true from hq, if_true]
    rw [show ((wGet s (fireWk f)).queues.getD (slotNow f s).qsel []).head? = some e from he]
    simp only [Option.elim, syncGroup, hop, show (slotNow f s).yop = 5 from hy]
    rfl

/-- Settles O18: the three ends of `opWait`. -/
theorem waitResults : Obligations.WaitResults := by
  unfold Obligations.WaitResults
  intro f s h ho hy hq wk n r kept
  have hop := syncOp_of_onlySync ho
  have run {ans : Option Bool} {t : State} (hw : opWait wk f.thread.val n (syncReg f s) (syncTmo f s) (issued f s) = (ans, t)) :=
    fires_sync_alone (sel := fun sl => syncOp sl == 2) (ans := ans.map some) (t := t) h ho hq (by simp [hop, hy]) (by
      simp only [syncGroup, hop, hy]
      exact congrArg (fun r => (r.1.map some, r.2)) hw)
  have hr : objWait (objGet (issued f s) (wk / 32) n) ⟨wk, f.thread.val, syncReg f s⟩ = r := by rw [objGet_issued]; rfl
  refine ⟨fun hd => ?_, fun hd ht => ?_, fun hd ht => ?_⟩
  · refine congrArg Host.Outcome.next (run (ans := some true) ?_)
    simp only [opWait, hr, hd, if_true]
    rfl
  · refine congrArg Host.Outcome.next (run (ans := none) ?_)
    simp only [opWait, hr, hd, ht, Bool.false_eq_true, if_false]
    rfl
  · refine congrArg Host.Outcome.next (run (ans := some false) ?_)
    simp only [opWait, hr, hd, ht, Bool.false_eq_true, if_false, if_true]
    rfl

/-- Settles O19: the five ends of `opSend`. -/
theorem sendResults : Obligations.SendResults := by
  unfold Obligations.SendResults
  intro f s q h ho hy hq wk b w tuple hb
  have hop := syncOp_of_onlySync ho
  have run {ans : Option Bool} {t : State} (hw : opSend wk f.thread.val b tuple (syncTmo f s) (issued f s) = (ans, t)) :=
    fires_sync_alone (sel := fun sl => syncOp sl == 4) (ans := ans.map some) (t := t) h ho hq (by simp [hop, hy]) (by
      simp only [syncGroup, hop, hy]
      exact congrArg (fun r => (r.1.map some, r.2)) hw)
  have hb' : qbind (wGet (issued f s) wk) b = some q := hb
  refine ⟨fun ha => ?_, fun ha => ⟨fun hg => ?_, fun hg hc => ?_, fun hg hc ht => ?_, fun hg hc ht => ?_⟩⟩
  · refine congrArg Host.Outcome.next (run (ans := some false) ?_)
    simp only [opSend, hb', absentComb_issued, ha, if_true]
  · refine congrArg Host.Outcome.next (run (ans := some false) ?_)
    have hg' : (wGet (issued f s) wk).gone.getD b false = true := hg
    simp only [opSend, hb', absentComb_issued, ha, hg', Bool.false_eq_true, if_false, if_true]
  · refine congrArg Host.Outcome.next (run (ans := some true) ?_)
    have hg' : (wGet (issued f s) wk).gone.getD b false = false := hg
    have hc' : 0 < (wGet (issued f s) wk).cred.getD b 0 := hc
    simp only [opSend, hb', absentComb_issued, ha, hg', hc', Bool.false_eq_true, if_false, if_true]
  · refine congrArg Host.Outcome.next (run (ans := none) ?_)
    have hg' : (wGet (issued f s) wk).gone.getD b false = false := hg
    have hc' : ¬ 0 < (wGet (issued f s) wk).cred.getD b 0 := Nat.not_lt.mpr (Nat.le_of_eq hc)
    simp only [opSend, hb', absentComb_issued, ha, hg', hc', ht, Bool.false_eq_true, if_false]
    rfl
  · refine congrArg Host.Outcome.next (run (ans := some false) ?_)
    have hg' : (wGet (issued f s) wk).gone.getD b false = false := hg
    have hc' : ¬ 0 < (wGet (issued f s) wk).cred.getD b 0 := Nat.not_lt.mpr (Nat.le_of_eq hc)
    simp only [opSend, hb', absentComb_issued, ha, hg', hc', ht, Bool.false_eq_true, if_false, if_true]

end Sys2Proof.Machine

/-! PROOF. CMRD and CMWR, block by block (R56, R57, R63, R244, R316). -/

namespace Sys2Proof.Machine

/-- An event count writes register fields alone. -/
theorem bump_frame (ev ovf : F) (i n k : Nat) (s : State) : bump ev ovf i n k s = { s with flds := (bump ev ovf i n k s).flds } := by
  unfold bump
  dsimp only
  split <;> rfl

@[simp] theorem bump_mem (ev ovf : F) (i n k : Nat) (s : State) : (bump ev ovf i n k s).mem = s.mem := by rw [bump_frame]
@[simp] theorem bump_poison (ev ovf : F) (i n k : Nat) (s : State) : (bump ev ovf i n k s).poison = s.poison := by rw [bump_frame]
@[simp] theorem bump_tags (ev ovf : F) (i n k : Nat) (s : State) : (bump ev ovf i n k s).tags = s.tags := by rw [bump_frame]
@[simp] theorem bump_dropWaits (ev ovf : F) (i n k : Nat) (s : State) : (bump ev ovf i n k s).dropWaits = s.dropWaits := by rw [bump_frame]

/-! ### What neither memory, marks, drops nor the count of re-reads notices -/

/-- From `s` to `t`, memory, poison marks, waiting drops, tags and the count of re-reads of comb `cb` stay. -/
def CmQuiet (cb : Nat) (s t : State) : Prop :=
  t.mem = s.mem ∧ t.poison = s.poison ∧ t.dropWaits = s.dropWaits ∧ t.tags = s.tags ∧ rget t .TND_EVT_COUNT cb 0 = rget s .TND_EVT_COUNT cb 0

namespace CmQuiet

theorem refl (cb : Nat) (s : State) : CmQuiet cb s s := ⟨rfl, rfl, rfl, rfl, rfl⟩

theorem trans {cb : Nat} {s t u : State} (h : CmQuiet cb s t) (g : CmQuiet cb t u) : CmQuiet cb s u :=
  ⟨g.1.trans h.1, g.2.1.trans h.2.1, g.2.2.1.trans h.2.2.1, g.2.2.2.1.trans h.2.2.2.1, g.2.2.2.2.trans h.2.2.2.2⟩

theorem rset {cb : Nat} {g : F} {i j : Nat} (v : Nat) (s : State) (h : (⟨.TND_EVT_COUNT, cb, 0⟩ : FKey) ≠ ⟨g, i, j⟩) :
    CmQuiet cb s (Machine.rset g i j v s) := ⟨rfl, rfl, rfl, rfl, rget_rset_ne _ _ _ _ _ _ _ _ h⟩

theorem bump {cb : Nat} {ev ovf : F} {i n : Nat} (k : Nat) (s : State) (h : (⟨.TND_EVT_COUNT, cb, 0⟩ : FKey) ≠ ⟨ev, i, n⟩)
    (ho : ovf ≠ .TND_EVT_COUNT) : CmQuiet cb s (Machine.bump ev ovf i n k s) := by
  unfold Machine.bump
  dsimp only
  split
  · exact rset _ _ h
  · exact (rset _ _ h).trans (rset _ _ (fun e => ho (congrArg FKey.f e).symm))

theorem ctxSet (cb c : Nat) (x : Ctx) (s : State) : CmQuiet cb s (Machine.ctxSet c x s) := ⟨rfl, rfl, rfl, rfl, rfl⟩

theorem raise (cb u : Nat) (r : FaultRec) (s : State) : CmQuiet cb s (Machine.raise u r s) := by
  unfold Machine.raise
  dsimp only
  split
  · exact bump 1 s (by simp) (by simp)
  · exact ⟨rfl, rfl, rfl, rfl, rfl⟩

theorem charge (cb c n : Nat) (s : State) : CmQuiet cb s (Machine.charge c n s) := by
  have hs : CmQuiet cb s (Machine.rset .CTX_STEPSTAT_SLIP c 0 (min (rget s .CTX_STEPSTAT_SLIP c + n) 0xFFFFFFFF) s) := rset _ _ (by simp)
  unfold Machine.charge
  dsimp only
  split
  · exact hs.trans ((bump 1 _ (by simp) (by simp)).trans (ctxSet _ _ _ _))
  · exact hs

theorem chargeComb (cb k n : Nat) (s : State) : CmQuiet cb s (Machine.chargeComb k n s) := by
  unfold Machine.chargeComb
  split
  · split
    · exact charge _ _ _ _
    · exact refl _ _
  · exact refl _ _

theorem poisonSeen (cb off : Nat) (s : State) : CmQuiet cb s (Machine.poisonSeen cb off s) := by
  have hb : CmQuiet cb s (Machine.bump .TND_EVT_COUNT .TND_OVF_OVF cb 1 1 s) := bump 1 s (by simp) (by simp)
  unfold Machine.poisonSeen
  dsimp only
  split
  · refine (hb.trans ?_).trans (raise _ _ _ _)
    split
    · exact ctxSet _ _ _ _
    · exact refl _ _
  · exact refl _ _

theorem wMod (cb k : Nat) (g : Worker → Worker) (s : State) : CmQuiet cb s (Machine.wMod k g s) := ⟨rfl, rfl, rfl, rfl, rfl⟩

theorem issued (cb : Nat) (f : Fire) (s : State) : CmQuiet cb s (Machine.issued f s) := by
  refine ⟨issued_mem f s, ?_, ?_, ?_, rget_issued 0 (by simp [firingFields])⟩ <;> rw [issued_frame]

end CmQuiet

/-! ### One block of a CMRD -/

/-- The bytes of a block as its reader gets them, `bad` where its check has failed. -/
def cmBytes (s : State) (cb off : Nat) (bad : Bool) : List Byte :=
  if s.poison.contains (cmBlock cb off) || bad then List.replicate 128 0 else mread s (cmKey cb off) 128

theorem length_cmBytes (s : State) (cb off : Nat) (bad : Bool) : (cmBytes s cb off bad).length = 128 := by
  unfold cmBytes
  split <;> simp [mread]

/-- A counter below its limit counts. -/
theorem rget_bump_same {s : State} {ev : F} (ovf : F) {i n k : Nat} (h : rget s ev i n + k ≤ 0xFFFFFFFF) :
    rget (bump ev ovf i n k s) ev i n = rget s ev i n + k := by
  unfold bump
  simp only [h, if_true]
  exact rget_rset_same _ _ _ _ _

/-- One block of a CMRD: its bytes, its mark and its count. -/
structure BlockRead (cb off key : Nat) (v : BlockCrc) (s t : State) : Prop where
  mem : t.mem = mputs s.mem key (cmBytes s cb off (crcFailed v))
  waits : t.dropWaits = s.dropWaits
  tags : t.tags = s.tags
  mark : ∀ b, t.poison.contains b = (s.poison.contains b || (crcFailed v && b == cmBlock cb off))
  count : rget s .TND_EVT_COUNT cb 0 + 1 ≤ 0xFFFFFFFF →
    rget t .TND_EVT_COUNT cb 0 = rget s .TND_EVT_COUNT cb 0 + b2n (!s.poison.contains (cmBlock cb off) && crcPassed v)

/-- The check, the write and the report of one block, the check being `u`. -/
theorem BlockRead.of_checked {wk cb off ls : Nat} {v : BlockCrc} {s u : State} (hu : rereadBlock cb off v s = u) (hm : u.mem = s.mem)
    (hd : u.dropWaits = s.dropWaits) (ht : u.tags = s.tags) (hp : ∀ b, u.poison.contains b = (s.poison.contains b || (crcFailed v && b == cmBlock cb off)))
    (hc : rget s .TND_EVT_COUNT cb 0 + 1 ≤ 0xFFFFFFFF →
      rget u .TND_EVT_COUNT cb 0 = rget s .TND_EVT_COUNT cb 0 + b2n (!s.poison.contains (cmBlock cb off) && crcPassed v)) :
    BlockRead cb off (lsKey wk ls) v s (cmToLs wk cb off ls v s) := by
  obtain ⟨qm, qp, qd, qt, qr⟩ := CmQuiet.poisonSeen cb off (lsWrite wk ls (cmReadBlock u cb off) u)
  have ht' : cmToLs wk cb off ls v s = poisonSeen cb off (lsWrite wk ls (cmReadBlock u cb off) u) := by rw [← hu]; rfl
  have hb : cmReadBlock u cb off = cmBytes s cb off (crcFailed v) := by
    unfold cmReadBlock cmBytes
    rw [hp]
    simp [mread, hm]
  rw [ht']
  exact ⟨by rw [qm, hb, ← hm]; rfl, qd.trans hd, qt.trans ht, fun b => by rw [qp]; exact hp b, fun h => qr.trans (hc h)⟩

theorem cmToLs_read (wk cb off ls : Nat) (v : BlockCrc) (s : State) :
    BlockRead cb off (lsKey wk ls) v s (cmToLs wk cb off ls v s) := by
  by_cases hmark : s.poison.contains (cmBlock cb off) = true
  · refine BlockRead.of_checked (u := s) (by unfold rereadBlock; rw [if_pos hmark]) rfl rfl rfl (fun b => ?_) (fun _ => ?_)
    · by_cases hb : b = cmBlock cb off
      · rw [hb, hmark, Bool.true_or]
      · simp [hb]
    · rw [hmark]
      rfl
  · have clean : rereadBlock cb off v s = match v with
        | .good => s
        | .reread late => bump .TND_EVT_COUNT .TND_OVF_OVF cb 0 1 (chargeComb cb late.val s)
        | .failed late => markBlock cb off (chargeComb cb late.val s) := if_neg hmark
    simp only [Bool.not_eq_true] at hmark
    cases v with
    | good => exact .of_checked clean rfl rfl rfl (by simp [crcFailed]) (by simp [crcPassed, b2n])
    | reread late =>
      obtain ⟨hm, hp, hd, ht, hr⟩ := CmQuiet.chargeComb cb cb late.val s
      refine .of_checked clean ((bump_mem _ _ _ _ _ _).trans hm) ((bump_dropWaits _ _ _ _ _ _).trans hd)
        ((bump_tags _ _ _ _ _ _).trans ht) (fun b => by simp [crcFailed, hp]) (fun h => ?_)
      rw [rget_bump_same _ (by rw [hr]; exact h), hr, hmark]
      rfl
    | failed late =>
      obtain ⟨hm, hp, hd, ht, hr⟩ := CmQuiet.chargeComb cb cb late.val s
      refine .of_checked clean hm hd ht (fun b => ?_) (fun _ => hr.trans (by simp [crcPassed, b2n]))
      simp only [markBlock, List.contains_cons, hp, crcFailed, Bool.true_and]
      exact Bool.or_comm _ _

/-! ### All blocks of a CMRD -/

/-- A transfer into the local store: worker, comb, address in the comb's memory, offset in the local store, and the checks of its blocks. -/
structure CmMove where
  wk : Nat
  cb : Nat
  a : Nat
  ls : Nat
  crc : List BlockCrc

namespace CmMove

def block (m : CmMove) (j : Nat) : Nat := cmBlock m.cb (m.a + 128 * j)
def check (m : CmMove) (j : Nat) : BlockCrc := m.crc.getD j .good
def waits (m : CmMove) (s : State) (j : Nat) : Option Nat := pendingBlock s m.cb (m.a + 128 * j)

/-- The step of the transfer that reads block `j`, unless a drop still waits for it. -/
def step (m : CmMove) (s : State) (j : Nat) : State :=
  match m.waits s j with
  | some _ => s
  | none => cmToLs m.wk m.cb (m.a + 128 * j) (m.ls + 128 * j) (m.check j) s

theorem step_waiting {m : CmMove} {s : State} {j id : Nat} (h : m.waits s j = some id) : m.step s j = s := by
  unfold step
  rw [h]

theorem step_reading {m : CmMove} {s : State} {j : Nat} (h : m.waits s j = none) :
    m.step s j = cmToLs m.wk m.cb (m.a + 128 * j) (m.ls + 128 * j) (m.check j) s := by
  unfold step
  rw [h]

/-- The keys of comb memory and of local stores lie apart, and the transfer keeps to its comb. -/
structure Fits (m : CmMove) (n : Nat) : Prop where
  comb : m.cb < 672
  aligned : m.a % 128 = 0
  inside : m.a + 128 * n ≤ cmSize

theorem Fits.key_ne {m : CmMove} {n i k : Nat} (h : m.Fits n) (hi : i < 128 * n) : cmKey m.cb (m.a + i) ≠ lsKey m.wk k := by
  have h1 := h.comb
  have h2 := h.inside
  simp only [cmKey, lsKey, cmSize] at *
  omega

theorem Fits.block_eq {m : CmMove} {n i j : Nat} (h : m.Fits n) : cmBlock m.cb (m.a + i) = m.block j ↔ i / 128 = j := by
  have h1 := h.aligned
  simp only [block, cmBlock, cmKey]
  omega

/-- What the first `n` blocks of a transfer from `s` have made of `t`. -/
structure Result (m : CmMove) (n : Nat) (s t : State) : Prop where
  wf : Memory.wf t.mem = true
  waits : t.dropWaits = s.dropWaits
  tags : t.tags = s.tags
  taken : ∀ i, i < 128 * n → m.waits s (i / 128) = none → mget t.mem (lsKey m.wk (m.ls + i)) =
    if s.poison.contains (m.block (i / 128)) || crcFailed (m.check (i / 128)) then 0 else mget s.mem (cmKey m.cb (m.a + i))
  left : ∀ i, i < 128 * n → ∀ id, m.waits s (i / 128) = some id → mget t.mem (lsKey m.wk (m.ls + i)) = mget s.mem (lsKey m.wk (m.ls + i))
  other : ∀ k, (∀ i, i < 128 * n → k ≠ lsKey m.wk (m.ls + i)) → mget t.mem k = mget s.mem k
  marks : ∀ b, t.poison.contains b = (s.poison.contains b ||
    (List.range n).any fun j => (m.waits s j).isNone && crcFailed (m.check j) && b == m.block j)
  count : rget s .TND_EVT_COUNT m.cb 0 + n ≤ 0xFFFFFFFF → rget t .TND_EVT_COUNT m.cb 0 = rget s .TND_EVT_COUNT m.cb 0 +
    ((List.range n).filter fun j => (m.waits s j).isNone && !s.poison.contains (m.block j) && crcPassed (m.check j)).length

theorem result_zero (m : CmMove) {s : State} (h : Memory.wf s.mem = true) : m.Result 0 s s :=
  ⟨h, rfl, rfl, fun i hi => by omega, fun i hi => by omega, fun _ _ => rfl, fun b => by simp, fun _ => rfl⟩

/-- A block that a drop waits for changes nothing. -/
theorem Result.skip {m : CmMove} {n : Nat} {s t : State} (h : m.Result n s t) {id : Nat} (hw : m.waits s n = some id) :
    m.Result (n + 1) s t := by
  refine ⟨h.wf, h.waits, h.tags, fun i hi hn => ?_, fun i hi id' hs => ?_, fun k hk => h.other k fun i hi => hk i (by omega), fun b => ?_, fun hc => ?_⟩
  · by_cases hin : i / 128 = n
    · rw [hin, hw] at hn
      cases hn
    · exact h.taken i (by omega) hn
  · by_cases hin : i < 128 * n
    · exact h.left i hin id' hs
    · exact h.other _ fun k hk e => by simp only [lsKey] at e; omega
  · rw [h.marks]
    simp [List.range_succ, hw]
  · rw [h.count (by omega)]
    simp [List.range_succ, List.filter_append, hw]

/-- The block that follows is read. -/
theorem Result.read {m : CmMove} {n N : Nat} {s t u : State} (h : m.Result n s t) (hf : m.Fits N) (hn : n < N) (hw : m.waits s n = none)
    (hu : BlockRead m.cb (m.a + 128 * n) (lsKey m.wk (m.ls + 128 * n)) (m.check n) t u) : m.Result (n + 1) s u := by
  have hmark : t.poison.contains (m.block n) = s.poison.contains (m.block n) := by
    rw [h.marks]
    simp only [Bool.or_eq_left_iff_imp, List.any_eq_true, List.mem_range, Bool.and_eq_true, beq_iff_eq]
    rintro ⟨j, hj, -, he⟩
    have := (hf.block_eq (i := 128 * n) (j := j)).mp he
    omega
  have hlen := length_cmBytes t m.cb (m.a + 128 * n) (crcFailed (m.check n))
  have below {k : Nat} (hk : k < lsKey m.wk (m.ls + 128 * n) ∨ lsKey m.wk (m.ls + 128 * n) + 128 ≤ k) : mget u.mem k = mget t.mem k := by
    rw [hu.mem, mget_mputs_out h.wf (by rw [hlen]; exact hk)]
  refine ⟨by rw [hu.mem]; exact wf_mputs h.wf, hu.waits.trans h.waits, hu.tags.trans h.tags, fun i hi hp => ?_, fun i hi id hs => ?_,
    fun k hk => ?_, fun b => ?_, fun hc => ?_⟩
  · by_cases hin : i < 128 * n
    · rw [below (.inl (by simp only [lsKey]; omega))]
      exact h.taken i hin hp
    · obtain ⟨k, rfl⟩ : ∃ k, i = 128 * n + k := ⟨i - 128 * n, by omega⟩
      have hk : k < 128 := by omega
      rw [show lsKey m.wk (m.ls + (128 * n + k)) = lsKey m.wk (m.ls + 128 * n) + k by simp only [lsKey]; omega, hu.mem,
        mget_mputs_in h.wf (by rw [hlen]; exact hk), show (128 * n + k) / 128 = n by omega]
      unfold cmBytes
      rw [show cmBlock m.cb (m.a + 128 * n) = m.block n from rfl, hmark]
      split
      · exact List.getD_replicate _ hk
      · rw [← h.other (cmKey m.cb (m.a + (128 * n + k))) fun _ _ => hf.key_ne (by omega),
          show cmKey m.cb (m.a + (128 * n + k)) = cmKey m.cb (m.a + 128 * n) + k by simp only [cmKey]; omega]
        simp [mread, hk]
  · have hin : i < 128 * n := by
      by_contra hge
      rw [show i / 128 = n by omega, hw] at hs
      cases hs
    rw [below (.inl (by simp only [lsKey]; omega))]
    exact h.left i hin id hs
  · have hout : k < lsKey m.wk (m.ls + 128 * n) ∨ lsKey m.wk (m.ls + 128 * n) + 128 ≤ k := by
      by_contra hc
      exact hk (128 * n + (k - lsKey m.wk (m.ls + 128 * n))) (by omega) (by simp only [lsKey] at *; omega)
    rw [below hout]
    exact h.other k fun i hi => hk i (by omega)
  · rw [hu.mark, h.marks]
    simp [List.range_succ, hw, block, Bool.or_assoc]
  · have hc' := h.count (by omega)
    have hle : ((List.range n).filter fun j => (m.waits s j).isNone && !s.poison.contains (m.block j) && crcPassed (m.check j)).length ≤ n :=
      (List.length_filter_le _ _).trans (by simp)
    rw [hu.count (by omega), hc', show cmBlock m.cb (m.a + 128 * n) = m.block n from rfl, hmark]
    simp only [List.range_succ, List.filter_append, List.length_append, hw, Option.isNone_none, Bool.true_and, List.filter_cons, List.filter_nil]
    cases (!s.poison.contains (m.block n) && crcPassed (m.check n)) <;> simp [b2n, Nat.add_assoc]

/-- The blocks of a transfer, one after the other. -/
theorem result_fold (m : CmMove) {N : Nat} {s : State} (h : Memory.wf s.mem = true) (hf : m.Fits N) {n : Nat} (hn : n ≤ N) :
    m.Result n s ((List.range n).foldl m.step s) := by
  induction n with
  | zero => exact m.result_zero h
  | succ n ih =>
    have hr := ih (by omega)
    rw [List.range_succ, List.foldl_append, List.foldl_cons, List.foldl_nil]
    have hw : m.waits ((List.range n).foldl m.step s) n = m.waits s n := by simp [waits, pendingBlock, hr.waits]
    cases hp : m.waits s n with
    | some id =>
      rw [step_waiting (hw.trans hp)]
      exact hr.skip hp
    | none =>
      rw [step_reading (hw.trans hp)]
      exact hr.read hf (by omega) hp (cmToLs_read _ _ _ _ _ _)

/-! ### All blocks of a CMWR -/

/-- The step of a transfer the other way that writes block `j`; `s0` is the state before the slot. -/
def back (m : CmMove) (s0 s : State) (j : Nat) : State := cmWriteBlock m.cb (m.a + 128 * j) (lsRead s0 m.wk (m.ls + 128 * j) 128) s

/-- What the first `n` blocks of a transfer back, from `s`, have made of `t`. -/
structure Stored (m : CmMove) (n : Nat) (s0 s t : State) : Prop where
  wf : Memory.wf t.mem = true
  put : ∀ i, i < 128 * n → mget t.mem (cmKey m.cb (m.a + i)) = mget s0.mem (lsKey m.wk (m.ls + i))
  clean : ∀ j, j < n → t.poison.contains (m.block j) = false
  other : ∀ k, (∀ i, i < 128 * n → k ≠ cmKey m.cb (m.a + i)) → mget t.mem k = mget s.mem k

theorem cmWriteBlock_mem (cb off : Nat) (b : List Byte) (s : State) : (cmWriteBlock cb off b s).mem = mputs s.mem (cmKey cb off) b := rfl

theorem stored_fold (m : CmMove) {s0 s : State} (h : Memory.wf s.mem = true) (n : Nat) :
    m.Stored n s0 s ((List.range n).foldl (m.back s0) s) := by
  induction n with
  | zero => exact ⟨h, fun i hi => by omega, fun j hj => by omega, fun _ _ => rfl⟩
  | succ n ih =>
    rw [List.range_succ, List.foldl_append, List.foldl_cons, List.foldl_nil]
    generalize (List.range n).foldl (m.back s0) s = t at ih
    have hlen : (lsRead s0 m.wk (m.ls + 128 * n) 128).length = 128 := by simp [lsRead, mread]
    have hmem : (m.back s0 t n).mem = mputs t.mem (cmKey m.cb (m.a + 128 * n)) (lsRead s0 m.wk (m.ls + 128 * n) 128) := cmWriteBlock_mem _ _ _ _
    refine ⟨by rw [hmem]; exact wf_mputs ih.wf, fun i hi => ?_, fun j hj => ?_, fun k hk => ?_⟩
    · rw [hmem]
      by_cases hin : i < 128 * n
      · rw [mget_mputs_out ih.wf (.inl (by simp only [cmKey]; omega))]
        exact ih.put i hin
      · obtain ⟨k, rfl⟩ : ∃ k, i = 128 * n + k := ⟨i - 128 * n, by omega⟩
        have hk : k < 128 := by omega
        rw [show cmKey m.cb (m.a + (128 * n + k)) = cmKey m.cb (m.a + 128 * n) + k by simp only [cmKey]; omega,
          mget_mputs_in ih.wf (by rw [hlen]; exact hk),
          show lsKey m.wk (m.ls + (128 * n + k)) = lsKey m.wk (m.ls + 128 * n) + k by simp only [lsKey]; omega]
        simp [lsRead, mread, hk]
    · by_cases hjn : j = n
      · simp [back, cmWriteBlock, hjn, block]
      · have := ih.clean j (by omega)
        simp only [back, cmWriteBlock, List.contains_eq_mem, decide_eq_false_iff_not, List.mem_filter, not_and] at this ⊢
        exact fun hm => absurd hm this
    · have hout : k < cmKey m.cb (m.a + 128 * n) ∨ cmKey m.cb (m.a + 128 * n) + 128 ≤ k := by
        by_contra hc
        exact hk (128 * n + (k - cmKey m.cb (m.a + 128 * n))) (by omega) (by simp only [cmKey] at *; omega)
      rw [hmem, mget_mputs_out ih.wf (by rw [hlen]; exact hout)]
      exact ih.other k fun i hi => hk i (by omega)

end CmMove

/-! ### The slot -/

theorem workerTags_issued (f : Fire) (s : State) (wk : Nat) : workerTags (issued f s) wk = workerTags s wk := by
  rw [issued_frame]
  rfl

theorem staticTags_issued (f : Fire) (s : State) (cb : Nat) : staticTags (issued f s) cb = staticTags s cb := by
  rw [issued_frame]
  rfl

/-- The transfer that a firing makes. -/
def moveOf (f : Fire) (s : State) : CmMove := ⟨fireWk f, combNow f, memBase f s, 128 * (slotNow f s).offset, f.crc⟩

/-- The tags that it takes. -/
def tagsOf (f : Fire) (s : State) : List Tag :=
  (List.range ((slotNow f s).blocks + 1)).map fun i =>
    ⟨combNow f, some (fireWk f, f.thread.val), (slotNow f s).memop == 5, true, blockDue (issued f s) f i,
      if (slotNow f s).memop = 5 then (moveOf f s).waits (issued f s) i else none, 128 * (slotNow f s).offset + 128 * i⟩

/-- The state with the tags taken, before the first block moves. -/
def tagged (f : Fire) (s : State) : State :=
  takeTags (tagsOf f s) (wMod (fireWk f) (fun w => { w with cmFree := (issued f s).cycle + ((slotNow f s).blocks + 1) })
    (chargeComb (combNow f) f.deferred (issued f s)))

theorem tagged_before (f : Fire) (s : State) : ∃ u, CmQuiet (combNow f) s u ∧ tagged f s = takeTags (tagsOf f s) u :=
  ⟨_, ((CmQuiet.issued _ f s).trans (CmQuiet.chargeComb _ _ _ _)).trans (CmQuiet.wMod _ _ _ _), rfl⟩

theorem combNow_lt (f : Fire) : combNow f < 672 := by
  have := f.x.isLt
  have := f.y.isLt
  have := f.w.isLt
  simp only [combNow, fireWk, wkOf, cbOf]
  omega

section
variable {f : Fire} {s : State} (h : issues f s = true) (ho : onlyMemory (slotNow f s) = true)
  (ha : memBase f s % 128 = 0) (hb : memBase f s + 128 * ((slotNow f s).blocks + 1) ≤ cmSize) (hc : absentComb s (combNow f) = false)
  (hl : 128 * (slotNow f s).offset + 128 * ((slotNow f s).blocks + 1) ≤ lsSize) (ht : tagsOk s (fireWk f) ((slotNow f s).blocks + 1) = true)
include h ho ha hb hc hl ht

omit h ho in
theorem opCm_passes : opCm (counted f s) (fireWk f) f.thread.val (thNow f s).ptr f (slotNow f s) (thNow f s) (issued f s) =
    postAdd (fireWk f) f.thread.val (slotNow f s) (128 * ((slotNow f s).blocks + 1))
      (if (slotNow f s).memop = 5 then (List.range ((slotNow f s).blocks + 1)).foldl (moveOf f s).step (tagged f s)
        else (List.range ((slotNow f s).blocks + 1)).foldl ((moveOf f s).back (counted f s)) (tagged f s)) := by
  have hok : tagsOk (issued f s) (fireWk f) ((slotNow f s).blocks + 1) = true := by
    rw [← ht]
    simp only [tagsOk, workerTags_issued, staticTags_issued]
  have h1 : ¬ ((wordAt (thNow f s).s (slotNow f s).mareg).toNat % 128 ≠ 0 ∨
      cmSize < (wordAt (thNow f s).s (slotNow f s).mareg).toNat + 128 * ((slotNow f s).blocks + 1) ∨
      absentComb (issued f s) (fireWk f / 32) = true) := by
    rw [absentComb_issued, show absentComb s (fireWk f / 32) = false from hc]
    simp only [memBase] at ha hb
    simp
    omega
  unfold opCm
  dsimp only
  rw [if_neg h1, if_neg (by omega), if_neg (by simp [hok])]
  rfl

/-- A transfer whose checks all pass. -/
theorem fires_cm_passes {op : Nat} (hop : (slotNow f s).memop = op) (hk : op = 5 ∨ op = 6) : fireOp f (fun sl => sl.memop == op) s =
    memTo f s (128 * ((slotNow f s).blocks + 1))
      (if (slotNow f s).memop = 5 then (List.range ((slotNow f s).blocks + 1)).foldl (moveOf f s).step (tagged f s)
        else (List.range ((slotNow f s).blocks + 1)).foldl ((moveOf f s).back (counted f s)) (tagged f s)) :=
  (fires_cm h ho hop hk).trans (congrArg (goesOn f s) (opCm_passes ha hb hc hl ht))

end

/-- Settles O13: the blocks of the transfer, one after the other. -/
theorem combMemoryResults : Obligations.CombMemoryResults := by
  unfold Obligations.CombMemoryResults
  intro f s h ho sl wk cb a bytes ls pend ha hb hc hl ht hwf
  obtain ⟨u, ⟨qm, qp, qd, -, qr⟩, hu⟩ := tagged_before f s
  have hfit : (moveOf f s).Fits (sl.blocks + 1) := ⟨combNow_lt f, ha, hb⟩
  have tm : (tagged f s).mem = s.mem := by rw [hu]; exact qm
  have tp : (tagged f s).poison = s.poison := by rw [hu]; exact qp
  have tw (j : Nat) : (moveOf f s).waits (tagged f s) j = pend j := by
    rw [hu]
    simp only [CmMove.waits, pendingBlock, takeTags, qd]
    rfl
  have tr : rget (tagged f s) .TND_EVT_COUNT cb 0 = rget s .TND_EVT_COUNT cb 0 := by rw [hu]; exact qr
  have hblock {i : Nat} : cmBlock cb (a + i) = (moveOf f s).block (i / 128) := (hfit.block_eq).mpr rfl
  refine ⟨fun hop => ?_, fun hop => ?_⟩
  · have R := (moveOf f s).result_fold (s := tagged f s) (by rw [tm]; exact hwf) hfit (Nat.le_refl _)
    refine ⟨_, congrArg Host.Outcome.next ((fires_cm_passes h ho ha hb hc hl ht hop (.inl rfl)).trans (by rw [if_pos hop])),
      fun i hi hp => ?_, fun i hi => ?_, fun j id hj hp => ⟨fun i hi => ?_, ?_⟩, fun hcnt => ?_, fun k hk => ?_⟩
    · have := R.taken i hi (by rw [tw]; exact hp)
      rw [tp, tm] at this
      rw [hblock]
      exact this
    · rw [R.marks, tp, hblock]
      congr 1
      rw [Bool.eq_iff_iff]
      simp only [List.any_eq_true, List.mem_range, Bool.and_eq_true, beq_iff_eq, tw]
      constructor
      · rintro ⟨j, -, ⟨hn, hf⟩, he⟩
        rw [← hblock] at he
        obtain rfl := (hfit.block_eq).mp he
        exact ⟨hn, hf⟩
      · rintro ⟨hn, hf⟩
        exact ⟨i / 128, by omega, ⟨hn, hf⟩, rfl⟩
    · have := R.left (128 * j + i) (by omega) id (by rw [tw, show (128 * j + i) / 128 = j by omega]; exact hp)
      rw [tm, show (moveOf f s).ls + (128 * j + i) = ls + 128 * j + i from (Nat.add_assoc _ _ _).symm] at this
      exact this
    · have hwait : (moveOf f s).waits (issued f s) j = some id := by
        rw [← hp, issued_frame]
        rfl
      rw [R.tags, hu]
      refine ⟨_, List.mem_append_right _ (List.mem_map.mpr ⟨j, List.mem_range.mpr (Nat.lt_succ_of_le hj), rfl⟩), rfl, rfl, ?_, ?_, rfl⟩
      · simp [show (slotNow f s).memop = 5 from hop]
      · simp [show (slotNow f s).memop = 5 from hop, hwait]
    · have := R.count (by rw [show (moveOf f s).cb = cb from rfl, tr]; omega)
      simp only [tw, tp] at this
      rw [← tr]
      exact this
    · rw [R.other k hk, tm]
  · have R := (moveOf f s).stored_fold (s0 := counted f s) (s := tagged f s) (by rw [tm]; exact hwf) (sl.blocks + 1)
    refine ⟨_, congrArg Host.Outcome.next ((fires_cm_passes h ho ha hb hc hl ht hop (.inr rfl)).trans (by rw [if_neg (by rw [show (slotNow f s).memop = 6 from hop]; decide)])),
      fun i hi => ⟨?_, ?_⟩, fun k hk => ?_⟩
    · have := R.put i hi
      rw [counted_mem] at this
      exact this
    · rw [hblock]
      exact R.clean _ (by omega)
    · rw [R.other k hk, tm]

end Sys2Proof.Machine

/-! PROOF. Frames: the parts of the state, and the parts that an operation touches. -/

namespace Sys2Proof.Machine

/-- A part of the state: a component, or one register field of all units. -/
inductive Part where
  | pending | free | readData | latch | cycle | tick | mem | poison | workers | switches | objs | drops | dropWaits
  | tags | chans | lane | flight | egress | tx | rx | rxDead | ctxs | faultBuf | pcol | pcombs | hosts | taken
  | combFaults | repins | links | laneFails | laneTests | spares | scrubLog | rowBins | rowRepairs | nextBlk | dmas
  | ports | mirror | start | flash | sec | keeper | powerIn | reply
  | fld (g : F)
  deriving DecidableEq

/-- The part is the same in `t` as in `s`. -/
def Part.same (s t : State) : Part → Prop
  | .pending => t.pending = s.pending
  | .free => t.free = s.free
  | .readData => t.readData = s.readData
  | .latch => t.latch = s.latch
  | .cycle => t.cycle = s.cycle
  | .tick => t.tick = s.tick
  | .mem => t.mem = s.mem
  | .poison => t.poison = s.poison
  | .workers => t.workers = s.workers
  | .switches => t.switches = s.switches
  | .objs => t.objs = s.objs
  | .drops => t.drops = s.drops
  | .dropWaits => t.dropWaits = s.dropWaits
  | .tags => t.tags = s.tags
  | .chans => t.chans = s.chans
  | .lane => t.lane = s.lane
  | .flight => t.flight = s.flight
  | .egress => t.egress = s.egress
  | .tx => t.tx = s.tx
  | .rx => t.rx = s.rx
  | .rxDead => t.rxDead = s.rxDead
  | .ctxs => t.ctxs = s.ctxs
  | .faultBuf => t.faultBuf = s.faultBuf
  | .pcol => t.pcol = s.pcol
  | .pcombs => t.pcombs = s.pcombs
  | .hosts => t.hosts = s.hosts
  | .taken => t.taken = s.taken
  | .combFaults => t.combFaults = s.combFaults
  | .repins => t.repins = s.repins
  | .links => t.links = s.links
  | .laneFails => t.laneFails = s.laneFails
  | .laneTests => t.laneTests = s.laneTests
  | .spares => t.spares = s.spares
  | .scrubLog => t.scrubLog = s.scrubLog
  | .rowBins => t.rowBins = s.rowBins
  | .rowRepairs => t.rowRepairs = s.rowRepairs
  | .nextBlk => t.nextBlk = s.nextBlk
  | .dmas => t.dmas = s.dmas
  | .ports => t.ports = s.ports
  | .mirror => t.mirror = s.mirror
  | .start => t.start = s.start
  | .flash => t.flash = s.flash
  | .sec => t.sec = s.sec
  | .keeper => t.keeper = s.keeper
  | .powerIn => t.powerIn = s.powerIn
  | .reply => t.reply = s.reply
  | .fld g => ∀ i j, rget t g i j = rget s g i j

/-- `t` differs from `s` in the listed parts alone. -/
def Touches (l : List Part) (s t : State) : Prop := ∀ q, q ∉ l → q.same s t

theorem Part.same_refl (s : State) (q : Part) : q.same s s := by
  cases q <;> simp [Part.same]

theorem Part.same_trans {s t u : State} {q : Part} (h : q.same s t) (g : q.same t u) : q.same s u := by
  cases q <;> simp only [Part.same] at * <;> simp [*]

namespace Touches

theorem refl (l : List Part) (s : State) : Touches l s s := fun q _ => q.same_refl s

theorem tail {l m : List Part} {s x y : State} (h : Touches m x y) (g : Touches l s x) (hm : m ⊆ l := by decide) : Touches l s y :=
  fun q hq => Part.same_trans (g q hq) (h q fun hc => hq (hm hc))

theorem mono {l m : List Part} {s t : State} (h : Touches m s t) (hm : m ⊆ l := by decide) : Touches l s t := h.tail (refl l s) hm

/-- One operation after another touches what either touches. -/
theorem comp {l m : List Part} {s t u : State} (h : Touches l s t) (g : Touches m t u) : Touches (l ++ m) s u :=
  g.tail (h.mono (List.subset_append_left _ _)) (List.subset_append_right _ _)

theorem ite {c : Prop} [Decidable c] {l : List Part} {s a b : State} (ha : Touches l s a) (hb : Touches l s b) :
    Touches l s (if c then a else b) := by
  split <;> assumption

theorem fold {α : Type} {l : List Part} {g : State → α → State} (hg : ∀ x a, Touches l x (g x a)) {as : List α} {s x : State}
    (h : Touches l s x) : Touches l s (as.foldl g x) := by
  induction as generalizing x with
  | nil => exact h
  | cons a r ih => exact ih ((hg x a).tail h fun _ => id)

theorem rset (g : F) (i j v : Nat) (s : State) : Touches [.fld g] s (Machine.rset g i j v s) := by
  intro q hq
  cases q with
  | fld a => exact fun _ _ => rget_rset_field _ _ _ _ _ _ _ _ (fun e => hq (by simp [e]))
  | _ => exact rfl

theorem bump (ev ovf : F) (i n k : Nat) (s : State) : Touches [.fld ev, .fld ovf] s (Machine.bump ev ovf i n k s) := by
  unfold Machine.bump
  exact ite ((rset _ _ _ _ _).mono (by simp)) ((rset _ _ _ _ _).tail ((rset _ _ _ _ _).mono (by simp)) (by simp))

theorem set_mem (s : State) (x) : Touches [.mem] s { s with mem := x } := by
  intro q hq
  cases q with
  | mem => exact absurd (List.mem_singleton_self _) hq
  | fld g => exact fun _ _ => rfl
  | _ => exact rfl

theorem set_workers (s : State) (x) : Touches [.workers] s { s with workers := x } := by
  intro q hq
  cases q with
  | workers => exact absurd (List.mem_singleton_self _) hq
  | fld g => exact fun _ _ => rfl
  | _ => exact rfl

theorem set_ctxs (s : State) (x) : Touches [.ctxs] s { s with ctxs := x } := by
  intro q hq
  cases q with
  | ctxs => exact absurd (List.mem_singleton_self _) hq
  | fld g => exact fun _ _ => rfl
  | _ => exact rfl

theorem set_faultBuf (s : State) (x) : Touches [.faultBuf] s { s with faultBuf := x } := by
  intro q hq
  cases q with
  | faultBuf => exact absurd (List.mem_singleton_self _) hq
  | fld g => exact fun _ _ => rfl
  | _ => exact rfl

theorem set_hosts (s : State) (x) : Touches [.hosts] s { s with hosts := x } := by
  intro q hq
  cases q with
  | hosts => exact absurd (List.mem_singleton_self _) hq
  | fld g => exact fun _ _ => rfl
  | _ => exact rfl

theorem raise (u : Nat) (r : FaultRec) (s : State) :
    Touches [.faultBuf, .fld .BST_EVT_COUNT, .fld .BST_OVF_OVF] s (Machine.raise u r s) := by
  unfold Machine.raise
  exact ite (bump _ _ _ _ _ _).mono (set_faultBuf _ _).mono

theorem ctxSet (c : Nat) (x : Ctx) (s : State) : Touches [.ctxs] s (Machine.ctxSet c x s) := set_ctxs _ _
theorem ctxMod (c : Nat) (g : Ctx → Ctx) (s : State) : Touches [.ctxs] s (Machine.ctxMod c g s) := set_ctxs _ _
theorem wSet (k : Nat) (w : Worker) (s : State) : Touches [.workers] s (Machine.wSet k w s) := set_workers _ _
theorem wMod (k : Nat) (g : Worker → Worker) (s : State) : Touches [.workers] s (Machine.wMod k g s) := set_workers _ _
theorem hostSet (f : Nat) (h : HostFn) (s : State) : Touches [.hosts] s (Machine.hostSet f h s) := set_hosts _ _

theorem msix (f v : Nat) (s : State) : Touches [.hosts] s (Machine.msix f v s) := by
  unfold Machine.msix
  exact ite (hostSet _ _ _) (hostSet _ _ _)

end Touches

end Sys2Proof.Machine

/-! PROOF. The keeper: its tick and its resets, and the management messages over MCTP (R433, R444 to R474). -/

namespace Sys2Proof.Machine

/-! ### Records and event counts -/

theorem raise_keeper {u : Nat} (h : 50 ≤ u) (r : FaultRec) (s : State) : raise u r s =
    { s with faultBuf := tset s.faultBuf u (tget [] s.faultBuf u ++ [{ r with tick := s.tick, cycle := s.cycle }]) } :=
  if_neg (fun hc => by omega)

/-- An event count saturates. -/
@[simp] theorem rget_bump (ev ovf : F) (i n k : Nat) (s : State) (h : ev ≠ ovf) :
    rget (bump ev ovf i n k s) ev i n = min 0xFFFFFFFF (rget s ev i n + k) := by
  unfold bump
  dsimp only
  split
  next hle => rw [rget_rset_same, Nat.min_eq_right hle]
  next hgt => rw [rget_rset_field _ _ _ _ _ _ _ _ h, rget_rset_same, Nat.min_eq_left (by omega)]

@[simp] theorem rget_bump_field (ev ovf g : F) (i n k a b : Nat) (s : State) (h : g ≠ ev) (ho : g ≠ ovf) :
    rget (bump ev ovf i n k s) g a b = rget s g a b := by
  unfold bump
  dsimp only
  split <;> simp [h, ho]

@[simp] theorem rget_msix (f v : Nat) (s : State) (g : F) (i j : Nat) : rget (msix f v s) g i j = rget s g i j := by
  unfold msix
  dsimp only
  split <;> rfl

@[simp] theorem rget_healthSet (g : F) (v : Nat) (s : State) : rget (healthSet g v s) g = v := by
  unfold healthSet
  split
  · assumption
  · simp

/-- A health field, and function 0's vector of it. -/
theorem Touches.healthSet (g : F) (v : Nat) (s : State) : Touches [.hosts, .fld g] s (Machine.healthSet g v s) := by
  unfold Machine.healthSet
  exact .ite (.refl _ _) ((Touches.msix _ _ _).tail ((Touches.rset _ _ _ _ _).mono (by simp)) (by simp))

/-! ### The tick (R447) -/

/-- The largest sensor of every region is read. -/
theorem rget_regionTemps (r : Readings) (s : State) (n i : Nat) : rget ((List.range n).foldl (fun s i =>
    rset .PWR_RSTAT_TMAX i 0 (regionTemp r i) s) s) .PWR_RSTAT_TMAX i = if i < n then regionTemp r i else rget s .PWR_RSTAT_TMAX i := by
  induction n with
  | zero => simp
  | succ n ih =>
    rw [List.range_succ, List.foldl_append, List.foldl_cons, List.foldl_nil]
    by_cases h : i = n
    · simp [h]
    · rw [rget_rset_unit _ _ _ _ _ _ _ _ h, ih]
      simp [show i < n + 1 ↔ i < n by omega]

/-- The tick with the energy counted, before the sensors are read. -/
def tickCounted (r : Readings) (s : State) : State :=
  rset .PWR_ENERGY_UJ 0 0 ((rget s .PWR_ENERGY_UJ + r.uj.toNat) % 2 ^ 64) { s with tick := s.tick + 1, laneFails := [] }

/-- The tick with the regions' temperatures read. -/
def tickSampled (r : Readings) (s : State) : State :=
  (List.range 42).foldl (fun s i => rset .PWR_RSTAT_TMAX i 0 (regionTemp r i) s) (tickCounted r s)

/-- What the tick does after it has read the regions' temperatures. -/
theorem tickHardware_touches (r : Readings) (s : State) : Touches [.ctxs, .fld .PWR_RTEMP_TEMP, .fld .PWR_RVOLT_VMON, .fld .PWR_RSTAT_HOT,
    .fld .PWR_RSTAT_HOT_TICKS] (tickSampled r s) (tickHardware r s) := by
  unfold tickHardware
  refine .fold (fun _ _ => .ite (Touches.ctxMod _ _ _).mono (.refl _ _)) ?_
  refine .fold (fun _ _ => .ite ((Touches.rset _ _ _ _ _).tail (Touches.rset _ _ _ _ _).mono) (Touches.rset _ _ _ _ _).mono) ?_
  refine .fold (fun _ _ => .fold (fun _ _ => .ite (Touches.rset _ _ _ _ _).mono (.refl _ _)) (.refl _ _)) ?_
  exact .fold (fun _ _ => .fold (fun _ _ => .ite (Touches.rset _ _ _ _ _).mono (.refl _ _)) (.refl _ _)) (.refl _ _)

theorem tickSampled_touches (r : Readings) (s : State) : Touches [.fld .PWR_RSTAT_TMAX] (tickCounted r s) (tickSampled r s) :=
  .fold (fun _ _ => Touches.rset _ _ _ _ _) (.refl _ _)

theorem tickHardware_result (r : Readings) (s : State) :
    (tickHardware r s).tick = s.tick + 1 ∧ rget (tickHardware r s) .PWR_ENERGY_UJ = (rget s .PWR_ENERGY_UJ + r.uj.toNat) % 2 ^ 64 ∧
    (∀ i, i < 42 → rget (tickHardware r s) .PWR_RSTAT_TMAX i = regionTemp r i) ∧ (tickHardware r s).mem = s.mem := by
  have h := tickHardware_touches r s
  have g := (tickSampled_touches r s).comp h
  refine ⟨g .tick (by decide), (g (.fld .PWR_ENERGY_UJ) (by decide) 0 0).trans (rget_rset_same _ _ _ _ _), fun i hi => ?_, g .mem (by decide)⟩
  rw [h (.fld .PWR_RSTAT_TMAX) (by decide) i 0]
  exact (rget_regionTemps r _ 42 i).trans (if_pos hi)

/-! ### Duties, resets and return -/

/-- Settles O34: the telemetry duty is the last of all, and the others are the model's own. -/
theorem keeperResults : Obligations.KeeperResults := by
  unfold Obligations.KeeperResults
  intro r s
  refine ⟨fun hg hd => ?_, fun hg hd => ⟨_, ?_, rfl, ?_⟩, tickHardware_result r s, fun hb hf hd => ?_, fun hh hd => ?_, fun hr hg => ?_, fun hr hg hp => ?_⟩
  · show execTickBoundary r s = _
    simp [execTickBoundary, hg, hd]
  · show execTickBoundary r s = _
    simp [execTickBoundary, hg, hd]
  · unfold duties dutyTelemetry
    simp
  · refine ⟨_, show execFlowLow s = _ by unfold execFlowLow; rw [if_neg (by simp [hb, hd]; omega)], ?_⟩
    rw [raise_keeper (by decide)]
    have t := Touches.healthSet .BST_HEALTH_PROMISE 0
    refine ⟨by rw [t _ .keeper (by decide)], rget_healthSet _ _ _, t _ .mem (by decide), _, (congrArg (tget [] · 50) (t _ .faultBuf (by decide))).trans (tget_tset_same _ _ _ _)⟩
  · exact congrArg Host.Outcome.next (if_pos ⟨hh, hd⟩)
  · refine ⟨_, congrArg Host.Outcome.next (if_neg (by simp [hr, hg])), ?_⟩
    have t := Touches.bump .KPR_EVT_COUNT .KPR_OVF_OVF 0 0 1
    refine ⟨t _ .keeper (by decide), t _ .sec (by decide), ?_, ?_, ?_, t _ .workers (by decide), t _ .ctxs (by decide), t _ .mem (by decide)⟩ <;> simp
    rfl
  · intro u
    have hu : referenceLate u = u := by
      unfold referenceLate
      exact if_neg (by simp [u, hp])
    have run (k : Bool) : exec (.keeperResume true true k r) s =
        if k = true then .next (if stageOpen u then failStage 1 none u else if dutiesRun u then duties r u else u) else .next (coldReset true s) := by
      show execKeeperResume true true k r s = _
      unfold execKeeperResume
      rw [if_neg (by simp [hr, hg])]
      cases k
      · rfl
      · exact congrArg Host.Outcome.next (by rw [hu])
    refine ⟨fun ho => ?_, fun ho hd => ?_, run false⟩
    · rw [run true, if_pos rfl, if_pos ho]
    · rw [run true, if_pos rfl, if_neg (by simp [ho]), if_pos hd]

/-! ### Management messages (R448 to R452) -/

/-- The row of `KPR_ALERT`: six fields of one bit, each cleared by writing 1. -/
theorem rowOf_alert : rowOf .KPR_ALERT = some ⟨.KPR_ALERT, .keeper, 0x8, 4, 1, 32,
    [⟨.KPR_ALERT_HEAT, 31, 1, .w1c, 1⟩, ⟨.KPR_ALERT_TRIP, 30, 1, .w1c, 1⟩, ⟨.KPR_ALERT_DEGRADED, 29, 1, .w1c, 1⟩,
      ⟨.KPR_ALERT_HOLD, 28, 1, .w1c, 1⟩, ⟨.KPR_ALERT_KRESET, 27, 1, .w1c, 1⟩, ⟨.KPR_ALERT_FWUPD, 26, 1, .w1c, 1⟩]⟩ := by
  decide +kernel

/-- A message on an MCTP path to a keeper that is up is acted on. -/
theorem mgmt_up {via : Binding} {s : State} (hu : keeperUp s = true) (hp : mctpPath via = true) (go : State → State) : mgmt via go s = go s :=
  if_pos (by simp [hu, hp])

/-- Settles O35: one message after another, each on a keeper that is up. -/
theorem managementResults : Obligations.ManagementResults := by
  unfold Obligations.ManagementResults
  intro via s hu hp ok
  have run (go : State → State) : Host.Outcome.next (mgmt via go s) = (.next (go s) : Host.Outcome State Fault Refusal) :=
    congrArg _ (mgmt_up hu hp go)
  have hr : s.keeper.inReset = false := by
    simp only [keeperUp, Bool.and_eq_true, Bool.not_eq_true'] at hu
    exact hu.1
  refine ⟨fun e => run _, fun a => ?_, fun ht hs hst => (run _).trans ?_, fun hw => (run _).trans ?_, fun hw => (run _).trans ?_, run _, fun v => ?_,
    fun cmd h1 h5 => (run _).trans ?_, fun n v hv => (run _).trans ?_⟩
  · exact congrArg Host.Outcome.next (if_neg (by simp [hr]))
  · rw [ht]
    simp only [Bool.false_eq_true, if_false, warmRequest]
    rw [if_neg (by simp [respond, hs]), if_neg (by simp [stageOf, respond, rget] at hst ⊢; omega)]
    rfl
  · rw [hw]
    rfl
  · rw [hw]
    rfl
  · refine ⟨plainWrite _ 0 0 v.toNat v.toNat s, (run _).trans (by rw [rowOf_alert]; rfl), rfl, ?_⟩
    simp [plainWrite]
  · rw [if_neg (by omega)]
    rfl
  · rw [hv]
    rfl

end Sys2Proof.Machine

/-! PROOF. The firmware update over PLDM, and recovery (R458, R459). -/

namespace Sys2Proof.Machine

/-- Settles O39: each message on a keeper that is up, and the three ends of a recovery load. -/
theorem firmwareResults : Obligations.FirmwareResults := by
  unfold Obligations.FirmwareResults
  constructor
  · intro via s hu hp ok
    have run (go : State → State) : Host.Outcome.next (mgmt via go s) = (.next (go s) : Host.Outcome State Fault Refusal) :=
      congrArg _ (mgmt_up hu hp go)
    have got (img : FwImage) (hn : s.keeper.update = some none) : exec (.firmwareDataReceived img) s = .next
        (if fwCheck s img.bytes = 0 then
          respond "VerifyComplete success" 0 [] { s with keeper := { s.keeper with update := some (some (fwBytes img.bytes)) } }
        else respond "VerifyComplete failure" 1 [] (endUpdate s)) := congrArg Host.Outcome.next (if_pos ⟨hn, hu⟩)
    refine ⟨fun hn => ?_, fun comp hc => (run _).trans ?_, fun img hn hc => ?_, fun img hn hc => ?_, fun img hi => ?_, fun hpend => (run _).trans ?_⟩
    · exact ⟨rset .KPR_FWUPD_ACTIVE 0 0 1 { s with keeper := { s.keeper with update := some none } },
        (run _).trans (congrArg Host.Outcome.next (if_neg (by simp [hn]))), rfl, rget_rset_same _ _ _ _ _, rfl, rfl⟩
    · exact congrArg Host.Outcome.next (if_pos hc)
    · rw [got img hn, if_pos hc]
      rfl
    · exact ⟨endUpdate s, by rw [got img hn, if_neg hc]; rfl, rfl, rfl, by simp [endUpdate]⟩
    · refine ⟨respond "ApplyComplete success" 0 [] (endUpdate (rset .KPR_FWUPD_PENDING 0 0 1 (rset .KPR_FWUPD_NEW_SVN 0 0 (fwSvn img)
        { s with flash := { s.flash with pendingImage := some img } }))), rfl, ?_, rfl, ?_, ?_, ?_, ?_, rfl⟩
      · show execApplyComplete true s = _
        simp only [execApplyComplete, hi, hu]
        rfl
      all_goals simp [respond, endUpdate, rget, rset, findFld]
    · exact congrArg Host.Outcome.next (if_pos hpend)
  · intro who a n s hpf hrec u b
    have run : exec (.kprRecovLoad who a n) s = .next (recovLoad a.toNat n.toNat s) := congrArg Host.Outcome.next (if_pos hpf)
    rw [run]
    unfold recovLoad
    rw [if_neg hrec]
    refine ⟨fun hb => congrArg Host.Outcome.next (if_pos hb), fun hb hc => congrArg Host.Outcome.next ((if_neg (by omega)).trans ?_),
      fun hb hc => congrArg Host.Outcome.next ((if_neg (by omega)).trans ?_)⟩
    · dsimp only [u, b] at hc ⊢
      rw [hc]
      rfl
    · dsimp only [u, b] at hc ⊢
      split
      · exact absurd ‹_› hc
      · rfl

end Sys2Proof.Machine

/-! PROOF. How the stages of a start end and fail (R204, R408, R420, R421). -/

namespace Sys2Proof.Machine

section
variable {r : StageResult} {s : State} (ho : stageOpen s = true) (h2 : stageOf s = 2 → rget s .EAV_SEG_STATE 1 = 0)
include ho h2

/-- An open stage whose work is done ends. -/
theorem execStageEnd_done {u : State} (hw : stageWork (stageOf s) r s = some u) :
    exec (.stageEnd r) s = .next (nextStage (stageOf s) (jrn (stageOf s) 2 0 0 0 u)) := by
  show execStageEnd r s = _
  unfold execStageEnd
  dsimp only
  rw [if_neg (by simpa [ho] using h2), hw]

/-- An open stage whose work cannot be done fails, or holds the start. -/
theorem execStageEnd_failed (hw : stageWork (stageOf s) r s = none) :
    exec (.stageEnd r) s = .next (if stageOf s = 1 then failStage 0 none s else holdFuses r s) := by
  show execStageEnd r s = _
  unfold execStageEnd
  dsimp only
  rw [if_neg (by simpa [ho] using h2), hw]

end

/-- Settles O38: an open stage ends as its work decides. -/
theorem stageResults : Obligations.StageResults := by
  unfold Obligations.StageResults
  intro r s ho
  refine ⟨fun u hw h2 => execStageEnd_done ho h2 hw, fun h0 => ?_, fun h1 hc hp => ?_, fun h3 he => ?_, fun unit h0 => ?_⟩
  · have hw : stageWork (stageOf s) r s = some (endStage0 s) := by rw [h0]; rfl
    refine ⟨jrn 0 2 0 0 0 (endStage0 s), (execStageEnd_done ho (by omega) hw).trans ?_, ?_, ?_, rfl⟩
    · rw [h0]
      rfl
    · simp [jrn, endStage0, rget, rset, findFld]
    · simp [jrn, endStage0, rget, rset, findFld]
  · have hw : stageWork (stageOf s) r s = none := by
      rw [h1]
      simp [stageWork, endStage1, hp, hc]
    exact (execStageEnd_failed ho (by omega) hw).trans (congrArg Host.Outcome.next (if_pos h1))
  · have hw : stageWork (stageOf s) r s = none := by
      rw [h3]
      simp [stageWork, endStage3, he]
    exact (execStageEnd_failed ho (by omega) hw).trans (congrArg Host.Outcome.next (if_neg (by omega)))
  · exact congrArg Host.Outcome.next (if_pos (by simp [ho, h0]))

end Sys2Proof.Machine

/-! PROOF. Security: attestation, sessions, and the life-cycle requests (R427 to R443). -/

namespace Sys2Proof.Machine

/-! ### Requests -/

theorem spdm_plain {via : Via} {s : State} (hu : spdmUp s = true) (hs : via.session = none) (go : State → State) : spdm via go s = go s := by
  simp [spdm, hu, hs]

theorem attest_plain {via : Via} {s : State} (hu : spdmUp s = true) (hs : via.session = none) (ha : attests s = true) (go : State → State) :
    attest via go s = go s := by
  simp [attest, spdm_plain hu hs, ha]

theorem signed_key {s : State} (h : canSign s = true) (name : String) (data : List Byte) : signed name data s =
    respond name 0 (data ++ toLe 132 (Config.freeBits 1056 s.free).toNat) { s with free := s.free + 1 } := if_pos h

theorem canSign_of_attests {s : State} (h : attests s = true) : canSign s = true := by
  simp only [attests, Bool.and_eq_true] at h
  exact h.1.1

theorem authFail_sec (s : State) : (authFail s).sec = s.sec := by
  unfold authFail
  rw [raise_keeper (Nat.le_refl 50), bump_frame]
  rfl

/-- Settles O50: each request on a responder that runs. -/
theorem attestationResults : Obligations.AttestationResults := by
  unfold Obligations.AttestationResults
  intro via s hu ok sig
  refine ⟨fun hs => ?_, fun k x hs hx hp ho => ?_⟩
  · have plain (go : State → State) : Host.Outcome.next (spdm via go s) = (.next (go s) : Host.Outcome State Fault Refusal) :=
      congrArg _ (spdm_plain hu hs go)
    refine ⟨plain _, plain _, fun ha => ?_, fun k hk hc => (plain _).trans ?_⟩
    · have run (go : State → State) : Host.Outcome.next (attest via go s) = (.next (go s) : Host.Outcome State Fault Refusal) :=
        congrArg _ (attest_plain hu hs ha go)
      refine ⟨run _, run _, run _, (run _).trans (congrArg _ (signed_key (canSign_of_attests ha) _ _)), fun k hk hm => (run _).trans ?_⟩
      rw [if_neg hk, if_neg (by simp [hm]), signed_key (canSign_of_attests ha)]
      rfl
    · rw [hk]
      exact congrArg Host.Outcome.next (signed_key
        (s := { s with sec := { s.sec with sessions := s.sec.sessions ++ [(k, ⟨via.path, false, 0⟩)] } }) hc "KEY_EXCHANGE_RSP" (toLe 1 k))
  · have run (good : Bool) : exec (.finish via good) s = .next (if !good then authFail (dropSession k.val s)
        else respond "FINISH_RSP" 0 [] { s with sec := { s.sec with sessions := tset s.sec.sessions k.val { x with open' := true } } }) := by
      show execFinish via good s = _
      simp only [execFinish, hu, hs, hx, hp, ho]
      simp
    refine ⟨run true, _, run false, ?_, ?_⟩
    · simp [sessionOf, authFail_sec, dropSession]
    · simp only [Bool.not_false, if_true, authFail, raise_keeper (Nat.le_refl 50)]
      exact rget_bump _ _ _ _ _ _ (by decide)

section
variable {via : Via} {k : Fin 4} {x : Session} {s : State} (hu : spdmUp s = true) (hs : via.session = some k)
  (hx : sessionOf s k.val = some x) (hp : x.path = via.path) (ho : x.open' = true)
include hu hs hx hp ho

theorem spdm_session (go : State → State) : spdm via go s = go s := by
  simp [spdm, hu, hs, hx, hp, ho]

theorem inSession_open (go : Nat → Session → State → State) : inSession via go s = go k.val x s := by
  rw [inSession, spdm_session hu hs hx hp ho, hs]
  simp only [hx]

theorem lcRequest_open (hl : lcPath via = true) (go : State → State) : lcRequest via go s = go s := by
  rw [lcRequest, spdm_session hu hs hx hp ho, if_pos (by simp [hl, hs])]

/-- A request whose checks all pass is acted on, and the nonce is used up. -/
theorem lcRun_passes (hl : lcPath via = true) (hb : rget s .SEC_STATE_BUSY = 0) (op : Nat) (go : State → State) :
    lcRun via op 0 go s = go { s with sec := { s.sec with nonce := none } } := by
  rw [lcRun, lcRequest_open hu hs hx hp ho hl, if_neg (by omega)]
  rfl

end

/-- Settles O51: each request in an open session. -/
theorem sessionResults : Obligations.SessionResults := by
  unfold Obligations.SessionResults
  intro via k x s hu hs hx hp ho ok n
  have run (go : Nat → Session → State → State) : Host.Outcome.next (inSession via go s) = (.next (go k.val x s) : Host.Outcome State Fault Refusal) :=
    congrArg _ (inSession_open hu hs hx hp ho go)
  refine ⟨run _, run _, run _, fun hd => ?_, fun hi => ?_, fun hl => congrArg _ (lcRequest_open hu hs hx hp ho hl _)⟩
  · refine ⟨rset .HST_STATUS_IDE 0 0 1 { s with sec := { s.sec with ideKeyed := true } }, (run _).trans ?_, rget_rset_same _ _ _ _ _, rfl, rfl⟩
    rw [if_pos (hp.trans hd)]
    rfl
  · refine ⟨_, congrArg Host.Outcome.next (if_pos hi), ?_, ?_⟩ <;> rw [raise_keeper (Nat.le_refl 50)]
    · exact rget_bump _ _ _ _ _ _ (by decide)
    · rw [bump_frame]
      exact tget_tset_same _ _ _ _

/-! ### Life-cycle operations (R433 to R438) -/

/-- A byte whose key is wiped reads as 0, and no other byte changes. -/
theorem mget_mwipe (p : Nat → Bool) (s : State) (a : Nat) : mget (mwipe p s).mem a = if p a then 0 else mget s.mem a := by
  show mget (s.mem.filter fun c => !p c.1) a = _
  induction s.mem with
  | nil => simp [mget]
  | cons e r ih =>
    obtain ⟨b, v⟩ := e
    rw [List.filter_cons]
    by_cases hb : b = a
    · subst hb
      cases hp : p b
      · simp [mget]
      · simpa [hp] using ih
    · cases hp : p b <;> simp [mget, hb, ih]

/-- The wipes of a return reach eave memory, comb memory and local stores. -/
theorem wiped_byte (s : State) {a : Nat} (h : a < 2 ^ 60 ∨ 2 ^ 60 ≤ a ∧ a < 2 ^ 63) : mget (wipeCombs (wipeEave s)).mem a = 0 := by
  show mget (mwipe (fun k => decide (2 ^ 60 ≤ k ∧ k < 2 ^ 63)) (wipeEave s)).mem a = 0
  rw [mget_mwipe]
  split
  · rfl
  next hn =>
    simp only [decide_eq_true_eq] at hn
    show mget (mwipe (fun k => decide (k < 2 ^ 60)) s).mem a = 0
    rw [mget_mwipe, if_pos (by simp only [decide_eq_true_eq]; omega)]

/-- The state registers follow the fuse row. -/
theorem Touches.setLife (s : State) :
    Touches [.fld .SEC_STATE_STATE, .fld .SEC_STATE_LIFE, .fld .SEC_STATE_OWNER_ACTIVE] s (Machine.setLife s) := by
  unfold Machine.setLife
  exact (Touches.rset _ _ _ _ _).tail ((Touches.rset _ _ _ _ _).tail (.ite (.refl _ _) (Touches.rset _ _ _ _ _).mono))

theorem setLife_state (s : State) : rget (setLife s) .SEC_STATE_STATE = lifeState (lifeCount s) := by
  simp [setLife]

/-- A report of the keeper island changes its record buffer alone. -/
theorem Touches.raise_keeper (r : FaultRec) (s : State) : Touches [.faultBuf] s (Machine.raise 50 r s) := by
  rw [Machine.raise_keeper (Nat.le_refl 50)]
  exact .set_faultBuf _ _

theorem Touches.burnLife (s : State) : Touches [.fld .SEC_STATE_LC_ROW] s (Machine.burnLife s) := Touches.rset _ _ _ _ _

/-- The state after the next life-cycle bit is burned, before the report. -/
theorem Touches.lifeChange (old : Nat) (s : State) :
    Touches [.faultBuf, .fld .SEC_STATE_STATE, .fld .SEC_STATE_LIFE, .fld .SEC_STATE_OWNER_ACTIVE] s (lcChange old (Machine.setLife s)) :=
  (Touches.raise_keeper _ _).tail (Touches.setLife s).mono

theorem lcChange_setLife_state (old : Nat) (s : State) : rget (lcChange old (setLife s)) .SEC_STATE_STATE = lifeState (lifeCount s) :=
  (Touches.raise_keeper _ _ (.fld .SEC_STATE_STATE) (by decide) 0 0).trans (setLife_state s)

theorem Touches.nextLife (s : State) : Touches [.faultBuf, .fld .SEC_STATE_STATE, .fld .SEC_STATE_LIFE, .fld .SEC_STATE_OWNER_ACTIVE,
    .fld .SEC_STATE_LC_ROW] s (Machine.nextLife s) := (Touches.lifeChange _ _).tail (Touches.burnLife s).mono

/-- The next bit of the fuse row is burned, and the state follows. -/
theorem nextLife_burned (s : State) : rget (nextLife s) .SEC_STATE_LC_ROW = rget (burnLife s) .SEC_STATE_LC_ROW ∧
    rget (nextLife s) .SEC_STATE_STATE = lifeState (lifeCount (burnLife s)) :=
  ⟨Touches.lifeChange _ _ (.fld .SEC_STATE_LC_ROW) (by decide) 0 0, lcChange_setLife_state _ _⟩

/-- The bits burned depend on the fuse row alone. -/
theorem burnLife_row {s t : State} (h : rget t .SEC_STATE_LC_ROW = rget s .SEC_STATE_LC_ROW) :
    rget (burnLife t) .SEC_STATE_LC_ROW = rget (burnLife s) .SEC_STATE_LC_ROW ∧ lifeCount (burnLife t) = lifeCount (burnLife s) := by
  have hr : rget (burnLife t) .SEC_STATE_LC_ROW = rget (burnLife s) .SEC_STATE_LC_ROW := by simp [burnLife, h]
  exact ⟨hr, by simp only [lifeCount, hr]⟩

@[simp] theorem nextLife_sec (s : State) : (nextLife s).sec = s.sec := Touches.nextLife s .sec (by decide)
@[simp] theorem nextLife_mem (s : State) : (nextLife s).mem = s.mem := Touches.nextLife s .mem (by decide)
@[simp] theorem rget_lcOk (d : List Byte) (s : State) (g : F) (i j : Nat) : rget (lcOk d s) g i j = rget s g i j := rfl

/-- The nonce is used up. -/
def cleared (s : State) : State := { s with sec := { s.sec with nonce := none } }

/-- The next life-cycle bit of `s` is burned in `t`, and the state follows. -/
def Burned (s t : State) : Prop := rget t .SEC_STATE_LC_ROW = rget (burnLife s) .SEC_STATE_LC_ROW ∧
  rget t .SEC_STATE_STATE = lifeState (lifeCount (burnLife s))

theorem burned_nextLife {s t : State} (hrow : rget t .SEC_STATE_LC_ROW = rget s .SEC_STATE_LC_ROW) : Burned s (nextLife t) := by
  obtain ⟨h1, h2⟩ := nextLife_burned t
  obtain ⟨r1, r2⟩ := burnLife_row hrow
  exact ⟨h1.trans r1, h2.trans (congrArg lifeState r2)⟩

theorem lcChange_frame (old : Nat) (s : State) : lcChange old s = { s with faultBuf := (lcChange old s).faultBuf } := by
  unfold lcChange
  rw [raise_keeper (Nat.le_refl 50)]

@[simp] theorem lcChange_sec (old : Nat) (s : State) : (lcChange old s).sec = s.sec := by rw [lcChange_frame]
@[simp] theorem lcChange_mem (old : Nat) (s : State) : (lcChange old s).mem = s.mem := by rw [lcChange_frame]
@[simp] theorem rget_lcChange (old : Nat) (s : State) (g : F) (i j : Nat) : rget (lcChange old s) g i j = rget s g i j := by
  rw [lcChange_frame]
  rfl

@[simp] theorem setLife_sec (s : State) : (setLife s).sec = s.sec := Touches.setLife s .sec (by decide)
@[simp] theorem setLife_mem (s : State) : (setLife s).mem = s.mem := Touches.setLife s .mem (by decide)

/-! ### What each operation leaves -/

section
variable (s : State)

theorem provision_leaves : let t := lcOk (4 :: toLe 132 (Config.freeBits 1056 s.free).toNat) (nextLife
      { cleared s with free := s.free + 1, sec := { s.sec with nonce := none, pub := some (4 :: toLe 132 (Config.freeBits 1056 s.free).toNat) } })
    t.sec.nonce = none ∧ Burned s t ∧ t.sec.pub.isSome = true := by
  refine ⟨?_, burned_nextLife rfl, ?_⟩ <;> simp [lcOk, respond]

theorem nextLife_leaves : let t := lcOk [] (nextLife (cleared s))
    t.sec.nonce = none ∧ (t.reply = some ⟨"LC_REQUEST", 0, []⟩ ∧ t.mem = s.mem) ∧ Burned s t := by
  refine ⟨?_, ⟨rfl, ?_⟩, burned_nextLife rfl⟩ <;> simp [lcOk, respond, cleared]

theorem debugOn_leaves : let t := lcOk [] (lcChange (rget (cleared s) .SEC_STATE_STATE) (rset .SEC_STATE_STATE 0 0 3 (cleared s)))
    t.sec.nonce = none ∧ (t.reply = some ⟨"LC_REQUEST", 0, []⟩ ∧ t.mem = s.mem) ∧ rget t .SEC_STATE_STATE = 3 := by
  refine ⟨?_, ⟨rfl, ?_⟩, by simp⟩ <;> simp [lcOk, respond, cleared]

/-- A field whose entries are dropped reads as its cold value. -/
theorem findFld_filter (p : FKey → Bool) (l : List (FKey × Nat)) (q : FKey) :
    findFld (l.filter fun e => !p e.1) q = if p q then none else findFld l q := by
  induction l with
  | nil => simp [findFld]
  | cons e r ih =>
    obtain ⟨a, v⟩ := e
    rw [List.filter_cons]
    by_cases ha : a = q
    · subst ha
      cases hp : p a
      · simp [findFld]
      · simpa [hp] using ih
    · cases hp : p a <;> simp [findFld, ha, ih]

theorem debugOff_leaves : let u := cleared s
    let t := lcOk [] (lcChange 3 (rset .SEC_STATE_STATE 0 0 2 { u with flds := u.flds.filter fun e => !debugField e.1.f }))
    t.sec.nonce = none ∧ (t.reply = some ⟨"LC_REQUEST", 0, []⟩ ∧ t.mem = s.mem) ∧ rget t .SEC_STATE_STATE = 2 ∧
      ∀ wk, rget t .WRK_DBG_HALT wk = 0 := by
  refine ⟨?_, ⟨rfl, ?_⟩, ?_, fun wk => ?_⟩
  · simp [lcOk, respond, cleared]
  · simp [lcOk, respond, cleared]
  · simp
  · simp only [rget_lcOk, rget_lcChange]
    rw [rget_rset_field _ _ _ _ _ _ _ _ (by decide)]
    show (findFld (s.flds.filter fun e => !(fun k : FKey => debugField k.f) e.1) ⟨.WRK_DBG_HALT, wk, 0⟩).getD _ = 0
    rw [findFld_filter (fun k => debugField k.f)]
    rfl

theorem return_leaves : let u := nextLife (revokeOwner (rget (cleared s) .SEC_STATE_LIFE - 1) (cleared s))
    ∀ via, let t := rset .SEC_STATE_BUSY 0 0 1 { u with reply := none, sec := { u.sec with wipe := some via } }
    t.sec.nonce = none ∧ rget t .SEC_STATE_BUSY = 1 ∧ t.sec.wipe = some via ∧
      rget t .SEC_STATE_OREVOKED = setFld (rget s .SEC_STATE_OREVOKED) (rget s .SEC_STATE_LIFE - 1) 1 1 ∧ Burned s t := by
  intro u via t
  obtain ⟨hrow, hst⟩ : Burned s u := burned_nextLife (rget_rset_field _ _ _ _ _ _ _ _ (by decide))
  have hsec : u.sec = (cleared s).sec := (nextLife_sec _).trans rfl
  have hrev : rget u .SEC_STATE_OREVOKED = setFld (rget s .SEC_STATE_OREVOKED) (rget s .SEC_STATE_LIFE - 1) 1 1 :=
    (Touches.nextLife _ (.fld .SEC_STATE_OREVOKED) (by decide) 0 0).trans (rget_rset_same _ _ _ _ _)
  refine ⟨congrArg Secure.nonce hsec, rget_rset_same _ _ _ _ _, rfl, (rget_rset_field _ _ _ _ _ _ _ _ (by decide)).trans hrev,
    (rget_rset_field _ _ _ _ _ _ _ _ (by decide)).trans hrow, (rget_rset_field _ _ _ _ _ _ _ _ (by decide)).trans hst⟩

theorem scrap_leaves : let u := cleared s
    let t := lcOk [] (lcChange (rget u .SEC_STATE_STATE) (setLife (rset .SEC_STATE_OREVOKED 0 0 7 (rset .SEC_STATE_LC_ROW 0 0 0xFF u))))
    t.sec.nonce = none ∧ (t.reply = some ⟨"LC_REQUEST", 0, []⟩ ∧ t.mem = s.mem) ∧ rget t .SEC_STATE_STATE = 5 ∧
      rget t .SEC_STATE_LC_ROW = 0xFF ∧ rget t .SEC_STATE_OREVOKED = 7 := by
  intro u t
  have kept {g : F} (hg : Part.fld g ∉ [Part.fld .SEC_STATE_STATE, .fld .SEC_STATE_LIFE, .fld .SEC_STATE_OWNER_ACTIVE]) :
      rget t g = rget (rset .SEC_STATE_OREVOKED 0 0 7 (rset .SEC_STATE_LC_ROW 0 0 0xFF u)) g := by
    simp only [t, rget_lcOk, rget_lcChange]
    exact Touches.setLife _ (.fld g) hg 0 0
  refine ⟨?_, ⟨rfl, ?_⟩, ?_, ?_, ?_⟩
  · simp [t, u, lcOk, respond, cleared]
  · simp [t, u, lcOk, respond, cleared]
  · refine (lcChange_setLife_state (rget u .SEC_STATE_STATE) _).trans ?_
    simp only [lifeCount, rget_rset_field .SEC_STATE_OREVOKED .SEC_STATE_LC_ROW _ _ _ _ _ _ (by decide), rget_rset_same]
    decide
  · rw [kept (by decide), rget_rset_field _ _ _ _ _ _ _ _ (by decide), rget_rset_same]
  · rw [kept (by decide), rget_rset_same]

/-- Entries of a row that are written one after the other. -/
theorem rget_fold_rset (g : F) (i : Nat) (ix v : Nat → Nat) (hinj : ∀ a b, ix a = ix b → a = b) (s : State) (n j : Nat) :
    rget ((List.range n).foldl (fun s j => rset g i (ix j) (v j) s) s) g i (ix j) = if j < n then v j else rget s g i (ix j) := by
  induction n with
  | zero => simp
  | succ n ih =>
    rw [List.range_succ, List.foldl_append, List.foldl_cons, List.foldl_nil]
    by_cases h : j = n
    · simp [h]
    · rw [rget_rset_ne _ _ _ _ _ _ _ _ (fun e => h (hinj _ _ (congrArg FKey.j e))), ih]
      simp [show j < n + 1 ↔ j < n by omega]

/-- The hash of an owner key is fused. -/
def hashFused (tok : List Byte) (k : Nat) (s : State) : State :=
  (List.range 8).foldl (fun s j => rset .SEC_OKEY_HASH 0 (8 * k + j) (leAt (tokPayload tok) (8 * j) 8) s) s

/-- The key's slot is fused too, and the flash cache is cleared. -/
def slotFused (tok : List Byte) (k : Nat) (s : State) : State :=
  clearCache (rset .SEC_STATE_OFUSED 0 0 (setFld (rget (hashFused tok k s) .SEC_STATE_OFUSED) k 1 1) (hashFused tok k s))

/-- The key is in force, and reported. -/
def keyFused (tok : List Byte) (k : Nat) (s : State) : State :=
  lcOk [] (raise 50 (heatRec 0x73 k) (rset .SEC_STATE_OWNER_ACTIVE 0 0 (b2n (ownerInForce (slotFused tok k s)).isSome) (slotFused tok k s)))

theorem Touches.hashFused (tok : List Byte) (k : Nat) (s : State) : Touches [.fld .SEC_OKEY_HASH] s (Machine.hashFused tok k s) :=
  .fold (fun _ _ => Touches.rset _ _ _ _ _) (.refl _ _)

theorem rget_hashFused (tok : List Byte) {k j : Nat} (s : State) (hj : j < 8) :
    rget (hashFused tok k s) .SEC_OKEY_HASH 0 (8 * k + j) = leAt (tokPayload tok) (8 * j) 8 :=
  (rget_fold_rset .SEC_OKEY_HASH 0 (8 * k + ·) (fun j => leAt (tokPayload tok) (8 * j) 8) (fun a b h => by simpa using h) s 8 j).trans (if_pos hj)

theorem ownerKey_leaves (tok : List Byte) (k : Nat) : let t := keyFused tok k (cleared s)
    t.sec.nonce = none ∧ (t.reply = some ⟨"LC_REQUEST", 0, []⟩ ∧ t.mem = s.mem) ∧
      rget t .SEC_STATE_OFUSED = setFld (rget s .SEC_STATE_OFUSED) k 1 1 ∧ t.flash = { s.flash with cache := [] } ∧
      ∀ j, j < 8 → rget t .SEC_OKEY_HASH 0 (8 * k + j) = leAt (tokPayload tok) (8 * j) 8 := by
  have hv := Touches.hashFused tok k (cleared s)
  have hf : rget (hashFused tok k (cleared s)) .SEC_STATE_OFUSED = rget s .SEC_STATE_OFUSED := hv (.fld .SEC_STATE_OFUSED) (by decide) 0 0
  have hk (j : Nat) (hj : j < 8) := rget_hashFused tok (k := k) (cleared s) hj
  unfold keyFused
  rw [raise_keeper (Nat.le_refl 50)]
  refine ⟨congrArg Secure.nonce (hv .sec (by decide)), ⟨rfl, hv .mem (by decide)⟩, ?_, ?_, fun j hj => ?_⟩
  · refine (rget_rset_field .SEC_STATE_OWNER_ACTIVE .SEC_STATE_OFUSED _ _ _ _ _ _ (by decide)).trans ?_
    refine (rget_rset_same .SEC_STATE_OFUSED _ _ _ _).trans ?_
    rw [hf]
  · show { (hashFused tok k (cleared s)).flash with cache := [] } = { s.flash with cache := [] }
    rw [hv .flash (by decide)]
    rfl
  · refine (rget_rset_field .SEC_STATE_OWNER_ACTIVE .SEC_OKEY_HASH _ _ _ _ _ _ (by decide)).trans ?_
    exact (rget_rset_field .SEC_STATE_OFUSED .SEC_OKEY_HASH _ _ _ _ _ _ (by decide)).trans (hk j hj)

theorem vendorRevoke_leaves (k : Nat) :
    let t := lcOk [] (raise 50 (heatRec 0x74 k) (clearCache (rset .SEC_STATE_VREVOKED 0 0 (setFld (rget (cleared s) .SEC_STATE_VREVOKED) k 1 1) (cleared s))))
    t.sec.nonce = none ∧ (t.reply = some ⟨"LC_REQUEST", 0, []⟩ ∧ t.mem = s.mem) ∧
      rget t .SEC_STATE_VREVOKED = setFld (rget s .SEC_STATE_VREVOKED) k 1 1 := by
  rw [raise_keeper (Nat.le_refl 50)]
  exact ⟨rfl, ⟨rfl, rfl⟩, rget_rset_same .SEC_STATE_VREVOKED _ _ _ _⟩

theorem scanOn_leaves :
    let t := lcOk [] (raise 50 (heatRec 0x75 0) (rset .SEC_STATE_SCAN 0 0 1 (rset .SEC_STATE_KEYLOCK 0 0 1 (clearSecrets (cleared s)))))
    t.sec.nonce = none ∧ rget t .SEC_STATE_SCAN = 1 ∧ rget t .SEC_STATE_KEYLOCK = 1 ∧ t.reply = some ⟨"LC_REQUEST", 0, []⟩ := by
  rw [raise_keeper (Nat.le_refl 50)]
  exact ⟨rfl, rget_rset_same .SEC_STATE_SCAN _ _ _ _,
    (rget_rset_field .SEC_STATE_SCAN .SEC_STATE_KEYLOCK _ _ _ _ _ _ (by decide)).trans (rget_rset_same _ _ _ _ _), rfl⟩

end

/-- Settles O52: each operation on a request whose checks all pass, and the wipes. -/
theorem lifeCycleResults : Obligations.LifeCycleResults := by
  unfold Obligations.LifeCycleResults
  constructor
  · intro via k x tok s hu hs hx hp ho hl hb goes answered life burned
    have run (op : Nat) {st : Nat} (hst : st = 0) (go : State → State) :
        Host.Outcome.next (lcRun via op st go s) = (.next (go (cleared s)) : Host.Outcome State Fault Refusal) := by
      rw [hst]
      exact congrArg _ (lcRun_passes hu hs hx hp ho hl hb op go)
    have idle {c : Instr} {op st : Nat} {go : State → State} (hgo : exec c s = if loading s = true then .next s else .next (lcRun via op st go s))
        (hload : loading s = false) : exec c s = .next (lcRun via op st go s) := by
      rw [hgo, if_neg (by simp [hload])]
    refine ⟨fun h => ⟨_, run _ h _, provision_leaves s⟩, fun h => ⟨_, run _ h _, nextLife_leaves s⟩, fun h => ⟨_, run _ h _, debugOn_leaves s⟩,
      fun h => ⟨_, run _ h _, debugOff_leaves s⟩, fun hload h => ⟨_, (idle rfl hload).trans (run _ h _), return_leaves s via⟩,
      fun h => ⟨_, run _ h _, nextLife_leaves s⟩, fun h => ⟨_, run _ h _, scrap_leaves s⟩,
      fun hload h => ⟨keyFused tok life (cleared s), (idle rfl hload).trans (run _ h _), ownerKey_leaves s tok life⟩,
      fun h => ⟨_, run _ h _, vendorRevoke_leaves s (tokArg tok)⟩, fun h => ⟨_, run _ h _, scanOn_leaves s⟩⟩
  · intro via s hw
    refine ⟨lcOk [] (rset .SEC_STATE_BUSY 0 0 0 (eraseFlash (wipeCombs (wipeEave { s with sec := { s.sec with wipe := none } })))), ?_, rfl, ?_,
      rfl, rfl, rfl, fun cb off hc ho => ?_, fun wk off hk ho => ?_, fun ch off hc ho => ?_⟩
    · show execReturnWipeComplete s = _
      simp only [execReturnWipeComplete, hw]
    · exact rget_rset_same .SEC_STATE_BUSY _ _ _ _
    · exact wiped_byte _ (.inr ⟨by simp only [cmKey]; omega, by simp only [cmKey, cmSize] at *; omega⟩)
    · exact wiped_byte _ (.inr ⟨by simp only [lsKey]; omega, by simp only [lsKey, lsSize] at *; omega⟩)
    · exact wiped_byte _ (.inl (by simp only [emKey]; omega))

end Sys2Proof.Machine

/-! PROOF. Ports and segments that go down with power, and the input power (R366, R467 to R470). -/

namespace Sys2Proof.Machine

/-! ### Frames of records, alerts and ports -/

def raiseParts : List Part := [.faultBuf, .fld .BST_EVT_COUNT, .fld .BST_OVF_OVF]

def degradeParts : List Part := [.hosts, .fld .KPR_ALERT_DEGRADED, .fld .BST_HEALTH_STATES, .fld .BST_HEALTH_DEGRADED]

/-- What a port going down touches. -/
def portParts : List Part := [.ports, .fld .PRT_STATUS_STATE, .fld .PRT_STATUS_CAUSE, .fld .PRT_STATUS_PEER_VALID, .fld .PRT_TWIN_PAIRED,
  .fld .PRT_TWIN_ADMIT] ++ raiseParts ++ degradeParts

namespace Touches

theorem set_ports (s : State) (x) : Touches [.ports] s { s with ports := x } := by
  intro q hq
  cases q <;> simp_all [Part.same, rget]

theorem set_keeper (s : State) (x) : Touches [.keeper] s { s with keeper := x } := by
  intro q hq
  cases q <;> simp_all [Part.same, rget]

theorem portMod (p : Nat) (g : PortSt → PortSt) (s : State) : Touches [.ports] s (Machine.portMod p g s) := set_ports _ _

theorem portRaise (p cls detail addr : Nat) (c : Option Nat) (s : State) : Touches raiseParts s (Machine.portRaise p cls detail addr c s) :=
  raise _ _ _

theorem degrade (b : Nat) (s : State) : Touches degradeParts s (Machine.degrade b s) := by
  unfold Machine.degrade
  refine .ite (.refl _ _) ((msix _ _ _).tail (.ite ((rset _ _ _ _ _).tail ?_) ?_))
  all_goals exact (rset _ _ _ _ _).tail (rset _ _ _ _ _).mono

theorem setAdmit (v : Nat) (s : State) : Touches portParts s (Machine.setAdmit v s) := by
  unfold Machine.setAdmit
  exact .ite (.refl _ _) ((portRaise _ _ _ _ _ _).tail (rset _ _ _ _ _).mono)

theorem repair (s : State) : Touches portParts s (Machine.repair s) := by
  have hp (v : Nat) : Touches portParts s (Machine.rset .PRT_TWIN_PAIRED 0 0 v s) := (rset _ _ _ _ _).mono
  have ha (a v : Nat) : Touches portParts s (Machine.setAdmit a (Machine.rset .PRT_TWIN_PAIRED 0 0 v s)) := (setAdmit _ _).tail (hp v)
  unfold Machine.repair
  exact .ite (.ite (ha _ _) (hp _)) (.ite (ha _ _) (.ite (hp _) (ha _ _)))

theorem portHealth (s : State) : Touches portParts s (Machine.portHealth s) := by
  unfold Machine.portHealth
  exact .ite (degrade _ _).mono (.refl _ _)

theorem portDown (p cause : Nat) (s : State) : Touches portParts s (Machine.portDown p cause s) := by
  unfold Machine.portDown
  refine .ite (.refl _ _) ((portHealth _).tail ((repair _).tail ((portRaise _ _ _ _ _ _).tail ((portMod _ _ _).tail ?_))))
  exact (rset _ _ _ _ _).tail ((rset _ _ _ _ _).tail (rset _ _ _ _ _).mono)

end Touches

/-! ### Regions and segments off -/

def lostParts : List Part := [.mem, .poison, .chans, .lane, .laneFails, .laneTests, .scrubLog, .egress]

theorem Touches.loseSegments (p : Nat → Bool) (s : State) : Touches lostParts s (Machine.loseSegments p s) := by
  intro q hq
  cases q <;> simp_all [Part.same, lostParts, Machine.loseSegments, mwipe, rget]

/-- What segments going off touch. -/
def segmentParts : List Part := [.fld .EAV_SEG_STATE, .fld .EAV_SEG_TRANSIT] ++ lostParts ++ portParts

theorem Touches.segmentsOff_ports (p : Nat → Bool) (s : State) :
    Touches ([.fld .EAV_SEG_STATE, .fld .EAV_SEG_TRANSIT] ++ portParts) (Machine.loseSegments p s) (segmentsOff p s) := by
  unfold segmentsOff
  refine .fold (fun x g => (Touches.rset _ _ _ _ _).tail ?_) (.refl _ _)
  have hx : Touches ([.fld .EAV_SEG_STATE, .fld .EAV_SEG_TRANSIT] ++ portParts) x
      (match segPort g with | some q => Machine.portDown q (rget x .PRT_STATUS_CAUSE q) x | none => x) := by
    split
    · exact (Touches.portDown _ _ _).mono
    · exact .refl _ _
  exact .ite hx ((Touches.rset _ _ _ _ _).tail hx)

theorem Touches.segmentsOff (p : Nat → Bool) (s : State) : Touches segmentParts s (Machine.segmentsOff p s) :=
  (Touches.segmentsOff_ports p s).tail (Touches.loseSegments p s).mono

/-- A byte of a segment that goes off reads as 0. -/
theorem mget_segmentsOff (s : State) {ch off : Nat} (hc : ch < 2048) (ho : off < 2 ^ 32) :
    mget (segmentsOff (fun _ => true) s).mem (emKey ch off) = 0 := by
  rw [Touches.segmentsOff_ports _ s .mem (by decide)]
  have h1 : emKey ch off < 2 ^ 60 := by simp only [emKey]; omega
  have h2 : emKey ch off / 2 ^ 32 < 2048 := by simp only [emKey]; omega
  show mget (mwipe (fun k => decide (k < 2 ^ 60) && (decide (k / 2 ^ 32 < 2048) && true)) s).mem _ = 0
  rw [mget_mwipe, if_pos (by rw [decide_eq_true h1, decide_eq_true h2]; rfl)]

/-- The first `n` regions off, their clocks stopped. -/
def darkened (n : Nat) (s : State) : State :=
  (List.range n).foldl (fun s r =>
    rset .PWR_RSTAT_CA_STATE r 0 3 <| rset .PWR_RSTAT_SP_STATE r 0 2 <| rset .PWR_RSTAT_SPLL_LOCK r 0 0 <|
      rset .PWR_RSTAT_CPLL_LOCK r 0 0 <| rset .PWR_RSTAT_MCLK_LOCK r 0 0 s) s

theorem regionsOff_eq (s : State) : regionsOff s = { darkened 42 (loseCombs (fun _ => true) s) with
    keeper := { (darkened 42 (loseCombs (fun _ => true) s)).keeper with
      waking := [], testing := [], cool := [], idle := [], beats := [], pauseArm := [], slicing := [], fenceAsk := [] } } := rfl

theorem rget_darkened (s : State) {n r : Nat} (hr : r < n) :
    rget (darkened n s) .PWR_RSTAT_CA_STATE r = 3 ∧ rget (darkened n s) .PWR_RSTAT_SP_STATE r = 2 := by
  induction n with
  | zero => omega
  | succ n ih =>
    simp only [darkened, List.range_succ, List.foldl_append, List.foldl_cons, List.foldl_nil] at ih ⊢
    by_cases h : r = n
    · simp [h]
    · simpa [h] using ih (by omega)

theorem rget_regionsOff_eq (s : State) (g : F) (i j : Nat) :
    rget (regionsOff s) g i j = rget (darkened 42 (loseCombs (fun _ => true) s)) g i j := by
  rw [regionsOff_eq]
  generalize darkened 42 (loseCombs (fun _ => true) s) = t
  rfl

/-- Every region is off. -/
theorem rget_regionsOff (s : State) {r : Nat} (hr : r < 42) :
    rget (regionsOff s) .PWR_RSTAT_CA_STATE r = 3 ∧ rget (regionsOff s) .PWR_RSTAT_SP_STATE r = 2 := by
  rw [rget_regionsOff_eq, rget_regionsOff_eq]
  exact rget_darkened (loseCombs (fun _ => true) s) hr

theorem Touches.darkened (n : Nat) (s : State) : Touches [.fld .PWR_RSTAT_CA_STATE, .fld .PWR_RSTAT_SP_STATE, .fld .PWR_RSTAT_SPLL_LOCK,
    .fld .PWR_RSTAT_CPLL_LOCK, .fld .PWR_RSTAT_MCLK_LOCK] s (Machine.darkened n s) :=
  .fold (fun _ _ => (Touches.rset _ _ _ _ _).tail ((Touches.rset _ _ _ _ _).tail ((Touches.rset _ _ _ _ _).tail ((Touches.rset _ _ _ _ _).tail
    (Touches.rset _ _ _ _ _).mono)))) (.refl _ _)

/-- Regions that go off leave the input power, flash and the security island. -/
theorem regionsOff_keeps (s : State) : (regionsOff s).powerIn = s.powerIn ∧ (regionsOff s).flash = s.flash ∧ (regionsOff s).sec = s.sec := by
  have h := Touches.darkened 42 (loseCombs (fun _ => true) s)
  rw [regionsOff_eq]
  exact ⟨h .powerIn (by decide), h .flash (by decide), h .sec (by decide)⟩

/-! ### The start of a cold start -/

/-- Stage 0x00 has no alternative: it begins. -/
theorem beginStage_zero (s : State) : beginStage 0 s = jrn 0 1 0 0 0 (msix 0 63 (rset .HST_STATUS_STAGE 0 0 0 s)) := by
  have hno (t : State) : altOf t 0 = none := by
    unfold altOf
    split <;> rfl
  unfold beginStage
  simp only [hno]
  rfl

theorem Touches.jrn (stage event alt detail aux : Nat) (s : State) : Touches [.flash] s (Machine.jrn stage event alt detail aux s) := by
  intro q hq
  cases q <;> simp_all [Part.same, Machine.jrn, rget]

theorem Touches.closeJournal (s : State) : Touches [.faultBuf, .flash] s (Machine.closeJournal s) := by
  unfold Machine.closeJournal
  split
  · exact .refl _ _
  · refine (Touches.raise_keeper _ _).tail ?_
    intro q hq
    cases q <;> simp_all [Part.same, rget]

/-- What the begin of a cold start touches. -/
theorem coldStart_touches (s : State) : Touches [.faultBuf, .flash, .hosts, .fld .HST_STATUS_STAGE] s (beginStage 0 (closeJournal s)) := by
  rw [beginStage_zero]
  exact (Touches.jrn _ _ _ _ _ _).tail ((Touches.msix _ _ _).tail ((Touches.rset _ _ _ _ _).tail (Touches.closeJournal s).mono))

theorem coldStart_stage (s : State) : rget (beginStage 0 (closeJournal s)) .HST_STATUS_STAGE = 0 := by
  rw [beginStage_zero]
  exact (Touches.jrn _ _ _ _ _ _ (.fld .HST_STATUS_STAGE) (by decide) 0 0).trans
    ((rget_msix _ _ _ _ _ _).trans (rget_rset_same _ _ _ _ _))

/-- The state from which stage 0x00 of a cold start begins: the cause, and what a cold reset leaves. -/
theorem coldReset_from (power : Bool) (s : State) : ∃ u, coldReset power s = beginStage 0 (closeJournal u) ∧ u.powerIn = s.powerIn ∧
    u.keeper = State.reset.keeper ∧ rget u .FUS_START_CAUSE = b2n !power ∧ u.pending = s.pending :=
  ⟨_, rfl, rfl, rfl, by simp, rfl⟩

/-- The power-fail sequence, after regions and segments have gone off. -/
def powerFailed (s : State) : State :=
  { s with powerIn := { s.powerIn with switch := 0, good := false, failing := true }
           keeper := { s.keeper with inReset := true }, sec := { s.sec with nonce := none } }

/-- Settles O26: the switches, the start at input power good, and what a power fail leaves. -/
theorem inputPowerResults : Obligations.InputPowerResults := by
  unfold Obligations.InputPowerResults
  intro s p
  refine ⟨fun mv h1 h2 hs hl => congrArg Host.Outcome.next ((if_neg (by omega)).trans
    (if_pos ⟨hs, by simp [show s.powerIn.locked = false from hl], h1, h2⟩)), fun hs => congrArg Host.Outcome.next (if_pos hs),
    fun hs => congrArg Host.Outcome.next (if_pos hs), fun hs hg => ?_, rfl, fun hg => ?_, fun blade hd hw => ?_⟩
  · have hgood : s.powerIn.switch = 2 ∧ (!s.powerIn.good) = true := ⟨hs, by simp [show s.powerIn.good = false from hg]⟩
    refine ⟨_, congrArg Host.Outcome.next (if_pos hgood), ?_⟩
    obtain ⟨u, hu, hp, hk, hc, hq⟩ := coldReset_from true { s with powerIn := { s.powerIn with good := true, failing := false } }
    have ht := coldStart_touches u
    rw [hu]
    refine ⟨?_, ?_, coldStart_stage u, (ht (.fld .FUS_START_CAUSE) (by decide) 0 0).trans hc, (ht .pending (by decide)).trans hq⟩
    · rw [ht .powerIn (by decide), hp]
    · rw [ht .keeper (by decide), hk]
      rfl
  · have hgood : ¬ (!s.powerIn.good) = true := by simp [show s.powerIn.good = true from hg]
    have ht := Touches.segmentsOff (fun _ => true) (regionsOff s)
    have hz {ch off : Nat} (hc : ch < 2048) (ho : off < 2 ^ 32) := mget_segmentsOff (regionsOff s) hc ho
    obtain ⟨hp, hf, hsec⟩ := regionsOff_keeps s
    have hrun : exec .powerFailSequence s = .next (powerFailed (segmentsOff (fun _ => true) (regionsOff s))) :=
      congrArg Host.Outcome.next (if_neg hgood)
    have hr {r : Nat} (hr : r < 42) := rget_regionsOff s hr
    rw [hrun]
    generalize segmentsOff (fun _ => true) (regionsOff s) = u at ht hz
    refine ⟨powerFailed u, rfl, ?_, rfl, rfl, (ht .flash (by decide)).trans hf, fun ch off hc ho => hz hc ho, fun r hr42 => ?_⟩
    · show { u.powerIn with switch := 0, good := false, failing := true } = _
      rw [ht .powerIn (by decide), hp]
    · obtain ⟨h1, h2⟩ := hr hr42
      exact ⟨(ht (.fld .PWR_RSTAT_CA_STATE) (by decide) r 0).trans h1, (ht (.fld .PWR_RSTAT_SP_STATE) (by decide) r 0).trans h2⟩
  · refine ⟨_, congrArg Host.Outcome.next (if_pos ⟨hd, hw⟩), ?_⟩
    rw [raise_keeper (Nat.le_refl 50)]
    rfl

end Sys2Proof.Machine

/-! PROOF. The host interface: inboxes, rings, the link, failed reads of host memory, power states (R385 to R407). -/

namespace Sys2Proof.Machine

/-- A set top bit, as a field and as a bit. -/
theorem top_bit {v : BitVec 32} (h : v.getLsbD 31 = true) : fld v.toNat 31 1 = 1 ∧ bit v.toNat 31 = true := by
  have hv := v.isLt
  rw [BitVec.getLsbD, Nat.testBit_eq_decide_div_mod_eq, decide_eq_true_eq] at h
  simp only [fld, bit, Nat.shiftRight_eq_div_pow, beq_iff_eq]
  omega

/-! ### Rings -/

/-- A ring that was disabled is enabled empty, with the size written. -/
theorem ringCfg_enables {en log2 head tail : F} {f v : Nat} {s : State} (hne : [en, log2, head, tail].Nodup) (hoff : rget s en f = 0)
    (hon : fld v 31 1 = 1 ∧ bit v 31 = true) :
    let t := ringCfg en log2 head tail f v s
    rget t en f = 1 ∧ rget t head f = 0 ∧ rget t tail f = 0 ∧ rget t log2 f = clampLog2 v ∧ t = { s with flds := t.flds } := by
  simp only [List.nodup_cons, List.mem_cons, List.not_mem_nil, not_or, or_false] at hne
  obtain ⟨⟨h1, h2, h3⟩, ⟨h4, h5⟩, h6, -⟩ := hne
  simp only [ringCfg, hoff, hon]
  refine ⟨rget_rset_same _ _ _ _ _, ?_, ?_, ?_, rfl⟩ <;> simp [*, Ne.symm]

/-! ### Power states (R385) -/

/-- Messages that go out leave the power state of their function. -/
theorem msix_fold_d3 (f : Nat) (l : List Nat) (s : State) : (hostGet (l.foldl (fun s v => msix f v s) s) f).d3 = (hostGet s f).d3 ∧
    (l.foldl (fun s v => msix f v s) s).mem = s.mem ∧ (l.foldl (fun s v => msix f v s) s).flds = s.flds := by
  induction l generalizing s with
  | nil => exact ⟨rfl, rfl, rfl⟩
  | cons v r ih =>
    obtain ⟨h1, h2, h3⟩ := ih (msix f v s)
    rw [List.foldl_cons, h1, h2, h3]
    unfold msix
    dsimp only
    split <;> exact ⟨by rw [hostGet_hostSet_same], rfl, rfl⟩

/-! ### The link (R386) -/

/-- `HST_STATUS` with a link's rate and width. -/
def linkShown (v w : Nat) (flit : Bool) (s : State) : State :=
  rset .HST_STATUS_SPEED 0 0 v <| rset .HST_STATUS_WIDTH 0 0 w <| rset .HST_STATUS_FLIT 0 0 (b2n (flit && decide (4 ≤ v))) <|
    rset .HST_STATUS_LINK_SLOW 0 0 (b2n (decide (v < 3))) s

/-- A change of the link shows in `HST_STATUS`, in a message and in a record. -/
theorem linkSpeedChange_touches (s : State) {v : BitVec 3} {w : BitVec 2} (flit : Bool) (hv : v.toNat < 6) (hw : w.toNat < 3) :
    ∃ t, exec (.linkSpeedChange v w flit) s = .next t ∧ Touches ([.hosts] ++ raiseParts) (linkShown v.toNat w.toNat flit s) t := by
  refine ⟨_, if_neg (by omega), ?_⟩
  have hm : Touches ([.hosts] ++ raiseParts) (linkShown v.toNat w.toNat flit s)
      (if rget s .HST_STATUS_LINK_SLOW ≠ b2n (decide (v.toNat < 3)) then msix 0 63 (linkShown v.toNat w.toNat flit s)
        else linkShown v.toNat w.toNat flit s) := .ite (Touches.msix _ _ _).mono (.refl _ _)
  exact .ite ((Touches.raise _ _ _).tail hm) hm

/-- A channel that reads host memory fails at byte `done` of its source. -/
theorem hostReadFail_source {c done : Nat} {s : State} (h1 : rget s .DMA_STATUS_STATE c = 1) (hr : (dmGet s c).record = none)
    (hf : (dmGet s c).fetch = false) (hs : fld (dSrc (dmGet s c).desc) 60 4 = 8) (hd : done < dLen (dmGet s c).desc) :
    hostReadFail c done s = some (dmaError c 0x10 1 done s) := by
  simp [hostReadFail, h1, hr, hf, hs, hd]

/-- Settles O27. -/
theorem hostInterfaceResults : Obligations.HostInterfaceResults := by
  unfold Obligations.HostInterfaceResults
  constructor
  · intro f s n
    refine ⟨fun off data hd h1 h2 h3 hroom => ?_, fun v => ?_, fun v => ?_, fun v hv he => ?_, fun v hv he => ?_⟩
    · refine ⟨_, congrArg Host.Outcome.next ((if_neg (by simp [show (hostGet s f.val).d3 = false from hd, h1])).trans ((if_neg (by omega)).trans (if_neg (Nat.not_le.mpr hroom)))),
        ?_, ?_, rfl, fun k hk => ?_⟩
      · exact (rget_hostSet _ _ _ _ _ _).trans (rget_rset_same _ _ _ _ _)
      · rw [hostGet_hostSet_same]
      · exact hostGet_hostSet_ne _ _ _ _ hk
    · show Host.Outcome.next (cqHead n v.toNat s) = _
      rw [cqHead, Nat.mod_eq_of_lt v.isLt]
    · show Host.Outcome.next (fqHead n v.toNat s) = _
      rw [fqHead, Nat.mod_eq_of_lt v.isLt]
    · obtain ⟨h1, h2, h3, h4, h5⟩ := ringCfg_enables (en := .HST_CQ_CFG_ENABLE) (log2 := .HST_CQ_CFG_LOG2) (head := .HST_CQ_PTR_HEAD)
        (tail := .HST_CQ_PTR_TAIL) (by decide) he (top_bit hv)
      generalize hu : ringCfg .HST_CQ_CFG_ENABLE .HST_CQ_CFG_LOG2 .HST_CQ_PTR_HEAD .HST_CQ_PTR_TAIL n v.toNat s = u at h1 h2 h3 h4 h5
      refine ⟨hostSet n { hostGet u n with cqPhase := true } u, ?_, h1, h2, h3, ?_, by rw [hostGet_hostSet_same], by rw [hostSet_mem, h5]⟩
      · show Host.Outcome.next (cqCfg n v.toNat s) = _
        simp only [cqCfg, hu, he, top_bit hv]
        rfl
      · rw [rget_hostSet, h4]
        simp [clampLog2, fld]
    · obtain ⟨h1, h2, h3, h4, h5⟩ := ringCfg_enables (en := .HST_FQ_CFG_ENABLE) (log2 := .HST_FQ_CFG_LOG2) (head := .HST_FQ_PTR_HEAD)
        (tail := .HST_FQ_PTR_TAIL) (by decide) he (top_bit hv)
      refine ⟨_, rfl, h1, h2, h3, h4.trans ?_, h5⟩
      simp [clampLog2, fld]
  · intro s
    refine ⟨fun v w flit hv hw => ?_, fun h done => ?_, fun f d3 => ?_⟩
    · obtain ⟨t, ht, hq⟩ := linkSpeedChange_touches s flit hv hw
      refine ⟨t, ht, ?_, ?_, ?_, ?_, (hq .mem (by decide)).trans rfl⟩
      · exact (hq (.fld .HST_STATUS_SPEED) (by decide) 0 0).trans (by simp [linkShown])
      · exact (hq (.fld .HST_STATUS_WIDTH) (by decide) 0 0).trans (by simp [linkShown])
      · exact (hq (.fld .HST_STATUS_LINK_SLOW) (by decide) 0 0).trans (by simp [linkShown])
      · exact (hq (.fld .HST_STATUS_FLIT) (by decide) 0 0).trans (by simp [linkShown])
    · intro c h1 hr hf hs hd
      have hfail := hostReadFail_source h1 hr hf hs hd
      constructor
      · show Host.Outcome.next ((hostReadFail c done s).getD s) = _
        rw [hfail]
        rfl
      · show Host.Outcome.next _ = _
        rw [hfail]
    · cases d3 with
      | true => exact ⟨hostSet f.val { hostGet s f.val with d3 := true } s, rfl, by rw [hostGet_hostSet_same], rfl, rfl⟩
      | false =>
        obtain ⟨h1, h2, h3⟩ := msix_fold_d3 f.val (hostGet s f.val).mpend (hostSet f.val { hostGet s f.val with d3 := false, mpend := [] }
          (hostSet f.val { hostGet s f.val with d3 := false } s))
        exact ⟨_, rfl, h1.trans (by rw [hostGet_hostSet_same]), h2, h3⟩

end Sys2Proof.Machine

/-! PROOF. The commands about the whole module (R332, R398, R412). -/

namespace Sys2Proof.Machine

/-- A command that is admitted runs. -/
theorem runCmd_admitted {s : State} {f op : Nat} {h : HostCmd} (ha : admitted s f op h) (go : HostCmd → State → State) :
    runCmd f op go s = go h s := by
  obtain ⟨hf, hc, hw⟩ := ha
  simp [runCmd, hf, hc, hw]

theorem no_context_runs {s : State} (h : ∀ c, c < 16 → rget s .CTX_STATE_STATE c = 0) :
    ((List.range 16).any fun c => rget s .CTX_STATE_STATE c != 0) = false := by
  rw [List.any_eq_false]
  intro c hc
  simp [h c (List.mem_range.mp hc)]

/-- What the end of the test of a SHUTDOWN leaves, but for the answer: the seal where the test can write one, and no test. -/
def shutTestEnd (bad : List (BitVec 64)) (t : Nat) (s : State) : State :=
  let es := bad.map fun e => BitVec.ofNat 64 (setFld e.toNat 56 4 4)
  let ok := decide (es.length ≤ 8184) && rget s .SEC_STATE_KEY_OK == 1
  { (if ok then { s with free := s.free + 1, flash := { s.flash with sealed := some (makeSeal t es s), standby := none } } else s) with
    start := { s.start with shutTest := none } }

theorem shutdownTestComplete_next {bad : List (BitVec 64)} {t : Nat} {h : HostCmd} {s : State} (hs : s.start.shutTest = some (h, t)) :
    exec (.shutdownTestComplete bad) s = .next (endCmd h none 0 0 (shutTestEnd bad t s)) := by
  show execShutdownTestComplete bad s = _
  simp only [execShutdownTestComplete, hs]
  unfold shutTestEnd
  congr 3
  split <;> rfl

/-- Settles O29: each command, admitted. -/
theorem moduleCommandResults : Obligations.ModuleCommandResults := by
  unfold Obligations.ModuleCommandResults
  intro f h s
  have run {op : Nat} (ha : admitted s f.val op h) (go : HostCmd → State → State) :
      Host.Outcome.next (runCmd f.val op go s) = (.next (go h s) : Host.Outcome State Fault Refusal) := congrArg _ (runCmd_admitted ha go)
  refine ⟨fun ha => run ha _, fun ha ht hs hd => ?_, fun ha hw => (run ha _).trans ?_, fun ha hc h1 => ?_, fun ha hc h1 => ?_, fun bad t hs => ?_⟩
  · refine ⟨{ startCmd h s with start := { s.start with warmDue := true, warmTags := s.start.warmTags ++ [{ h with started := true }] } },
      (run ha _).trans ?_, rfl, rfl⟩
    rw [if_neg (by simp [ht])]
    unfold warmRequest
    rw [if_neg (by simp [startCmd, hd]), if_neg (by simp [stageOf, startCmd, rget] at hs ⊢; omega)]
    rfl
  · rw [if_neg (by simp [hw])]
  · refine ⟨{ s with start := { s.start with shutdown := some (0, s.keeper.island, s.keeper.island) }, flash := { s.flash with life := lifeNow s } },
      (run ha _).trans ?_, rfl, rfl⟩
    rw [no_context_runs hc]
    exact congrArg Host.Outcome.next (if_neg h1)
  · refine ⟨{ startCmd h { s with
        start := { s.start with shutdown := some (0, s.keeper.island, s.keeper.island) }, flash := { s.flash with life := lifeNow s } } with
        start := { s.start with shutdown := some (0, s.keeper.island, s.keeper.island), shutTest := some ({ h with started := true }, h.arg1) } },
      (run ha _).trans ?_, rfl⟩
    rw [no_context_runs hc]
    exact congrArg Host.Outcome.next (if_pos h1)
  · refine ⟨shutTestEnd bad t s, shutdownTestComplete_next hs, rfl, fun hk hl => ?_⟩
    simp [shutTestEnd, hk, hl]

end Sys2Proof.Machine

/-! PROOF. The PCIe resets and the warm module reset (R342, R387, R412). -/

namespace Sys2Proof.Machine

theorem tget_tdrop {α : Type} (d : α) (t : List (Nat × α)) (p : Nat → Bool) (i : Nat) :
    tget d (tdrop t p) i = if p i then d else tget d t i := by
  induction t with
  | nil => simp [tdrop, tget]
  | cons e r ih =>
    obtain ⟨k, v⟩ := e
    have ht : tdrop ((k, v) :: r) p = if p k then tdrop r p else (k, v) :: tdrop r p := by
      cases hp : p k <;> simp [tdrop, hp]
    rw [ht]
    by_cases hk : k = i
    · subst hk
      by_cases hp : p k = true <;> simp [hp, tget, ih]
    · by_cases hp : p k = true <;> simp [hp, tget, hk, ih]

/-! ### The reset of the `HST_` registers -/

theorem rget_resetHst (p : Nat → Bool) (s : State) (f : F) (i j : Nat) : rget (resetHst p s) f i j =
    if domOf f = some .host ∧ p i = true ∧ hstKept f = false then coldOf ⟨f, i, j⟩ else rget s f i j := by
  have h := findFld_filter (fun k => domOf k.f == some .host && p k.i && !hstKept k.f) s.flds ⟨f, i, j⟩
  show (findFld (List.filter _ s.flds) _).getD _ = _
  rw [h]
  by_cases hd : domOf f = some .host ∧ p i = true ∧ hstKept f = false
  · rw [if_pos hd, if_pos (by simp [hd])]
    rfl
  · rw [if_neg hd, if_neg (by simpa [and_assoc] using hd)]
    rfl

theorem rget_resetHst_kept {f : F} (h : hstKept f = true) (p : Nat → Bool) (s : State) (i j : Nat) : rget (resetHst p s) f i j = rget s f i j := by
  rw [rget_resetHst, if_neg (by simp [h])]

theorem rget_resetHst_other {f : F} (h : domOf f ≠ some .host) (p : Nat → Bool) (s : State) (i j : Nat) :
    rget (resetHst p s) f i j = rget s f i j := by
  rw [rget_resetHst, if_neg (by simp [h])]

/-- The request that a PCIe reset of the device makes, by the start's own state. -/
theorem warmRequest_next (s : State) :
    (s.start.shutdown.isSome = true → warmRequest s = coldReset false s) ∧
    (s.start.shutdown = none → rget s .HST_STATUS_STAGE < 14 → rget s .PWR_HEAT_TRIPPED = 0 → warmRequest s = s) ∧
    (s.start.shutdown = none → 14 ≤ rget s .HST_STATUS_STAGE ∨ rget s .PWR_HEAT_TRIPPED ≠ 0 →
      warmRequest s = { s with start := { s.start with warmDue := true } }) := by
  refine ⟨fun h => if_pos h, fun h hs ht => ?_, fun h hs => ?_⟩
  all_goals rw [warmRequest, if_neg (by simp [h])]
  · exact if_pos ⟨hs, ht⟩
  · exact if_neg fun ⟨a, b⟩ => hs.elim (fun h => absurd a (Nat.not_lt.mpr h)) fun h => h b

/-! ### The warm module reset -/

theorem Touches.bindAllot (c : Nat) (a : Allot) (s : State) : Touches [.fld .MEM_CHSTAT_OWNED, .fld .MEM_CHSTAT_OWNER, .fld .RFT_STAT_OWNER,
    .fld .DMA_OWNER_BOUND, .fld .DMA_OWNER_CTX, .fld .DMA_OWNER_INDEX, .fld .NET_CFG_EDGE_OFF, .fld .HST_STATUS_BOUND, .fld .HST_STATUS_CTX]
    s (Machine.bindAllot c a s) := by
  unfold Machine.bindAllot
  refine (rset _ _ _ _ _).tail ((rset _ _ _ _ _).tail (fold (fun _ _ => ?_) (fold (fun _ _ => ?_) (fold (fun _ _ => ?_) (fold (fun _ _ => ?_)
    (.refl _ _))))))
  · exact (rset _ _ _ _ _).mono
  · exact (rset _ _ _ _ _).tail ((rset _ _ _ _ _).tail (rset _ _ _ _ _).mono)
  · exact (rset _ _ _ _ _).mono
  · exact (rset _ _ _ _ _).tail (rset _ _ _ _ _).mono

def warmBoundParts : List Part := [.keeper, .fld .MEM_CHSTAT_OWNED, .fld .MEM_CHSTAT_OWNER, .fld .RFT_STAT_OWNER,
    .fld .DMA_OWNER_BOUND, .fld .DMA_OWNER_CTX, .fld .DMA_OWNER_INDEX, .fld .NET_CFG_EDGE_OFF, .fld .HST_STATUS_BOUND, .fld .HST_STATUS_CTX,
    .fld .HST_STATUS_ATTEMPT, .fld .HST_STATUS_FAILED, .fld .HST_STATUS_HOLD, .fld .FUS_START_CAUSE, .fld .FUS_START_ALT, .fld .FUS_START_READY] ++ portParts

/-- Nothing is under way at a unit, and the stages of a warm module reset follow. -/
def WarmCleared (s : State) : Prop := s.start.warm = true ∧ s.start.rerun = false ∧ s.start.warmDue = false ∧
  s.flight = [] ∧ s.egress = [] ∧ s.tags = [] ∧ s.lane = [] ∧ s.dmas = []

theorem WarmCleared.of_touches {s t : State} (h : WarmCleared s) (g : Touches warmBoundParts s t) : WarmCleared t := by
  unfold WarmCleared
  rw [show t.start = s.start from g .start (by decide), show t.flight = s.flight from g .flight (by decide),
    show t.egress = s.egress from g .egress (by decide), show t.tags = s.tags from g .tags (by decide),
    show t.lane = s.lane from g .lane (by decide), show t.dmas = s.dmas from g .dmas (by decide)]
  exact h

/-- The stages of a warm module reset begin in a cleared state, with the cause and no attempt. -/
theorem warmReset_from (s : State) : ∃ u, warmReset s = goStages (stagesAfter u 5) u ∧ WarmCleared u ∧ rget u .FUS_START_CAUSE = 2 ∧
    rget u .HST_STATUS_ATTEMPT = 0 := by
  delta warmReset
  extract_lets s1 s2 s3 s4 s5 _ _ w b k b' z
  have hw : WarmCleared w := ⟨rfl, rfl, rfl, rfl, rfl, rfl, rfl, rfl⟩
  clear_value w
  have hb : Touches warmBoundParts w b := by
    refine .fold (fun x c => ?_) (.refl _ _)
    split
    · exact (Touches.bindAllot _ _ _).mono
    · exact .refl _ _
  clear_value b
  have hb' : Touches warmBoundParts w b' := .ite ((Touches.setAdmit _ _).tail ((Touches.set_keeper _ _).tail hb)) hb
  clear_value b'
  have hz : Touches warmBoundParts w z := (Touches.rset _ _ _ _ _).tail ((Touches.rset _ _ _ _ _).tail ((Touches.rset _ _ _ _ _).tail
    ((Touches.rset _ _ _ _ _).tail ((Touches.rset _ _ _ _ _).tail ((Touches.rset _ _ _ _ _).tail hb')))))
  exact ⟨z, rfl, hw.of_touches hz, by simp [z], by simp [z]⟩

theorem stagesAfter_warm {s : State} (hw : s.start.warm = true) (hr : s.start.rerun = false) : stagesAfter s 5 = [6, 7, 8, 9, 10, 13, 14] := by
  simp only [stagesAfter, hw, hr]
  rfl

/-- Settles O28. -/
theorem deviceResets : Obligations.DeviceResets := by
  unfold Obligations.DeviceResets
  refine ⟨fun s p => ⟨rfl, rfl, rfl, rfl, fun k => tget_tdrop _ _ _ _, rget_resetHst p s⟩, fun s c hc => ?_, fun s f => ?_, fun s => ⟨?_, fun h => ?_⟩⟩
  · have hn : exec c s = .next (warmRequest (resetHst (fun _ => true) s)) := by
      simp only [List.mem_cons, List.not_mem_nil, or_false] at hc
      rcases hc with rfl | rfl | rfl <;> rfl
    obtain ⟨h1, h2, h3⟩ := warmRequest_next (resetHst (fun _ => true) s)
    rw [rget_resetHst_kept rfl, rget_resetHst_other (by decide)] at h2 h3
    exact ⟨fun h => hn.trans (congrArg _ (h1 h)), fun h a b => hn.trans (congrArg _ (h2 h a b)), fun h a => hn.trans (congrArg _ (h3 h a))⟩
  · refine ⟨fun h => if_pos h, fun h hb => ?_, fun c h hb => ?_⟩
    all_goals
      refine (if_neg h).trans ?_
      rw [hb]
  · exact fun h => congrArg Host.Outcome.next (if_neg (by simp [h]))
  · obtain ⟨u, hu, ⟨hwarm, hrerun, hdue, hrest⟩, hcause, hattempt⟩ := warmReset_from s
    rw [stagesAfter_warm hwarm hrerun] at hu
    exact ⟨u, congrArg Host.Outcome.next ((if_pos h).trans hu), hcause, hattempt, hdue, hwarm, hrest⟩

end Sys2Proof.Machine

/-! PROOF. Frames of the operations that contexts, commands and channels share (R395, R401 to R404, R299, R302). -/

namespace Sys2Proof.Machine

namespace Touches

/-! ### One component -/

theorem set_taken (s : State) (x) : Touches [.taken] s { s with taken := x } := by
  intro q hq
  cases q <;> simp_all [Part.same, rget]

theorem set_free (s : State) (x) : Touches [.free] s { s with free := x } := by
  intro q hq
  cases q <;> simp_all [Part.same, rget]

theorem set_chans (s : State) (x) : Touches [.chans] s { s with chans := x } := by
  intro q hq
  cases q <;> simp_all [Part.same, rget]

theorem set_dmas (s : State) (x) : Touches [.dmas] s { s with dmas := x } := by
  intro q hq
  cases q <;> simp_all [Part.same, rget]

theorem set_flash (s : State) (x) : Touches [.flash] s { s with flash := x } := by
  intro q hq
  cases q <;> simp_all [Part.same, rget]

theorem set_drops (s : State) (x) : Touches [.drops] s { s with drops := x } := by
  intro q hq
  cases q <;> simp_all [Part.same, rget]

theorem set_switches (s : State) (x) : Touches [.switches] s { s with switches := x } := by
  intro q hq
  cases q <;> simp_all [Part.same, rget]

theorem set_objs (s : State) (x) : Touches [.objs] s { s with objs := x } := by
  intro q hq
  cases q <;> simp_all [Part.same, rget]

theorem set_pcombs (s : State) (x) : Touches [.pcombs] s { s with pcombs := x } := by
  intro q hq
  cases q <;> simp_all [Part.same, rget]

/-! ### Two components -/

theorem set_taken_hosts (s : State) (x y) : Touches [.taken, .hosts] s { s with taken := x, hosts := y } := by
  intro q hq
  cases q <;> simp_all [Part.same, rget]

theorem set_flight_tx (s : State) (x y) : Touches [.flight, .tx] s { s with flight := x, tx := y } := by
  intro q hq
  cases q <;> simp_all [Part.same, rget]

end Touches

/-! ### Completions -/

/-- What a completion record touches: the ring in host memory, its pointer, the credit and the vectors. -/
def postParts : List Part := [.mem, .hosts, .fld .HST_CQ_PTR_TAIL, .fld .HST_INBOX_RETURNED]

/-- What the end of a command touches. -/
def endParts : List Part := .taken :: postParts

namespace Touches

theorem mwrite (a : Nat) (b : List Byte) (s : State) : Touches [.mem] s (Machine.mwrite a b s) := set_mem _ _

theorem cqWrite (f : Nat) (c : Cpl) (s : State) : Touches postParts s (Machine.cqWrite f c s) := by
  unfold Machine.cqWrite
  refine (msix _ _ _).tail ?_
  have h1 : Touches postParts s (Machine.rset .HST_CQ_PTR_TAIL f 0 (seqNext (rget s .HST_CQ_PTR_TAIL f)) (Machine.mwrite
      (hmKey ((rget s .HST_CQ_BASE_ADDR f * 4096 + 32 * (rget s .HST_CQ_PTR_TAIL f % 2 ^ rget s .HST_CQ_CFG_LOG2 f)) % 2 ^ 57))
      (cplBytes (hostGet s f).cqPhase c) s)) := (rset _ _ _ _ _).tail (mwrite _ _ _).mono
  generalize Machine.rset .HST_CQ_PTR_TAIL _ _ _ _ = u at h1 ⊢
  have h2 : Touches postParts s (if seqNext (rget s .HST_CQ_PTR_TAIL f) % 2 ^ rget s .HST_CQ_CFG_LOG2 f = 0
      then Machine.hostSet f { hostGet s f with cqPhase := !(hostGet s f).cqPhase } u else u) := .ite ((hostSet _ _ _).tail h1) h1
  generalize (if seqNext (rget s .HST_CQ_PTR_TAIL f) % 2 ^ rget s .HST_CQ_CFG_LOG2 f = 0
      then Machine.hostSet f { hostGet s f with cqPhase := !(hostGet s f).cqPhase } u else u) = v at h2 ⊢
  exact .ite ((rset _ _ _ _ _).tail h2) h2

theorem post (f : Nat) (c : Cpl) (s : State) : Touches postParts s (Machine.post f c s) := by
  unfold Machine.post
  exact .ite (cqWrite _ _ _) (hostSet _ _ _).mono

theorem cmdDone (h : HostCmd) (c : Option Nat) (st d : Nat) (s : State) : Touches postParts s (Machine.cmdDone h c st d s) := post _ _ _

theorem endCmd (h : HostCmd) (c : Option Nat) (st d : Nat) (s : State) : Touches endParts s (Machine.endCmd h c st d s) :=
  (cmdDone _ _ _ _ _).tail (set_taken _ _).mono

theorem endFree (h : HostCmd) (c : Option Nat) (s : State) : Touches (.free :: endParts) s (Machine.endFree h c s) :=
  (endCmd _ _ _ _ _).tail (set_free _ _).mono

theorem finishCmd (c op st d : Nat) (s : State) : Touches endParts s (Machine.finishCmd c op st d s) := by
  unfold Machine.finishCmd
  split
  · exact endCmd _ _ _ _ _
  · exact .refl _ _

theorem endCmds (c st d : Nat) (keep : HostCmd → Bool) (s : State) : Touches endParts s (Machine.endCmds c st d keep s) := by
  unfold Machine.endCmds
  exact fold (fun x h => (cmdDone h _ _ _ x).mono) (set_taken_hosts _ _ _).mono

/-! ### DMA channels -/

theorem dmMod (c : Nat) (g : DmaCh → DmaCh) (s : State) : Touches [.dmas] s (Machine.dmMod c g s) := set_dmas _ _

theorem dmaDiscard (c n : Nat) (s : State) : Touches [.flight, .tx, .dmas] s (Machine.dmaDiscard c n s) :=
  (dmMod _ _ _).tail (set_flight_tx _ _ _).mono

end Touches

/-- What the stop of a DMA channel touches. -/
def dmaStopParts : List Part := [.flight, .tx, .dmas, .fld .DMA_STATUS_STATE, .fld .DMA_STATUS_STOP_PEND, .fld .DMA_STATUS_CAUSE,
  .fld .DMA_CUR_ADDR] ++ postParts

namespace Touches

theorem dmaPreset (c i : Nat) (ridge : Bool) (s : State) : Touches dmaStopParts s (Machine.dmaPreset c i ridge s) :=
  (dmMod _ _ _).tail ((rset _ _ _ _ _).tail (rset _ _ _ _ _).mono)

theorem dmaIdle (c : Nat) (s : State) : Touches dmaStopParts s (Machine.dmaIdle c s) := by
  unfold Machine.dmaIdle
  have h (g : DmaCh → DmaCh) : Touches dmaStopParts s (Machine.dmMod c g (Machine.rset .DMA_STATUS_STATE c 0 0
      (Machine.rset .DMA_STATUS_STOP_PEND c 0 0 (Machine.rset .DMA_STATUS_CAUSE c 0 0 s)))) :=
    (dmMod _ _ _).tail ((rset _ _ _ _ _).tail ((rset _ _ _ _ _).tail (rset _ _ _ _ _).mono))
  exact .ite ((dmaPreset _ _ _ _).tail (h _)) (h _)

theorem dmaStopNow (c : Nat) (s : State) : Touches dmaStopParts s (Machine.dmaStopNow c s) := by
  unfold Machine.dmaStopNow
  have h : Touches dmaStopParts s (Machine.dmaDiscard c 0 s) := (dmaDiscard _ _ _).mono
  exact (dmaIdle _ _).tail ((dmMod _ _ _).tail (.ite ((post _ _ _).tail h) h))

end Touches

end Sys2Proof.Machine

/-! PROOF. The life of a context: grants, resets and releases (R337 to R355). -/

namespace Sys2Proof.Machine

/-! ### What grants, resets and releases touch -/

namespace Touches

theorem set_egress_flight (s : State) (x y) : Touches [.flight, .egress] s { s with flight := x, egress := y } := by
  intro q hq
  cases q <;> simp_all [Part.same, rget]

theorem set_mem_poison (s : State) (x y) : Touches [.mem, .poison] s { s with mem := x, poison := y } := by
  intro q hq
  cases q <;> simp_all [Part.same, rget]

theorem showAllot (c : Nat) (a : Allot) (ring host : Nat) (s : State) : Touches [.fld .CTX_ALLOT_COL0, .fld .CTX_ALLOT_COL1, .fld .CTX_ALLOT_ROW0,
    .fld .CTX_ALLOT_ROW1, .fld .CTX_ALLOT_CHANNELS, .fld .CTX_ALLOT_RING_DMA, .fld .CTX_ALLOT_HOST_DMA, .fld .CTX_ALLOT_SYNC]
    s (Machine.showAllot c a ring host s) := by
  unfold Machine.showAllot
  refine (rset _ _ _ _ _).tail ((rset _ _ _ _ _).tail ((rset _ _ _ _ _).tail ((rset _ _ _ _ _).tail ?_)))
  exact (rset _ _ _ _ _).tail ((rset _ _ _ _ _).tail ((rset _ _ _ _ _).tail (rset _ _ _ _ _).mono))

theorem unlockCfg (c : Nat) (s : State) : Touches [.fld .EAV_CTX_CFG_GRANULE, .fld .EAV_CTX_CFG_MIRROR_BASE, .fld .EAV_CTX_CFG_MIRROR_COUNT]
    s (Machine.unlockCfg c s) :=
  (rset _ _ _ _ _).tail ((rset _ _ _ _ _).tail (rset _ _ _ _ _).mono)

theorem clearUnits (c : Nat) (s : State) : Touches [.workers, .switches, .objs, .drops, .dropWaits, .tags, .lane, .chans]
    s (Machine.clearUnits c s) := by
  intro q hq
  cases q <;> simp_all [Part.same, rget, Machine.clearUnits]

theorem ungate (c : Nat) (s : State) : Touches [.fld .PWR_RSTAT_CA_STATE] s (Machine.ungate c s) :=
  fold (fun _ _ => rset _ _ _ _ _) (.refl _ _)

theorem pcMod (k : Nat) (g : PComb → PComb) (s : State) : Touches [.pcombs] s (Machine.pcMod k g s) := set_pcombs _ _

theorem closeServed (c : Nat) (s : State) : Touches [.pcombs] s (Machine.closeServed c s) := by
  unfold Machine.closeServed
  exact .ite (set_pcombs _ _) (fold (fun _ _ => pcMod _ _ _) (set_pcombs _ _))

theorem closeFlows (c : Nat) (s : State) : Touches [.ports] s (Machine.closeFlows c s) := set_ports _ _

theorem stopTraffic (c : Nat) (s : State) : Touches (.egress :: .ports :: dmaStopParts) s (Machine.stopTraffic c s) := by
  refine (closeFlows _ _).tail ((set_egress_flight _ _ _).tail (fold (fun x d => ?_) (.refl _ _)))
  exact .ite ((dmaStopNow d x).mono) (.refl _ _)

theorem emWrite (v : View) (a : Nat) (b : List Byte) (s : State) : Touches [.mem, .poison] s (Machine.emWrite v a b s) := set_mem_poison _ _ _

end Touches

def captureParts : List Part := [.mem, .poison, .flash, .fld .CTX_CAPSTAT_VALID, .fld .CTX_CAPSTAT_RESULT, .fld .CTX_CAPSTAT_SLOT,
  .fld .CTX_CAPSTAT_GEN, .fld .CTX_CAPSTAT_BYTES]

theorem Touches.capture (c : Nat) (s : State) : Touches captureParts s (Machine.capture c s) := by
  have stat {x : State} (res slot bytes gen : Nat) (h : Touches captureParts s x) : Touches captureParts s (Machine.rset .CTX_CAPSTAT_VALID c 0 1 <|
      Machine.rset .CTX_CAPSTAT_RESULT c 0 res <| Machine.rset .CTX_CAPSTAT_SLOT c 0 slot <| Machine.rset .CTX_CAPSTAT_GEN c 0 gen <|
        Machine.rset .CTX_CAPSTAT_BYTES c 0 bytes x) :=
    (rset _ _ _ _ _).tail ((rset _ _ _ _ _).tail ((rset _ _ _ _ _).tail ((rset _ _ _ _ _).tail ((rset _ _ _ _ _).tail h))))
  unfold Machine.capture
  exact .ite (.refl _ _) (.ite (stat _ _ _ _ (.refl _ _)) (stat _ _ _ _ ((set_flash _ _).tail (emWrite _ _ _ _).mono)))

theorem genOf_newGen (c : Nat) (g : Option Nat) (s : State) :
    genOf (newGen c g s) c = match g with | some n => n % 256 | none => (genOf s c + 1) % 256 := by
  cases g <;> simp [genOf, newGen]

@[simp] theorem bump_ctxs (ev ovf : F) (i n k : Nat) (s : State) : (bump ev ovf i n k s).ctxs = s.ctxs := by rw [bump_frame]

/-! ### The context reset -/

/-- The end of a context reset, from the cleared context on. -/
def resetDone (c st cls : Nat) (own : Bool) (s : State) : State :=
  let s := rset .CTX_STEP_COUNT c 0 0 <| rset .CTX_STEPSTAT_SLIP c 0 0 <| rset .CTX_STATE_HOLD_CLASS c 0 0 s
  let s := bump .CTX_EVT_COUNT .CTX_OVF_OVF c 3 1 s
  let s := rset .CTX_STATE_STATE c 0 st s
  let s := (s.taken.filter fun h => h.started && h.opcode == 5 && h.ctx == c).foldl (fun s h => endCmd h (some c) 0 0 s) s
  if own then s else post (ctxFunc s c) ⟨4, cls, some c, 0, genOf s c, 0, 0⟩ s

theorem Touches.resetEnd (c cls : Nat) (own : Bool) (s : State) : Touches endParts s
    (let u := (s.taken.filter fun h => h.started && h.opcode == 5 && h.ctx == c).foldl (fun s h => Machine.endCmd h (some c) 0 0 s) s
     if own then u else Machine.post (ctxFunc u c) ⟨4, cls, some c, 0, genOf u c, 0, 0⟩ u) := by
  have h : Touches endParts s ((s.taken.filter fun h => h.started && h.opcode == 5 && h.ctx == c).foldl (fun s h => Machine.endCmd h (some c) 0 0 s) s) :=
    fold (fun x h => endCmd h _ _ _ x) (.refl _ _)
  exact .ite h ((post _ _ _).tail h)

theorem resetDone_leaves (c st cls : Nat) (own : Bool) (s : State) : let t := resetDone c st cls own s
    rget t .CTX_STATE_STATE c = st ∧ rget t .CTX_STEP_COUNT c = 0 ∧ rget t .CTX_STATE_HOLD_CLASS c = 0 ∧ genOf t c = genOf s c ∧ t.ctxs = s.ctxs := by
  have h := Touches.resetEnd c cls own (rset .CTX_STATE_STATE c 0 st (bump .CTX_EVT_COUNT .CTX_OVF_OVF c 3 1
    (rset .CTX_STEP_COUNT c 0 0 <| rset .CTX_STEPSTAT_SLIP c 0 0 <| rset .CTX_STATE_HOLD_CLASS c 0 0 s)))
  refine ⟨(h (.fld .CTX_STATE_STATE) (by decide) c 0).trans ?_, (h (.fld .CTX_STEP_COUNT) (by decide) c 0).trans ?_,
    (h (.fld .CTX_STATE_HOLD_CLASS) (by decide) c 0).trans ?_, (h (.fld .CTX_STATE_GEN) (by decide) c 0).trans ?_, (h .ctxs (by decide)).trans ?_⟩
  all_goals simp [genOf]

/-- A context reset ends as `resetDone` from a state in the new generation whose context is cleared. -/
theorem contextReset_from (c : Nat) (g : Option Nat) (s : State) : ∃ cls own v, contextReset c g s =
    resetDone c (if (ctxGet s c).releasing then 5 else 1) cls own (ctxSet c (freshCtx (ctxGet v c)) (unlockCfg c (clearUnits c v))) ∧
    genOf v c = match g with | some n => n % 256 | none => (genOf s c + 1) % 256 := by
  delta contextReset
  extract_lets s1 x cls s2 y s3 s4 s5 s6 s7 s8 s9 s10
  have h1 : Touches [.fld .PWR_RSTAT_CA_STATE] s s1 := Touches.ungate c s
  have hx : x.releasing = (ctxGet s c).releasing := congrArg (fun l => (tget ctx0 l c).releasing) (h1 .ctxs (by decide))
  have h2 := ((h1.comp (Touches.closeServed c s1)).comp (Touches.stopTraffic c (closeServed c s1)))
  refine ⟨cls, x.resetOwn, s5, ?_, ?_⟩
  · rw [← hx]
    rfl
  · have g2 : genOf s2 c = genOf s c := h2 (.fld .CTX_STATE_GEN) (by decide) c 0
    clear_value s2
    have g3 : genOf s3 c = genOf s2 c := Eq.trans ((Touches.capture c _) (.fld .CTX_STATE_GEN) (by decide) c 0) rfl
    have g5 : genOf s5 c = genOf s4 c := (Touches.endCmds _ _ _ _ _) (.fld .CTX_STATE_GEN) (by decide) c 0
    rw [g5, genOf_newGen, g3, g2]

theorem contextReset_leaves (c : Nat) (g : Option Nat) (s : State) : let t := contextReset c g s
    rget t .CTX_STATE_STATE c = (if (ctxGet s c).releasing then 5 else 1) ∧ rget t .CTX_STEP_COUNT c = 0 ∧ rget t .CTX_STATE_HOLD_CLASS c = 0 ∧
    genOf t c = (match g with | some n => n % 256 | none => (genOf s c + 1) % 256) ∧ (ctxGet t c).active = none := by
  obtain ⟨cls, own, v, ht, hg⟩ := contextReset_from c g s
  obtain ⟨hst, hstep, hcls, hgen, hctx⟩ := resetDone_leaves c (if (ctxGet s c).releasing then 5 else 1) cls own
    (ctxSet c (freshCtx (ctxGet v c)) (unlockCfg c (clearUnits c v)))
  dsimp only
  rw [ht]
  refine ⟨hst, hstep, hcls, hgen.trans ?_, ?_⟩
  · exact Eq.trans (((Touches.clearUnits c v).comp (Touches.unlockCfg c _)) (.fld .CTX_STATE_GEN) (by decide) c 0) hg
  · rw [ctxGet, hctx]
    exact congrArg Ctx.active (ctxGet_ctxSet_same c _ _)

/-! ### Requests -/

@[simp] theorem ctxGet_ctxMod_same (c : Nat) (f : Ctx → Ctx) (s : State) : ctxGet (ctxMod c f s) c = f (ctxGet s c) := ctxGet_ctxSet_same _ _ _

theorem ctxGet_ctxMod_ne {c a : Nat} (f : Ctx → Ctx) (s : State) (h : a ≠ c) : ctxGet (ctxMod c f s) a = ctxGet s a := ctxGet_ctxSet_ne _ _ _ _ h

theorem bit_toNat {n : Nat} (v : BitVec n) (i : Nat) : bit v.toNat i = v.getLsbD i := by
  rw [BitVec.getLsbD, Nat.testBit_eq_decide_div_mod_eq, bit, Nat.shiftRight_eq_div_pow]
  rfl

/-- A request that does not name the current generation is kept, the first one first, and nothing else of the context changes but whose request it is. -/
theorem ctxResetReq_new {c : Nat} {g : Option Nat} {s : State} (h : g ≠ some (genOf s c)) :
    ctxResetReq c g s = { s with ctxs := (ctxResetReq c g s).ctxs } ∧ (ctxGet (ctxResetReq c g s) c).releasing = (ctxGet s c).releasing ∧
    (rget s .CTX_STATE_STATE c ≠ 0 → rget s .CTX_STATE_STATE c ≠ 5 →
      (ctxGet (ctxResetReq c g s) c).resetReq = some ((ctxGet s c).resetReq.getD g)) ∧
    (rget s .CTX_STATE_STATE c = 0 ∨ rget s .CTX_STATE_STATE c = 5 → (ctxGet (ctxResetReq c g s) c).resetReq = (ctxGet s c).resetReq) := by
  have hk (x : Ctx) (b : Bool) : (if b && x.resetReq.isSome then { x with resetOwn := true } else x).resetReq = x.resetReq ∧
      (if b && x.resetReq.isSome then { x with resetOwn := true } else x).releasing = x.releasing := by
    split <;> exact ⟨rfl, rfl⟩
  simp only [ctxResetReq, if_neg h, askReset]
  by_cases hst : rget s .CTX_STATE_STATE c = 0 ∨ rget s .CTX_STATE_STATE c = 5
  · rw [if_pos hst]
    refine ⟨rfl, ?_, fun a b => absurd hst (by simp [a, b]), fun _ => ?_⟩ <;> simp only [ctxMod, ctxGet_ctxSet_same, hk]
  · rw [if_neg hst]
    refine ⟨rfl, ?_, fun _ _ => ?_, fun a => absurd a hst⟩ <;> simp only [ctxMod, ctxGet_ctxSet_same]
    · cases (ctxGet s c).resetReq <;> rfl
    · cases (ctxGet s c).resetReq <;> rfl

theorem askReset_asks {c : Nat} {g : Option Nat} {s : State} (h0 : rget s .CTX_STATE_STATE c ≠ 0) (h5 : rget s .CTX_STATE_STATE c ≠ 5) :
    askReset c g s = ctxMod c (fun x => { x with resetReq := some (x.resetReq.getD g) }) s := by
  refine (if_neg (by simp [h0, h5])).trans (congrArg (fun f => ctxMod c f s) (funext fun x => ?_))
  exact congrArg (fun r => ({ x with resetReq := r } : Ctx)) (by cases x.resetReq <;> rfl)

/-- A context held too long is reset. -/
theorem holdTimeout_asks {c : Nat} {s : State} (hst : rget s .CTX_STATE_STATE c = 3)
    (hh : rget s .CTX_CTRL_HOLD_TICKS c ≤ (ctxGet s c).heldTicks) (hk : s.keeper.inReset = false) :
    (ctxGet (holdTimeout c s) c).resetReq.isSome = true ∧ holdTimeout c s = { s with ctxs := (holdTimeout c s).ctxs } := by
  rw [show holdTimeout c s = askReset c none s from if_pos ⟨hst, hh, by simp [hk]⟩, askReset_asks (by omega) (by omega)]
  exact ⟨by simp, rfl⟩

/-! ### Grants -/

@[simp] theorem rget_startCmd (h : HostCmd) (s : State) (f : F) (i j : Nat) : rget (startCmd h s) f i j = rget s f i j := rfl

@[simp] theorem ctxGet_startCmd (h : HostCmd) (s : State) (c : Nat) : ctxGet (startCmd h s) c = ctxGet s c := rfl

/-- Grants that end leave every allotment. -/
theorem endGrants_keeps (s : State) : (∀ i, (ctxGet (endGrants s) i).allot = (ctxGet s i).allot) ∧ Touches (.ctxs :: endParts) s (endGrants s) := by
  unfold endGrants
  refine List.foldlRecOn (motive := fun t => (∀ i, (ctxGet t i).allot = (ctxGet s i).allot) ∧ Touches (.ctxs :: endParts) s t) _ _
    ⟨fun _ => rfl, .refl _ _⟩ fun t ⟨ha, ht⟩ c _ => ?_
  dsimp only
  split
  next a f tag hx hg =>
    split
    · generalize hu : ctxMod c (fun x => { x with grantTag := none })
        { t with taken := dropFirst (fun h => h.started && h.opcode == 2 && h.func == f && h.tag == tag) t.taken } = u
      have hpost (x : Cpl) : Touches postParts u (post f x u) := Touches.post f x u
      refine ⟨fun i => ?_, (hpost _).tail ?_⟩
      · have hp (x : Cpl) : ctxGet (post f x u) i = ctxGet u i := congrArg (tget ctx0 · i) (hpost x .ctxs (by decide))
        rw [hp, ← ha i, ← hu]
        by_cases hi : i = c
        · subst hi
          exact Eq.trans (congrArg Ctx.allot (ctxGet_ctxMod_same _ _ _)) rfl
        · exact congrArg Ctx.allot (ctxGet_ctxMod_ne _ _ hi)
      · rw [← hu]
        exact (Touches.ctxMod _ _ _).tail ((Touches.set_taken _ _).tail ht)
    · exact ⟨ha, ht⟩
  next => exact ⟨ha, ht⟩

theorem grant_leaves {h : HostCmd} {g : GrantReq} {s : State} {c : Nat}
    (hc : (List.range 16).find? (fun c => rget s .CTX_STATE_STATE c == 0) = some c) :
    rget (grant h g s) .CTX_STATE_STATE c = 1 ∧ rget (grant h g s) .CTX_STATE_FUNC c = g.al.func ∧
    genOf (grant h g s) c = (genOf s c + 1) % 256 ∧ (ctxGet (grant h g s) c).allot.isSome = true := by
  simp only [grant, hc]
  generalize ha : ({ g.al with lanes := _, dma := _ } : Allot) = a
  have hf : a.func = g.al.func := by rw [← ha]
  generalize hw : unlockCfg c _ = w
  have hu : genOf w c = genOf s c ∧ (ctxGet w c).allot = some a := by
    rw [← hw]
    refine ⟨Eq.trans (((((Touches.showAllot c a g.ring g.host s).comp (Touches.bindAllot c a _)).comp (Touches.ctxSet c _ _)).comp
      (Touches.unlockCfg c _)) (.fld .CTX_STATE_GEN) (by decide) c 0) rfl, ?_⟩
    rw [ctxGet, Touches.unlockCfg c _ .ctxs (by decide)]
    exact congrArg Ctx.allot (ctxGet_ctxSet_same c _ _)
  clear hw
  generalize hv : startCmd h _ = v
  have hgen : genOf (newGen c none w) c = (genOf w c + 1) % 256 := genOf_newGen c none w
  obtain ⟨hal, ht⟩ := endGrants_keeps v
  refine ⟨(ht (.fld .CTX_STATE_STATE) (by decide) c 0).trans ?_, (ht (.fld .CTX_STATE_FUNC) (by decide) c 0).trans ?_,
    (ht (.fld .CTX_STATE_GEN) (by decide) c 0).trans ?_, ?_⟩
  · rw [← hv]
    exact rget_rset_same _ _ _ _ _
  · rw [← hv, ← hf]
    exact (rget_rset_field _ _ _ _ _ _ _ _ (by decide)).trans (rget_rset_same _ _ _ _ _)
  · rw [← hv, ← hu.1, ← hgen]
    simp [genOf]
  · rw [hal, ← hv]
    simp [newGen, hu.2]

/-! ### Releases -/

theorem enterRelease_state (c : Nat) (s : State) : rget (enterRelease c s) .CTX_STATE_STATE c = 5 := by
  unfold enterRelease
  dsimp only
  split
  next h _ =>
    refine Eq.trans ((Touches.endFree h (some c) _) (.fld .CTX_STATE_STATE) (by decide) c 0) ?_
    exact ((Touches.ctxMod c _ _) (.fld .CTX_STATE_STATE) (by decide) c 0).trans (rget_rset_same _ _ _ _ _)
  next => exact ((Touches.ctxMod c _ _) (.fld .CTX_STATE_STATE) (by decide) c 0).trans (rget_rset_same _ _ _ _ _)

theorem freeAllot_leaves {c : Nat} {s : State} (h : (ctxGet s c).allot.isSome = true) :
    rget (freeAllot c s) .CTX_STATE_STATE c = 0 ∧ rget (freeAllot c s) .CTX_STATE_FUNC c = 31 ∧ (ctxGet (freeAllot c s) c).allot = none := by
  obtain ⟨a, ha⟩ := Option.isSome_iff_exists.mp h
  simp only [freeAllot, ha]
  generalize showAllot c ⟨0, 0, 0, 0, [], [], [], 0, 0⟩ 0 0 _ = u
  generalize hv : rset .CTX_STATE_STATE c 0 0 (rset .CTX_STATE_FUNC c 0 31 (rset .CTX_STATE_RESTART_BLOCKED c 0 0 u)) = v
  have hc (x : Ctx) (f : F) (i j : Nat) : rget (ctxSet c x (clearUnits c v)) f i j = rget v f i j :=
    ((Touches.clearUnits c v).comp (Touches.ctxSet c x _)) (.fld f) (by simp) i j
  rw [hc, hc, ctxGet_ctxSet_same, ← hv]
  exact ⟨by simp, by simp, rfl⟩

/-- Settles O30. -/
theorem contextLifeResults : Obligations.ContextLifeResults := by
  unfold Obligations.ContextLifeResults
  intro s
  refine ⟨fun f h g c ha hb hl hk he hc => ?_, fun who c v => ?_, fun c hst hh hk => ?_, fun c g hr hd => ?_, fun f h ha => ?_, fun f h ha => ?_, fun c => ?_⟩
  · refine ⟨grant h g s, ?_, rfl, grant_leaves hc⟩
    show execGrant f s = _
    simp only [execGrant, ha.1, hb]
    refine congrArg Host.Outcome.next ((runCmd_admitted ha _).trans ?_)
    simp [hl, hk, he]
  · intro u gen
    have hw : ctxCtrlWrite c.val v.toNat s = if v.getLsbD 31 then ctxResetReq c.val gen u else u := by
      have h8 (k : Nat) : fld v.toNat k 8 = v.toNat / 2 ^ k % 256 := by simp [fld, Nat.shiftRight_eq_div_pow]
      simp only [ctxCtrlWrite, bit_toNat, h8, Nat.pow_zero, Nat.div_one]
      rfl
    have hg : genOf u c.val = genOf s c.val := rget_rset_field _ _ _ _ _ _ _ _ (by decide)
    have hst : rget u .CTX_STATE_STATE c.val = rget s .CTX_STATE_STATE c.val := rget_rset_field _ _ _ _ _ _ _ _ (by decide)
    refine ⟨fun k hk hne => ?_, fun ha => ?_⟩
    · show execCtxResetRequest who c v s = _
      simp [execCtxResetRequest, hk, hne]
    · have hx : exec (.ctxResetRequest who c v) s = .next (ctxCtrlWrite c.val v.toNat s) := by
        show execCtxResetRequest who c v s = _
        rcases ha with ha | ha <;> simp [execCtxResetRequest, ha]
      rw [hx, hw]
      refine ⟨fun h => by rw [if_neg (by simp only [h]; decide)], fun h he => ?_, fun h he => ?_⟩
      · rw [if_pos h, ctxResetReq, if_pos (he.trans (congrArg some hg.symm))]
      · rw [if_pos h]
        obtain ⟨hf, -, hnew, hold⟩ := ctxResetReq_new (c := c.val) (g := gen) (s := u) (hg ▸ he)
        rw [hst] at hnew hold
        exact ⟨_, rfl, hf, hnew, hold⟩
  · exact ⟨_, rfl, holdTimeout_asks hst hh hk⟩
  · have hx : exec (.contextReset c) s = .next (let u := endMoves c.val s; if movesDue u c.val = [] then contextReset c.val g u else u) := by
      show execContextReset c s = _
      simp only [execContextReset, hr, if_pos hd]
    refine ⟨fun hm => ?_, fun _ => hx⟩
    have he : endMoves c.val s = s := if_pos hm
    refine ⟨_, hx.trans (congrArg Host.Outcome.next ?_), rfl, contextReset_leaves c.val g s⟩
    simp only [he, if_pos hm]
  · have hx (go : HostCmd → State → State) : Host.Outcome.next (runCmd f.val 5 go s) = (.next (go h s) : Host.Outcome State Fault Refusal) :=
      congrArg _ (runCmd_admitted ha go)
    have hg : (if bit h.arg0 8 then some (fld h.arg0 0 8) else none) = if bit h.arg0 8 then some (h.arg0 % 256) else none := by
      simp [fld]
    rw [← hg]
    refine ⟨fun h5 => (hx _).trans ?_, fun h5 he => (hx _).trans ?_, fun h5 h0 he => ?_⟩
    · exact congrArg Host.Outcome.next (if_pos h5)
    · exact congrArg Host.Outcome.next ((if_neg h5).trans (if_pos he))
    · obtain ⟨hf, -, hnew, -⟩ := ctxResetReq_new he
      exact ⟨_, (hx _).trans (congrArg Host.Outcome.next ((if_neg h5).trans (if_neg he))), hf, hnew h0 h5⟩
  · have hx (go : HostCmd → State → State) : Host.Outcome.next (runCmd f.val 6 go s) = (.next (go h s) : Host.Outcome State Fault Refusal) :=
      congrArg _ (runCmd_admitted ha go)
    refine ⟨fun h1 hr => ⟨_, (hx _).trans (congrArg Host.Outcome.next ((if_neg (by omega)).trans
      (if_pos ⟨h1, Option.isNone_iff_eq_none.mpr hr⟩))), enterRelease_state _ _⟩, fun h0 hr => ?_⟩
    · simp only [List.mem_cons, List.not_mem_nil, or_false, not_or] at h0
      obtain ⟨hf, -, hnew, -⟩ := ctxResetReq_new (c := h.ctx) (g := none) (s := startCmd h s) (by simp)
      refine ⟨_, (hx _).trans (congrArg Host.Outcome.next ((if_neg (by omega)).trans (if_neg ?_))), ?_⟩
      · rintro ⟨h1, hn⟩
        rcases hr with hr | hr
        · exact hr h1
        · simp only [ctxGet_startCmd] at hn
          simp [Option.isNone_iff_eq_none.mp hn] at hr
      · simp only [ctxGet_ctxMod_same]
        refine ⟨trivial, ?_, ?_⟩
        · rw [hnew h0.1 h0.2]
          rfl
        · refine Eq.trans ((Touches.ctxMod h.ctx _ _) (.fld .CTX_STATE_STATE) (by decide) h.ctx 0) ?_
          exact (congrArg (fun l => rget l .CTX_STATE_STATE h.ctx) hf).trans rfl
  · refine ⟨fun h => if_pos h, fun h hal => ⟨_, if_neg (not_not.mpr h), ?_⟩⟩
    obtain ⟨h0, h31, hn⟩ := freeAllot_leaves (c := c.val) (s := wipeAllot c.val s) hal
    split
    next k _ =>
      have ht := Touches.endCmd k (some c.val) 0 0 (freeAllot c.val (wipeAllot c.val s))
      exact ⟨(ht (.fld .CTX_STATE_STATE) (by decide) _ _).trans h0, (ht (.fld .CTX_STATE_FUNC) (by decide) _ _).trans h31,
        (congrArg (fun l => (tget ctx0 l c.val).allot) (ht .ctxs (by decide))).trans hn⟩
    next => exact ⟨h0, h31, hn⟩

end Sys2Proof.Machine

/-! PROOF. Loading and coursing (R160 to R166). -/

namespace Sys2Proof.Machine

/-! ### What shadows, presets and courses touch -/

def unitParts : List Part := [.workers, .switches, .drops, .chans]

namespace Touches

theorem swSet (cb n : Nat) (x : Switch) (s : State) : Touches [.switches] s (Machine.swSet cb n x s) := set_switches _ _
theorem dropSet (cb : Nat) (d : DropTab × DropTab) (s : State) : Touches [.drops] s (Machine.dropSet cb d s) := set_drops _ _
theorem chSet (ch : Nat) (x : Channel) (s : State) : Touches [.chans] s (Machine.chSet ch x s) := set_chans _ _

theorem clearShadows (c : Nat) (s : State) : Touches unitParts s (Machine.clearShadows c s) := by
  unfold Machine.clearShadows
  refine fold (fun _ _ => (chSet _ _ _).mono) (fold (fun x _ => (dropSet _ _ _).tail ?_) (fold (fun _ _ => (wMod _ _ _).mono) (.refl _ _)))
  exact fold (fun _ _ => (swSet _ _ _ _).mono) (.refl _ _)

theorem showReady (c : Nat) (s : State) : Touches unitParts s (Machine.showReady c s) := by
  unfold Machine.showReady
  split
  · exact .refl _ _
  · refine fold (fun _ _ => .ite (.refl _ _) (chSet _ _ _).mono) (fold (fun x _ => ?_)
      (fold (fun _ _ => .ite (.refl _ _) (wMod _ _ _).mono) (.refl _ _)))
    exact fold (fun _ _ => .ite (.refl _ _) (swSet _ _ _ _).mono) (.refl _ _)

theorem flipAll (c : Nat) (s : State) : Touches unitParts s (Machine.flipAll c s) := by
  unfold Machine.flipAll
  refine fold (fun x _ => ?_) (fold (fun _ _ => (wMod _ _ _).mono) (.refl _ _))
  exact fold (fun _ _ => (swSet _ _ _ _).mono) (.refl _ _)

theorem swapTimed (c : Nat) (s : State) : Touches unitParts s (Machine.swapTimed c s) := by
  unfold Machine.swapTimed
  exact fold (fun _ _ => (chSet _ _ _).mono) (fold (fun _ _ => (dropSet _ _ _).mono) (.refl _ _))

theorem writeObjs (os : List (Nat × SyncObj)) (s : State) : Touches [.objs] s (Machine.writeObjs os s) := set_objs _ _

theorem writePresets (c : Nat) (t : Thatch) (s : State) : Touches [.dmas] s (Machine.writePresets c t s) :=
  fold (fun _ _ => dmMod _ _ _) (.refl _ _)

/-- A thatch takes effect at units, sync objects, channels and in its context alone. -/
theorem flipParts (c : Nat) (t : Thatch) (s : State) : Touches (.objs :: .dmas :: unitParts) s
    (Machine.writePresets c t (Machine.writeObjs t.syncInit (Machine.swapTimed c (Machine.flipAll c s)))) :=
  (writePresets _ _ _).tail ((writeObjs _ _).tail ((swapTimed _ _).tail (flipAll _ _).mono))

end Touches

/-- A context reads the same where the contexts were not touched. -/
theorem ctxGet_touches {l : List Part} {s t : State} (h : Touches l s t) (hl : .ctxs ∉ l) (c : Nat) : ctxGet t c = ctxGet s c :=
  congrArg (tget ctx0 · c) (h .ctxs hl)

/-! ### The courses -/

theorem load_opens {f : Fin 16} {h : HostCmd} {s : State} (ha : admitted s f.val 3 h) (ht : loadTurn s f.val = true)
    (hl : ∀ k, k < 16 → (ctxGet s k).load = none) (hc : h.ctx < 16) (harm : (ctxGet s h.ctx).arm = .none)
    (hb : rget s .CTX_STATE_RESTART_BLOCKED h.ctx = 0) (h4 : h.arg0 % 4096 = 0) (hap : h.arg0 + h.arg1 ≤ aperture s (.ctx h.ctx))
    (hov : (heldRanges s h.ctx).any (overlaps h.arg0 h.arg1) = false) :
    exec (.load f) s = .next (startCmd h (ctxSet h.ctx { ctxGet s h.ctx with load := some { addr := h.arg0, bytes := h.arg1, tag := h.tag, func := h.func
                                                                                            accepted := false, thatch := none, retried := [], got := []
                                                                                            buf := [], mwin := [] } } s)) := by
  have hany : ((List.range 16).any fun k => (ctxGet s k).load.isSome) = false := by
    rw [List.any_eq_false]
    exact fun k hk => by simp [hl k (List.mem_range.mp hk)]
  show execLoad f s = _
  refine congrArg Host.Outcome.next ((if_neg (by simp [ht])).trans ((runCmd_admitted ha _).trans ?_))
  simp [hl h.ctx hc, harm, ha.2.2, hany, hb, h4, hov, Nat.not_lt.mpr hap]

/-- COURSE of a thatch without a predecessor in a context without an active one. -/
theorem course_flips {f : Fin 16} {h : HostCmd} {th : Thatch} {s : State} (ha : admitted s f.val 4 h) (hw : (ctxGet s h.ctx).waiting = some th)
    (hp : th.pred = 0) (harm : (ctxGet s h.ctx).arm = .none) (hl : (ctxGet s h.ctx).load = none) (hact : (ctxGet s h.ctx).active = none) :
    exec (.course f) s = .next (let u := ctxMod h.ctx (fun x => { x with phase := .idle }) (rset .CTX_STATE_STATE h.ctx 0 2 (flipNow h.ctx s))
      endCmd h (some h.ctx) 0 (rget u .CTX_STEP_COUNT h.ctx) u) := by
  refine congrArg Host.Outcome.next ((runCmd_admitted ha _).trans ?_)
  simp only [ha.2.2, hw, hp, harm, hl, hact, Bool.false_eq_true, if_false, ne_eq, not_true_eq_false, false_and, bne_self_eq_false,
    Option.isSome_none, Bool.or_self]
  generalize flipNow h.ctx s = u
  rfl

/-- A rejected image ends its load and touches no unit. -/
theorem image_rejected {c : Fin 16} {j : LoadJob} {r : Rej} {s : State} (hj : (ctxGet s c.val).load = some j) (hja : j.accepted = false)
    (hk : s.keeper.inReset = false) (hi : checkImage s c.val j.addr j.bytes (emRead s (.ctx c.val) j.addr j.bytes) = some r) :
    ∃ t, exec (.imageAccepted c) s = .next t ∧ Touches ([.fld .SEC_EVT_COUNT, .fld .SEC_OVF_OVF, .faultBuf] ++ endParts)
      (ctxMod c.val (fun x => { x with load := none }) s) t := by
  have hend (code d : Nat) : endLoad c.val code d s = finishCmd c.val 3 code d (ctxMod c.val (fun x => { x with load := none }) s) := by
    simp [endLoad, hj, hja]
  have hfin (code d : Nat) := Touches.finishCmd c.val 3 code d (ctxMod c.val (fun x => { x with load := none }) s)
  refine ⟨if r.code = 9 ∨ r.code = 0xA then
        raise 50 (recX (finishCmd c.val 3 r.code (r.idx + r.off * 2 ^ 32) (ctxMod c.val (fun x => { x with load := none }) s)) c.val 0x70 2 0)
          (bump .SEC_EVT_COUNT .SEC_OVF_OVF 0 1 1 (finishCmd c.val 3 r.code (r.idx + r.off * 2 ^ 32) (ctxMod c.val (fun x => { x with load := none }) s)))
      else finishCmd c.val 3 r.code (r.idx + r.off * 2 ^ 32) (ctxMod c.val (fun x => { x with load := none }) s), ?_, ?_⟩
  · show execImageAccepted c s = _
    simp only [execImageAccepted, hj, hja, hk, hi, hend]
    rfl
  · exact .ite ((Touches.raise_keeper _ _).tail ((Touches.bump _ _ _ _ _ _).tail (hfin _ _).mono)) (hfin _ _).mono

/-- Settles O31. -/
theorem loadAndCourseResults : Obligations.LoadAndCourseResults := by
  unfold Obligations.LoadAndCourseResults
  refine fun s => ⟨fun f h ha ht hl hc harm hb h4 hap hov => ?_, fun c j hj hja hk => ?_, fun c j th hj hja hth hk hd hw => ?_,
    fun f h th ha hw hp harm hl hact => ?_⟩
  · refine ⟨_, ⟨h.arg0, h.arg1, h.tag, h.func, false, none, [], [], [], []⟩, load_opens ha ht hl hc harm hb h4 hap hov, ?_, rfl, rfl, rfl, rfl⟩
    exact Eq.trans (congrArg Ctx.load (ctxGet_ctxSet_same _ _ _)) rfl
  · intro img
    refine ⟨fun hi => ?_, fun r hi => ?_⟩
    · refine ⟨showReady c.val (ctxMod c.val (fun x => { x with
          loadSeq := seqNext x.loadSeq, waiting := none
          load := some { j with accepted := true, thatch := some (thatchOf img (ctxGet s c.val).loadSeq j.addr) } }) (clearShadows c.val s)), ?_, ?_⟩
      · show execImageAccepted c s = _
        have hi : checkImage s c.val j.addr j.bytes (emRead s (.ctx c.val) j.addr j.bytes) = none := hi
        simp only [execImageAccepted, hj, hja, hk, hi]
        rfl
      · rw [ctxGet_touches (Touches.showReady _ _) (by decide), ctxGet_ctxMod_same, ctxGet_touches (Touches.clearShadows _ _) (by decide)]
        exact ⟨rfl, rfl, rfl⟩
    · obtain ⟨t, ht, hu⟩ := image_rejected hj hja hk hi
      refine ⟨t, ht, ?_⟩
      rw [ctxGet_touches hu (by decide), ctxGet_ctxMod_same, show t.workers = s.workers from hu .workers (by decide),
        show t.switches = s.switches from hu .switches (by decide), show t.drops = s.drops from hu .drops (by decide),
        show t.chans = s.chans from hu .chans (by decide)]
      exact ⟨rfl, rfl, rfl, rfl, rfl, rfl, rfl⟩
  · refine ⟨finishCmd c.val 3 0 0 (ctxMod c.val (fun x => { x with load := none, waiting := some th }) (readyShadows c.val s)), ?_, ?_⟩
    · show execLoadComplete c s = _
      simp only [execLoadComplete, hj, hja, hth]
      refine if_neg ?_
      simp only [hk, Bool.false_or, Bool.or_eq_true, Bool.not_eq_true', not_or, Bool.not_eq_false, List.all_eq_true, beq_iff_eq]
      exact ⟨hd, hw⟩
    · rw [ctxGet_touches (Touches.finishCmd _ _ _ _ _) (by decide), ctxGet_ctxMod_same]
      exact ⟨rfl, rfl⟩
  · have hflip : flipNow h.ctx s = takeThatch h.ctx (writePresets h.ctx th (writeObjs th.syncInit (swapTimed h.ctx (flipAll h.ctx s)))) := by
      simp only [flipNow, hw]
    refine ⟨ctxMod h.ctx (fun x => { x with phase := .idle }) (rset .CTX_STATE_STATE h.ctx 0 2 (flipNow h.ctx s)),
      course_flips ha hw hp harm hl hact, ?_, ?_⟩
    · exact rget_rset_same _ _ _ _ _
    · rw [ctxGet_ctxMod_same, ctxGet_rset, hflip, takeThatch, ctxGet_ctxMod_same, ctxGet_touches (Touches.flipParts _ _ _) (by decide), hw]
      exact ⟨rfl, rfl⟩

end Sys2Proof.Machine

/-! PROOF. Steps that fail, are abandoned or are held (R67, R68, R188, R200, R322, R346). -/

namespace Sys2Proof.Machine

/-- A comb belongs to the same context where the contexts were not touched. -/
theorem ctxOfComb_touches {l : List Part} {s t : State} (h : Touches l s t) (hl : .ctxs ∉ l) (cb : Nat) : ctxOfComb t cb = ctxOfComb s cb := by
  simp only [ctxOfComb, ctxHas, ctxGet, show t.ctxs = s.ctxs from h .ctxs hl]

theorem Touches.wrkFault (wk cls detail thread slot : Nat) (s : State) : Touches [.fld .WRK_FAULT_CYCLE, .fld .WRK_FAULT_SLOT, .fld .WRK_FAULT_THREAD,
    .fld .WRK_FAULT_DETAIL, .fld .WRK_FAULT_CLASS] s (Machine.wrkFault wk cls detail thread slot s) :=
  (rset _ _ _ _ _).tail ((rset _ _ _ _ _).tail ((rset _ _ _ _ _).tail ((rset _ _ _ _ _).tail (rset _ _ _ _ _).mono)))

theorem Touches.failStep (c : Nat) (r : FaultRec) (who : Option Nat) (s : State) : Touches [.ctxs] s (Machine.failStep c r who s) := ctxMod _ _ _

theorem Touches.failComb (cb : Nat) (r : FaultRec) (who : Option Nat) (s : State) : Touches [.ctxs] s (Machine.failComb cb r who s) := by
  unfold Machine.failComb
  split
  · exact failStep _ _ _ _
  · exact .refl _ _

/-- A failed step has failed, with the hangs that it had. -/
theorem failStep_same (c : Nat) (r : FaultRec) (who : Option Nat) (s : State) :
    (ctxGet (failStep c r who s) c).failed = true ∧ (ctxGet (failStep c r who s) c).hangs = (ctxGet s c).hangs := by
  simp [failStep]

theorem failComb_failed {c cb : Nat} (r : FaultRec) (who : Option Nat) {s : State} (h : ctxOfComb s cb = some c) :
    (ctxGet (failComb cb r who s) c).failed = true := by
  rw [failComb, h]
  exact (failStep_same c r who s).1

theorem failStep_fold (c : Nat) (r : FaultRec) (l : List Nat) (s : State) (h : (ctxGet s c).failed = true) :
    (ctxGet (l.foldl (fun s wk => failStep c r (some wk) s) s) c).failed = true ∧
    (ctxGet (l.foldl (fun s wk => failStep c r (some wk) s) s) c).hangs = (ctxGet s c).hangs := by
  refine List.foldlRecOn (motive := fun t => (ctxGet t c).failed = true ∧ (ctxGet t c).hangs = (ctxGet s c).hangs) _ _ ⟨h, rfl⟩ fun t ht wk _ => ?_
  exact ⟨(failStep_same c r _ t).1, (failStep_same c r _ t).2.trans ht.2⟩

/-- The watchdog has counted a hang. -/
def hung (n : Nat) (s : State) : State := ctxMod n (fun x => { x with hangs := x.hangs + 1 }) (bump .CTX_EVT_COUNT .CTX_OVF_OVF n 2 1 s)

theorem hung_hangs (n : Nat) (s : State) : (ctxGet (hung n s) n).hangs = (ctxGet s n).hangs + 1 := by
  rw [hung, ctxGet_ctxMod_same, ctxGet_touches (Touches.bump _ _ _ _ _ _) (by decide)]

theorem hung_mem (n : Nat) (s : State) : (hung n s).mem = s.mem := ((Touches.bump _ _ _ _ _ _).comp (Touches.ctxMod _ _ _)) .mem (by decide)

/-- The first hang of a step fails it. -/
theorem firstHang {c : Fin 16} {s : State} (hst : rget s .CTX_STATE_STATE c.val = 2) (hp : (ctxGet s c.val).phase = .work)
    (hl : lapsed s c.val = false) (hk : s.keeper.inReset = false) (h0 : (ctxGet s c.val).hangs = 0) : ∃ t, exec (.stepWatchdog c) s = .next t ∧
      (ctxGet t c.val).failed = true ∧ (ctxGet t c.val).hangs = 1 ∧ t.mem = s.mem := by
  let u := hung c.val s
  let r := recX u c.val 0x19 1 0
  let v := failStep c.val r none (raise 50 r u)
  have hx : exec (.stepWatchdog c) s = .next (((((u.workers.filter fun e => ctxHas u c.val (e.1 / 32) && !e.2.done &&
      !(e.2.actives.any fun t => (e.2.thr t).park != .none)).map (·.1)).filter fun wk => !((u.workers.filter fun e => ctxHas u c.val (e.1 / 32) &&
        !e.2.done && !(e.2.actives.any fun t => (e.2.thr t).park != .none)).map (·.1)).any fun o => decide (o / 32 = wk / 32 ∧ o < wk))).foldl
          (fun s wk => failStep c.val r (some wk) s) v) := by
    show execStepWatchdog c s = _
    simp only [execStepWatchdog, hst, hp, hl, hk, h0]
    rfl
  have hv : (ctxGet v c.val).failed = true ∧ (ctxGet v c.val).hangs = 1 := by
    obtain ⟨hf, hh⟩ := failStep_same c.val r none (raise 50 r u)
    refine ⟨hf, hh.trans ?_⟩
    rw [ctxGet_touches (Touches.raise_keeper r u) (by decide), hung_hangs, h0]
  refine ⟨_, hx, ?_⟩
  obtain ⟨hf, hh⟩ := failStep_fold c.val r _ v hv.1
  refine ⟨hf, hh.trans hv.2, ?_⟩
  have ht : Touches [.ctxs, .faultBuf] u v := (Touches.failStep _ _ _ _).tail (Touches.raise_keeper _ _).mono
  exact ((Touches.fold (fun x wk => Touches.failStep c.val r (some wk) x) (.refl _ v)) .mem (by decide)).trans
    ((ht .mem (by decide)).trans (hung_mem _ _))

theorem sumLane_fails (x : Fin 28) (y : Fin 24) (w : Fin 32) (th : Fin 128) (tile : Fin 4) (row : Fin 16) (block : Bool) (s : State) :
    let wk := wkOf x.val y.val w.val
    ∃ t, exec (.sumLaneFail x y w th tile row block) s = .next t ∧ rget t .WRK_STATUS_STEP_FAILED wk = 1 ∧
      (∀ c, ctxOfComb s (wk / 32) = some c → (ctxGet t c).failed = true) ∧
      rget t .WRK_EVT_COUNT wk 0 = min 0xFFFFFFFF (rget s .WRK_EVT_COUNT wk 0 + 1) ∧ t.mem = s.mem := by
  intro wk
  show ∃ t, execSumLaneFail x y w th tile row block s = .next t ∧ _
  unfold execSumLaneFail
  extract_lets k here slot s1 r s2 s3
  have h1 : Touches [.workers] s s1 := Touches.wSet _ _ _
  have h2 : Touches [.workers, .fld .WRK_STATUS_STEP_FAILED, .fld .WRK_EVT_COUNT, .fld .WRK_OVF_OVF] s s2 :=
    (Touches.bump _ _ _ _ _ _).tail ((Touches.rset _ _ _ _ _).tail h1.mono)
  have hf : rget s2 .WRK_STATUS_STEP_FAILED wk = 1 := by simp [s2]
  have he : rget s2 .WRK_EVT_COUNT wk 0 = min 0xFFFFFFFF (rget s .WRK_EVT_COUNT wk 0 + 1) := by
    simp [s2, h1 (.fld .WRK_EVT_COUNT) (by decide) wk 0]
  have h3 := Touches.wrkFault wk clsSumlane tile.val th.val slot s2
  have h4 : Touches (.ctxs :: raiseParts) s3 (raise (regionOf (wk / 32)) r (failComb (wk / 32) r (some wk) s3)) :=
    (Touches.raise _ _ _).tail (Touches.failComb _ _ _ _).mono
  have h34 := h3.comp h4
  refine ⟨_, rfl, (h34 (.fld .WRK_STATUS_STEP_FAILED) (by decide) _ _).trans hf, fun c hc => ?_,
    (h34 (.fld .WRK_EVT_COUNT) (by decide) _ _).trans he, ((h2.comp h34) .mem (by decide))⟩
  rw [ctxGet_touches (Touches.raise _ _ _) (by decide)]
  exact failComb_failed r _ ((ctxOfComb_touches (h2.comp h3) (by decide) _).trans hc)

theorem plausibility_fails (x : Fin 28) (y : Fin 24) (w : Fin 32) (c : Nat) (e : PlausEv) (rest : List PlausEv) (s : State) :
    let wk := wkOf x.val y.val w.val
    (wGet s wk).plaus = e :: rest → ctxOfComb s (wk / 32) = some c → (ctxGet s c).replayed = false →
      ∃ t, exec (.plausibilityEvent x y w) s = .next t ∧
        (wGet t wk).plaus = rest ∧ rget t .WRK_STATUS_STEP_FAILED wk = 1 ∧ (ctxGet t c).failed = true ∧ t.mem = s.mem := by
  intro wk hp hc hr
  show ∃ t, execPlausibilityEvent x y w s = .next t ∧ _
  unfold execPlausibilityEvent
  dsimp only
  rw [show (wGet s (wkOf x.val y.val w.val)).plaus = e :: rest from hp]
  dsimp only
  generalize hu : bump .WRK_EVT_COUNT .WRK_OVF_OVF (wkOf x.val y.val w.val) (1 + e.port % 2) 1
    (wMod (wkOf x.val y.val w.val) (fun w => { w with plaus := rest }) s) = u
  have hsu : Touches [.workers, .fld .WRK_EVT_COUNT, .fld .WRK_OVF_OVF] s u := by
    rw [← hu]
    exact (Touches.bump _ _ _ _ _ _).tail (Touches.wMod _ _ _).mono
  have hw : (wGet u wk).plaus = rest := by
    rw [← hu, bump_frame]
    exact congrArg Worker.plaus (wGet_wSet_same _ _ _)
  have hcu : ctxOfComb u (wkOf x.val y.val w.val / 32) = some c := (ctxOfComb_touches hsu (by decide) _).trans hc
  have hru : (ctxGet u c).replayed = false := (congrArg Ctx.replayed (ctxGet_touches hsu (by decide) c)).trans hr
  rw [hcu]
  have ha : anomalyOf u c (wkOf x.val y.val w.val) e = none := by simp [anomalyOf, hru]
  dsimp only
  rw [ha]
  dsimp only
  have hv : Touches [.fld .WRK_STATUS_STEP_FAILED, .fld .WRK_FAULT_CYCLE, .fld .WRK_FAULT_SLOT, .fld .WRK_FAULT_THREAD, .fld .WRK_FAULT_DETAIL,
      .fld .WRK_FAULT_CLASS] u (wrkFault wk clsPlaus e.port e.thread e.slot (rset .WRK_STATUS_STEP_FAILED wk 0 1 u)) :=
    (Touches.wrkFault _ _ _ _ _ _).tail (Touches.rset _ _ _ _ _).mono
  have hf : rget (wrkFault wk clsPlaus e.port e.thread e.slot (rset .WRK_STATUS_STEP_FAILED wk 0 1 u)) .WRK_STATUS_STEP_FAILED wk = 1 :=
    ((Touches.wrkFault _ _ _ _ _ _) (.fld .WRK_STATUS_STEP_FAILED) (by decide) _ _).trans (rget_rset_same _ _ _ _ _)
  generalize wrkFault (wkOf x.val y.val w.val) clsPlaus e.port e.thread e.slot (rset .WRK_STATUS_STEP_FAILED (wkOf x.val y.val w.val) 0 1 u) = v at hv hf ⊢
  generalize hz : ctxMod c _ v = z
  have hvz : Touches [.ctxs] v z := hz ▸ Touches.ctxMod _ _ _
  have hend (r : FaultRec) : Touches (.ctxs :: raiseParts) v (raise (regionOf (wk / 32)) r (failStep c r (some wk) z)) :=
    (Touches.raise _ _ _).tail ((Touches.failStep _ _ _ _).tail hvz.mono)
  refine ⟨_, rfl, ?_, (hend _ (.fld .WRK_STATUS_STEP_FAILED) (by decide) _ _).trans hf, ?_, ((hsu.comp hv).comp (hend _)) .mem (by decide)⟩
  · exact (congrArg (fun l => (tget worker0 l wk).plaus) ((hv.comp (hend _)) .workers (by decide))).trans hw
  · rw [ctxGet_touches (Touches.raise _ _ _) (by decide)]
    exact (failStep_same c _ _ z).1

/-- Settles O33. -/
theorem stepFailureResults : Obligations.StepFailureResults := by
  unfold Obligations.StepFailureResults
  refine ⟨fun c m l s => ?_, sumLane_fails, plausibility_fails⟩
  intro n x hst
  refine ⟨fun hm hp => ?_, fun hf hp he => ?_, fun cls hf hp he => ?_, fun hp hl hk hh => ?_, fun hp hl hk h0 => firstHang hst hp hl hk h0⟩
  · show execRidgeTimeout c s = _
    have hm : ((spanPeers s c.val).filter fun m => !(ctxGet s c.val).peers.contains m) = m :: l := hm
    simp only [execRidgeTimeout, hm]
    exact if_pos ⟨hst, hp⟩
  · have hx : exec (.stepAbandon c) s = .next (ctxMod n (fun x => { x with phase := .abandoned })
        ((suspectCombs s n).foldl (fun s pc => standInComb n pc s) (discardTraffic n s))) := by
      refine (if_pos ⟨hst, hf, Or.inl hp⟩).trans ?_
      rw [he]
    exact ⟨_, hx, congrArg Ctx.phase (ctxGet_ctxMod_same _ _ _)⟩
  · refine (if_pos ⟨hst, hf, Or.inr hp⟩).trans ?_
    rw [he]
    have hw : x.phase ≠ .work := by rcases hp with hp | hp <;> simp [hp]
    simp only
    rw [if_neg hw]
  · refine ⟨hung n s, ?_, hung_hangs n s, hung_mem n s⟩
    exact (if_pos ⟨hst, hp, by simp only [n] at hl; simp [hl], hk⟩).trans (if_neg hh)

end Sys2Proof.Machine

/-! PROOF. Heat, trips, and the clock and power domains (R205 to R222, R250, R262). -/

namespace Sys2Proof.Machine

/-! ### Comb arrays off -/

namespace Touches

theorem set_pcombs_keeper (s : State) (x y) : Touches [.pcombs, .keeper] s { s with pcombs := x, keeper := y } := by
  intro q hq
  cases q <;> simp_all [Part.same, rget]

theorem combState (cb : Nat) (s : State) : Touches ([.fld .CMB_STATUS_STATE, .fld .CMB_STATUS_ROTATION] ++ degradeParts) s (Machine.combState cb s) := by
  unfold Machine.combState
  refine .ite (.refl _ _) (.ite ((degrade _ _).tail ?_) ?_)
  all_goals exact (rset _ _ _ _ _).tail (rset _ _ _ _ _).mono

theorem dropMoves (r : Nat) (s : State) : Touches ([.pcombs, .fld .CMB_STATUS_STATE, .fld .CMB_STATUS_ROTATION] ++ degradeParts) s
    (Machine.dropMoves r s) :=
  fold (fun _ _ => (combState _ _).tail (rset _ _ _ _ _).mono) (set_pcombs _ _).mono

theorem endSteps (p : Nat → Bool) (s : State) : Touches [.ctxs] s (Machine.endSteps p s) := fold (fun _ _ => ctxMod _ _ _) (.refl _ _)

end Touches

theorem rget_loseCombs {f : F} (h : domOf f ≠ some .comb) (h' : domOf f ≠ some .worker) (p : Nat → Bool) (s : State) (i j : Nat) :
    rget (loseCombs p s) f i j = rget s f i j := by
  have hl : lostField p ⟨f, i, j⟩ = false := by
    rw [lostField, Bool.and_eq_false_iff]
    right
    split <;> simp_all only [ne_eq, not_true_eq_false]
  have hf := findFld_filter (lostField p) s.flds ⟨f, i, j⟩
  rw [hl] at hf
  exact congrArg (fun o => o.getD (coldOf ⟨f, i, j⟩)) hf

/-- The state that loses the combs of a region as its comb array goes off. -/
theorem combArrayOff_from (r st : Nat) (s : State) : ∃ w, combArrayOff r st s =
      rset .PWR_RSTAT_CA_STATE r 0 st (rset .PWR_RSTAT_CPLL_LOCK r 0 0 (rset .PWR_RSTAT_MCLK_LOCK r 0 0 (loseCombs (fun cb => regionOf cb == r) w))) ∧
    w.keeper = { s.keeper with waking := s.keeper.waking.filter (· != r), testing := s.keeper.testing.filter (· != r) } ∧
    Touches (.ctxs :: ([.pcombs, .keeper, .fld .CMB_STATUS_STATE, .fld .CMB_STATUS_ROTATION] ++ degradeParts)) s w := by
  have h : Touches (.ctxs :: ([.pcombs, .keeper, .fld .CMB_STATUS_STATE, .fld .CMB_STATUS_ROTATION] ++ degradeParts)) s
    (endSteps (inRegion s r) (dropMoves r s)) := (Touches.endSteps _ _).tail (Touches.dropMoves _ _).mono
  have hk : (endSteps (inRegion s r) (dropMoves r s)).keeper = s.keeper :=
    ((Touches.dropMoves r s).comp (Touches.endSteps (inRegion s r) _)) .keeper (by decide)
  unfold combArrayOff
  generalize endSteps (inRegion s r) (dropMoves r s) = v at h hk ⊢
  refine ⟨_, rfl, ?_, (Touches.set_pcombs_keeper _ _ _).tail h⟩
  rw [← hk]

/-- What a comb array that goes off leaves: its state, its clocks stopped, the keeper's lists without it; the other power fields stay. -/
theorem combArrayOff_leaves (r st : Nat) (s : State) : let u := combArrayOff r st s
    rget u .PWR_RSTAT_CA_STATE r = st ∧ rget u .PWR_RSTAT_CPLL_LOCK r = 0 ∧ rget u .PWR_RSTAT_MCLK_LOCK r = 0 ∧
    u.keeper = { s.keeper with waking := s.keeper.waking.filter (· != r), testing := s.keeper.testing.filter (· != r) } ∧
    (∀ i j, rget u .PWR_RSTAT_SP_STATE i j = rget s .PWR_RSTAT_SP_STATE i j ∧ rget u .PWR_RSTAT_SPLL_LOCK i j = rget s .PWR_RSTAT_SPLL_LOCK i j ∧
      rget u .PWR_REVT_COUNT i j = rget s .PWR_REVT_COUNT i j) := by
  obtain ⟨w, hu, hk, hw⟩ := combArrayOff_from r st s
  dsimp only
  rw [hu]
  refine ⟨by simp, by simp, by simp, hk, fun i j => ⟨?_, ?_, ?_⟩⟩
  all_goals
    rw [rget_rset_field _ _ _ _ _ _ _ _ (by decide), rget_rset_field _ _ _ _ _ _ _ _ (by decide), rget_rset_field _ _ _ _ _ _ _ _ (by decide),
      rget_loseCombs (by decide) (by decide)]
  · exact hw (.fld .PWR_RSTAT_SP_STATE) (by decide) i j
  · exact hw (.fld .PWR_RSTAT_SPLL_LOCK) (by decide) i j
  · exact hw (.fld .PWR_REVT_COUNT) (by decide) i j

theorem not_contains_filter (l : List Nat) (r : Nat) : (l.filter (· != r)).contains r = false := by
  simp

/-! ### Heat -/

/-- The first `n` regions tripped, their clocks stopped. -/
def trippedFirst (n : Nat) (s : State) : State :=
  (List.range n).foldl (fun s r =>
    rset .PWR_RSTAT_CA_STATE r 0 5 <| rset .PWR_RSTAT_SP_STATE r 0 2 <| rset .PWR_RSTAT_SPLL_LOCK r 0 0 <|
      rset .PWR_RSTAT_CPLL_LOCK r 0 0 <| rset .PWR_RSTAT_MCLK_LOCK r 0 0 s) s

theorem rget_trippedFirst (s : State) {n r : Nat} (hr : r < n) :
    rget (trippedFirst n s) .PWR_RSTAT_CA_STATE r = 5 ∧ rget (trippedFirst n s) .PWR_RSTAT_SP_STATE r = 2 := by
  induction n with
  | zero => omega
  | succ n ih =>
    simp only [trippedFirst, List.range_succ, List.foldl_append, List.foldl_cons, List.foldl_nil] at ih ⊢
    by_cases h : r = n
    · simp [h]
    · simpa [h] using ih (by omega)

theorem tripRegions_eq (s : State) : tripRegions s =
    let u := trippedFirst 42 (loseCombs (fun _ => true) (endSteps (fun _ => true) ((List.range 42).foldl (fun s r => dropMoves r s) s)))
    { u with keeper := { u.keeper with waking := [], testing := [], cool := [] }
             pcombs := u.pcombs.map fun e => (e.1, { e.2 with scouts := 0, beat := 0, fault := false }) } := rfl

theorem rget_tripRegions (s : State) {r : Nat} (hr : r < 42) :
    rget (tripRegions s) .PWR_RSTAT_CA_STATE r = 5 ∧ rget (tripRegions s) .PWR_RSTAT_SP_STATE r = 2 := by
  have h := rget_trippedFirst (loseCombs (fun _ => true) (endSteps (fun _ => true) ((List.range 42).foldl (fun s r => dropMoves r s) s))) hr
  rw [tripRegions_eq]
  generalize trippedFirst 42 _ = u at h ⊢
  exact h

/-- The trip of a module that is not in one. -/
theorem trip_next {s : State} (h : rget s .PWR_HEAT_TRIPPED ≠ 1) :
    trip s = raise 50 (heatRec 0x32 0) (tripNow (((List.range 42).filter (offDue s)).foldl (fun s i => offRecord i s) s)) := if_neg h

/-- Settles O36. -/
theorem heatResults : Obligations.HeatResults := by
  unfold Obligations.HeatResults
  refine ⟨fun r g temp s ht hh => ?_, fun r s hh ht hm hc => ?_, fun r s hc hk hr hw => ?_, fun cause s => ⟨fun h => ?_, fun h hk => ?_, fun h hc => ?_⟩,
    fun s r hr => rget_tripRegions s hr, fun s h => ?_⟩
  · refine ⟨bump .PWR_REVT_COUNT .PWR_ROVF_OVF r.val 0 1 (rset .PWR_RSTAT_HOT_TICKS r.val 0 0 (rset .PWR_RSTAT_HOT r.val 0 1
      (rset .PWR_RTEMP_TEMP r.val g.val (min 255 (temp / 4)) (rset .PWR_RSTAT_TMAX r.val 0 (min 1023 temp) s)))),
      if_neg (by omega), by simp, by simp, by simp, by simp, ?_, by simp⟩
    rw [bump_frame]
    rfl
  · obtain ⟨hca, hcp, hmc, hke, -⟩ := combArrayOff_leaves r.val 4 s
    refine ⟨{ combArrayOff r.val 4 s with keeper := { (combArrayOff r.val 4 s).keeper with cool := tset (combArrayOff r.val 4 s).keeper.cool r.val 0 } },
      if_pos (by simp [offDue, hh, ht, hm, hc]), hca, hcp, hmc, ?_, ?_, tget_tset_same _ _ _ _⟩
    · rw [hke]
      exact not_contains_filter _ _
    · rw [hke]
      exact not_contains_filter _ _
  · exact if_pos ⟨hc, hk, hr, by rw [hw]; rfl⟩
  · have ht : trip s = s := if_pos h
    refine congrArg Host.Outcome.next ?_
    cases cause
    · exact ht
    · exact (ite_congr rfl (fun _ => rfl) fun _ => ht).trans (ite_self s)
  · subst h
    exact congrArg Host.Outcome.next (if_pos hk)
  · rw [← trip_next h]
    refine congrArg Host.Outcome.next ?_
    cases cause
    · rfl
    · exact if_neg (by simpa using hc)
  · exact ⟨rset .CLK_STATUS_REF_OK 0 0 0 (rset .CLK_STATUS_RC_ACTIVE 0 0 1 s), rget_rset_same _ _ _ _ _, by simp, rfl, if_neg h⟩

end Sys2Proof.Machine

/-! PROOF. Faults and changes of clock and power domains (R206 to R214, R250, R262). -/

namespace Sys2Proof.Machine

/-! ### Spines -/

/-- A spine fault that is new: what it leaves before its contexts are reset and the region leaves service. -/
theorem spineFault_from {r : Nat} {s : State} (h : rget s .PWR_RSTAT_SP_STATE r ≠ 2) :
    ∃ u, spineFault r s = leaveRegion r (resetCtxs ((List.range 16).filter fun c => routesThrough s c r).contains u) ∧
      rget u .PWR_RSTAT_SP_STATE r = 2 ∧ rget u .PWR_RSTAT_SPLL_LOCK r = 0 ∧ rget u .PWR_RSTAT_CA_STATE r = 3 ∧
      u.keeper.spineBad = r :: s.keeper.spineBad ∧ u.keeper.waking.contains r = false := by
  unfold spineFault
  rw [if_neg h]
  extract_lets hit _ s1 s2 s3
  have h1 : Touches [.ctxs] (rset .PWR_RSTAT_SPLL_LOCK r 0 0 (rset .PWR_RSTAT_SP_STATE r 0 2 s1))
    (endSteps hit.contains (rset .PWR_RSTAT_SPLL_LOCK r 0 0 (rset .PWR_RSTAT_SP_STATE r 0 2 s1))) := Touches.endSteps _ _
  obtain ⟨hca, -, -, hk, hother⟩ := combArrayOff_leaves r 3 (endSteps hit.contains (rset .PWR_RSTAT_SPLL_LOCK r 0 0 (rset .PWR_RSTAT_SP_STATE r 0 2 s1)))
  have h3 : Touches (.faultBuf :: degradeParts) s2 s3 := (Touches.raise_keeper _ _).tail (Touches.degrade _ _).mono
  have hk3 : s3.keeper = s2.keeper := h3 .keeper (by decide)
  have hk2 : s2.keeper = { s1.keeper with waking := s1.keeper.waking.filter (· != r), testing := s1.keeper.testing.filter (· != r) } := by
    refine hk.trans ?_
    rw [show (endSteps hit.contains (rset .PWR_RSTAT_SPLL_LOCK r 0 0 (rset .PWR_RSTAT_SP_STATE r 0 2 s1))).keeper = s1.keeper from h1 .keeper (by decide)]
  refine ⟨s3, rfl, ?_, ?_, (h3 (.fld .PWR_RSTAT_CA_STATE) (by decide) _ _).trans hca, ?_, ?_⟩
  · refine (h3 (.fld .PWR_RSTAT_SP_STATE) (by decide) _ _).trans ((hother r 0).1.trans ((h1 (.fld .PWR_RSTAT_SP_STATE) (by decide) _ _).trans ?_))
    simp
  · refine (h3 (.fld .PWR_RSTAT_SPLL_LOCK) (by decide) _ _).trans ((hother r 0).2.1.trans ((h1 (.fld .PWR_RSTAT_SPLL_LOCK) (by decide) _ _).trans ?_))
    simp
  · rw [hk3, hk2]
  · rw [hk3, hk2]
    exact not_contains_filter _ _

/-! ### Segments -/

theorem rget_channelsOut (seg n i : Nat) (hi : i < n) (s : State) :
    rget ((List.range n).foldl (fun s i => rset .MEM_CHSTAT_STATE seg i 2 s) s) .MEM_CHSTAT_STATE seg i = 2 := by
  induction n with
  | zero => omega
  | succ n ih =>
    rw [List.range_succ, List.foldl_append]
    by_cases h : i = n
    · subst h
      exact rget_rset_same _ _ _ _ _
    · exact (rget_rset_ne _ _ _ _ _ _ _ _ (by simp [h])).trans (ih (by omega))

theorem segmentFault_from {seg : Nat} {s : State} (h : rget s .EAV_SEG_STATE seg ≠ 3) : ∃ u,
    segmentFault seg s = resetCtxs ((List.range 16).filter (holdsSegment s seg)).contains u ∧ rget u .EAV_SEG_STATE seg = 3 ∧
    rget u .EAV_SEG_TRANSIT seg = 0 ∧ rget u .EAV_SEG_IN_SERVICE seg = 0 ∧ (∀ i, i < 256 → rget u .MEM_CHSTAT_STATE seg i = 2) := by
  unfold segmentFault
  rw [if_neg h]
  extract_lets hit s1 s2 s3 s4 s5
  have h3 : rget s3 .EAV_SEG_STATE seg = 3 ∧ rget s3 .EAV_SEG_TRANSIT seg = 0 ∧ rget s3 .EAV_SEG_IN_SERVICE seg = 0 := by
    refine ⟨?_, ?_, ?_⟩ <;> simp [s3]
  have h34 : Touches [.fld .MEM_CHSTAT_STATE] s3 s4 := Touches.fold (fun _ _ => Touches.rset _ _ _ _ _) (.refl _ _)
  have h45 : Touches (degradeParts ++ raiseParts) s4 s5 := (Touches.raise _ _ _).tail (Touches.degrade _ _).mono
  have h35 := h34.comp h45
  obtain ⟨hst, htr, hin⟩ := h3
  exact ⟨s5, rfl, (h35 (.fld .EAV_SEG_STATE) (by decide) _ _).trans hst, (h35 (.fld .EAV_SEG_TRANSIT) (by decide) _ _).trans htr,
    (h35 (.fld .EAV_SEG_IN_SERVICE) (by decide) _ _).trans hin, fun i hi => (h45 (.fld .MEM_CHSTAT_STATE) (by decide) _ _).trans (rget_channelsOut _ _ _ hi _)⟩

/-! ### Domains that come on -/

theorem all_range {n : Nat} {p : Nat → Bool} (h : ∀ r, r < n → p r = true) : (List.range n).all p = true :=
  List.all_eq_true.mpr fun r hr => h r (List.mem_range.mp hr)

theorem segment_ready {d : Fin 93} {s : State} (hrc : rget s .CLK_STATUS_RC_ACTIVE ≠ 1) (h1 : 1 ≤ d.val) (h8 : d.val ≤ 8)
    (hst : rget s .HST_STATUS_STAGE = (if d.val = 2 then 2 else 4)) (hb : d.val ≠ 2 → ∀ h ∈ segsBefore (d.val - 1), rget s .EAV_SEG_STATE h ≠ 2)
    (hoff : rget s .EAV_SEG_STATE (d.val - 1) = 2) :
    exec (.domainReady d) s = .next (rset .EAV_SEG_TRANSIT (d.val - 1) 0 1 (rset .EAV_SEG_STATE (d.val - 1) 0 0 s)) := by
  refine (if_neg (by omega)).trans ((if_pos h8).trans (if_pos ?_))
  rw [Bool.and_eq_true]
  refine ⟨?_, by simp [hoff]⟩
  by_cases h2 : d.val = 2
  · simp [h2, stageOf, hst]
  · rw [if_neg (by omega)]
    simpa [stageOf, hst, h2] using hb h2

theorem spine_ready {d : Fin 93} {s : State} (hrc : rget s .CLK_STATUS_RC_ACTIVE ≠ 1) (h8 : 8 < d.val) (h50 : d.val ≤ 50)
    (hst : rget s .HST_STATUS_STAGE = 6) (htr : rget s .PWR_HEAT_TRIPPED = 0) (hoff : rget s .PWR_RSTAT_SP_STATE (d.val - 9) = 2)
    (hbad : s.keeper.spineBad.contains (d.val - 9) = false) (hb : ∀ r, r < d.val - 9 → spineOver s r = true) :
    exec (.domainReady d) s = .next (rset .PWR_RSTAT_SPLL_LOCK (d.val - 9) 0 1 (rset .PWR_RSTAT_SP_STATE (d.val - 9) 0 0 s)) :=
  (if_neg (by omega)).trans ((if_neg (by omega)).trans ((if_pos h50).trans (if_pos ⟨hst, htr, hoff, by rw [hbad]; rfl, all_range hb⟩)))

theorem array_ready {d : Fin 93} {s : State} (hrc : rget s .CLK_STATUS_RC_ACTIVE ≠ 1) (h50 : 50 < d.val)
    (h : (stageOf s = 6 ∧ rget s .PWR_HEAT_TRIPPED = 0 ∧ rget s .PWR_RSTAT_CA_STATE (d.val - 51) = 3 ∧ rget s .PWR_RSTAT_SP_STATE (d.val - 51) = 0 ∧
      rget s .CMB_RMAP_WITHDRAWN (d.val - 51) = 0 ∧ (List.range 42).all (spineOver s) ∧ (List.range (d.val - 51)).all (arrayOver s)) ∨
      wakes s (d.val - 51) = true) : exec (.domainReady d) s = .next (combArrayOn (d.val - 51) s) :=
  (if_neg (by omega)).trans ((if_neg (by omega)).trans ((if_neg (by omega)).trans (if_pos h)))

theorem region_sleeps {r : Fin 42} {s : State} (hall : ∀ c a, c < 16 → (ctxGet s c).allot = some a → a.hasRegion r.val = false)
    (hs : rget s .PWR_CTRL_AUTO_SLEEP = 1) (hi : rget s .PWR_CTRL_IDLE_TICKS ≤ tget 0 s.keeper.idle r.val) (hc : rget s .PWR_RSTAT_CA_STATE r.val = 0)
    (hk : s.keeper.inReset = false) (ht : s.keeper.testing.contains r.val = false) : exec (.idleSleep r) s =
      .next (rset .PWR_RSTAT_CA_STATE r.val 0 2 (rset .PWR_RSTAT_CPLL_LOCK r.val 0 0 (rset .PWR_RSTAT_MCLK_LOCK r.val 0 0 s))) := by
  show execIdleSleep r s = _
  unfold execIdleSleep
  extract_lets i idle
  have hidle : idle = true := by
    rw [Bool.not_eq_true', List.any_eq_false]
    intro c hc
    split
    next a ha => simp [i, hall c a (List.mem_range.mp hc) ha]
    next => simp
  exact if_pos (by simp only [hidle, hs, hc, hk, ht, i, decide_eq_true hi]; rfl)

/-- Settles O37. -/
theorem domainResults : Obligations.DomainResults := by
  unfold Obligations.DomainResults
  refine ⟨fun r s h => ?_, fun r s h => ?_, fun g s h => ?_, fun d s hrc => ?_, fun r s hall hs hi hc hk ht => region_sleeps hall hs hi hc hk ht,
    fun x y dir again s => ⟨fun h => ?_, fun h => ?_⟩⟩
  · have h1 : rget (bump .PWR_REVT_COUNT .PWR_ROVF_OVF r.val 1 1 s) .PWR_RSTAT_SP_STATE r.val ≠ 2 := by simpa using h
    have hk : (bump .PWR_REVT_COUNT .PWR_ROVF_OVF r.val 1 1 s).keeper = s.keeper := (Touches.bump _ _ _ _ _ _) .keeper (by decide)
    have hu := spineFault_from h1
    rw [hk] at hu
    exact ⟨if_neg h, hu⟩
  · obtain ⟨hca, hcp, -, hke, hother⟩ := combArrayOff_leaves r.val 3 (bump .PWR_REVT_COUNT .PWR_ROVF_OVF r.val 1 1 s)
    refine ⟨_, if_neg (by omega), hca, hcp, ?_, (hother r.val 1).2.2.trans (by simp)⟩
    rw [hke]
    exact not_contains_filter _ _
  · obtain ⟨u, hu, hrest⟩ := segmentFault_from h
    exact ⟨u, congrArg Host.Outcome.next hu, hrest⟩
  · exact ⟨segment_ready hrc, spine_ready hrc, fun h50 hst htr hca hsp hw ho ha => array_ready hrc h50 (.inl ⟨hst, htr, hca, hsp, hw, all_range ho, all_range ha⟩),
      fun h50 hw => array_ready hrc h50 (.inr hw)⟩
  · exact congrArg Host.Outcome.next (if_pos h)
  · exact congrArg Host.Outcome.next (if_neg (Nat.not_lt.mpr h))

end Sys2Proof.Machine

/-! PROOF. Self-test and repair (R306 to R334). -/

namespace Sys2Proof.Machine

/-! ### Physical combs -/

@[simp] theorem pcGet_pcMod_same (pc : Nat) (f : PComb → PComb) (s : State) : pcGet (pcMod pc f s) pc = f (pcGet s pc) := tget_tset_same _ _ _ _

theorem pcGet_touches {l : List Part} {s t : State} (h : Touches l s t) (hl : .pcombs ∉ l) (pc : Nat) : pcGet t pc = pcGet s pc :=
  congrArg (tget pcomb0 · pc) (h .pcombs hl)

namespace Touches

theorem recordAdd (e : BitVec 64) (s : State) : Touches [.flash, .faultBuf, .fld .FUS_RECORD_ENTRIES, .fld .FUS_EVT_COUNT, .fld .FUS_OVF_OVF] s
    (Machine.recordAdd e s) := by
  unfold Machine.recordAdd
  refine .ite (raise_keeper _ _).mono ((raise_keeper _ _).tail ?_)
  exact (rset _ _ _ _ _).tail ((bump _ _ _ _ _ _).tail (set_flash _ _).mono)

theorem writeRmap (r : Nat) (s : State) : Touches [.fld .CMB_RMAP_GOOD0, .fld .CMB_RMAP_GOOD1, .fld .CMB_RMAP_GOOD2, .fld .CMB_RMAP_GOOD3] s
    (Machine.writeRmap r s) :=
  (rset _ _ _ _ _).tail ((rset _ _ _ _ _).tail ((rset _ _ _ _ _).tail (rset _ _ _ _ _).mono))

theorem set_combFaults (s : State) (x) : Touches [.combFaults] s { s with combFaults := x } := by
  intro q hq
  cases q <;> simp_all [Part.same, rget]

end Touches

/-! ### Verdicts -/

/-- A worker that enters service keeps the comb's passes and its suite. -/
theorem enterService_keeps (pc pw : Nat) (s : State) : (pcGet (enterService pc pw s) pc).lastPass = (pcGet s pc).lastPass ∧
    (pcGet (enterService pc pw s) pc).suiteDone = (pcGet s pc).suiteDone ∧ (enterService pc pw s).keeper = s.keeper := by
  unfold enterService
  split
  · exact ⟨rfl, rfl, rfl⟩
  · rw [pcGet_pcMod_same]
    refine ⟨?_, ?_, rfl⟩ <;> split <;> rfl

theorem cleanPass_leaves (pc pw : Nat) (s : State) : tget 0 (pcGet (cleanPass pc pw s) pc).lastPass pw = s.tick ∧
    (pcGet (cleanPass pc pw s) pc).suiteDone = (pcGet s pc).suiteDone ∧ (cleanPass pc pw s).keeper = s.keeper := by
  unfold cleanPass
  generalize hu : pcMod pc _ s = u
  have h : tget 0 (pcGet u pc).lastPass pw = s.tick ∧ (pcGet u pc).suiteDone = (pcGet s pc).suiteDone ∧ u.keeper = s.keeper := by
    rw [← hu, pcGet_pcMod_same]
    exact ⟨tget_tset_same _ _ _ _, rfl, rfl⟩
  dsimp only
  split
  · obtain ⟨hl, hd, hk⟩ := enterService_keeps pc pw u
    rw [hl, hd, hk]
    exact h
  · exact h

/-! ### Fences and faults of combs -/

theorem combFault_faults (cb : Nat) (s : State) : (combFault cb s).combFaults.contains cb = true := by
  unfold combFault
  dsimp only
  split
  next h => exact h
  next => simp

theorem combFault_failed {c cb : Nat} {s : State} (h : ctxOfComb s cb = some c) : (ctxGet (combFault cb s) c).failed = true := by
  have hf := failComb_failed (recC s cb 0x18 1 0 0) none h
  unfold combFault
  dsimp only
  split <;> exact hf

theorem loseSpare_good (pc src : Nat) (s : State) : (pcGet (loseSpare pc src s) pc).good = false := by
  unfold loseSpare
  dsimp only
  generalize (if recorded s 2 (siteC (pcX pc) (pcY pc)) then s else recordAdd (defEntry 2 src (siteC (pcX pc) (pcY pc))) s) = u
  rw [pcGet_touches ((Touches.writeRmap (pcRegion pc) _).comp (Touches.degrade 23 _)) (by decide), pcGet_pcMod_same]

/-! ### The life prediction -/

/-- The region with the fewest days left, the first of equals, and its days; region 63 where there is none. -/
def lifeBest (d : Nat → Nat) (l : List Nat) : Nat × Nat :=
  l.foldl (fun (b : Nat × Nat) r => let n := min 65535 (d r); if n < b.1 ∨ b.2 = 63 then (n, r) else b) (65535, 63)

theorem lifeBest_spec (d : Nat → Nat) (l : List Nat) (h63 : 63 ∉ l) :
    (l = [] ∧ lifeBest d l = (65535, 63)) ∨
      ((lifeBest d l).2 ∈ l ∧ (lifeBest d l).1 = min 65535 (d (lifeBest d l).2) ∧ ∀ r ∈ l, (lifeBest d l).1 ≤ min 65535 (d r)) := by
  induction l using List.reverseRecOn with
  | nil => exact .inl ⟨rfl, rfl⟩
  | append_singleton l a ih =>
    have hl : 63 ∉ l := fun h => h63 (List.mem_append_left _ h)
    have hstep : lifeBest d (l ++ [a]) = if min 65535 (d a) < (lifeBest d l).1 ∨ (lifeBest d l).2 = 63 then (min 65535 (d a), a) else lifeBest d l := by
      simp [lifeBest, List.foldl_append]
    right
    rw [hstep]
    rcases ih hl with ⟨rfl, hb⟩ | ⟨hm, hd, hmin⟩
    · rw [if_pos (.inr (by rw [hb]))]
      simp
    · have hne : (lifeBest d l).2 ≠ 63 := fun h => hl (h ▸ hm)
      by_cases hlt : min 65535 (d a) < (lifeBest d l).1
      · rw [if_pos (.inl hlt)]
        refine ⟨by simp, rfl, fun r hr => ?_⟩
        rcases List.mem_append.mp hr with hr | hr
        · exact (Nat.le_of_lt hlt).trans (hmin r hr)
        · rw [List.mem_singleton.mp hr]
      · rw [if_neg (by tauto)]
        refine ⟨List.mem_append_left _ hm, hd, fun r hr => ?_⟩
        rcases List.mem_append.mp hr with hr | hr
        · exact hmin r hr
        · rw [List.mem_singleton.mp hr]
          exact Nat.not_lt.mp hlt

theorem life_predicted {s : State} (hk : s.keeper.inReset = false) : ∃ t, exec .serviceLifePrediction s = .next t ∧
    (∀ r, r < 42 → regionOut s r = false → rget t .BST_LIFE_DAYS ≤ regionDays s r) ∧ rget t .BST_LIFE_DAYS ≤ 65535 ∧
    ((∀ r, r < 42 → regionOut s r = true) ∧ rget t .BST_LIFE_REGION = 63 ∧ rget t .BST_LIFE_DAYS = 65535 ∨
      ∃ r, r < 42 ∧ regionOut s r = false ∧ rget t .BST_LIFE_REGION = r ∧ rget t .BST_LIFE_DAYS = min 65535 (regionDays s r)) := by
  have hx : exec .serviceLifePrediction s = .next (rset .BST_LIFE_DAYS 0 0 (lifeBest (regionDays s) ((List.range 42).filter fun r => !regionOut s r)).1
      (rset .BST_LIFE_REGION 0 0 (lifeBest (regionDays s) ((List.range 42).filter fun r => !regionOut s r)).2
        { s with keeper := { s.keeper with fenceDue := false } })) := if_neg (by simp [hk])
  have hmem (r : Nat) : r ∈ (List.range 42).filter (fun r => !regionOut s r) ↔ r < 42 ∧ regionOut s r = false := by simp
  have hb := lifeBest_spec (regionDays s) ((List.range 42).filter fun r => !regionOut s r) (by simp [hmem])
  refine ⟨_, hx, ?_⟩
  generalize hl : (List.range 42).filter (fun r => !regionOut s r) = l at hb hmem
  generalize lifeBest (regionDays s) l = b at hb
  have h1 (u : State) : rget (rset .BST_LIFE_DAYS 0 0 b.1 (rset .BST_LIFE_REGION 0 0 b.2 u)) .BST_LIFE_DAYS = b.1 := rget_rset_same _ _ _ _ _
  have h2 (u : State) : rget (rset .BST_LIFE_DAYS 0 0 b.1 (rset .BST_LIFE_REGION 0 0 b.2 u)) .BST_LIFE_REGION = b.2 := by simp
  rw [h1, h2]
  rcases hb with ⟨rfl, rfl⟩ | ⟨hm, hd, hmin⟩
  · have hout : ∀ r, r < 42 → regionOut s r = true := fun r hr => by
      by_contra hn
      exact List.not_mem_nil ((hmem r).mpr ⟨hr, by simpa using hn⟩)
    exact ⟨fun r hr ho => absurd (hout r hr) (by simp [ho]), Nat.le_refl _, .inl ⟨hout, rfl, rfl⟩⟩
  · refine ⟨fun r hr ho => (hmin r ((hmem r).mpr ⟨hr, ho⟩)).trans (Nat.min_le_right _ _), by omega, .inr ⟨b.2, ((hmem _).mp hm).1, ((hmem _).mp hm).2, rfl, hd⟩⟩

/-! ### The grids and the slices -/

theorem pauseSliceGrid_arms {s : State} (hk : s.keeper.inReset = false) (hr : rget s .BST_CTRL_ROTATION ≠ 0) (hs : rget s .BST_CTRL_SCOUTS ≠ 0) :
    ∃ l, exec .pauseSliceGrid s = .next { s with keeper := { s.keeper with pauseArm := s.keeper.pauseArm ++ l } } ∧
      ∀ pc, pc ∈ l ↔ pc ∈ s.pcombs.map (·.1) ∧ (pcGet s pc).good = true ∧ (pcGet s pc).goods.length = 32 ∧ (pcCtx s pc).isSome = true ∧
        pc ∉ s.keeper.pauseArm :=
  ⟨_, if_neg (by simp [hk, hr, hs]), fun pc => by simp [and_assoc]⟩

/-- An event of the assay core counts on the comb in service. -/
def assayCounted (n pc : Nat) (s : State) : State := match lcOf s pc with
  | some cb => bump .ASY_EVT_COUNT .ASY_OVF_OVF cb n 1 s
  | none => s

theorem Touches.assayCounted (n pc : Nat) (s : State) : Touches [.fld .ASY_EVT_COUNT, .fld .ASY_OVF_OVF] s (Machine.assayCounted n pc s) := by
  unfold Machine.assayCounted
  split
  · exact bump _ _ _ _ _ _
  · exact .refl _ _

theorem scout_verdicts (px : Fin 35) (py : Fin 24) (w : Fin 34) (s : State) :
    let pc := pcIx px.val py.val
    let testing : Bool := (pcGet s pc).test == w.val && suiteRuns s pc
    let slice : Bool := s.keeper.slicing.contains pc && ((pcGet s pc).serves w.val).isSome
    let u := pcMod pc (fun k => { k with scouts := k.scouts + 1 }) s
    let counted : State := match lcOf u pc with
      | some cb => bump .ASY_EVT_COUNT .ASY_OVF_OVF cb 1 1 u
      | none => u
    (pcGet s pc).good = true → testing || slice → rget s .BST_CTRL_SCOUTS ≠ 0 → s.keeper.inReset = false → s.keeper.scoutBad = false →
      (∃ t, exec (.scoutVerdict px py w .pass) s = .next t ∧ (testing = true → (pcGet t pc).suiteDone = true) ∧
        tget 0 (pcGet t pc).lastPass w.val = s.tick ∧ t.keeper.verdicts = tdrop s.keeper.verdicts (· == pc * 64 + w.val)) ∧
      (∀ kernel, exec (.scoutVerdict px py w (.nominal kernel)) s = .next (fenceWorker pc w.val (suspectReport pc w.val 0x16 (scoutDetail kernel.toNat 0)
        (raise (pcRegion pc) (recP u pc w.val 0x16 2 (scoutDetail kernel.toNat 0)) counted)))) ∧
      (∀ kernel hot, rget s (if hot then .BST_CTRL_HOT else .BST_CTRL_MARGIN) ≠ 0 → slice = false →
        exec (.scoutVerdict px py w (.stress kernel hot)) s = .next (stressFail pc w.val kernel.toNat (if hot then 2 else 1) counted)) := by
  intro pc testing slice u counted hg ht hs hk hb
  have hrun (skipped : Bool) (h : skipped = false) : ¬ (!(pcGet s pc).good || !(testing || slice) || rget s .BST_CTRL_SCOUTS == 0 || skipped ||
      s.keeper.inReset || s.keeper.scoutBad) = true := by
    rw [hg, ht, hk, hb, h]
    simp [hs]
  refine ⟨?_, fun kernel => if_neg (hrun false rfl), fun kernel hot hh hsl => if_neg (hrun _ ?_)⟩
  · refine ⟨cleanPass pc w.val (pcMod pc (fun k => { k with suiteDone := k.suiteDone || testing }) (assayCounted 0 pc
      { u with keeper := { u.keeper with verdicts := tdrop u.keeper.verdicts (· == pc * 64 + w.val) } })), if_neg (hrun false rfl), ?_⟩
    have hz := Touches.assayCounted 0 pc { u with keeper := { u.keeper with verdicts := tdrop u.keeper.verdicts (· == pc * 64 + w.val) } }
    generalize assayCounted 0 pc _ = z at hz
    obtain ⟨hl, hd, hkeep⟩ := cleanPass_leaves pc w.val (pcMod pc (fun k => { k with suiteDone := k.suiteDone || testing }) z)
    refine ⟨fun h => ?_, hl.trans (hz .tick (by decide)), ?_⟩
    · rw [hd, pcGet_pcMod_same]
      simp [h]
    · rw [hkeep]
      exact congrArg Keeper.verdicts (hz .keeper (by decide))
  · show (slice || rget s (if hot then .BST_CTRL_HOT else .BST_CTRL_MARGIN) == 0) = false
    rw [hsl, Bool.false_or, beq_eq_false_iff_ne]
    exact hh

/-! ### Fences -/

/-- A comb that the keeper fences: no fault waits for it any more, the record names it, and it is not good. -/
def fencedComb (px : Fin 35) (py : Fin 24) (cb : Nat) (s : State) : State :=
  let s := { s with combFaults := s.combFaults.filter (· != cb) }
  pcMod (pcIx px.val py.val) (fun k => { k with good := false, fault := true })
    (if recorded s 2 (siteC px.val py.val) then s else recordAdd (defEntry 2 3 (siteC px.val py.val)) s)

theorem Touches.fencedComb (px : Fin 35) (py : Fin 24) (cb : Nat) (s : State) :
    Touches [.combFaults, .pcombs, .flash, .faultBuf, .fld .FUS_RECORD_ENTRIES, .fld .FUS_EVT_COUNT, .fld .FUS_OVF_OVF] s
      (Machine.fencedComb px py cb s) := by
  have h : Touches [.combFaults] s { s with combFaults := s.combFaults.filter (· != cb) } := set_combFaults _ _
  unfold Machine.fencedComb
  generalize ({ s with combFaults := s.combFaults.filter (· != cb) } : State) = t at h ⊢
  exact (pcMod _ _ _).tail (.ite h.mono ((recordAdd _ _).tail h.mono))

theorem fencedComb_faults (px : Fin 35) (py : Fin 24) (cb : Nat) (s : State) : (fencedComb px py cb s).combFaults = s.combFaults.filter (· != cb) := by
  have h : Touches [.flash, .faultBuf, .fld .FUS_RECORD_ENTRIES, .fld .FUS_EVT_COUNT, .fld .FUS_OVF_OVF, .pcombs]
      { s with combFaults := s.combFaults.filter (· != cb) } (fencedComb px py cb s) :=
    (Touches.pcMod _ _ _).tail (.ite (.refl _ _) (Touches.recordAdd _ _).mono)
  exact h .combFaults (by decide)

theorem comb_fenced (px : Fin 35) (py : Fin 24) (cb : Nat) (s : State) :
    let pc := pcIx px.val py.val
    s.combFaults.find? (fun k => pcOf s k == pc) = some cb → s.keeper.inReset = false → (pcGet s pc).good = true → ∃ u,
      (pcGet u pc).good = false ∧ (pcGet u pc).fault = true ∧ u.combFaults.contains cb = false ∧ u.ctxs = s.ctxs ∧ u.mem = s.mem ∧
      (absentComb s cb = true → exec (.combFence px py) s = .next (writeRmap (pcRegion pc) u)) ∧
      (absentComb s cb = false →
        let v := match ctxOfComb s cb with
          | some c => if (ctxGet s c).phase = .work then ctxMod c (fun x => { x with phase := .abandoned }) (discardTraffic c u) else u
          | none => u
        let a := armMove pc cb v
        exec (.combFence px py) s = .next (makeMoves ((waitingMoves a).filter fun e => e.1 == pc && moveOpen a cb) a)) := by
  intro pc hf hk hg
  have hu := Touches.fencedComb px py cb s
  have habs : absentComb (fencedComb px py cb s) cb = absentComb s cb := congrArg (· == 3) (hu (.fld .CMB_STATUS_STATE) (by decide) cb 0)
  have hpc : pcGet (fencedComb px py cb s) pc = { pcGet _ pc with good := false, fault := true } := pcGet_pcMod_same _ _ _
  have hx : exec (.combFence px py) s = if absentComb (fencedComb px py cb s) cb then .next (writeRmap (pcRegion pc) (fencedComb px py cb s)) else
      let v := match ctxOfComb (fencedComb px py cb s) cb with
        | some c => if stepping (fencedComb px py cb s) c then
            ctxMod c (fun x => { x with phase := .abandoned }) (discardTraffic c (fencedComb px py cb s)) else fencedComb px py cb s
        | none => fencedComb px py cb s
      .next (makeMoves ((waitingMoves (armMove pc cb v)).filter fun e => e.1 == pc && moveOpen (armMove pc cb v) cb) (armMove pc cb v)) := by
    show execCombFence px py s = _
    simp only [execCombFence]
    rw [show s.combFaults.find? (fun k => pcOf s k == pcIx px.val py.val) = some cb from hf]
    exact if_neg (by simp [hk, show (pcGet s (pcIx px.val py.val)).good = true from hg])
  refine ⟨fencedComb px py cb s, congrArg PComb.good hpc, congrArg PComb.fault hpc, ?_, hu .ctxs (by decide), hu .mem (by decide), fun h => ?_, fun h => ?_⟩
  · rw [fencedComb_faults]
    exact not_contains_filter _ _
  · rw [hx, if_pos (habs.trans h)]
  · rw [hx, if_neg (by rw [habs, h]; decide), ctxOfComb_touches hu (by decide)]
    cases ctxOfComb s cb with
    | none => rfl
    | some c =>
      have hs : stepping (fencedComb px py cb s) c = decide ((ctxGet s c).phase = .work) := by
        rw [stepping, ctxGet_touches hu (by decide)]
        rfl
      simp only [hs, decide_eq_true_eq]

/-! ### Faults and tests of combs -/

theorem sharedFault_serving {pc cb : Nat} {s : State} (h : lcOf s pc = some cb) : (sharedFault pc s).combFaults.contains cb = true := by
  rw [sharedFault, h]
  exact combFault_faults cb s

theorem sharedFault_spare {pc : Nat} {s : State} (h : lcOf s pc = none) (hg : (pcGet s pc).good = true) :
    (pcGet (sharedFault pc s) pc).good = false := by
  rw [sharedFault, h]
  simp only [hg, if_true]
  exact loseSpare_good pc 3 s

/-- A region whose tests have ended is tested no more. -/
theorem region_tested {r : Fin 42} {bad : List (BitVec 64)} {bins : List (BitVec 24 × Fin 2)} {s : State} (ht : s.keeper.testing.contains r.val = true) :
    ∃ u, exec (.regionTestComplete r ⟨bad, bins⟩) s = .next (endGrants (refreshRegions (if rget u .CMB_RMAP_WITHDRAWN r.val = 1 then writeRmap r.val u
        else countMaps s ((regionCombs r.val).filter fun cb => !absentComb u cb) (placeRegion r.val u)))) ∧
      u.keeper.testing.contains r.val = false := by
  show ∃ u, execRegionTestComplete r ⟨bad, bins⟩ s = _ ∧ _
  unfold execRegionTestComplete
  extract_lets i s0 here failed s1 s2 s3 s4 s5 k s6 s7
  rw [if_neg (by rw [ht]; decide)]
  clear_value s5
  have h6 : s6.keeper.testing = s5.keeper.testing.filter (· != i) := rfl
  clear_value s6
  exact ⟨s6, rfl, by rw [h6]; exact not_contains_filter _ _⟩

/-- Settles O40. -/
theorem repairResults : Obligations.RepairResults := by
  unfold Obligations.RepairResults
  refine ⟨fun s hk hr => ⟨if_neg (by simp [hk, hr]), pauseSliceGrid_arms hk hr⟩, scout_verdicts, comb_fenced, fun x y s => ?_, fun px py s => ?_,
    fun px py s hl hg => ?_, fun r bad bins s ht => ?_, fun s hk => life_predicted hk⟩
  · intro cb ha
    exact ⟨_, congrArg Host.Outcome.next (if_neg (by simp [show absentComb s (cbOf x.val y.val) = false from ha])), combFault_faults cb s,
      fun c hc => combFault_failed hc⟩
  · intro pc beat
    refine ⟨fun h pass => if_neg (by simp [show tenderRuns s (pcIx px.val py.val) = false from h]), fun h => ?_, fun cb => sharedFault_serving,
      sharedFault_spare⟩
    exact ⟨if_pos h, if_pos h⟩
  · exact ⟨loseSpare (pcIx px.val py.val) 3 s, if_neg (by simp [hl, hg]), rfl, loseSpare_good _ _ _⟩
  · exact region_tested ht

end Sys2Proof.Machine

/-! PROOF. Blocks, credits and re-sends on a fabric port (R360 to R364). -/

namespace Sys2Proof.Machine

/-! ### Ports -/

@[simp] theorem portGet_portMod_same (p : Nat) (f : PortSt → PortSt) (s : State) : portGet (portMod p f s) p = f (portGet s p) := tget_tset_same _ _ _ _

theorem portGet_touches {l : List Part} {s t : State} (h : Touches l s t) (hl : .ports ∉ l) (p : Nat) : portGet t p = portGet s p :=
  congrArg (tget port0 · p) (h .ports hl)

namespace Touches

theorem portEvt (p n : Nat) (s : State) : Touches [.fld .PRT_EVT_COUNT, .fld .PRT_OVF_OVF] s (Machine.portEvt p n s) := bump _ _ _ _ _ _

theorem sendCtl (p v : Nat) (s : State) : Touches [.ports] s (Machine.sendCtl p v s) := portMod _ _ _

/-- What leaves an egress touches the port, and its counters where it has grown too old. -/
theorem pump (p : Nat) (s : State) : Touches [.ports, .fld .PRT_EVT_COUNT, .fld .PRT_OVF_OVF] s (Machine.pump p s) := by
  unfold Machine.pump
  exact .ite ((portMod _ _ _).tail (fold (fun _ _ => (portEvt _ _ _).mono) (.refl _ _))) (.refl _ _)

theorem ackRetry (p ack : Nat) (s : State) : Touches [.ports, .fld .PRT_EVT_COUNT, .fld .PRT_OVF_OVF] s (Machine.ackRetry p ack s) :=
  (pump _ _).tail (portMod _ _ _).mono

theorem charge (c n : Nat) (s : State) : Touches [.ctxs, .fld .CTX_STEPSTAT_SLIP, .fld .CTX_EVT_COUNT, .fld .CTX_OVF_OVF] s (Machine.charge c n s) := by
  unfold Machine.charge
  exact .ite ((ctxSet _ _ _).tail ((bump _ _ _ _ _ _).tail (rset _ _ _ _ _).mono)) (rset _ _ _ _ _).mono

end Touches

/-! ### Data blocks -/

/-- A data block of either kind is the port's `dataBlock`. -/
theorem exec_block (p : Fin 6) (b : Block) (stream good : Bool) (s : State) :
    exec ((if stream then Instr.streamBlock p b else .packetBlock p b) good) s = .next (dataBlock p.val stream b good s) := by
  cases stream <;> rfl

theorem dataBlock_dead {p : Nat} {s : State} (h : portLive s p = false) (stream good : Bool) (b : Block) : dataBlock p stream b good s = s :=
  if_pos (by simp [h])

section
variable {p : Nat} {s : State} {stream : Bool} {b : Block} (h : portLive s p = true)
include h

theorem dataBlock_good : dataBlock p stream b true s =
    let u := ackRetry p b.ack.toNat s
    let x := portGet u p
    if b.seq.toNat = x.rxSeq then takeEarly p x.early.length (inSeq p stream b u)
    else if x.discard || !seqLater b.seq.toNat x.rxSeq || x.early.contains (stream, b) then u
    else portMod p (fun x => { x with early := x.early ++ [(stream, b)] }) u :=
  if_neg (by simp [h])

theorem dataBlock_bad : dataBlock p stream b false s =
    let u := ackRetry p b.ack.toNat s
    let x := portGet u p
    let v := sendCtl p (0x02 <<< 56 ||| x.rxSeq) (portEvt p 0 (portMod p (fun x => { x with discard := true, fails := x.fails + 1, early := [] }) u))
    if 16 ≤ x.fails + 1 then portDown p 3 v else v :=
  if_neg (by simp [h])

end

/-- What a block that failed its check leaves at the port, short of the sixteenth failure. -/
theorem badBlock_leaves (p v : Nat) (u : State) :
    let t := sendCtl p v (portEvt p 0 (portMod p (fun x => { x with discard := true, fails := x.fails + 1, early := [] }) u))
    (portGet t p).discard = true ∧ (portGet t p).fails = (portGet u p).fails + 1 ∧ (portGet t p).early = [] ∧
    (portGet t p).ctl = (portGet u p).ctl ++ [v] ∧ t.mem = u.mem := by
  intro t
  have hg : portGet t p = { { portGet u p with discard := true, fails := (portGet u p).fails + 1, early := [] } with ctl := (portGet u p).ctl ++ [v] } := by
    simp only [t, sendCtl, portGet_portMod_same, portGet_touches (Touches.portEvt _ _ _) (by decide)]
  have hm : Touches [.ports, .fld .PRT_EVT_COUNT, .fld .PRT_OVF_OVF] u t := (Touches.sendCtl _ _ _).tail ((Touches.portEvt _ _ _).tail (Touches.portMod _ _ _).mono)
  rw [hg]
  exact ⟨rfl, rfl, rfl, rfl, hm .mem (by decide)⟩

/-! ### Re-sends -/

/-- A RESEND of a block that the retry buffer holds: what it leaves before a sixteenth one takes the port down. -/
theorem resend_from {p : Fin 6} {v : BitVec 64} {late : Nat} {s : State} (h2 : 2 ≤ rget s .PRT_STATUS_STATE p.val)
    (he : ∃ e ∈ (portGet s p.val).retry, e.2.seq.toNat = v.toNat % 65536) :
    let n := if (portGet s p.val).resends.1 = v.toNat % 65536 then (portGet s p.val).resends.2 + 1 else 1
    ∃ t, exec (.resendRecord p v late) s = .next (if 16 ≤ n then portDown p.val 3 t else t) ∧
      (portGet t p.val).resends.1 = v.toNat % 65536 ∧ (portGet t p.val).retry = (portGet s p.val).retry ∧
      rget t .PRT_EVT_COUNT p.val 1 = min 0xFFFFFFFF (rget s .PRT_EVT_COUNT p.val 1 + 1) ∧ t.mem = s.mem := by
  have hq : fld v.toNat 0 16 = v.toNat % 65536 := by simp [fld]
  have hc : ¬ (rget s .PRT_STATUS_STATE p.val ≤ 1 || !((portGet s p.val).retry.any fun e => e.2.seq.toNat == v.toNat % 65536)) = true := by
    have ha : ((portGet s p.val).retry.any fun e => e.2.seq.toNat == v.toNat % 65536) = true := by simpa using he
    rw [ha]
    simp
    omega
  intro m
  show ∃ t, execResendRecord p v late s = _ ∧ _
  unfold execResendRecord
  extract_lets x q n u again cs t
  have hqv : q = v.toNat % 65536 := hq
  have hn : n = m := by simp only [n, m, hqv, x]
  have hut : Touches [.ctxs, .fld .CTX_STEPSTAT_SLIP, .fld .CTX_EVT_COUNT, .fld .CTX_OVF_OVF] u t := Touches.fold (fun _ _ => Touches.charge _ _ _) (.refl _ _)
  have hsu : Touches [.ports, .fld .PRT_EVT_COUNT, .fld .PRT_OVF_OVF] s u := (Touches.portEvt _ _ _).tail (Touches.portMod _ _ _).mono
  have hpu : portGet u p.val = { portGet s p.val with resends := (q, n) } := by
    simp only [u, portGet_touches (Touches.portEvt _ _ _) (by decide), portGet_portMod_same]
  have hpt : portGet t p.val = { portGet s p.val with resends := (q, n) } := (portGet_touches hut (by decide) _).trans hpu
  have hev : rget u .PRT_EVT_COUNT p.val 1 = min 0xFFFFFFFF (rget s .PRT_EVT_COUNT p.val 1 + 1) := rget_bump _ _ _ _ _ _ (by decide)
  refine ⟨t, ?_, ?_, ?_, (hut (.fld .PRT_EVT_COUNT) (by decide) _ _).trans hev, (hsu.comp hut) .mem (by decide)⟩
  · rw [← hn]
    clear_value t
    rw [if_neg (by rw [hqv]; exact hc)]
  · rw [hpt]
    exact hqv
  · rw [hpt]

/-- Settles O41. -/
theorem portBlockResults : Obligations.PortBlockResults := by
  unfold Obligations.PortBlockResults
  intro p s q
  refine ⟨fun b h => congrArg Host.Outcome.next (if_neg (Nat.not_le.mpr h)), fun b stream => ?_, fun v h => ?_, fun v late h2 he hr => ?_, fun v late h2 he hr h15 => ?_⟩
  · intro c u x v
    have hx := exec_block p b stream
    refine ⟨fun h good => (hx good s).trans (congrArg _ (dataBlock_dead h stream good b)), fun h => ?_⟩
    have hgood := (hx true s).trans (congrArg Host.Outcome.next (dataBlock_good (stream := stream) (b := b) h))
    have hbad := (hx false s).trans (congrArg Host.Outcome.next (dataBlock_bad (stream := stream) (b := b) h))
    refine ⟨fun hs => ?_, fun hs he => ⟨fun hw => ?_, fun hw => ?_⟩, fun hs ho => ?_, fun hs hd hl hm => ?_, fun hf => ?_, fun hf => ?_⟩
    · exact hgood.trans (congrArg Host.Outcome.next (if_pos hs))
    · refine hgood.trans (congrArg Host.Outcome.next ((if_pos hs).trans ?_))
      rw [show (portGet (ackRetry p.val b.ack.toNat s) p.val).early = [] from he]
      exact if_neg (by rw [show waitsFlow _ p.val stream b = false from hw]; decide)
    · refine hgood.trans (congrArg Host.Outcome.next ((if_pos hs).trans ?_))
      rw [show (portGet (ackRetry p.val b.ack.toNat s) p.val).early = [] from he]
      exact if_pos hw
    · refine hgood.trans (congrArg Host.Outcome.next ((if_neg hs).trans (if_pos ?_)))
      rw [Bool.or_eq_true, Bool.or_eq_true, Bool.not_eq_true', List.contains_iff_mem, or_assoc]
      exact ho
    · refine hgood.trans (congrArg Host.Outcome.next ((if_neg hs).trans (if_neg ?_)))
      rw [Bool.or_eq_true, Bool.or_eq_true, Bool.not_eq_true', List.contains_iff_mem, or_assoc]
      rintro (h | h | h)
      · exact Bool.false_ne_true (hd.symm.trans h)
      · exact Bool.false_ne_true (h.symm.trans hl)
      · exact hm h
    · obtain ⟨h1, h2, h3, h4, h5⟩ := badBlock_leaves q (0x02 <<< 56 ||| x.rxSeq) u
      exact ⟨_, hbad.trans (congrArg Host.Outcome.next (if_neg (Nat.not_le.mpr hf))), h1, h2, h3, h4, h5.trans ((Touches.ackRetry _ _ _) .mem (by decide))⟩
    · exact ⟨_, hbad.trans (congrArg Host.Outcome.next (if_pos hf))⟩
  · have hq : fld v.toNat 0 16 = v.toNat % 65536 := by simp [fld]
    rw [← hq]
    exact congrArg Host.Outcome.next (if_neg (Nat.not_le.mpr h))
  · obtain ⟨t, ht, hrest⟩ := resend_from (late := late) h2 he
    refine ⟨t, ht.trans (congrArg Host.Outcome.next (if_neg ?_)), hrest⟩
    split
    next hs => exact Nat.not_le.mpr (Nat.succ_lt_succ (hr hs))
    next => decide
  · obtain ⟨t, ht, -⟩ := resend_from (late := late) h2 he
    refine ⟨t, ht.trans (congrArg Host.Outcome.next (if_pos ?_))⟩
    rw [if_pos hr]
    exact Nat.succ_le_succ h15

end Sys2Proof.Machine

/-! PROOF. Lanes, link state and topology of the fabric ports (R357 to R370, R381, R382). -/

namespace Sys2Proof.Machine

/-! ### Lanes -/

/-- The registers of a port's lanes. -/
def laneParts : List Part := [.fld .PRT_LANES_TX_W0SP, .fld .PRT_LANES_TX_W1SP, .fld .PRT_LANES_RX_W0SP, .fld .PRT_LANES_RX_W1SP, .fld .PRT_LANES_TX_OK,
  .fld .PRT_LANES_RX_OK, .fld .PRT_LANES_TX_FSP, .fld .PRT_LANES_RX_FSP, .fld .PRT_LANES_TX_FSP_FOR, .fld .PRT_LANES_RX_FSP_FOR,
  .fld .PRT_STATUS_TX_LANES, .fld .PRT_STATUS_RX_LANES]

/-- The spare-wavelength field of a lane's half. -/
def spareField (tx : Bool) (lane : Nat) : F :=
  if lane < 8 then (if tx then F.PRT_LANES_TX_W0SP else F.PRT_LANES_RX_W0SP) else (if tx then F.PRT_LANES_TX_W1SP else F.PRT_LANES_RX_W1SP)

theorem spareField_mem (tx : Bool) (lane : Nat) : Part.fld (spareField tx lane) ∈ laneParts := by
  unfold spareField
  cases tx <;> split <;> decide

theorem spareLane_wavelength (tx : Bool) (p lane : Nat) (s : State) : spareLane tx p lane 0 s = rset (spareField tx lane) p 0 (lane % 8) s := rfl

theorem spareLane_fibre (tx : Bool) (p lane : Nat) (s : State) : spareLane tx p lane 1 s =
    rset (if tx then F.PRT_LANES_TX_FSP else F.PRT_LANES_RX_FSP) p 0 1 (rset (if tx then F.PRT_LANES_TX_FSP_FOR else F.PRT_LANES_RX_FSP_FOR) p 0 (lane / 8)
      (rset (spareField tx lane) p 0 15 s)) := rfl

theorem spareLane_remove (tx : Bool) (p lane : Nat) (s : State) : spareLane tx p lane 2 s =
    let ok := if tx then F.PRT_LANES_TX_OK else F.PRT_LANES_RX_OK
    let m := setFld (rget s ok p) lane 1 0
    rset (if tx then F.PRT_STATUS_TX_LANES else F.PRT_STATUS_RX_LANES) p 0 (laneCount m) (rset ok p 0 m s) := rfl

theorem Touches.spareLane (tx : Bool) (p lane : Nat) {action : Nat} (h : action < 3) (s : State) : Touches laneParts s (Machine.spareLane tx p lane action s) := by
  have hw : [Part.fld (spareField tx lane)] ⊆ laneParts := List.cons_subset.mpr ⟨spareField_mem tx lane, List.nil_subset _⟩
  have h0 : action = 0 ∨ action = 1 ∨ action = 2 := by omega
  rcases h0 with rfl | rfl | rfl
  · exact (rset _ _ _ _ _).mono hw
  · rw [spareLane_fibre]
    cases tx <;> exact (rset _ _ _ _ _).tail ((rset _ _ _ _ _).tail ((rset _ _ _ _ _).mono hw))
  · cases tx <;> exact (rset _ _ _ _ _).tail (rset _ _ _ _ _).mono

/-- A sparing action that is announced or confirmed: its record goes out, is counted and recorded. -/
def spared (p n detail : Nat) (s : State) : State := portRaise p 0x51 detail 0 none (portEvt p 2 (sendCtl p n s))

theorem Touches.spared (p n detail : Nat) (s : State) : Touches (.ports :: .fld .PRT_EVT_COUNT :: .fld .PRT_OVF_OVF :: raiseParts) s
    (Machine.spared p n detail s) :=
  (portRaise _ _ _ _ _ _).tail ((portEvt _ _ _).tail (sendCtl _ _ _).mono)

theorem spared_ctl (p n detail : Nat) (s : State) : (portGet (spared p n detail s) p).ctl = (portGet s p).ctl ++ [n] := by
  unfold spared
  rw [portGet_touches (Touches.portRaise _ _ _ _ _ _) (by decide), portGet_touches (Touches.portEvt _ _ _) (by decide), sendCtl, portGet_portMod_same]

theorem exec_spareRecord {p : Fin 6} {v : BitVec 64} {s : State} (h2 : 2 ≤ rget s .PRT_STATUS_STATE p.val) (ha : fld v.toNat 46 2 < 3) :
    let lane := fld v.toNat 48 5 % 16
    let t := spared p.val (0x04 <<< 56 ||| fld v.toNat 0 56) (lane <<< 4 ||| fld v.toNat 46 2 <<< 9) (spareLane true p.val lane (fld v.toNat 46 2) s)
    exec (.spareRecord p v) s = .next (if fld v.toNat 46 2 = 2 then afterRemoval p.val (rget t .PRT_STATUS_TX_LANES p.val) t else t) :=
  if_neg (by omega)

theorem spareRecord_spares {p : Fin 6} {v : BitVec 64} {s : State} (h2 : 2 ≤ rget s .PRT_STATUS_STATE p.val) (ha : fld v.toNat 46 2 < 2) :
    ∃ t, exec (.spareRecord p v) s = .next t ∧
      (portGet t p.val).ctl = (portGet s p.val).ctl ++ [0x04 <<< 56 ||| fld v.toNat 0 56] ∧ t.mem = s.mem ∧
      (fld v.toNat 46 2 = 1 → rget t .PRT_LANES_TX_FSP p.val = 1 ∧ rget t .PRT_LANES_TX_FSP_FOR p.val = fld v.toNat 48 5 % 16 / 8) ∧
      (fld v.toNat 46 2 = 0 → rget t (if fld v.toNat 48 5 % 16 < 8 then .PRT_LANES_TX_W0SP else .PRT_LANES_TX_W1SP) p.val = fld v.toNat 48 5 % 8) := by
  have hx := exec_spareRecord h2 (by omega : fld v.toNat 46 2 < 3)
  have hl := Touches.spareLane true p.val (fld v.toNat 48 5 % 16) (by omega : fld v.toNat 46 2 < 3) s
  have ht := Touches.spared p.val (0x04 <<< 56 ||| fld v.toNat 0 56) ((fld v.toNat 48 5 % 16) <<< 4 ||| fld v.toNat 46 2 <<< 9)
    (spareLane true p.val (fld v.toNat 48 5 % 16) (fld v.toNat 46 2) s)
  refine ⟨_, hx.trans (congrArg Host.Outcome.next (if_neg (by omega))), (spared_ctl _ _ _ _).trans ?_, (hl.comp ht) .mem (by decide), fun h1 => ⟨?_, ?_⟩,
    fun h0 => ?_⟩
  · rw [portGet_touches hl (by decide)]
  · refine (ht (.fld .PRT_LANES_TX_FSP) (by decide) _ _).trans ?_
    rw [h1]
    exact rget_rset_same _ _ _ _ _
  · refine (ht (.fld .PRT_LANES_TX_FSP_FOR) (by decide) _ _).trans ?_
    rw [h1]
    exact (rget_rset_field _ _ _ _ _ _ _ _ (by decide)).trans (rget_rset_same _ _ _ _ _)
  · have hw : (if fld v.toNat 48 5 % 16 < 8 then F.PRT_LANES_TX_W0SP else .PRT_LANES_TX_W1SP) = spareField true (fld v.toNat 48 5 % 16) := rfl
    rw [hw, ht (.fld (spareField true (fld v.toNat 48 5 % 16))) (by unfold spareField; split <;> decide), h0, spareLane_wavelength, rget_rset_same]
    omega

theorem spareRecord_removes {p : Fin 6} {v : BitVec 64} {s : State} (h2 : 2 ≤ rget s .PRT_STATUS_STATE p.val) (ha : fld v.toNat 46 2 = 2) : ∃ u,
    exec (.spareRecord p v) s = .next (afterRemoval p.val (rget u .PRT_STATUS_TX_LANES p.val) u) ∧
    rget u .PRT_LANES_TX_OK p.val = setFld (rget s .PRT_LANES_TX_OK p.val) (fld v.toNat 48 5 % 16) 1 0 ∧
    rget u .PRT_STATUS_TX_LANES p.val = laneCount (rget u .PRT_LANES_TX_OK p.val) := by
  have hx := exec_spareRecord h2 (by omega : fld v.toNat 46 2 < 3)
  have ht := Touches.spared p.val (0x04 <<< 56 ||| fld v.toNat 0 56) ((fld v.toNat 48 5 % 16) <<< 4 ||| fld v.toNat 46 2 <<< 9)
    (spareLane true p.val (fld v.toNat 48 5 % 16) (fld v.toNat 46 2) s)
  have hok : rget (spareLane true p.val (fld v.toNat 48 5 % 16) (fld v.toNat 46 2) s) .PRT_LANES_TX_OK p.val =
      setFld (rget s .PRT_LANES_TX_OK p.val) (fld v.toNat 48 5 % 16) 1 0 := by
    rw [ha, spareLane_remove]
    simp
  have hcnt : rget (spareLane true p.val (fld v.toNat 48 5 % 16) (fld v.toNat 46 2) s) .PRT_STATUS_TX_LANES p.val =
      laneCount (setFld (rget s .PRT_LANES_TX_OK p.val) (fld v.toNat 48 5 % 16) 1 0) := by
    rw [ha, spareLane_remove]
    simp
  refine ⟨_, hx.trans (congrArg Host.Outcome.next (if_pos ha)), (ht (.fld .PRT_LANES_TX_OK) (by decide) _ _).trans hok, ?_⟩
  rw [ht (.fld .PRT_STATUS_TX_LANES) (by decide), hcnt, ht (.fld .PRT_LANES_TX_OK) (by decide), hok]

theorem laneFault_spares {p : Fin 6} {lane : Fin 16} {s : State} (h2 : 2 ≤ rget s .PRT_STATUS_STATE p.val)
    (hok : bit (rget s .PRT_LANES_RX_OK p.val) lane.val = true)
    (hw : rget s (if lane.val < 8 then .PRT_LANES_RX_W0SP else .PRT_LANES_RX_W1SP) p.val = 15) : ∃ t, exec (.laneFault p lane false) s = .next t ∧
      rget t (if lane.val < 8 then .PRT_LANES_RX_W0SP else .PRT_LANES_RX_W1SP) p.val = lane.val % 8 ∧
      (portGet t p.val).ctl = (portGet s p.val).ctl ++ [0x03 <<< 56 ||| lane.val <<< 48 ||| (portGet s p.val).rxSeq] ∧ t.mem = s.mem := by
  have hl := Touches.spareLane false p.val lane.val (by decide : 0 < 3) s
  have hfree : (if lane.val < 8 then rget s .PRT_LANES_RX_W0SP p.val else rget s .PRT_LANES_RX_W1SP p.val) = 15 := by rw [← hw]; split <;> rfl
  have hpg : portGet (spareLane false p.val lane.val 0 s) p.val = portGet s p.val := portGet_touches hl (by decide) _
  have ht := Touches.spared p.val (0x03 <<< 56 ||| lane.val <<< 48 ||| 0 <<< 46 ||| (portGet (spareLane false p.val lane.val 0 s) p.val).rxSeq)
    (1 <<< 3 ||| lane.val <<< 4 ||| 0 <<< 9) (spareLane false p.val lane.val 0 s)
  have hx : exec (.laneFault p lane false) s = .next (spared p.val (0x03 <<< 56 ||| lane.val <<< 48 ||| 0 <<< 46 |||
      (portGet (spareLane false p.val lane.val 0 s) p.val).rxSeq) (1 <<< 3 ||| lane.val <<< 4 ||| 0 <<< 9) (spareLane false p.val lane.val 0 s)) := by
    show execLaneFault p lane false s = _
    unfold execLaneFault
    extract_lets q l onSpare wFree fFree act lanes s1 s2 s3
    have hact : act = 0 := by simp [act, wFree, q, l, hfree]
    have hs : s1 = spareLane false p.val lane.val 0 s := by simp [s1, lanes, hact, q, l]
    have h1 : (decide (rget s .PRT_STATUS_STATE p.val ≤ 1) || !bit (rget s .PRT_LANES_RX_OK p.val) lane.val) = false := by simp [hok]; omega
    refine (if_neg (by simpa [q, l] using h1)).trans ?_
    refine congrArg Host.Outcome.next ((if_neg (by omega)).trans ?_)
    simp only [s3, s2, hs, hact]
    rfl
  refine ⟨_, hx, ?_, (spared_ctl _ _ _ _).trans ?_, (hl.comp ht) .mem (by decide)⟩
  · have hf : (if lane.val < 8 then F.PRT_LANES_RX_W0SP else .PRT_LANES_RX_W1SP) = spareField false lane.val := rfl
    rw [hf, ht (.fld (spareField false lane.val)) (by unfold spareField; split <;> decide), spareLane_wavelength, rget_rset_same]
  · rw [hpg]
    simp

/-! ### Links -/

/-- What the admission of a twin pair touches. -/
def admitParts : List Part := [.fld .PRT_TWIN_PAIRED, .fld .PRT_TWIN_ADMIT] ++ raiseParts

namespace Touches

theorem setAdmit_tight (v : Nat) (s : State) : Touches admitParts s (Machine.setAdmit v s) := by
  unfold Machine.setAdmit
  exact ite (refl _ _) ((portRaise _ _ _ _ _ _).tail (rset _ _ _ _ _).mono)

theorem repair_tight (s : State) : Touches admitParts s (Machine.repair s) := by
  have h0 : ∀ v, Touches admitParts s (Machine.rset .PRT_TWIN_PAIRED 0 0 v s) := fun v => (rset _ _ _ _ _).mono
  unfold Machine.repair
  exact ite (ite ((setAdmit_tight _ _).tail (h0 _)) (h0 _)) (ite ((setAdmit_tight _ _).tail (h0 _)) (ite (h0 _) ((setAdmit_tight _ _).tail (h0 _))))

theorem portHealth_tight (s : State) : Touches degradeParts s (Machine.portHealth s) := by
  unfold Machine.portHealth
  exact ite (degrade _ _) (refl _ _)

theorem set_mirror (s : State) (x) : Touches [.mirror] s { s with mirror := x } := by
  intro q hq
  cases q <;> simp_all [Part.same, rget]

/-- The part is a register field, or the host registers. -/
def isRegister : Part → Bool
  | .hosts => true
  | .fld _ => true
  | _ => false

/-- What touches register fields and host registers alone leaves every other component. -/
theorem only_registers {l : List Part} {s t : State} (h : Touches l s t) (hl : l.all isRegister = true) :
    t = { s with flds := t.flds, hosts := t.hosts } := by
  have hk (q : Part) (hq : isRegister q = false) : q.same s t := h q fun hm =>
    absurd (List.all_eq_true.mp hl q hm) (by simp [hq])
  cases s
  cases t
  simp only [State.mk.injEq]
  exact ⟨hk .pending rfl, hk .free rfl, hk .readData rfl, hk .latch rfl, trivial, hk .cycle rfl, hk .tick rfl, hk .mem rfl, hk .poison rfl,
    hk .workers rfl, hk .switches rfl, hk .objs rfl, hk .drops rfl, hk .dropWaits rfl, hk .tags rfl, hk .chans rfl, hk .lane rfl, hk .flight rfl,
    hk .egress rfl, hk .tx rfl, hk .rx rfl, hk .rxDead rfl, hk .ctxs rfl, hk .faultBuf rfl, hk .pcol rfl, hk .pcombs rfl, trivial, hk .taken rfl,
    hk .combFaults rfl, hk .repins rfl, hk .links rfl, hk .laneFails rfl, hk .laneTests rfl, hk .spares rfl, hk .scrubLog rfl, hk .rowBins rfl,
    hk .rowRepairs rfl, hk .nextBlk rfl, hk .dmas rfl, hk .ports rfl, hk .mirror rfl, hk .start rfl, hk .flash rfl, hk .sec rfl, hk .keeper rfl,
    hk .powerIn rfl, hk .reply rfl⟩

end Touches

theorem portDown_leaves {p : Nat} {s : State} (h : rget s .PRT_STATUS_STATE p ≠ 0) (cause : Nat) : let t := portDown p cause s
    rget t .PRT_STATUS_STATE p = 0 ∧ rget t .PRT_STATUS_CAUSE p = cause ∧ rget t .PRT_STATUS_PEER_VALID p = 0 ∧ (portGet t p).retry = [] ∧
    (portGet t p).waiting = [] ∧ (portGet t p).early = [] ∧ (portGet t p).ctl = [0x06 <<< 56 ||| cause] ∧ t.mem = s.mem := by
  unfold portDown
  extract_lets s1 s2 t
  have ht : t = portHealth (repair (portRaise p 0x50 (cause <<< 8) 0 none s2)) := if_neg h
  have hh : Touches (admitParts ++ degradeParts) s2 t := by
    rw [ht]
    exact (Touches.portHealth_tight _).tail ((Touches.repair_tight _).tail (Touches.portRaise _ _ _ _ _ _).mono)
  have h2 : Touches [.ports] s1 s2 := Touches.portMod _ _ _
  have h12 := h2.comp hh
  have hp : portGet t p = portGet s2 p := portGet_touches hh (by decide) _
  have h1m : s1.mem = s.mem := rfl
  refine ⟨?_, ?_, ?_, ?_, ?_, ?_, ?_, (h12 .mem (by decide)).trans h1m⟩
  · rw [h12 (.fld .PRT_STATUS_STATE) (by decide)]
    simp [s1]
  · rw [h12 (.fld .PRT_STATUS_CAUSE) (by decide)]
    simp [s1]
  · rw [h12 (.fld .PRT_STATUS_PEER_VALID) (by decide)]
    simp [s1]
  all_goals rw [hp, portGet_portMod_same]

/-- A training that succeeds, before the lanes are looked at: what it writes. -/
def trained (p : Nat) (r : TrainResult) (s : State) : State :=
  let txm := lanesUp s p (rget s .PRT_LANES_TX_OK p) r.tx.toNat
  let rxm := lanesUp s p (rget s .PRT_LANES_RX_OK p) r.rx.toNat
  let s := rset .PRT_LAT_PINNED p 0 1 (rset .PRT_LAT_FIBRE p 0 r.fibre.toNat (rset .PRT_LAT_LAT p 0 (160 + 4 * ((r.fibre.toNat + 9) / 10)) s))
  let s := rset .PRT_LANES_TX_OK p 0 txm (rset .PRT_LANES_RX_OK p 0 rxm s)
  let s := rset .PRT_STATUS_TX_LANES p 0 (laneCount txm) (rset .PRT_STATUS_RX_LANES p 0 (laneCount rxm) s)
  rset .PRT_STATUS_STATE p 0 (if laneCount txm = 16 ∧ laneCount rxm = 16 then 2 else 3) (portMod p (fun x => { x with trainFails := 0 }) s)

theorem rget_portMod (p : Nat) (f : PortSt → PortSt) (s : State) (g : F) (i j : Nat) : rget (portMod p f s) g i j = rget s g i j := rfl

section Training

variable {p : Fin 6} {r : TrainResult} {s : State} (h2 : rget s .PRT_STATUS_STATE p.val < 2) (hp : portPowered s p.val = true)
include h2 hp

theorem training_runs : (decide (2 ≤ rget s .PRT_STATUS_STATE p.val) || !portPowered s p.val) = false := by simp [hp]; omega

theorem training_fails (hr : r.ok = false) (hf : (portGet s p.val).trainFails < 2) : ∃ t, exec (.portTraining p r) s = .next t ∧
    rget t .PRT_STATUS_STATE p.val = 1 ∧ (portGet t p.val).trainFails = (portGet s p.val).trainFails + 1 ∧ t.mem = s.mem := by
  refine ⟨_, (if_neg (by simpa using training_runs h2 hp)).trans ((if_pos (by simp [hr])).trans (congrArg Host.Outcome.next (if_neg ?_))), ?_, ?_, rfl⟩
  · show ¬ 3 ≤ (portGet s p.val).trainFails + 1
    omega
  · exact rget_rset_same _ _ _ _ _
  · rw [portGet_portMod_same]
    exact if_neg (by show ¬ 3 ≤ (portGet s p.val).trainFails + 1; omega)

theorem training_gives_up (hr : r.ok = false) (hf : 2 ≤ (portGet s p.val).trainFails) : ∃ u, exec (.portTraining p r) s = .next (portDown p.val 5 u) := by
  refine ⟨_, (if_neg (by simpa using training_runs h2 hp)).trans ((if_pos (by simp [hr])).trans (congrArg Host.Outcome.next (if_pos ?_)))⟩
  show 3 ≤ (portGet s p.val).trainFails + 1
  omega

theorem training_too_long (hr : r.ok = true) (hf : 300 < r.fibre.toNat) :
    exec (.portTraining p r) s = .next (portDown p.val 6 (rset .PRT_STATUS_STATE p.val 0 1 s)) :=
  (if_neg (by simpa using training_runs h2 hp)).trans ((if_neg (by simp [hr])).trans (if_pos hf))

theorem training_succeeds (hr : r.ok = true) (hf : r.fibre.toNat ≤ 300) : exec (.portTraining p r) s = .next
    (if laneCount (lanesUp s p.val (rget s .PRT_LANES_TX_OK p.val) r.tx.toNat) = 0 ∨ laneCount (lanesUp s p.val (rget s .PRT_LANES_RX_OK p.val) r.rx.toNat) = 0
      then portDown p.val 1 (trained p.val r s)
      else wiring p.val (sendCtl p.val (identRec (trained p.val r s) p.val) (trained p.val r s))) :=
  (if_neg (by simpa using training_runs h2 hp)).trans ((if_neg (by simp [hr])).trans (if_neg (by omega)))

end Training

theorem trained_writes (p : Nat) (r : TrainResult) (s : State) :
    let tx := lanesUp s p (rget s .PRT_LANES_TX_OK p) r.tx.toNat
    let rx := lanesUp s p (rget s .PRT_LANES_RX_OK p) r.rx.toNat
    let u := trained p r s
    rget u .PRT_LAT_PINNED p = 1 ∧ rget u .PRT_LAT_LAT p = 160 + 4 * ((r.fibre.toNat + 9) / 10) ∧ rget u .PRT_LANES_TX_OK p = tx ∧
    rget u .PRT_LANES_RX_OK p = rx ∧ rget u .PRT_STATUS_STATE p = (if laneCount tx = 16 ∧ laneCount rx = 16 then 2 else 3) := by
  simp [trained, rget_portMod]

/-! ### Mirroring, admission and topology -/

theorem mirrorSuspend_leaves {c : Nat} {s : State} (h : rget s .PRT_MIRSTAT_SUSPENDED 0 c ≠ 1) (cause : Nat) : let t := mirrorSuspend c cause s
    rget t .PRT_MIRSTAT_SUSPENDED 0 c = 1 ∧ rget t .PRT_MIRSTAT_CAUSE 0 c = cause ∧ rget t .PRT_MIRSTAT_FULL 0 c = 0 ∧ mirrorClear t c = true ∧
    t.mem = s.mem := by
  unfold mirrorSuspend
  extract_lets s1 s2 s3 t
  have ht : t = portRaise 4 0x55 (cause <<< 8) 0 (some c) s3 := if_neg h
  have hr : Touches raiseParts s3 t := by
    rw [ht]
    exact Touches.portRaise _ _ _ _ _ _
  have h13 : Touches [.mirror, .ports] s1 s3 := (Touches.portMod _ _ _).tail (Touches.set_mirror _ _).mono
  have h1 := h13.comp hr
  have hm : mirGet s2 c = mir0 := tget_tset_same _ _ _ _
  have hmt : mirGet t c = mirGet s2 c := congrArg (tget mir0 · c) (hr .mirror (by decide))
  refine ⟨?_, ?_, ?_, ?_, h1 .mem (by decide)⟩
  · rw [h1 (.fld .PRT_MIRSTAT_SUSPENDED) (by decide)]
    simp [s1]
  · rw [h1 (.fld .PRT_MIRSTAT_CAUSE) (by decide)]
    simp [s1]
  · rw [h1 (.fld .PRT_MIRSTAT_FULL) (by decide)]
    simp [s1]
  · unfold mirrorClear
    rw [hmt, hm]
    rfl

theorem mirrorResume_leaves {who : Requester} (h : isPf who = true) (c : Fin 16) (s : State) : ∃ t, exec (.mirrorResume who c) s = .next t ∧
    rget t .PRT_MIRSTAT_SUSPENDED 0 c.val = 0 ∧ rget t .PRT_MIRSTAT_COVER 0 c.val = 0 ∧ rget t .PRT_MIRSTAT_FULL 0 c.val = 0 ∧
    t = { s with flds := t.flds } := by
  refine ⟨_, congrArg Host.Outcome.next (if_pos h), ?_, ?_, ?_, rfl⟩ <;> simp

theorem rget_setAdmit (v : Nat) (s : State) : rget (setAdmit v s) .PRT_TWIN_ADMIT = v := by
  unfold setAdmit
  split
  · assumption
  · rw [Touches.portRaise _ _ _ _ _ _ (.fld .PRT_TWIN_ADMIT) (by decide), rget_rset_same]

theorem admitOpen_leaves {who : Requester} (h : isPf who = true) (v : Bool) (s : State) : ∃ t, exec (.admitOpen who v) s = .next t ∧
    rget t .PRT_TWIN_ADMIT_OPEN = b2n v ∧ (v = true → rget s .PRT_TWIN_ADMIT = 1 ∨ rget s .PRT_TWIN_ADMIT = 3 → rget t .PRT_TWIN_ADMIT = 2) ∧
    (v = false → rget s .PRT_TWIN_ADMIT = 2 → rget t .PRT_TWIN_ADMIT = 1) ∧ t.mem = s.mem := by
  let s1 := rset .PRT_TWIN_ADMIT_OPEN 0 0 (b2n v) s
  have ha : rget s1 .PRT_TWIN_ADMIT = rget s .PRT_TWIN_ADMIT := rget_rset_field _ _ _ _ _ _ _ _ (by decide)
  have hx : exec (.admitOpen who v) s = .next (if v && (rget s1 .PRT_TWIN_ADMIT == 1 || rget s1 .PRT_TWIN_ADMIT == 3) then setAdmit 2 s1
      else if !v && rget s1 .PRT_TWIN_ADMIT == 2 then setAdmit 1 { s1 with keeper := { s1.keeper with joining := true } } else s1) :=
    if_neg (by simp [h])
  refine ⟨_, hx, ?_⟩
  have ho : rget s1 .PRT_TWIN_ADMIT_OPEN = b2n v := rget_rset_same _ _ _ _ _
  have hs (n : Nat) (x : State) (hx : Touches [.keeper] s1 x) : rget (setAdmit n x) .PRT_TWIN_ADMIT_OPEN = b2n v ∧ (setAdmit n x).mem = s.mem := by
    have hst := hx.comp (Touches.setAdmit_tight n x)
    exact ⟨(hst (.fld .PRT_TWIN_ADMIT_OPEN) (by decide) _ _).trans ho, hst .mem (by decide)⟩
  rw [ha]
  by_cases h1 : v = true ∧ (rget s .PRT_TWIN_ADMIT = 1 ∨ rget s .PRT_TWIN_ADMIT = 3)
  · obtain ⟨hv, h13⟩ := h1
    obtain ⟨ho2, hm⟩ := hs 2 s1 (Touches.refl _ _)
    rw [if_pos (by simpa [hv] using h13)]
    exact ⟨ho2, fun _ _ => rget_setAdmit _ _, fun hf => absurd (hv.symm.trans hf) (by decide), hm⟩
  · rw [if_neg (by simpa using h1)]
    by_cases h2 : v = false ∧ rget s .PRT_TWIN_ADMIT = 2
    · obtain ⟨ho2, hm⟩ := hs 1 { s1 with keeper := { s1.keeper with joining := true } } (Touches.set_keeper _ _)
      rw [if_pos (by simpa using h2)]
      exact ⟨ho2, fun hv h13 => absurd ⟨hv, h13⟩ h1, fun _ _ => rget_setAdmit _ _, hm⟩
    · rw [if_neg (by simpa using h2)]
      exact ⟨ho, fun hv h13 => absurd ⟨hv, h13⟩ h1, fun hv ha => absurd ⟨hv, ha⟩ h2, rfl⟩

/-- The topology register written, before the module's number is. -/
def topoSet (n : Nat) (s : State) : State :=
  rset .PRT_TOPO_VALID 0 0 (if fld n 18 4 ≤ fld n 26 4 ∧ fld n 14 4 ≤ fld n 22 4 then fld n 31 1 else 0) <| rset .PRT_TOPO_P 0 0 (fld n 30 1) <|
    rset .PRT_TOPO_NX1 0 0 (fld n 26 4) <| rset .PRT_TOPO_NY1 0 0 (fld n 22 4) <| rset .PRT_TOPO_X 0 0 (fld n 18 4) <| rset .PRT_TOPO_Y 0 0 (fld n 14 4) <|
    rset .PRT_TOPO_TWIN_EXP 0 0 (fld n 13 1) <| rset .PRT_TOPO_ATT_EXP 0 0 (fld n 12 1) s

def topoParts : List Part := [.fld .PRT_TOPO_VALID, .fld .PRT_TOPO_P, .fld .PRT_TOPO_NX1, .fld .PRT_TOPO_NY1, .fld .PRT_TOPO_X, .fld .PRT_TOPO_Y,
  .fld .PRT_TOPO_TWIN_EXP, .fld .PRT_TOPO_ATT_EXP, .fld .PRT_TOPO_MODULE]

theorem topoSet_touches (n : Nat) (s : State) : Touches topoParts s (topoSet n s) :=
  (Touches.rset _ _ _ _ _).tail <| (Touches.rset _ _ _ _ _).tail <| (Touches.rset _ _ _ _ _).tail <| (Touches.rset _ _ _ _ _).tail <|
    (Touches.rset _ _ _ _ _).tail <| (Touches.rset _ _ _ _ _).tail <| (Touches.rset _ _ _ _ _).tail (Touches.rset _ _ _ _ _).mono

theorem foldl_all_false {α β : Type} (f : β → α → β) (l : List α) (b : β) (h : ∀ a ∈ l, f b a = b) : l.foldl f b = b := by
  induction l with
  | nil => rfl
  | cons a r ih => rw [List.foldl_cons, h a List.mem_cons_self, ih fun x hx => h x (List.mem_cons_of_mem _ hx)]

section Topology

variable {who : Requester} (hw : isPf who = true) (v : BitVec 32) {s : State}
include hw

theorem exec_prtTopoWrite_barred {c : Nat} (hc : c < 16) (hr : runOrHeld s c = true) : exec (.prtTopoWrite who v) s = .next (portEvt 0 5 s) :=
  (if_neg (by simp [hw])).trans (if_pos (List.any_eq_true.mpr ⟨c, List.mem_range.mpr hc, hr⟩))

theorem exec_prtTopoWrite (hr : ∀ c, c < 16 → runOrHeld s c = false) (hd : ∀ k, k < 6 → rget s .PRT_STATUS_STATE k < 2) :
    exec (.prtTopoWrite who v) s = .next (portHealth (rset .PRT_TOPO_MODULE 0 0 (moduleId (topoSet v.toNat s)) (topoSet v.toNat s))) := by
  have hn : (List.range 16).any (runOrHeld s) = false := by
    rw [List.any_eq_false]
    intro c hc
    rw [hr c (List.mem_range.mp hc)]
    exact Bool.false_ne_true
  have ht := (topoSet_touches v.toNat s).comp (Touches.rset .PRT_TOPO_MODULE 0 0 (moduleId (topoSet v.toNat s)) (topoSet v.toNat s))
  refine (if_neg (by simp [hw])).trans ((if_neg (by simp [hn])).trans (congrArg (fun x => Host.Outcome.next (portHealth x)) ?_))
  refine foldl_all_false _ _ _ fun k hk => if_neg ?_
  have hk2 := hd k (List.mem_range.mp hk)
  have hkt := ht (.fld .PRT_STATUS_STATE) (by decide) k 0
  exact fun h => absurd (h.trans_eq hkt) (by omega)

theorem prtTopoWrite_leaves (hr : ∀ c, c < 16 → runOrHeld s c = false) (hd : ∀ k, k < 6 → rget s .PRT_STATUS_STATE k < 2) :
    ∃ t, exec (.prtTopoWrite who v) s = .next t ∧ t = { s with flds := t.flds, hosts := t.hosts } ∧ rget t .PRT_TOPO_X = fld v.toNat 18 4 ∧
      rget t .PRT_TOPO_Y = fld v.toNat 14 4 ∧ rget t .PRT_TOPO_P = fld v.toNat 30 1 ∧
      rget t .PRT_TOPO_MODULE = 256 * fld v.toNat 30 1 + 16 * fld v.toNat 14 4 + fld v.toNat 18 4 ∧
      rget t .PRT_TOPO_VALID = (if fld v.toNat 18 4 ≤ fld v.toNat 26 4 ∧ fld v.toNat 14 4 ≤ fld v.toNat 22 4 then fld v.toNat 31 1 else 0) := by
  have h1 := Touches.rset .PRT_TOPO_MODULE 0 0 (moduleId (topoSet v.toNat s)) (topoSet v.toNat s)
  have h2 := Touches.portHealth_tight (rset .PRT_TOPO_MODULE 0 0 (moduleId (topoSet v.toNat s)) (topoSet v.toNat s))
  have h12 := h1.comp h2
  refine ⟨_, exec_prtTopoWrite hw v hr hd, ((topoSet_touches _ _).comp h12).only_registers (by decide), ?_, ?_, ?_, ?_, ?_⟩
  · rw [h12 (.fld .PRT_TOPO_X) (by decide)]
    simp [topoSet]
  · rw [h12 (.fld .PRT_TOPO_Y) (by decide)]
    simp [topoSet]
  · rw [h12 (.fld .PRT_TOPO_P) (by decide)]
    simp [topoSet]
  · rw [h2 (.fld .PRT_TOPO_MODULE) (by decide), rget_rset_same]
    simp [moduleId, topoSet]
  · rw [h12 (.fld .PRT_TOPO_VALID) (by decide)]
    simp [topoSet]

end Topology

/-- Settles O42: lanes, link state and topology, part by part. -/
theorem portLinkResults : Obligations.PortLinkResults := by
  unfold Obligations.PortLinkResults
  intro p s q
  refine ⟨fun v => spareRecord_spares, fun v => spareRecord_removes, fun v => rfl, fun lane => laneFault_spares, fun v h => ?_, fun v => ⟨rfl, rfl, rfl⟩,
    fun cause => ⟨fun h => if_pos h, fun h => portDown_leaves h cause⟩, fun h hp => congrArg Host.Outcome.next (if_pos ⟨h, hp⟩), fun r h2 hp =>
    ⟨training_fails h2 hp, training_gives_up h2 hp, training_too_long h2 hp, fun hr hf =>
      ⟨trained p.val r s, training_succeeds h2 hp hr hf, trained_writes p.val r s⟩⟩, fun c => ⟨fun h => congrArg Host.Outcome.next (if_pos h), fun h hs => ?_⟩,
    fun who c h => mirrorResume_leaves h c s, fun who v h => admitOpen_leaves h v s, fun who v h => prtTopoWrite_leaves h v,
    fun who v c h hc hr => exec_prtTopoWrite_barred h v hc hr⟩
  · refine ⟨portMod p.val (fun x => { x with peerPort := fld v.toNat 0 3 })
      (rset .PRT_STATUS_PEER p.val 0 (fld v.toNat 38 10) (rset .PRT_STATUS_PEER_VALID p.val 0 1 s)), if_neg h, ?_, ?_, ?_⟩
    · exact rget_rset_same _ _ _ _ _
    · exact (rget_rset_field _ _ _ _ _ _ _ _ (by decide)).trans (rget_rset_same _ _ _ _ _)
    · rw [portGet_portMod_same]
      simp [fld]
  · refine ⟨_, congrArg Host.Outcome.next (if_neg (by simp [h])), mirrorSuspend_leaves hs 3⟩

end Sys2Proof.Machine

/-! PROOF. Register accesses and the debug registers of a worker (R2, R8, R10, R79, R80, R284, R288, R390). -/

namespace Sys2Proof.Machine

/-! ### Reads and writes of a row -/

theorem rset_flds (g : F) (i j v : Nat) (s : State) : rset g i j v s = { s with flds := (rset g i j v s).flds } := rfl

/-- A read that clears counters writes register fields alone. -/
theorem clearRc_flds (r : RegRow) (i k : Nat) (s : State) : clearRc r i k s = { s with flds := (clearRc r i k s).flds } := by
  unfold clearRc
  refine List.foldlRecOn (motive := fun t : State => t = { s with flds := t.flds }) _ _ rfl fun t ht x _ => ?_
  split
  · extract_lets u
    have hu : u = { s with flds := u.flds } := by rw [show u = { t with flds := u.flds } from rfl, ht]
    split
    · next o oi oj b _ => rw [rset_flds, hu]
    · exact hu
  · exact ht

section Rows

variable {who : Requester} {a : BitVec 64} {s : State} {r : RegRow} {i k off : Nat} (h : regHit s who a.toNat = .reg r i k off)
include h

theorem registerWrite_permitted {bytes : Nat} (v : BitVec 64) (hb : writeBarred who a.toNat = false) (ha : accessOk r off bytes = true)
    (hw : canWrite s who r i k = true) : exec (.registerWrite who a bytes v) s =
    .next (rowWrite who r i k (setFld (writable s r i k) (8 * off) (8 * bytes) v.toNat) (fld v.toNat 0 (8 * bytes) <<< (8 * off)) (off == 0) s) := by
  refine congrArg Host.Outcome.next ((if_neg (by simp [hb])).trans ?_)
  rw [h]
  exact if_pos (by simp [ha, hw])

theorem registerWrite_barred {bytes : Nat} (v : BitVec 64)
    (hb : writeBarred who a.toNat = true ∨ accessOk r off bytes = false ∨ canWrite s who r i k = false) :
    exec (.registerWrite who a bytes v) s = .next s := by
  refine congrArg Host.Outcome.next ?_
  unfold regWrite
  by_cases hw : writeBarred who a.toNat = true
  · exact if_pos hw
  · rw [if_neg hw, h]
    refine if_neg ?_
    rcases hb with hb | hb | hb
    · exact absurd hb hw
    · simp [hb]
    · simp [hb]

theorem regRead_row (bytes : Nat) : regRead who a.toNat bytes s =
    (some (regReadAt who a.toNat r i k off bytes s).1, (regReadAt who a.toNat r i k off bytes s).2) := by
  unfold regRead
  rw [h]

theorem rcCounterRead_answers {bytes : Nat} (ha : accessOk r off bytes = true) (hr : r.r ≠ .MSG_QPOP) (hb : bytes = 8 ∨ r.bits = 32) :
    exec (.rcCounterRead who a bytes) s =
    .next { (if canRead s who r i k then clearRc r i k s else s) with readData := regValue s who r i k } := by
  have hz : regReadAt who a.toNat r i k off bytes s = (regValue s who r i k, if canRead s who r i k then clearRc r i k s else s) :=
    (if_neg (by simp [ha])).trans ((if_neg (by simpa using hr)).trans (if_pos (by simpa using hb)))
  refine congrArg Host.Outcome.next ?_
  rw [regRead_row h, hz]
  rfl

theorem lowHalfRead_latches (ho : off = 0) (hb : r.bits = 64) (hr : r.r ≠ .MSG_QPOP) (hl : latches r = true) : ∃ t,
    exec (.lowHalfRead who a) s = .next t ∧ t.readData = regValue s who r i k % 2 ^ 32 ∧
    t.latch.head? = some (who, a.toNat, regValue s who r i k / 2 ^ 32) ∧ t.mem = s.mem := by
  subst ho
  let u := if canRead s who r i k then clearRc r i k s else s
  have hu : u.mem = s.mem := by
    unfold u
    split
    · rw [clearRc_flds]
    · rfl
  have hz : regReadAt who a.toNat r i k 0 4 s = (regValue s who r i k % 2 ^ 32,
      if latches r then { u with latch := (who, a.toNat, regValue s who r i k / 2 ^ 32) :: u.latch.filter fun e => !(e.1 == who && e.2.1 == a.toNat) }
      else u) :=
    (if_neg (by simp [accessOk])).trans ((if_neg (by simpa using hr)).trans ((if_neg (by simp [hb])).trans (if_pos rfl)))
  rw [if_pos hl] at hz
  refine ⟨_, congrArg Host.Outcome.next ((congrArg (readTo · 4) (regRead_row h 4)).trans (congrArg (fun z : Nat × State => readTo (some z.1, z.2) 4) hz)),
    rfl, rfl, hu⟩

end Rows

/-! ### Workers in FIELD_DEBUG -/

/-- What the check of a slot, and so a thread that wakes, touches. -/
def slotCheckParts : List Part := [.workers, .ctxs, .fld .WRK_EVT_COUNT, .fld .WRK_OVF_OVF, .fld .WRK_STATUS_STEP_FAILED, .fld .WRK_FAULT_CYCLE,
  .fld .WRK_FAULT_SLOT, .fld .WRK_FAULT_THREAD, .fld .WRK_FAULT_DETAIL, .fld .WRK_FAULT_CLASS] ++ raiseParts

namespace Touches

theorem slotCheck (wk t : Nat) (e : SlotEcc) (s : State) : Touches slotCheckParts s (Machine.slotCheck wk t e s) := by
  unfold Machine.slotCheck
  extract_lets w p r s1 s2
  split
  · exact refl _ _
  · exact (bump _ _ _ _ _ _).tail (wSet _ _ _).mono
  · exact (raise _ _ _).tail ((failComb _ _ _ _).tail ((wSet _ _ _).tail ((wrkFault _ _ _ _ _ _).tail (rset _ _ _ _ _).mono)))

theorem wake (wk t : Nat) (ok : Bool) (s : State) : Touches slotCheckParts s (Machine.wake wk t ok s) :=
  (slotCheck _ _ _ _).tail (wMod _ _ _).mono

theorem wakeAll (ws : List Waiter) (ok : Bool) (s : State) : Touches slotCheckParts s (Machine.wakeAll ws ok s) :=
  fold (fun _ _ => wake _ _ _ _) (refl _ _)

end Touches

theorem wkOf_div (x y w : Nat) (h : w < 32) : wkOf x y w / 32 = cbOf x y := by
  unfold wkOf
  omega

theorem wrkDbgHalt_leaves {who : Requester} {x : Fin 28} {y : Fin 24} {w : Fin 32} {v : BitVec 32} {s : State}
    (h : dbgReach s who (cbOf x.val y.val) = true) (hv : v.getLsbD 30 = false) : ∃ t,
    exec (.wrkDbgHalt who x y w v) s = .next t ∧ t = { s with flds := t.flds, ctxs := t.ctxs } ∧
    (∀ c, dbgHalted s (wkOf x.val y.val w.val) = true → ctxOfComb s (cbOf x.val y.val) = some c → (ctxGet t c).lapsed = true) ∧
    rget t .WRK_DBG_HALT (wkOf x.val y.val w.val) = fld v.toNat 31 1 ∧ rget t .WRK_DBG_THREAD (wkOf x.val y.val w.val) = fld v.toNat 23 7 ∧
    rget t .WRK_DBG_BREAK (wkOf x.val y.val w.val) = fld v.toNat 14 9 ∧ rget t .WRK_DBG_BREAK_EN (wkOf x.val y.val w.val) = fld v.toNat 13 1 := by
  have hb : bit v.toNat 30 = false := (bit_toNat v 30).trans hv
  have hc := wkOf_div x.val y.val w.val w.isLt
  refine ⟨_, congrArg Host.Outcome.next ((if_pos h).trans (if_neg (by simp [hb]))), ?_, fun c hd hcc => ?_, ?_, ?_, ?_, ?_⟩
  · cases dbgHalted s (wkOf x.val y.val w.val) <;> cases ctxOfComb s (wkOf x.val y.val w.val / 32) <;> rfl
  · rw [hd, hc, hcc]
    simp
  all_goals simp

theorem wrkDbgStep_fires {who : Requester} {f : Fire} {c t : Nat} {s : State} (h : dbgReach s who (fireWk f / 32) = true)
    (hp : (wGet s (fireWk f)).act.present = true) (hs : (wGet s (fireWk f)).stopped = false) (hh : rget s .WRK_DBG_HALT (fireWk f) = 1)
    (hc : ctxOfComb s (fireWk f / 32) = some c) (hst : stepping s c = true) (hk : pick s (fireWk f) (wGet s (fireWk f)) = some t) :
    exec (.wrkDbgStep who f) s = .next (doFire (fireWk f) t f s) := by
  refine congrArg Host.Outcome.next ((if_pos h).trans ?_)
  simp only [dbgStep, hc]
  rw [if_pos (by simp [hp, hs, hh, hst]), hk]

theorem synObjWrite_settles {who : Requester} {x : Fin 28} {y : Fin 24} {n : Fin 4096} {v : BitVec 32} {s : State} (hw : isPf who = true)
    (h : dbgReach s who (cbOf x.val y.val) = true) (ho : (objGet s (cbOf x.val y.val) n.val).ty = 0) : ∃ t, exec (.synObjWrite who x y n v) s = .next t ∧
    (objGet t (cbOf x.val y.val) n.val).value = v.toNat ∧
    (∀ w ∈ (objGet t (cbOf x.val y.val) n.val).waiters, counterOk v.toNat w.threshold = false) ∧
    rget t .SYN_EVT_COUNT (cbOf x.val y.val) 3 = min 0xFFFFFFFF (rget s .SYN_EVT_COUNT (cbOf x.val y.val) 3 + 1) ∧ t.mem = s.mem := by
  refine ⟨_, congrArg Host.Outcome.next (if_pos (by simp [hw, h])), ?_⟩
  unfold objWrite
  extract_lets o q
  have hv : v.toNat % 2 ^ 32 = v.toNat := Nat.mod_eq_of_lt v.isLt
  have hq : q.2 = { o with value := v.toNat, waiters := o.waiters.filter (fun w => !counterOk v.toNat w.threshold) } := by
    simp only [q, settle, show o.ty = 0 from ho, hv, Nat.reduceEqDiff, if_false]
  have hb := Touches.bump .SYN_EVT_COUNT .SYN_OVF_OVF (cbOf x.val y.val) 3 1 (objSet (cbOf x.val y.val) n.val q.2 s)
  have hk := Touches.wakeAll q.1 true (bump .SYN_EVT_COUNT .SYN_OVF_OVF (cbOf x.val y.val) 3 1 (objSet (cbOf x.val y.val) n.val q.2 s))
  have hobj : objGet (wakeAll q.1 true (bump .SYN_EVT_COUNT .SYN_OVF_OVF (cbOf x.val y.val) 3 1 (objSet (cbOf x.val y.val) n.val q.2 s)))
      (cbOf x.val y.val) n.val = q.2 :=
    (congrArg (tget obj0 · _) ((hb.comp hk) .objs (by decide))).trans (objGet_objSet_same _ _ _ _)
  refine ⟨?_, fun w hw => ?_, ?_, (hb.comp hk) .mem (by decide)⟩
  · rw [hobj, hq]
  · rw [hobj, hq] at hw
    simpa using (List.mem_filter.mp hw).2
  · rw [hk (.fld .SYN_EVT_COUNT) (by decide), rget_bump _ _ _ _ _ _ (by decide)]
    rfl

theorem msgQpopRead_pops {who : Requester} {x : Fin 28} {y : Fin 24} {w : Fin 32} {q : Fin 8} {e : QEntry} {rest : List QEntry} {s : State}
    (hd : fieldDebug s = true) (hp : isPf who = true) (hv : viaBar0 who = false) (ha : absentComb s (cbOf x.val y.val) = false)
    (hq : (wGet s (wkOf x.val y.val w.val)).queues.getD q.val [] = e :: rest) :
    ∃ u, exec (.msgQpopRead who x y w q) s = .next { creditBack (wkOf x.val y.val w.val) e u with readData := (wordAt e.words 0).toNat } ∧
      rget u .MSG_QSTAT_POPVALID (wkOf x.val y.val w.val) q.val = 1 ∧ rget u .MSG_QSTAT_POPLEN (wkOf x.val y.val w.val) q.val = e.words.length - 1 ∧
      rget u .MSG_QW1_WORD (wkOf x.val y.val w.val) q.val = (wordAt e.words 1).toNat ∧
      (wGet u (wkOf x.val y.val w.val)).queues.getD q.val [] = rest := by
  have hl : q.val < (wGet s (wkOf x.val y.val w.val)).queues.length := by
    by_contra hn
    rw [List.getD_eq_default _ _ (Nat.not_lt.mp hn)] at hq
    exact absurd hq (by simp)
  have hx : exec (.msgQpopRead who x y w q) s = .next { (qpop (wkOf x.val y.val w.val) q.val s).2 with
      readData := (qpop (wkOf x.val y.val w.val) q.val s).1 } := congrArg Host.Outcome.next (if_pos (by simp [hd, hp, hv, ha]))
  unfold qpop at hx
  rw [hq] at hx
  refine ⟨_, hx, ?_, ?_, ?_, ?_⟩
  · simp
  · simp
  · simp
  · simp [wMod, hl]

/-- Settles O43: the rows read and written, then the debug registers of a worker. -/
theorem registerAccessResults : Obligations.RegisterAccessResults := by
  unfold Obligations.RegisterAccessResults
  refine ⟨fun who a s r i k off h => ⟨fun bytes v => registerWrite_permitted h v, fun bytes v => registerWrite_barred h v,
    fun bytes => rcCounterRead_answers h, lowHalfRead_latches h⟩, fun who s => ⟨fun x y w v => wrkDbgHalt_leaves, fun f c t => wrkDbgStep_fires,
    fun x y n v => synObjWrite_settles, fun x y w q e rest => msgQpopRead_pops⟩⟩

end Sys2Proof.Machine

/-! PROOF. The hive window (R305, R385, R391, R392, R405). -/

namespace Sys2Proof.Machine

/-- A record raised changes the record buffers, or counts itself lost. -/
theorem raise_flds (u : Nat) (r : FaultRec) (s : State) :
    raise u r s = { s with flds := (raise u r s).flds, faultBuf := (raise u r s).faultBuf } := by
  unfold raise
  dsimp only
  split
  · unfold bump
    extract_lets v
    split <;> rfl
  · rfl

/-- What a block read with its mark touches. -/
def poisonParts : List Part := [.poison, .ctxs, .fld .EAV_EVT_COUNT, .fld .EAV_OVF_OVF, .fld .EAV_POISON_VALID, .fld .EAV_POISON_CTX,
  .fld .EAV_POISON_BLOCK, .fld .EAV_POISON_GROUP, .fld .EAV_POISON_CHANNEL, .fld .TND_EVT_COUNT, .fld .TND_OVF_OVF] ++ raiseParts

/-- What a block that is checked again touches. -/
def checkParts : List Part := poisonParts ++ [.fld .MEM_CHERR_COUNT, .fld .MEM_CHSTAT_ERR_OVF, .fld .CTX_STEPSTAT_SLIP, .fld .CTX_EVT_COUNT, .fld .CTX_OVF_OVF]

namespace Touches

theorem set_poison (s : State) (x) : Touches [.poison] s { s with poison := x } := by
  intro q hq
  cases q <;> simp_all [Part.same, rget]

theorem poisonBlock (ch group block : Nat) (s : State) : Touches poisonParts s (Machine.poisonBlock ch group block s) := by
  unfold Machine.poisonBlock
  extract_lets seg c k s1 s2 s3 s4
  have h2 : Touches poisonParts s s2 := (bump _ _ _ _ _ _).tail (set_poison _ _).mono
  have h3 : Touches poisonParts s s3 := ite h2 ((rset _ _ _ _ _).tail ((rset _ _ _ _ _).tail ((rset _ _ _ _ _).tail ((rset _ _ _ _ _).tail
    ((rset _ _ _ _ _).tail h2)))))
  have h4 : Touches poisonParts s s4 := by
    unfold s4
    cases c with
    | none => exact h3
    | some c => exact (ctxMod _ _ _).tail h3
  exact (raise _ _ _).tail h4

theorem poisonSeen (cb off : Nat) (s : State) : Touches poisonParts s (Machine.poisonSeen cb off s) := by
  unfold Machine.poisonSeen
  refine ite ?_ (refl _ _)
  extract_lets s1 s2
  have h1 : Touches poisonParts s s1 := (bump _ _ _ _ _ _).mono
  have h2 : Touches poisonParts s s2 := by
    unfold s2
    split
    · exact (ctxMod _ _ _).tail h1
    · exact h1
  exact (raise _ _ _).tail h2

theorem poisonReads (who : Option Nat) (a k : Nat) (s : State) : Touches poisonParts s (Machine.poisonReads who a k s) := by
  refine fold (fun t b => ?_) (refl _ _)
  split
  · exact ite (poisonBlock _ _ _ _) (refl _ _)
  · exact poisonSeen _ _ _
  · exact refl _ _

theorem chErr (ch n : Nat) (s : State) : Touches [.fld .MEM_CHERR_COUNT, .fld .MEM_CHSTAT_ERR_OVF] s (Machine.chErr ch n s) := by
  unfold Machine.chErr
  exact ite (rset _ _ _ _ _).mono ((rset _ _ _ _ _).tail (rset _ _ _ _ _).mono)

theorem markBlock (cb off : Nat) (s : State) : Touches poisonParts s (Machine.markBlock cb off s) := (set_poison _ _).mono

theorem chargeComb (cb n : Nat) (s : State) : Touches [.ctxs, .fld .CTX_STEPSTAT_SLIP, .fld .CTX_EVT_COUNT, .fld .CTX_OVF_OVF] s
    (Machine.chargeComb cb n s) := by
  unfold Machine.chargeComb
  split
  · exact ite (charge _ _ _) (refl _ _)
  · exact refl _ _

theorem checkEave (p : Nat × Nat) (v : BlockCrc) (s : State) : Touches checkParts s (Machine.checkEave p v s) := by
  unfold Machine.checkEave
  refine ite (refl _ _) ?_
  cases v with
  | good => exact refl _ _
  | reread _ => exact (chErr _ _ _).mono
  | failed _ => exact (poisonBlock _ _ _ _).tail (chErr _ _ _).mono

theorem rereadBlock (cb off : Nat) (v : BlockCrc) (s : State) : Touches checkParts s (Machine.rereadBlock cb off v s) := by
  unfold Machine.rereadBlock
  refine ite (refl _ _) ?_
  cases v with
  | good => exact refl _ _
  | reread _ => exact (bump _ _ _ _ _ _).tail (chargeComb _ _ _).mono
  | failed _ => exact (markBlock _ _ _).tail (chargeComb _ _ _).mono

theorem checkRead (who : Option Nat) (a k : Nat) (crc : List BlockCrc) (s : State) : Touches checkParts s (Machine.checkRead who a k crc s) := by
  refine fold (fun t b => ?_) (refl _ _)
  split
  · exact checkEave _ _ _
  · exact checkEave _ _ _
  · exact rereadBlock _ _ _ _
  · exact refl _ _

end Touches

/-- Whom a requester acts for does not change where the bindings do not. -/
theorem actsFor_touches {l : List Part} {s t : State} (h : Touches l s t) (hb : .fld .HST_STATUS_BOUND ∉ l) (hc : .fld .HST_STATUS_CTX ∉ l)
    (who : Requester) : actsFor t who = actsFor s who := by
  have h1 (i : Nat) : rget t .HST_STATUS_BOUND i = rget s .HST_STATUS_BOUND i := h (.fld .HST_STATUS_BOUND) hb i 0
  have h2 (i : Nat) : rget t .HST_STATUS_CTX i = rget s .HST_STATUS_CTX i := h (.fld .HST_STATUS_CTX) hc i 0
  cases who <;> simp [actsFor, h1, h2]

section Window

variable {f : Fin 16} {off : BitVec 36} {s : State} {data : List Byte} (hd : (hostGet s f.val).d3 = false)
include hd

theorem hiveWindowRead_memory {bytes : Nat} {crc : List BlockCrc}
    (hf : windowFault s (funcReq f) (windowAddr s f.val off.toNat) bytes false = false) (ha : fld (windowAddr s f.val off.toNat) 60 4 < 3) :
    let act := actsFor s (funcReq f)
    let a := windowAddr s f.val off.toNat
    let u := checkRead act a bytes crc s
    exec (.hiveWindowRead f off ⟨bytes, crc⟩) s = .next { poisonReads act a bytes u with readData := ofLe (locRead u act a bytes) } ∧
    (poisonReads act a bytes u).mem = s.mem := by
  intro act a u
  have hu : Touches checkParts s u := Touches.checkRead _ _ _ _ _
  have hp : Touches poisonParts u (poisonReads act a bytes u) := Touches.poisonReads _ _ _ _
  have hw : actsFor u (funcReq f) = act := actsFor_touches hu (by decide) (by decide) _
  have hx : exec (.hiveWindowRead f off ⟨bytes, crc⟩) s =
      .next { poisonReads (actsFor u (funcReq f)) a bytes u with readData := ofLe (locRead u (actsFor u (funcReq f)) a bytes) } :=
    (if_neg (by simp [hd])).trans ((if_neg (by simp [hf])).trans (if_neg (Nat.not_le.mpr ha)))
  rw [hw] at hx
  exact ⟨hx, (hu.comp hp) .mem (by decide)⟩

theorem hiveWindowRead_register {bytes : Nat} {crc : List BlockCrc}
    (hf : windowFault s (funcReq f) (windowAddr s f.val off.toNat) bytes false = false) (ha : 3 ≤ fld (windowAddr s f.val off.toNat) 60 4) :
    exec (.hiveWindowRead f off ⟨bytes, crc⟩) s = .next (readTo (regRead (funcReq f) (windowAddr s f.val off.toNat) bytes s) bytes) :=
  (if_neg (by simp [hd])).trans ((if_neg (by simp [hf])).trans (if_pos ha))

theorem exec_hiveWindowRead_fault {bytes : Nat} {crc : List BlockCrc}
    (hf : windowFault s (funcReq f) (windowAddr s f.val off.toNat) bytes false = true) :
    exec (.hiveWindowRead f off ⟨bytes, crc⟩) s =
    .next { windowFaulted f.val (windowAddr s f.val off.toNat) false s with readData := 2 ^ (8 * bytes) - 1 } :=
  (if_neg (by simp [hd])).trans (if_pos hf)

theorem hiveWindowWrite_memory (hf : windowFault s (funcReq f) (windowAddr s f.val off.toNat) data.length true = false)
    (ha : fld (windowAddr s f.val off.toNat) 60 4 < 3) : exec (.hiveWindowWrite f off data .good) s =
    .next (locWrite (actsFor s (funcReq f)) (windowAddr s f.val off.toNat) data s) :=
  (if_neg (by simp [hd])).trans ((if_neg (by simp [hf])).trans (if_neg (Nat.not_le.mpr ha)))

theorem hiveWindowWrite_inbox {g o : Nat} (hf : windowFault s (funcReq f) (windowAddr s f.val off.toNat) data.length true = false)
    (ha : 3 ≤ fld (windowAddr s f.val off.toNat) 60 4) (hi : regHit s (funcReq f) (windowAddr s f.val off.toNat) = .inbox g o) :
    exec (.hiveWindowWrite f off data .good) s = .next (inboxWrite g o data s) := by
  refine (if_neg (by simp [hd])).trans ((if_neg (by simp [hf])).trans ((if_pos ha).trans ?_))
  rw [hi]

theorem hiveWindowWrite_register (hf : windowFault s (funcReq f) (windowAddr s f.val off.toNat) data.length true = false)
    (ha : 3 ≤ fld (windowAddr s f.val off.toNat) 60 4) (hi : ∀ g o, regHit s (funcReq f) (windowAddr s f.val off.toNat) ≠ .inbox g o) :
    exec (.hiveWindowWrite f off data .good) s = .next (regWrite (funcReq f) (windowAddr s f.val off.toNat) data.length (ofLe data) s) := by
  refine (if_neg (by simp [hd])).trans ((if_neg (by simp [hf])).trans ((if_pos ha).trans ?_))
  cases hr : regHit s (funcReq f) (windowAddr s f.val off.toNat) with
  | inbox g o => exact absurd hr (hi g o)
  | _ => rfl

theorem exec_hiveWindowWrite_fault (hf : windowFault s (funcReq f) (windowAddr s f.val off.toNat) data.length true = true) :
    exec (.hiveWindowWrite f off data .good) s = .next (windowFaulted f.val (windowAddr s f.val off.toNat) true s) :=
  (if_neg (by simp [hd])).trans (if_pos hf)

theorem hiveWindowWrite_poisoned {tlp : Tlp} (ht : tlp ∈ [Tlp.poisoned, .poisonedBar0]) : ∃ t, exec (.hiveWindowWrite f off data tlp) s = .next t ∧
    t = { s with flds := t.flds, faultBuf := t.faultBuf } := by
  rcases List.mem_pair.mp ht with rfl | rfl
  · exact ⟨_, if_neg (by simp [hd]), raise_flds _ _ _⟩
  · exact ⟨_, if_neg (by simp [hd]), raise_flds _ _ _⟩

end Window

/-- A faulting access is counted, and latched where no fault stands latched. -/
theorem windowFaulted_latches (f a : Nat) (write : Bool) (s : State) : let t := windowFaulted f a write s
    rget t .HST_EVT_COUNT f 2 = min 0xFFFFFFFF (rget s .HST_EVT_COUNT f 2 + 1) ∧ rget t .HST_AFINFO_VALID f = 1 ∧ t.mem = s.mem ∧
    (rget s .HST_AFINFO_VALID f ≠ 1 → rget t .HST_AFAULT_ADDR f = a ∧ rget t .HST_AFINFO_DIR f = b2n write) := by
  unfold windowFaulted
  extract_lets s1 s2 t
  have ht : Touches raiseParts s2 t := Touches.raise _ _ _
  have h1 : Touches [.fld .HST_EVT_COUNT, .fld .HST_OVF_OVF] s s1 := Touches.bump _ _ _ _ _ _
  have h2 : Touches [.fld .HST_AFINFO_VALID, .fld .HST_AFINFO_DIR, .fld .HST_AFAULT_ADDR] s1 s2 :=
    Touches.ite (Touches.refl _ _) ((Touches.rset _ _ _ _ _).tail ((Touches.rset _ _ _ _ _).tail (Touches.rset _ _ _ _ _).mono))
  have hv : rget s1 .HST_AFINFO_VALID f = rget s .HST_AFINFO_VALID f := h1 (.fld .HST_AFINFO_VALID) (by decide) _ _
  refine ⟨?_, ?_, ((h1.comp h2).comp ht) .mem (by decide), fun hn => ⟨?_, ?_⟩⟩
  · rw [(h2.comp ht) (.fld .HST_EVT_COUNT) (by decide)]
    exact rget_bump _ _ _ _ _ _ (by decide)
  · rw [ht (.fld .HST_AFINFO_VALID) (by decide)]
    by_cases h : rget s1 .HST_AFINFO_VALID f = 1
    · simp [s2, h]
    · simp [s2, h]
  · rw [ht (.fld .HST_AFAULT_ADDR) (by decide), show s2 = _ from if_neg (hv.trans_ne hn)]
    simp
  · rw [ht (.fld .HST_AFINFO_DIR) (by decide), show s2 = _ from if_neg (hv.trans_ne hn)]
    simp

/-- Settles O44: reads, then writes, by what the address hits. -/
theorem hiveWindowResults : Obligations.HiveWindowResults := by
  unfold Obligations.HiveWindowResults
  intro f off s who act a
  refine ⟨fun h bytes crc data tlp => ⟨if_pos h, if_pos h⟩, fun hd => ⟨fun bytes crc => hiveWindowRead_memory hd, fun bytes crc => hiveWindowRead_register hd,
    fun bytes crc hf => ?_, fun data => hiveWindowWrite_memory hd, fun data => hiveWindowWrite_register hd, fun data g o => hiveWindowWrite_inbox hd,
    fun data hf => ?_, fun data tlp => hiveWindowWrite_poisoned hd⟩⟩
  · obtain ⟨hc, hv, hm, hl⟩ := windowFaulted_latches f.val a false s
    exact ⟨_, exec_hiveWindowRead_fault hd hf, rfl, hc, hv, hm, fun hn => (hl hn).1⟩
  · obtain ⟨_, hv, hm, hl⟩ := windowFaulted_latches f.val a true s
    exact ⟨_, exec_hiveWindowWrite_fault hd hf, hm, hv, fun hn => (hl hn).2⟩

end Sys2Proof.Machine

/-! PROOF. DMA: descriptors and controls (R250, R291, R295 to R304). -/

namespace Sys2Proof.Machine

@[simp] theorem dmGet_dmMod_same (n : Nat) (f : DmaCh → DmaCh) (s : State) : dmGet (dmMod n f s) n = f (dmGet s n) := tget_tset_same _ _ _ _

/-- A channel is the same where the channels were not touched. -/
theorem dmGet_touches {l : List Part} {s t : State} (h : Touches l s t) (hl : .dmas ∉ l) (n : Nat) : dmGet t n = dmGet s n :=
  congrArg (tget dma0 · n) (h .dmas hl)

/-! ### Descriptors -/

/-- The descriptor that a channel is about to run: one of its presets, or the bytes fetched. -/
def fetched (n : Nat) (s : State) : Option (List Byte) :=
  match (dmGet s n).presetAt with
  | some i => some ((dmGet s n).last.getD ((dmGet s n).presets.getD i []))
  | none =>
    if rget s .DMA_CUR_ADDR n % 64 = 0 ∧ dmaFault (rset .DMA_DONE_BYTES n 0 0 s) (dmaCtx s n) false (rget s .DMA_CUR_ADDR n) 64 = none ∧
        locPoisoned (rset .DMA_DONE_BYTES n 0 0 s) (dmaCtx s n) (rget s .DMA_CUR_ADDR n) 64 = false then
      some (locRead (rset .DMA_DONE_BYTES n 0 0 s) (dmaCtx s n) (rget s .DMA_CUR_ADDR n) 64) else none

section Start

variable {c : Fin 80} {s : State} (h1 : rget s .DMA_STATUS_STATE c.val = 1) (hr : (dmGet s c.val).record = none)
include h1 hr

theorem descriptorStart_goes_on (hf : (dmGet s c.val).fetch = false) : exec (.descriptorStart c) s = .next (dmaPump c.val s) :=
  (if_neg (by simp [h1, hr])).trans (if_pos (by simp [hf]))

/-- A channel that fetches: what it does with what it gets. -/
theorem exec_descriptorStart (hf : (dmGet s c.val).fetch = true) : exec (.descriptorStart c) s =
    match fetched c.val s with
    | none => .next (dmaHalt c.val 9 0 (rget s .DMA_CUR_ADDR c.val) 0 true
        (dmMod c.val (fun x => { x with desc := [], sent := 0 }) (rset .DMA_DONE_BYTES c.val 0 0 s)))
    | some d =>
      match dCheck (dmMod c.val (fun x => { x with desc := d, sent := 0, opened := [], out := [] }) (rset .DMA_DONE_BYTES c.val 0 0 s)) c.val
        (rget s .DMA_CUR_ADDR c.val) d with
      | some (cause, dir, at') => .next (dmaHalt c.val cause dir at' 0 true
          (dmMod c.val (fun x => { x with desc := d, sent := 0, opened := [], out := [] }) (rset .DMA_DONE_BYTES c.val 0 0 s)))
      | none => .next (dmaPump c.val (dmMod c.val (fun x => { x with fetch := false })
          (dmMod c.val (fun x => { x with desc := d, sent := 0, opened := [], out := [] }) (rset .DMA_DONE_BYTES c.val 0 0 s)))) := by
  refine (if_neg (by simp [h1, hr])).trans ((if_neg (by simp [hf])).trans ?_)
  unfold fetched
  cases (dmGet s c.val).presetAt with
  | some i => rfl
  | none =>
    simp only [Option.isNone_iff_eq_none, Bool.not_eq_eq_eq_not, Bool.not_true] <;> rfl

theorem descriptorStart_halts (hf : (dmGet s c.val).fetch = true) (hg : fetched c.val s = none) : exec (.descriptorStart c) s =
    .next (dmaHalt c.val 9 0 (rget s .DMA_CUR_ADDR c.val) 0 true
      (dmMod c.val (fun x => { x with desc := [], sent := 0 }) (rset .DMA_DONE_BYTES c.val 0 0 s))) := by
  rw [exec_descriptorStart h1 hr hf, hg]

theorem descriptorStart_checks (hf : (dmGet s c.val).fetch = true) {d : List Byte} (hg : fetched c.val s = some d) :
    let v := dmMod c.val (fun x => { x with desc := d, sent := 0, opened := [], out := [] }) (rset .DMA_DONE_BYTES c.val 0 0 s)
    (dCheck v c.val (rget s .DMA_CUR_ADDR c.val) d = none →
      exec (.descriptorStart c) s = .next (dmaPump c.val (dmMod c.val (fun x => { x with fetch := false }) v))) ∧
    (∀ cause dir at', dCheck v c.val (rget s .DMA_CUR_ADDR c.val) d = some (cause, dir, at') →
      exec (.descriptorStart c) s = .next (dmaHalt c.val cause dir at' 0 true v)) := by
  rw [exec_descriptorStart h1 hr hf, hg]
  refine ⟨fun hd => ?_, fun cause dir at' hd => ?_⟩
  · simp only [hd]
  · simp only [hd]

end Start

theorem descriptorComplete_reports {c : Fin 80} {s : State} (h1 : rget s .DMA_STATUS_STATE c.val = 1) (hf : (dmGet s c.val).fetch = false)
    (hr : (dmGet s c.val).record = none) (hd : rget s .DMA_DONE_BYTES c.val = dLen (dmGet s c.val).desc) : exec (.descriptorComplete c) s =
    .next (if dNotify (dmGet s c.val).desc then dmaReport c.val 0 s else dmaAfter c.val 0 s) :=
  if_pos ⟨h1, by simp [hf], by simp [hr], hd⟩

/-- A report goes out where the completion queue has room, or waits in the channel. -/
theorem dmaReport_placed {n : Nat} {s : State} (h : dmaPlace s (dmaFunc s n) = true) (status : Nat) :
    dmaReport n status s = dmaAfter n status (post (dmaFunc s n) (dmaRecord s n status) s) := if_pos h

theorem dmaReport_held {n : Nat} {s : State} (h : dmaPlace s (dmaFunc s n) = false) (status : Nat) :
    dmaReport n status s = dmMod n (fun x => { x with record := some (dmaRecord s n status) }) s := if_neg (by simp [h])

/-! ### Halts -/

section Halt

variable (n cause dir a limit : Nat) (chk : Bool) (s : State)

/-- A halt's registers, before the transfers past the limit are given up. -/
def halting : State :=
  rset .DMA_FAIL_ADDR n 0 a (rset .DMA_FINFO_CAUSE n 0 cause (rset .DMA_FINFO_DIR n 0 dir (rset .DMA_FINFO_VALID n 0 1
    (rset .DMA_STATUS_STATE n 0 3 (rset .DMA_STATUS_STOP_PEND n 0 0 (rset .DMA_STATUS_CAUSE n 0 cause s))))))

/-- The channel after a halt has given up the bytes past its limit. -/
def halted : State := bump .DMA_EVT_COUNT .DMA_OVF_OVF n 1 1 (dmaDiscard n (min limit (dmGet s n).sent) (halting n cause dir a s))

theorem dmaDiscard_channel (m : Nat) : dmGet (dmaDiscard n m s) n = { dmGet s n with
    out := ((dmGet s n).out.filter fun o => decide (o.off < m)).map (fun o => { o with bytes := min o.bytes (m - o.off) }), opened := [], sent := m } :=
  tget_tset_same _ _ _ _

theorem halted_channel : dmGet (halted n cause dir a limit s) n = dmGet (dmaDiscard n (min limit (dmGet s n).sent) (halting n cause dir a s)) n :=
  dmGet_touches (Touches.bump _ _ _ _ _ _) (by decide) _

theorem dmaHalt_leaves :
    let t := dmaHalt n cause dir a limit chk s
    rget t .DMA_STATUS_STATE n = 3 ∧ rget t .DMA_STATUS_CAUSE n = cause ∧ rget t .DMA_FAIL_ADDR n = a ∧ rget t .DMA_FINFO_DIR n = dir ∧
    rget t .DMA_DONE_BYTES n = min limit (dmGet s n).sent - dmaBusy t n ∧ (∀ o ∈ (dmGet t n).out, o.off < limit) ∧
    (dmGet t n).sent = min limit (dmGet s n).sent ∧ t.mem = s.mem ∧ rget t .DMA_FINFO_VALID n = 1 := by
  intro t
  let v := halted n cause dir a limit s
  let w := rset .DMA_DONE_BYTES n 0 (min limit (dmGet s n).sent - dmaBusy v n) v
  have h0 : Touches [.flight, .tx, .dmas, .fld .DMA_EVT_COUNT, .fld .DMA_OVF_OVF] (halting n cause dir a s) v :=
    (Touches.bump _ _ _ _ _ _).tail (Touches.dmaDiscard _ _ _).mono
  have h1 : Touches (.dmas :: raiseParts) w t := (Touches.dmMod _ _ _).tail (Touches.raise _ _ _).mono
  have hw : Touches [.fld .DMA_DONE_BYTES] v w := Touches.rset _ _ _ _ _
  have ht := (h0.comp hw).comp h1
  have hg : dmGet t n = { dmGet v n with checkFail := chk, fetch := false } := by
    have hr (k : Nat) (r : FaultRec) : dmGet (raise k r w) n = dmGet w n := dmGet_touches (Touches.raise _ _ _) (by decide) _
    exact (dmGet_dmMod_same _ _ _).trans (congrArg (fun x : DmaCh => { x with checkFail := chk, fetch := false })
      ((hr _ _).trans (dmGet_touches hw (by decide) _)))
  have hv : dmGet v n = _ := (halted_channel n cause dir a limit s).trans (dmaDiscard_channel n _ _)
  have hb : dmaBusy t n = dmaBusy v n := by
    unfold dmaBusy
    rw [hg]
  have hm : (halting n cause dir a s).mem = s.mem := rfl
  refine ⟨?_, ?_, ?_, ?_, ?_, fun o ho => ?_, ?_, (ht .mem (by decide)).trans hm, ?_⟩
  · rw [ht (.fld .DMA_STATUS_STATE) (by decide)]
    simp [halting]
  · rw [ht (.fld .DMA_STATUS_CAUSE) (by decide)]
    simp [halting]
  · rw [ht (.fld .DMA_FAIL_ADDR) (by decide)]
    simp [halting]
  · rw [ht (.fld .DMA_FINFO_DIR) (by decide)]
    simp [halting]
  · rw [h1 (.fld .DMA_DONE_BYTES) (by decide), hb]
    exact rget_rset_same _ _ _ _ _
  · rw [hg, hv] at ho
    obtain ⟨p, hp, rfl⟩ := List.mem_map.mp ho
    have hlt : p.off < min limit (dmGet s n).sent := by simpa using (List.mem_filter.mp hp).2
    exact lt_of_lt_of_le hlt (Nat.min_le_left _ _)
  · rw [hg, hv]
  · rw [ht (.fld .DMA_FINFO_VALID) (by decide)]
    simp [halting]

end Halt

theorem dmaTransferError_halts {c : Fin 80} {cause : DmaErr} {done : Nat} {s : State} (h1 : rget s .DMA_STATUS_STATE c.val = 1)
    (hf : (dmGet s c.val).fetch = false) (hr : (dmGet s c.val).record = none) (hlo : 0x10 ≤ cause.toNat) (hhi : cause.toNat ≤ 0x14)
    (hd : done < dLen (dmGet s c.val).desc) :
    let who := dmaCtx s c.val
    let src := dSrc (dmGet s c.val).desc + done
    let u := if cause.toNat = 0x12 then poisonReads who src 1 (checkRead who src 1 [.failed 0] s) else s
    (cause.toNat = 0x12 → locPoisoned u who src 1 = true) → ∃ t, exec (.dmaTransferError c cause done) s = .next t ∧
      t = dmaError c.val cause.toNat (if cause.toNat = 0x10 ∨ cause.toNat = 0x12 then 1 else 2) done u ∧ rget t .DMA_STATUS_STATE c.val = 3 ∧
      rget t .DMA_STATUS_CAUSE c.val = cause.toNat ∧ rget t .DMA_FINFO_VALID c.val = 1 ∧ t.mem = s.mem := by
  intro who src u hp
  have hum : u.mem = s.mem := by
    unfold u
    split
    · exact ((Touches.checkRead _ _ _ _ _).comp (Touches.poisonReads _ _ _ _)) .mem (by decide)
    · rfl
  have hthere : (cause.toNat != 0x12 || locPoisoned u who src 1) = true := by
    by_cases hk : cause.toNat = 0x12
    · simp [hp hk]
    · simp [hk]
  obtain ⟨hst, hca, -, -, -, -, -, hm, hv⟩ := dmaHalt_leaves c.val cause.toNat (if cause.toNat = 0x10 ∨ cause.toNat = 0x12 then 1 else 2)
    ((if (if cause.toNat = 0x10 ∨ cause.toNat = 0x12 then 1 else 2) = 1 then dSrc (dmGet u c.val).desc else dDst (dmGet u c.val).desc) + done)
    (if dMode (dmGet u c.val).desc = 0 then done else done / dChunk (dmGet u c.val).desc * dChunk (dmGet u c.val).desc) false u
  exact ⟨_, if_pos ⟨h1, by simp [hf], by simp [hr], hlo, hhi, hd, hthere⟩, rfl, hst, hca, hv, hm.trans hum⟩

/-- Settles O45: descriptors from their fetch to their completion or halt. -/
theorem descriptorResults : Obligations.DescriptorResults := by
  unfold Obligations.DescriptorResults
  refine ⟨fun c s => ?_, fun c s => ?_, fun c cause done s => ?_,
    fun n cause dir a limit chk s => ?_⟩
  · intro n a who x u got h1 hr
    have hgot : got = fetched n s := by
      unfold got fetched
      cases x.presetAt <;> rfl
    rw [hgot]
    exact ⟨descriptorStart_goes_on h1 hr, descriptorStart_halts h1 hr, fun d hf hg => descriptorStart_checks h1 hr hf hg⟩
  · intro n x h1 hf hr hd
    rw [descriptorComplete_reports h1 hf hr hd]
    refine ⟨fun hn => ?_, fun hn hp => ?_, fun hn hp => ?_⟩
    · rw [if_neg (by simp [x, n] at hn; simp [hn])]
    · rw [if_pos hn, dmaReport_placed hp]
    · rw [if_pos hn, dmaReport_held hp]
  · intro n x who src u h1 hf hr hlo hhi hd
    exact dmaTransferError_halts h1 hf hr hlo hhi hd
  · obtain ⟨hst, hca, hfa, hdir, hdb, hout, hsent, hm, -⟩ := dmaHalt_leaves n cause dir a limit chk s
    exact ⟨hst, hca, hfa, hdir, hdb, hout, hsent, hm⟩

/-! ### Controls -/

section Controls

variable {who : Requester} {c : Fin 80} {s : State} (h : dmaOwned s who c.val = true)
include h

theorem exec_go : exec (.go who c) s = .next (dmaGo c.val s) := congrArg Host.Outcome.next (if_pos h)
theorem exec_stop : exec (.stop who c) s = .next (dmaStop c.val s) := congrArg Host.Outcome.next (if_pos h)
theorem exec_resume : exec (.resume who c) s = .next (dmaResume c.val s) := congrArg Host.Outcome.next (if_pos h)
theorem exec_skip : exec (.skip who c) s = .next (dmaSkip c.val s) := congrArg Host.Outcome.next (if_pos h)
theorem exec_abort : exec (.abort who c) s = .next (dmaAbort c.val s) := congrArg Host.Outcome.next (if_pos h)

theorem exec_preset_free (hr : dRidge ((dmGet s c.val).presets.headD []) = false) : exec (.preset who c) s = .next (dmaStartPresets c.val s) :=
  congrArg Host.Outcome.next (if_pos (by rw [h, hr]; rfl))

omit h in
theorem preset_of_failed_segment (ho : dmaOut s c.val = true) : exec (.preset who c) s = .next s := by
  refine congrArg Host.Outcome.next ?_
  have hs : dmaStartPresets c.val s = s := if_neg (by simp [ho])
  rw [hs, ite_self]

end Controls

theorem dmaAbort_halted {n : Nat} {s : State} (h3 : rget s .DMA_STATUS_STATE n = 3) (hr : (dmGet s n).record = none) :
    dmaAbort n s = dmaReport n 0x20 (dmaDiscard n 0 s) := if_pos ⟨h3, by simp [hr]⟩

theorem dmaSkip_halted {n : Nat} {s : State} (h3 : rget s .DMA_STATUS_STATE n = 3) (hr : (dmGet s n).record = none) :
    dmaSkip n s = dmaReport n (if rget s .DMA_STATUS_CAUSE n = 9 then 0x20 else rget s .DMA_STATUS_CAUSE n) (dmaDiscard n 0 s) := by
  unfold dmaSkip
  by_cases h9 : rget s .DMA_STATUS_CAUSE n = 9
  · rw [if_pos h9, if_pos h9, dmaAbort_halted h3 hr]
  · rw [if_neg h9, if_neg h9, if_pos ⟨h3, by simp [hr]⟩]

theorem dmaResume_halted {n : Nat} {s : State} (h3 : rget s .DMA_STATUS_STATE n = 3) (hr : (dmGet s n).record = none) : dmaResume n s =
    let u := rset .DMA_STATUS_STATE n 0 1 (rset .DMA_STATUS_CAUSE n 0 0 s)
    if (dmGet s n).checkFail then dmMod n (fun x => { x with fetch := true, checkFail := false }) u else dmaPump n u :=
  if_neg (by simp [h3, hr])

/-- Settles O46: each control in the states in which it acts. -/
theorem dmaControlResults : Obligations.DmaControlResults := by
  unfold Obligations.DmaControlResults
  intro who c s h n x st cause u
  refine ⟨fun ho => ⟨?_, preset_of_failed_segment ho⟩, fun ho h0 => ?_, fun ho h2 => ?_, fun h1 => ?_, fun h3 hr => ⟨fun hc => ?_, fun hc => ?_⟩,
    fun h3 hr => ⟨?_, ?_⟩, fun ho h0 hp hr => ⟨?_, ?_, ?_⟩⟩
  · rw [exec_go h]
    exact congrArg Host.Outcome.next (if_pos ho)
  · rw [exec_go h]
    exact congrArg Host.Outcome.next ((if_neg (by simp [n] at ho; simp [ho])).trans (if_pos h0))
  · rw [exec_go h]
    exact congrArg Host.Outcome.next ((if_neg (by simp [n] at ho; simp [ho])).trans ((if_neg (h2.trans_ne (by decide))).trans (if_pos h2)))
  · rw [exec_stop h]
    exact congrArg Host.Outcome.next (if_pos h1)
  · rw [exec_resume h, dmaResume_halted h3 hr]
    exact congrArg Host.Outcome.next (if_pos hc)
  · rw [exec_resume h, dmaResume_halted h3 hr]
    exact congrArg Host.Outcome.next (if_neg (by simpa [x, n] using hc))
  · rw [exec_skip h, dmaSkip_halted h3 hr]
  · rw [exec_abort h, dmaAbort_halted h3 hr]
  · rw [exec_preset_free h hr]
    exact congrArg Host.Outcome.next (if_pos ⟨h0, by simpa [x, n] using hp, by simp [n] at ho; simp [ho]⟩)
  · exact rget_rset_same _ _ _ _ _
  · exact (rget_rset_field _ _ _ _ _ _ _ _ (by decide)).trans (rget_rset_same _ _ _ _ _)

end Sys2Proof.Machine

/-! PROOF. The slots of an eave channel and its feed (R195, R231, R235, R236, R243, R245). -/

namespace Sys2Proof.Machine

@[simp] theorem chGet_chSet_same (n : Nat) (x : Channel) (s : State) : chGet (chSet n x s) n = x := tget_tset_same _ _ _ _

/-- A channel is the same where the channels were not touched. -/
theorem chGet_touches {l : List Part} {s t : State} (h : Touches l s t) (hl : .chans ∉ l) (n : Nat) : chGet t n = chGet s n :=
  congrArg (tget chan0 · n) (h .chans hl)

/-! ### Slots -/

section Slot

variable {ch : Fin 2048} {c k : Nat} {s : State}

theorem streamSlot_unowned (h : chanOwner s ch.val = none) (k : Nat) : exec (.streamSlot ch k) s = .next s := by
  show execStreamSlot ch k s = _
  unfold execStreamSlot
  rw [h]

/-- What the program of a channel does in slot k: the run, the repeat, and the slot's place in it. -/
def slotUse (s : State) (n c k : Nat) : Option (Run × Nat × Nat) :=
  (pickProg s c (chGet s n).act (chGet s n).sh (slotCycle (rget s .EAV_SEG_RATE (n / 256)) n k)).runs.findSome? fun r =>
    (runAt r (usableIx k)).map fun e => (r, e)

/-- The slot is taken: it goes to the program of the channel's owner. -/
def slotTaken (n k : Nat) (s : State) : State := chSet n { chGet s n with nextSlot := k + 1 } s

/-- The second data slot of a block hands it to the feed, to be injected 160 cycles after the slot's cycle. -/
def handBlock (s : State) (n k group block : Nat) (l : List LaneBlk) : List LaneBlk :=
  replFirst (fun b => b.st == 0 && b.group == group && b.block == block)
    (fun b => { b with st := 1, inject := slotCycle (rget s .EAV_SEG_RATE (n / 256)) n k + 160, data := ofLe (blockData s n group block) }) l

/-- The block that a first data slot reads. -/
def slotBlock (s : State) (n c : Nat) (r : Run) (i e : Nat) : LaneBlk :=
  { id := s.nextBlk, chan := n, group := r.group + i, block := r.first + (e - 1) / 2, rafter := r.rafter, lane := r.lane
    inject := 0, st := 0, data := 0, ctx := c, seen := [], verdict := none }

variable (ho : chanOwner s ch.val = some c) (hs : stepping s c = true) (hk : k % 16 ≠ 15) (hn : (chGet s ch.val).nextSlot ≤ k)
  (hi : chInService s ch.val = true)
include ho hs hk hn hi

theorem exec_streamSlot : exec (.streamSlot ch k) s =
    match slotUse s ch.val c k with
    | none => .next (slotTaken ch.val k s)
    | some (r, i, e) =>
      if e = 0 then .next (slotTaken ch.val k s)
      else if e % 2 = 0 then
        .next (chMod ch.val (fun x => { x with feed := handBlock s ch.val k (r.group + i) (r.first + (e - 1) / 2) x.feed }) (slotTaken ch.val k s))
      else if 32 ≤ (chGet s ch.val).feed.length then
        .next (lossOverrun (42 + ch.val / 256) c (withCtx (slotTaken ch.val k s) (some c)
          { cls := clsOverrun, outcome := 1, lsite := 63 <<< 16, psite := psiteS (ch.val / 256), detail := 4 }) (slotTaken ch.val k s))
      else .next { chMod ch.val (fun x => { x with feed := x.feed ++ [slotBlock s ch.val c r i e] }) (slotTaken ch.val k s) with
        nextBlk := s.nextBlk + 1 } := by
  show execStreamSlot ch k s = _
  unfold execStreamSlot
  rw [ho]
  refine (if_neg (by simp [hs, hk, hi]; omega)).trans ?_
  rfl

variable {r : Run} {i e : Nat} (hu : slotUse s ch.val c k = some (r, i, e))
include hu

theorem streamSlot_reads (he : e % 2 = 1) (hl : (chGet s ch.val).feed.length < 32) : ∃ t b, exec (.streamSlot ch k) s = .next t ∧
    (chGet t ch.val).nextSlot = k + 1 ∧ (chGet t ch.val).feed = (chGet s ch.val).feed ++ [b] ∧ b.st = 0 ∧ b.id = s.nextBlk ∧ b.chan = ch.val ∧
    b.group = r.group + i ∧ b.block = r.first + (e - 1) / 2 ∧ b.rafter = r.rafter ∧ b.lane = r.lane ∧ b.ctx = c ∧ t.nextBlk = s.nextBlk + 1 ∧
    t.mem = s.mem := by
  let v := chMod ch.val (fun x => { x with feed := x.feed ++ [slotBlock s ch.val c r i e] }) (slotTaken ch.val k s)
  have hv : chGet v ch.val = { chGet s ch.val with nextSlot := k + 1, feed := (chGet s ch.val).feed ++ [slotBlock s ch.val c r i e] } := by
    simp [v, chMod, slotTaken]
  refine ⟨{ v with nextBlk := s.nextBlk + 1 }, slotBlock s ch.val c r i e, ?_, congrArg Channel.nextSlot hv, congrArg Channel.feed hv,
    rfl, rfl, rfl, rfl, rfl, rfl, rfl, rfl, rfl, rfl⟩
  rw [exec_streamSlot ho hs hk hn hi, hu]
  exact (if_neg (by omega)).trans ((if_neg (by omega)).trans (if_neg (by omega)))

theorem streamSlot_overruns (he : e % 2 = 1) (hl : 32 ≤ (chGet s ch.val).feed.length) : exec (.streamSlot ch k) s =
    .next (lossOverrun (42 + ch.val / 256) c (withCtx (slotTaken ch.val k s) (some c)
      { cls := clsOverrun, outcome := 1, lsite := 63 <<< 16, psite := psiteS (ch.val / 256), detail := 4 }) (slotTaken ch.val k s)) := by
  rw [exec_streamSlot ho hs hk hn hi, hu]
  exact (if_neg (by omega)).trans ((if_neg (by omega)).trans (if_pos hl))

theorem streamSlot_completes (h0 : e ≠ 0) (he : e % 2 = 0) : ∃ t, exec (.streamSlot ch k) s = .next t ∧ t = { s with chans := t.chans } ∧
    (chGet t ch.val).nextSlot = k + 1 ∧ (chGet t ch.val).feed = handBlock s ch.val k (r.group + i) (r.first + (e - 1) / 2) (chGet s ch.val).feed := by
  rw [exec_streamSlot ho hs hk hn hi, hu]
  refine ⟨_, (if_neg h0).trans (if_pos he), rfl, ?_, ?_⟩
  · simp [chMod, slotTaken]
  · simp [chMod, slotTaken]

end Slot

/-! ### The feed -/

/-- The partner copy of a block lies where it lay, where neither the contexts nor the configuration of eave memory were touched. -/
theorem partnerPlace_touches {l : List Part} {s t : State} (h : Touches l s t)
    (hl : .ctxs ∉ l ∧ .fld .MEM_CHSTAT_STATE ∉ l ∧ .fld .EAV_CTX_CFG_GRANULE ∉ l ∧ .fld .EAV_CTX_CFG_MIRROR_BASE ∉ l ∧ .fld .EAV_CTX_CFG_MIRROR_COUNT ∉ l)
    (c ch group block : Nat) : partnerPlace t c ch group block = partnerPlace s c ch group block := by
  obtain ⟨hc, hst, hgr, hmb, hmc⟩ := hl
  have h1 (i j : Nat) : rget t .MEM_CHSTAT_STATE i j = rget s .MEM_CHSTAT_STATE i j := h (.fld .MEM_CHSTAT_STATE) hst i j
  have h2 (i j : Nat) : rget t .EAV_CTX_CFG_GRANULE i j = rget s .EAV_CTX_CFG_GRANULE i j := h (.fld .EAV_CTX_CFG_GRANULE) hgr i j
  have h3 (i j : Nat) : rget t .EAV_CTX_CFG_MIRROR_BASE i j = rget s .EAV_CTX_CFG_MIRROR_BASE i j := h (.fld .EAV_CTX_CFG_MIRROR_BASE) hmb i j
  have h4 (i j : Nat) : rget t .EAV_CTX_CFG_MIRROR_COUNT i j = rget s .EAV_CTX_CFG_MIRROR_COUNT i j := h (.fld .EAV_CTX_CFG_MIRROR_COUNT) hmc i j
  have h5 (a : Nat) : ctxGet t a = ctxGet s a := ctxGet_touches h hc a
  have h6 (a : Nat) : chInService t a = chInService s a := by simp only [chInService, h1]
  have h7 : viewChans t (.ctx c) = viewChans s (.ctx c) := by simp only [viewChans, h5, h6]
  have h8 : viewGran t (.ctx c) = viewGran s (.ctx c) := by simp only [viewGran, h2]
  have h9 : ctxAddr t c ch (group * 2048 + 128 * block) = ctxAddr s c ch (group * 2048 + 128 * block) := by simp only [ctxAddr, h7, h8]
  have h10 (a : Nat) : mirrored t (.ctx c) a = mirrored s (.ctx c) a := by simp [mirrored, h3, h4, h7, h8]
  have h11 (a : Nat) : partner t (.ctx c) a = partner s (.ctx c) a := by simp only [partner, h7, h8]
  simp only [partnerPlace, h7, h8, h9, h10, h11]

/-- A failed check of a block in the feed: both counters. -/
def feedFailed (n : Nat) (s : State) : State := chErr n 1 (bump .EAV_EVT_COUNT .EAV_OVF_OVF (n / 256) 0 1 s)

def feedParts : List Part := [.fld .MEM_CHERR_COUNT, .fld .MEM_CHSTAT_ERR_OVF, .fld .EAV_EVT_COUNT, .fld .EAV_OVF_OVF]

theorem Touches.feedFailed (n : Nat) (s : State) : Touches feedParts s (Machine.feedFailed n s) := (chErr _ _ _).tail (bump _ _ _ _ _ _).mono

theorem poisonBlock_marks (ch group block : Nat) (s : State) : (poisonBlock ch group block s).poison.contains (emBlockKey ch group block) = true := by
  unfold poisonBlock
  extract_lets seg c k s1 s2 s3 s4
  have h1 : s1.poison.contains k = true := by
    show (if s.poison.contains k then s.poison else k :: s.poison).contains k = true
    split
    · assumption
    · simp
  have h3 : Touches [.fld .EAV_EVT_COUNT, .fld .EAV_OVF_OVF, .fld .EAV_POISON_VALID, .fld .EAV_POISON_CTX, .fld .EAV_POISON_BLOCK,
      .fld .EAV_POISON_GROUP, .fld .EAV_POISON_CHANNEL] s1 s3 := by
    have h2 := Touches.bump .EAV_EVT_COUNT .EAV_OVF_OVF seg 2 1 s1
    exact Touches.ite h2.mono ((Touches.rset _ _ _ _ _).tail ((Touches.rset _ _ _ _ _).tail ((Touches.rset _ _ _ _ _).tail
      ((Touches.rset _ _ _ _ _).tail ((Touches.rset _ _ _ _ _).tail h2.mono)))))
  have h4 : s4.poison = s3.poison := by
    unfold s4
    cases c <;> rfl
  rw [Touches.raise _ _ _ .poison (by decide), h4, h3 .poison (by decide)]
  exact h1

section Inject

variable {ch : Fin 2048} {s : State} {b : LaneBlk} {rest : List LaneBlk} {good : Bool} (hx : (chGet s ch.val).feed = b :: rest)
include hx

theorem rafterInject_waits (hb : b.st = 0) : exec (.rafterInject ch good) s = .next s := by
  show execRafterInject ch good s = _
  unfold execRafterInject
  simp only [hx]
  exact if_pos hb

theorem rafterInject_good (hb : b.st ≠ 0) (hg : good = true) (hm : s.poison.contains (emBlockKey ch.val b.group b.block) = false) :
    exec (.rafterInject ch good) s = .next { chSet ch.val { chGet s ch.val with feed := rest } s with lane := s.lane ++ [b] } := by
  show execRafterInject ch good s = _
  unfold execRafterInject
  simp only [hx]
  exact (if_neg hb).trans (if_pos (by simpa [hg] using hm))

/-- A block that failed its check, or is poisoned: it goes out pending with a repair, or dead. -/
theorem exec_rafterInject_bad (hb : b.st ≠ 0) (hg : good = false ∨ s.poison.contains (emBlockKey ch.val b.group b.block) = true) :
    exec (.rafterInject ch good) s =
    if s.poison.contains (emBlockKey ch.val b.group b.block) && (partnerPlace s b.ctx ch.val b.group b.block).isNone then
      .next (poisonBlock ch.val b.group b.block { chSet ch.val { chGet s ch.val with feed := rest } (feedFailed ch.val s) with
        lane := s.lane ++ [{ b with st := 3, data := 0 }] })
    else if (chGet s ch.val).repairs.length < 2 then
      .next { chSet ch.val { chGet s ch.val with feed := rest, repairs := (chGet s ch.val).repairs ++ [⟨b, 0⟩] } (feedFailed ch.val s) with
        lane := s.lane ++ [{ b with st := 2 }] }
    else
      .next (poisonBlock ch.val b.group b.block { chSet ch.val { chGet s ch.val with feed := rest }
        (bump .EAV_EVT_COUNT .EAV_OVF_OVF (ch.val / 256) 5 1 (feedFailed ch.val s)) with lane := s.lane ++ [{ b with st := 3, data := 0 }] }) := by
  have hf := Touches.feedFailed ch.val s
  have hp : partnerPlace (feedFailed ch.val s) b.ctx ch.val b.group b.block = partnerPlace s b.ctx ch.val b.group b.block :=
    partnerPlace_touches hf (by decide) _ _ _ _
  have hl : (feedFailed ch.val s).lane = s.lane := hf .lane (by decide)
  show execRafterInject ch good s = _
  unfold execRafterInject
  simp only [hx]
  rw [if_neg hb, if_neg (by simpa [imp_iff_not_or] using hg)]
  rw [← hp, ← hl]
  rfl

theorem rafterInject_pending (hb : b.st ≠ 0) (hg : good = false ∨ s.poison.contains (emBlockKey ch.val b.group b.block) = true)
    (ha : (s.poison.contains (emBlockKey ch.val b.group b.block) && (partnerPlace s b.ctx ch.val b.group b.block).isNone) = false)
    (hr : (chGet s ch.val).repairs.length < 2) : ∃ t, exec (.rafterInject ch good) s = .next t ∧ t.lane = s.lane ++ [{ b with st := 2 }] ∧
      (chGet t ch.val).feed = rest ∧ (chGet t ch.val).repairs = (chGet s ch.val).repairs ++ [⟨b, 0⟩] ∧ t.poison = s.poison ∧ t.mem = s.mem := by
  let x : Channel := { chGet s ch.val with feed := rest, repairs := (chGet s ch.val).repairs ++ [⟨b, 0⟩] }
  have hc : chGet (chSet ch.val x (feedFailed ch.val s)) ch.val = x := chGet_chSet_same _ _ _
  have hf := Touches.feedFailed ch.val s
  refine ⟨_, (exec_rafterInject_bad hx hb hg).trans ((if_neg (Bool.eq_false_iff.mp ha)).trans (if_pos hr)), rfl, congrArg Channel.feed hc, congrArg Channel.repairs hc,
    hf .poison (by decide), hf .mem (by decide)⟩

theorem rafterInject_dead (hb : b.st ≠ 0) (hg : good = false ∨ s.poison.contains (emBlockKey ch.val b.group b.block) = true)
    (ha : (s.poison.contains (emBlockKey ch.val b.group b.block) && (partnerPlace s b.ctx ch.val b.group b.block).isNone) = true ∨
      2 ≤ (chGet s ch.val).repairs.length) : ∃ t, exec (.rafterInject ch good) s = .next t ∧ t.lane = s.lane ++ [{ b with st := 3, data := 0 }] ∧
      (chGet t ch.val).feed = rest ∧ t.poison.contains (emBlockKey ch.val b.group b.block) = true ∧ t.mem = s.mem := by
  let x : Channel := { chGet s ch.val with feed := rest }
  have hleaves (u : State) (hu : Touches feedParts s u) :
      let t := poisonBlock ch.val b.group b.block { chSet ch.val x u with lane := s.lane ++ [{ b with st := 3, data := 0 }] }
      t.lane = s.lane ++ [{ b with st := 3, data := 0 }] ∧ (chGet t ch.val).feed = rest ∧
        t.poison.contains (emBlockKey ch.val b.group b.block) = true ∧ t.mem = s.mem := by
    have hp := Touches.poisonBlock ch.val b.group b.block { chSet ch.val x u with lane := s.lane ++ [{ b with st := 3, data := 0 }] }
    have hc : chGet (chSet ch.val x u) ch.val = x := chGet_chSet_same _ _ _
    exact ⟨hp .lane (by decide), congrArg Channel.feed ((chGet_touches hp (by decide) _).trans hc), poisonBlock_marks _ _ _ _,
      (hp .mem (by decide)).trans (hu .mem (by decide))⟩
  rw [exec_rafterInject_bad hx hb hg]
  by_cases h : (s.poison.contains (emBlockKey ch.val b.group b.block) && (partnerPlace s b.ctx ch.val b.group b.block).isNone) = true
  · exact ⟨_, if_pos h, hleaves _ (Touches.feedFailed _ _)⟩
  · have hr := Nat.not_lt.mpr (ha.resolve_left h)
    exact ⟨_, (if_neg h).trans (if_neg hr), hleaves _ ((Touches.bump _ _ _ _ _ _).tail (Touches.feedFailed _ _))⟩

end Inject

section Reread

variable {ch : Fin 2048} {i : Fin 2} {r : Repair} {good : Bool} {s : State} (hx : (chGet s ch.val).repairs[i.val]? = some r)

/-- The place that a repair entry reads: the block, or on the second try its partner copy where it has one. -/
def rereadPlace (s : State) (n : Nat) (r : Repair) : Nat :=
  match if r.tries = 1 then partnerPlace s r.blk.ctx n r.blk.group r.blk.block else none with
  | some p => emBlockOf p
  | none => emBlockKey n r.blk.group r.blk.block

/-- The channel that a repair entry reads. -/
def rereadChannel (s : State) (n : Nat) (r : Repair) : Nat :=
  match if r.tries = 1 then partnerPlace s r.blk.ctx n r.blk.group r.blk.block else none with
  | some p => p.1
  | none => n

include hx

theorem exec_rereadVerdict : exec (.rereadVerdict ch i good) s =
    if good && !s.poison.contains (rereadPlace s ch.val r) then
      .next (setVerdict r.blk.id 1 (ofLe (mread s (rereadPlace s ch.val r) 128)) (bump .EAV_EVT_COUNT .EAV_OVF_OVF (ch.val / 256) 1 1
        (chSet ch.val { chGet s ch.val with repairs := (chGet s ch.val).repairs.eraseIdx i.val } s)))
    else if r.tries = 0 then
      .next (chSet ch.val { chGet s ch.val with repairs := (chGet s ch.val).repairs.set i.val { r with tries := 1 } }
        (chErr (rereadChannel s ch.val r) 1 s))
    else
      .next (setVerdict r.blk.id 3 0 (poisonBlock ch.val r.blk.group r.blk.block
        (chSet ch.val { chGet s ch.val with repairs := (chGet s ch.val).repairs.eraseIdx i.val } (chErr (rereadChannel s ch.val r) 1 s)))) := by
  show execRereadVerdict ch i good s = _
  unfold execRereadVerdict
  extract_lets x
  rw [hx]
  rfl

theorem reread_repairs (hg : good = true) (hp : s.poison.contains (rereadPlace s ch.val r) = false) : ∃ t, exec (.rereadVerdict ch i good) s = .next t ∧
    (chGet t ch.val).repairs = (chGet s ch.val).repairs.eraseIdx i.val ∧ t.mem = s.mem ∧ t.poison = s.poison ∧
    t.lane = s.lane.map fun b => if b.id = r.blk.id then { b with verdict := some 1, data := ofLe (mread s (rereadPlace s ch.val r) 128) } else b := by
  let x : Channel := { chGet s ch.val with repairs := (chGet s ch.val).repairs.eraseIdx i.val }
  have hb := Touches.bump .EAV_EVT_COUNT .EAV_OVF_OVF (ch.val / 256) 1 1 (chSet ch.val x s)
  have hc := (chGet_touches hb (by decide) ch.val).trans (chGet_chSet_same _ _ _)
  refine ⟨_, (exec_rereadVerdict hx).trans (if_pos (by simpa [hg] using hp)), congrArg Channel.repairs hc, hb .mem (by decide), hb .poison (by decide), ?_⟩
  exact congrArg (List.map _) (hb .lane (by decide))

variable (hb : good = false ∨ s.poison.contains (rereadPlace s ch.val r) = true)
include hb

omit hx in
theorem reread_fails : ¬ (good && !s.poison.contains (rereadPlace s ch.val r)) = true := by simpa [imp_iff_not_or] using hb

theorem reread_again (ht : r.tries = 0) : ∃ t, exec (.rereadVerdict ch i good) s = .next t ∧
    (chGet t ch.val).repairs = (chGet s ch.val).repairs.set i.val { r with tries := 1 } ∧ t.lane = s.lane ∧ t.mem = s.mem := by
  have he := Touches.chErr (rereadChannel s ch.val r) 1 s
  exact ⟨_, (exec_rereadVerdict hx).trans ((if_neg (reread_fails hb)).trans (if_pos ht)), congrArg Channel.repairs (chGet_chSet_same _ _ _),
    he .lane (by decide), he .mem (by decide)⟩

theorem reread_poisons (ht : r.tries ≠ 0) : ∃ t, exec (.rereadVerdict ch i good) s = .next t ∧
    (chGet t ch.val).repairs = (chGet s ch.val).repairs.eraseIdx i.val ∧ t.poison.contains (emBlockKey ch.val r.blk.group r.blk.block) = true ∧
    t.mem = s.mem ∧ t.lane = s.lane.map fun b => if b.id = r.blk.id then { b with verdict := some 3, data := 0 } else b := by
  let x : Channel := { chGet s ch.val with repairs := (chGet s ch.val).repairs.eraseIdx i.val }
  have he := Touches.chErr (rereadChannel s ch.val r) 1 s
  have hp := Touches.poisonBlock ch.val r.blk.group r.blk.block (chSet ch.val x (chErr (rereadChannel s ch.val r) 1 s))
  have hc := (chGet_touches hp (by decide) ch.val).trans (chGet_chSet_same _ _ _)
  refine ⟨_, (exec_rereadVerdict hx).trans ((if_neg (reread_fails hb)).trans (if_neg ht)), congrArg Channel.repairs hc, poisonBlock_marks _ _ _ _,
    (hp .mem (by decide)).trans (he .mem (by decide)), ?_⟩
  exact congrArg (List.map _) ((hp .lane (by decide)).trans (he .lane (by decide)))

end Reread

theorem maintenanceSlot_taken {ch : Fin 2048} {k : Nat} {s : State} (u : Maint) (hk : k % 16 = 15) (hn : (chGet s ch.val).nextSlot ≤ k) :
    exec (.maintenanceSlot ch k u) s = .next (chSet ch.val { chGet s ch.val with nextSlot := k + 1 } s) := if_pos ⟨hk, hn⟩

/-- Settles O47: slots, the feed, and re-reads. -/
theorem streamResults : Obligations.StreamResults := by
  unfold Obligations.StreamResults
  intro ch s n x
  refine ⟨fun h k => streamSlot_unowned h k, fun c k ho hs hk hn hi => ?_, fun k u => maintenanceSlot_taken u, fun b rest good hx => ?_, fun i r good hx => ?_⟩
  · intro cyc at' u
    refine ⟨fun ha => ?_, fun r i e ha => ⟨fun he => ?_, streamSlot_reads ho hs hk hn hi ha, streamSlot_overruns ho hs hk hn hi ha,
      streamSlot_completes ho hs hk hn hi ha⟩⟩
    · rw [exec_streamSlot ho hs hk hn hi, show slotUse s ch.val c k = none from ha]
      rfl
    · rw [exec_streamSlot ho hs hk hn hi, show slotUse s ch.val c k = some (r, i, e) from ha]
      exact if_pos he
  · intro marked alone
    exact ⟨rafterInject_waits hx, rafterInject_good hx, fun hb hg => ⟨rafterInject_pending hx hb hg, rafterInject_dead hx hb hg⟩⟩
  · intro place
    exact ⟨reread_repairs hx, reread_again hx, reread_poisons hx⟩

end Sys2Proof.Machine

/-! PROOF. The rafter drops and lanes (R240, R241, R244 to R247). -/

namespace Sys2Proof.Machine

@[simp] theorem dropGet_dropSet_same (cb : Nat) (d : DropTab × DropTab) (s : State) : dropGet (dropSet cb d s) cb = d := tget_tset_same _ _ _ _

/-- A drop is the same where the drops were not touched. -/
theorem dropGet_touches {l : List Part} {s t : State} (h : Touches l s t) (hl : .drops ∉ l) (cb : Nat) : dropGet t cb = dropGet s cb :=
  congrArg (tget (drop0, drop0) · cb) (h .drops hl)

/-! ### Arrivals -/

section Arrival

variable (cb rsel lane : Nat)

/-- The block is on the lane that the comb has on the side, and has not reached it. -/
def onLane (b : LaneBlk) : Bool := b.lane == lane && b.comes cb rsel

variable (cyc : Nat) (s : State)

/-- The block has been seen by the comb's drop, and the record that takes it is counted. -/
def arrived : State :=
  dropSet cb ({ (dropGet s cb).1 with recs := replFirst (fun r => r.takes rsel lane cyc) (fun r => { r with taken := r.taken + 1 }) (dropGet s cb).1.recs },
      (dropGet s cb).2)
    { s with lane := replFirst (onLane cb rsel lane) (fun b => { b with seen := cb :: b.seen }) s.lane }

/-- A sideband check fails at a lane (its index) and a comb: it is counted, and the fourth asks for the lane's test. -/
def sidebandFailed (seg rafter i : Nat) (u : State) : State :=
  let n := tget 0 u.laneFails (i * 672 + cb) + 1
  let v := rget u .RFT_EVT_COUNT seg rafter + 1
  let u := if v ≤ 0xFFFFFFFF then rset .RFT_EVT_COUNT seg rafter v u else rset .RFT_STAT_EVT_OVF seg rafter 1 u
  { u with laneFails := tset u.laneFails (i * 672 + cb) n
           laneTests := if n = 4 ∧ !u.laneTests.contains i then u.laneTests ++ [i] else u.laneTests }

theorem sidebandFailed_lane (seg rafter i : Nat) (u : State) : (sidebandFailed cb seg rafter i u).lane = u.lane := by
  unfold sidebandFailed
  dsimp only
  split <;> rfl

theorem sidebandFailed_counts (seg rafter i : Nat) (u : State) :
    tget 0 (sidebandFailed cb seg rafter i u).laneFails (i * 672 + cb) = tget 0 u.laneFails (i * 672 + cb) + 1 := by
  unfold sidebandFailed
  extract_lets n v w
  have hw : w.laneFails = u.laneFails := by
    unfold w
    split <;> rfl
  rw [hw]
  exact tget_tset_same _ _ _ _

end Arrival

section Arrival

variable {x : Fin 28} {y : Fin 24} {rsel lane : Fin 4} {s : State} {b : LaneBlk} {r : DropRec}
  (hb : s.lane.find? (onLane (cbOf x.val y.val) rsel.val lane.val) = some b) (hc : ctxHas s b.ctx (cbOf x.val y.val) = true)
  (hs : stepping s b.ctx = true) (ha : (ctxGet s b.ctx).arm = .none)
  (hr : (dropGet s (cbOf x.val y.val)).1.recs.find?
    (fun r => r.takes rsel.val lane.val (arrivalAt b.inject (rafterOf (cbOf x.val y.val) rsel.val).2.2)) = some r)
include hb hc hs ha hr

theorem exec_dropArrival (got : DropCheck) :
    let cb := cbOf x.val y.val
    let g := rafterOf cb rsel.val
    let u := arrived cb rsel.val lane.val (arrivalAt b.inject g.2.2) s
    exec (.dropArrival x y rsel lane got) s =
    if !got.good then .next (dropPending cb r b true (sidebandFailed cb g.1 g.2.1 (g.1 * 64 + g.2.1 * 4 + lane.val) u))
    else if b.st = 2 then .next (dropPending cb r b false u)
    else .next (dropBlock cb b.ctx (dropGet s cb).1 r b.st b.data (if r.cmem.isSome then chargeComb cb got.deferred u else u)) := by
  intro cb g u
  have hl : b.lane = lane.val := by
    have hon : onLane cb rsel.val lane.val b = true := List.find?_some hb
    simp only [onLane, Bool.and_eq_true, beq_iff_eq] at hon
    exact hon.1
  let mine (b : LaneBlk) : Bool := b.lane == lane.val && b.comes cb rsel.val
  let s1 : State := { s with lane := replFirst mine (fun b => { b with seen := cb :: b.seen }) s.lane }
  have hn : dropNewer s1 b.ctx cb (arrivalAt b.inject g.2.2) = false := by
    unfold dropNewer
    rw [show ctxGet s1 b.ctx = ctxGet s b.ctx from rfl, ha]
  have ht : dropTakes s1 cb rsel.val b = some r := by
    unfold dropTakes
    dsimp only
    rw [hn, hl]
    exact hr
  have hin : (!(ctxHas s1 b.ctx cb) || !stepping s1 b.ctx) = false := by
    rw [show ctxHas s1 b.ctx cb = ctxHas s b.ctx cb from rfl, show stepping s1 b.ctx = stepping s b.ctx from rfl, hc, hs]
    rfl
  have hb' : s.lane.find? mine = some b := hb
  show execDropArrival x y rsel lane got s = _
  unfold execDropArrival
  simp only [mine, cb] at hb'
  simp only [s1, mine, cb, g] at ht hn
  simp only [hb', ht, hn]
  exact if_neg (Bool.eq_false_iff.mp hin)

theorem dropArrival_takes (deferred : Nat) :
    let cb := cbOf x.val y.val
    let g := rafterOf cb rsel.val
    let cyc := arrivalAt b.inject g.2.2
    let tab := (dropGet s cb).1
    let fails := (g.1 * 64 + g.2.1 * 4 + lane.val) * 672 + cb
    ∃ u, u.lane = replFirst (onLane cb rsel.val lane.val) (fun b => { b with seen := cb :: b.seen }) s.lane ∧ u.mem = s.mem ∧
      (dropGet u cb).1.recs = replFirst (fun r => r.takes rsel.val lane.val cyc) (fun r => { r with taken := r.taken + 1 }) tab.recs ∧
      (b.st ≠ 2 → exec (.dropArrival x y rsel lane ⟨true, deferred⟩) s =
        .next (dropBlock cb b.ctx tab r b.st b.data (if r.cmem.isSome then chargeComb cb deferred u else u))) ∧
      (b.st = 2 → exec (.dropArrival x y rsel lane ⟨true, deferred⟩) s = .next (dropPending cb r b false u)) ∧
      ∃ v, exec (.dropArrival x y rsel lane ⟨false, deferred⟩) s = .next (dropPending cb r b true v) ∧
        tget 0 v.laneFails fails = tget 0 s.laneFails fails + 1 ∧ v.lane = u.lane := by
  intro cb g cyc tab fails
  let u := arrived cb rsel.val lane.val cyc s
  have hx := exec_dropArrival hb hc hs ha hr
  have hd : dropGet u cb = ({ tab with recs := replFirst (fun r => r.takes rsel.val lane.val cyc) (fun r => { r with taken := r.taken + 1 }) tab.recs },
      (dropGet s cb).2) := dropGet_dropSet_same _ _ _
  refine ⟨u, rfl, rfl, ?_, fun h2 => (hx ⟨true, deferred⟩).trans (if_neg h2), fun h2 => (hx ⟨true, deferred⟩).trans (if_pos h2),
    sidebandFailed cb g.1 g.2.1 (g.1 * 64 + g.2.1 * 4 + lane.val) u, hx ⟨false, deferred⟩, sidebandFailed_counts _ _ _ _ _, sidebandFailed_lane _ _ _ _ _⟩
  rw [hd]

end Arrival

/-! ### Answers -/

/-- What charging a comb touches. -/
def chargeParts : List Part := [.ctxs, .fld .CTX_STEPSTAT_SLIP, .fld .CTX_EVT_COUNT, .fld .CTX_OVF_OVF]

section Answer

variable {x : Fin 28} {y : Fin 24} {late : Nat} {s : State} {w : DropWait} {b : LaneBlk}

/-- The verdict of the block that a wait asks for is held. -/
def answered (s : State) (cb : Nat) (w : DropWait) : Bool := w.comb == cb && match s.lane.find? (fun b => b.id == w.id) with
  | some b => b.st != 2 || b.verdict.isSome
  | none => false

/-- The wait is over: it is dropped, a re-send is counted, and the comb is charged. -/
def answeredState (s : State) (cb late : Nat) (w : DropWait) (b : LaneBlk) : State :=
  let s1 := { s with dropWaits := dropFirst (answered s cb) s.dropWaits }
  chargeComb cb (min late (if w.resend then 400 else 800)) (if w.resend then bump .EAV_EVT_COUNT .EAV_OVF_OVF (b.chan / 256) 3 1 s1 else s1)

theorem answeredState_touches (s : State) (cb late : Nat) (w : DropWait) (b : LaneBlk) :
    Touches (chargeParts ++ [.fld .EAV_EVT_COUNT, .fld .EAV_OVF_OVF]) { s with dropWaits := dropFirst (answered s cb) s.dropWaits }
      (answeredState s cb late w b) :=
  (Touches.chargeComb _ _ _).tail (Touches.ite (Touches.bump _ _ _ _ _ _).mono (Touches.refl _ _))

theorem exec_repairAnswer (hw : s.dropWaits.find? (answered s (cbOf x.val y.val)) = some w) (hb : s.lane.find? (fun b => b.id == w.id) = some b) :
    let cb := cbOf x.val y.val
    let data := if b.verdict.getD b.st = 3 then 0 else b.data
    let u := answeredState s cb late w b
    exec (.repairAnswer x y late) s = match w.worker with
      | some k => .next (cutBeats (cb * 32 + k) (beatSize (dropGet u cb).1 k) 32 (wMod (cb * 32 + k) (fillTap b.id data) u))
      | none => .next (wakeReads b.id cb (128 * w.cmem) (dropWrite cb (128 * w.cmem) (b.verdict.getD b.st) data u)) := by
  intro cb data u
  show execRepairAnswer x y late s = _
  unfold execRepairAnswer
  extract_lets blkOf known
  have hkn : known = answered s cb := by
    funext v
    simp only [known, blkOf, answered] <;> (cases s.lane.find? (fun b => b.id == v.id) <;> rfl)
  have hk : s.dropWaits.find? known = some w := by
    rw [hkn]
    exact hw
  simp only [hk, show blkOf w = some b from hb] <;> rfl

theorem repairAnswer_completes (hw : s.dropWaits.find? (answered s (cbOf x.val y.val)) = some w) (hb : s.lane.find? (fun b => b.id == w.id) = some b) :
    let cb := cbOf x.val y.val
    let st := b.verdict.getD b.st
    let data := if st = 3 then 0 else b.data
    let off := 128 * w.cmem
    ∃ u, (∀ k, w.worker = some k → exec (.repairAnswer x y late) s =
        .next (cutBeats (cb * 32 + k) (beatSize (dropGet s cb).1 k) 32 (wMod (cb * 32 + k) (fillTap b.id data) u))) ∧
      (w.worker = none → exec (.repairAnswer x y late) s = .next (wakeReads b.id cb off (dropWrite cb off st data u))) ∧
      u.dropWaits = dropFirst (answered s cb) s.dropWaits ∧ u.workers = s.workers ∧ u.mem = s.mem ∧ u.tags = s.tags := by
  intro cb st data off
  have hx := exec_repairAnswer (late := late) hw hb
  have hu := answeredState_touches s cb late w b
  have hd : dropGet (answeredState s cb late w b) cb = dropGet s cb := dropGet_touches hu (by decide) _
  refine ⟨answeredState s cb late w b, fun k hk => ?_, fun hk => ?_, hu .dropWaits (by decide), hu .workers (by decide), hu .mem (by decide),
    hu .tags (by decide)⟩
  · rw [hx, hk, ← hd]
  · rw [hx, hk]

end Answer

/-! ### Writes of a drop -/

theorem dropWrite_mem (cb off st data : Nat) (s : State) : (dropWrite cb off st data s).mem = mputs s.mem (cmKey cb off) (toLe 128 data) := by
  unfold dropWrite
  dsimp only
  split
  · exact (Touches.markBlock _ _ _ .mem (by decide)).trans (CmMove.cmWriteBlock_mem _ _ _ _)
  · exact CmMove.cmWriteBlock_mem _ _ _ _

theorem dropWrite_poison (cb off st data : Nat) (s : State) : st = 3 ↔ (dropWrite cb off st data s).poison.contains (cmBlock cb off) = true := by
  unfold dropWrite
  dsimp only
  split
  · simp_all [markBlock]
  · simp_all [cmWriteBlock, mwrite]

/-- After the reads that waited for a block go on, no tag waits for it. -/
theorem wakeReads_none_waits (id cb off : Nat) (s : State) : ∀ g ∈ (wakeReads id cb off s).tags, g.pending ≠ some id := by
  unfold wakeReads
  intro g hg
  obtain ⟨h, -, rfl⟩ := List.mem_map.mp hg
  split
  · simp
  · simp_all

theorem dropWrite_writes {cb off data st : Nat} {s : State} (h : Memory.wf s.mem = true) :
    let t := dropWrite cb off st data s
    (∀ i, i < 128 → mget t.mem (cmKey cb (off + i)) = (toLe 128 data).getD i 0) ∧
    (∀ k, (∀ i, i < 128 → k ≠ cmKey cb (off + i)) → mget t.mem k = mget s.mem k) := by
  intro t
  have hl : (toLe 128 data).length = 128 := by simp [toLe]
  have hm := dropWrite_mem cb off st data s
  refine ⟨fun i hi => ?_, fun k hk => ?_⟩
  · rw [hm, show cmKey cb (off + i) = cmKey cb off + i by simp only [cmKey]; omega, mget_mputs_in h (by rw [hl]; exact hi)]
  · rw [hm, mget_mputs_out h]
    by_contra hc
    exact hk (k - cmKey cb off) (by omega) (by simp only [cmKey] at *; omega)

/-! ### Lanes -/

theorem nodup_eraseDups {α : Type} [DecidableEq α] (l : List α) : l.eraseDups.Nodup := by
  induction hn : l.length using Nat.strong_induction_on generalizing l with
  | _ n ih =>
    cases l with
    | nil => simp
    | cons a r =>
      rw [List.eraseDups_cons, List.nodup_cons, List.mem_eraseDups]
      exact ⟨by simp, ih _ (by subst hn; exact Nat.lt_succ_of_le (List.length_filter_le _ _)) _ rfl⟩

/-- The pause cycles that a test of a rafter's wires asks of a context. -/
def askPause (s : State) (c : Nat) : State := ctxMod c (fun x => { x with pauseDue := x.pauseDue + 256 }) s

theorem askPause_fold_ne (l : List Nat) (s : State) {c : Nat} (h : c ∉ l) : ctxGet (l.foldl askPause s) c = ctxGet s c := by
  induction l generalizing s with
  | nil => rfl
  | cons a r ih =>
    rw [List.foldl_cons, ih _ (fun hc => h (List.mem_cons_of_mem _ hc)), askPause, ctxGet_ctxMod_ne _ _ (fun e => h (List.mem_cons.mpr (.inl e)))]

theorem askPause_fold {l : List Nat} (h : l.Nodup) (s : State) : ∀ c ∈ l, (ctxGet (l.foldl askPause s) c).pauseDue = (ctxGet s c).pauseDue + 256 := by
  induction l generalizing s with
  | nil => simp
  | cons a r ih =>
    obtain ⟨ha, hr⟩ := List.nodup_cons.mp h
    intro c hc
    rw [List.foldl_cons]
    by_cases hca : c = a
    · subst hca
      rw [askPause_fold_ne r _ ha, askPause, ctxGet_ctxMod_same]
    · rw [ih hr _ c ((List.mem_cons.mp hc).resolve_left hca), askPause, ctxGet_ctxMod_ne _ _ hca]

theorem askPause_fold_frame (l : List Nat) (s : State) : l.foldl askPause s = { s with ctxs := (l.foldl askPause s).ctxs } :=
  List.foldlRecOn (motive := fun t : State => t = { s with ctxs := t.ctxs }) _ _ rfl fun t ht c _ => by
    rw [show askPause t c = { t with ctxs := (askPause t c).ctxs } from rfl, ht]

theorem rafterLaneTest_takes {seg : Fin 8} {rafter : Fin 14} {lane : Fin 4} (faulty : List WireFault) {s : State}
    (h : s.laneTests.contains (4 * (seg.val * 16 + rafter.val) + lane.val) = true)
    (hs : ∀ c ∈ rafterHolders s seg.val rafter.val, stepping s c = false) :
    let i := seg.val * 16 + rafter.val
    let hs := rafterHolders s seg.val rafter.val
    ∃ u,
      let v := takeSpares seg.val rafter.val faulty u
      exec (.rafterLaneTest seg rafter lane faulty) s = .next (((lanesSpent v seg.val rafter.val).filter fun l =>
        !(lanesSpent s seg.val rafter.val).contains l).foldl (fun s l => laneOut seg.val rafter.val l s) v) ∧
      u.laneTests = s.laneTests.filter (fun l => l / 4 != i) ∧ (∀ c ∈ hs, (ctxGet u c).pauseDue = (ctxGet s c).pauseDue + 256) ∧
      u = { s with laneTests := u.laneTests, ctxs := u.ctxs } := by
  intro i l
  let s1 : State := { s with laneTests := s.laneTests.filter fun l => l / 4 != i }
  let u := l.foldl askPause s1
  have hf : u = { s1 with ctxs := u.ctxs } := askPause_fold_frame l s1
  have ht : Touches [.ctxs] s1 u := Touches.fold (fun _ _ => Touches.ctxMod _ _ _) (Touches.refl _ _)
  have hl : u.laneTests = s1.laneTests := ht .laneTests (by decide)
  have hsp : lanesSpent u seg.val rafter.val = lanesSpent s seg.val rafter.val := by
    simp only [lanesSpent, show u.spares = s.spares from ht .spares (by decide)]
  have hx : exec (.rafterLaneTest seg rafter lane faulty) s = .next (((lanesSpent (takeSpares seg.val rafter.val faulty u) seg.val rafter.val).filter fun l =>
      !(lanesSpent u seg.val rafter.val).contains l).foldl (fun s l => laneOut seg.val rafter.val l s) (takeSpares seg.val rafter.val faulty u)) := by
    refine if_neg ?_
    rw [h]
    simpa using hs
  rw [hsp] at hx
  refine ⟨u, hx, hl, askPause_fold (nodup_eraseDups _) s1, ?_⟩
  rw [hl]
  exact hf

theorem takeSpares_one (seg rafter : Nat) (f : WireFault) (s : State) :
    let k := ((seg * 16 + rafter) * 4 + f.lane.val) * 8 + f.span.val
    let t := takeSpares seg rafter [f] s
    tget 0 t.spares k = tget 0 s.spares k + f.wires ∧ t = { s with spares := t.spares, flds := t.flds } := ⟨tget_tset_same _ _ _ _, rfl⟩

theorem laneOut_fails (seg rafter l : Nat) (s : State) : let v := laneOut seg rafter l s
    rget v .EAV_SEG_DEGRADED seg = 1 ∧ rget v .RFT_STAT_FAILED seg rafter = setFld (rget s .RFT_STAT_FAILED seg rafter) l 1 1 ∧ v.mem = s.mem := by
  unfold laneOut
  extract_lets h s1 s2 s3 v
  have h2 : Touches degradeParts (rset .EAV_SEG_DEGRADED seg 0 1 s1) s2 := Touches.degrade _ _
  have h3 : Touches [.ctxs] s2 s3 := by
    unfold s3
    cases h with
    | none => exact Touches.refl _ _
    | some c => exact Touches.ite (Touches.refl _ _) (Touches.ctxMod _ _ _)
  have ht := (h2.comp h3).comp (Touches.raise _ _ _ : Touches raiseParts s3 v)
  refine ⟨?_, ?_, ht .mem (by decide)⟩
  · rw [ht (.fld .EAV_SEG_DEGRADED) (by decide), rget_rset_same]
  · rw [ht (.fld .RFT_STAT_FAILED) (by decide), rget_rset_field _ _ _ _ _ _ _ _ (by decide)]
    exact rget_rset_same _ _ _ _ _

/-- Settles O48: arrivals, answers, writes, and the lanes' wires. -/
theorem dropResults : Obligations.DropResults := by
  unfold Obligations.DropResults
  refine ⟨fun x y rsel lane deferred s b r => ?_, fun x y late s w b => ?_, fun cb off st data s ho hm => ?_, fun seg rafter lane faulty s => ?_,
    fun seg rafter f lane s => ?_⟩
  · intro cb g mine cyc tab fails hb hc hs ha hr
    exact dropArrival_takes hb hc hs ha hr deferred
  · intro cb known st data off hw hb
    exact repairAnswer_completes hw hb
  · obtain ⟨hin, hout⟩ := dropWrite_writes (cb := cb) (off := off) (data := data) (st := st) hm
    exact ⟨hin, dropWrite_poison _ _ _ _ _, hout, fun id => wakeReads_none_waits _ _ _ _⟩
  · intro i hs h hn
    exact rafterLaneTest_takes faulty h hn
  · obtain ⟨hsp, hfr⟩ := takeSpares_one seg.val rafter.val f s
    exact ⟨hsp, hfr, laneOut_fails _ _ _ _⟩

end Sys2Proof.Machine

/-! PROOF. Patrol scrub, refresh and mirrored ranges (R248, R252 to R254, R317). -/

namespace Sys2Proof.Machine

/-! ### Patrol scrub -/

theorem Touches.scrubBlock (ch group block : Nat) (s : State) : Touches [.mem, .poison] s (Machine.scrubBlock ch group block s) := by
  unfold Machine.scrubBlock
  extract_lets k p
  cases p with
  | some p => exact (set_poison _ _).tail (mwrite _ _ _).mono
  | none => exact (set_poison _ _).mono

/-- What the scrub of a group with a bad block touches, the log aside. -/
def scrubParts : List Part := [.mem, .poison, .fld .MEM_CHERR_COUNT, .fld .MEM_CHSTAT_ERR_OVF]

theorem patrolScrubRead_clean {ch : Fin 2048} {s : State} (h : (chGet s ch.val).scrubAt + 1 < 2033600) :
    exec (.patrolScrubRead ch []) s = .next (chSet ch.val { chGet s ch.val with scrubAt := (chGet s ch.val).scrubAt + 1 } s) := if_pos h

theorem patrolScrubRead_bad {ch : Fin 2048} {bad : List (Fin 16)} {s : State} (h : (chGet s ch.val).scrubAt + 1 < 2033600) (hb : bad ≠ []) :
    ∃ t, exec (.patrolScrubRead ch bad) s = .next t ∧ (chGet t ch.val).scrubAt = (chGet s ch.val).scrubAt + 1 ∧
      t.scrubLog = s.scrubLog ++ [(ch.val, (chGet s ch.val).scrubAt)] := by
  show ∃ t, execPatrolScrubRead ch bad s = .next t ∧ _
  unfold execPatrolScrubRead
  extract_lets x seg g s1 c counted s2 s3 all
  have h1 : Touches scrubParts s s1 := Touches.fold (fun _ _ => (Touches.scrubBlock _ _ _ _).tail (Touches.chErr _ _ _).mono) (Touches.refl _ _)
  have hl : s2.scrubLog = s.scrubLog ++ [(ch.val, g)] := by
    unfold s2
    rw [if_neg (by simpa using hb), Touches.raise _ _ _ .scrubLog (by decide), Touches.recordAdd _ _ .scrubLog (by decide)]
    exact congrArg (· ++ [(ch.val, g)]) (h1 .scrubLog (by decide))
  refine ⟨_, if_pos h, congrArg Channel.scrubAt (chGet_chSet_same _ _ _), hl⟩

/-! ### Refresh -/

section Refresh

variable (cb : Nat) (off : Fin 64 → Nat)

/-- A failing block is marked once. -/
def markRow (p : List Nat) (b : Fin 64) : List Nat := if p.contains (cmKey cb (off b) / 128) then p else (cmKey cb (off b) / 128) :: p

theorem markRow_keeps {k : Nat} (l : List (Fin 64)) (p : List Nat) (h : p.contains k = true) : (l.foldl (markRow cb off) p).contains k = true :=
  List.foldlRecOn (motive := fun q : List Nat => q.contains k = true) _ _ h fun q hq b _ => by
    unfold markRow
    split
    · exact hq
    · simp_all

theorem markRow_marks (l : List (Fin 64)) (p : List Nat) : ∀ b ∈ l, (l.foldl (markRow cb off) p).contains (cmKey cb (off b) / 128) = true := by
  induction l generalizing p with
  | nil => simp
  | cons a r ih =>
    intro b hb
    rcases List.mem_cons.mp hb with rfl | hb
    · refine markRow_keeps cb off r _ ?_
      unfold markRow
      split
      · assumption
      · simp
    · exact ih _ b hb

end Refresh

/-- A counter does not change another counter of its field. -/
theorem rget_bump_index (ev ovf : F) (i n k m : Nat) (s : State) (h : ev ≠ ovf) (hm : m ≠ n) : rget (bump ev ovf i n k s) ev i m = rget s ev i m := by
  have hk : (⟨ev, i, m⟩ : FKey) ≠ ⟨ev, i, n⟩ := by simp [hm]
  unfold bump
  extract_lets v
  split
  · exact rget_rset_ne _ _ _ _ _ _ _ _ hk
  · rw [rget_rset_field _ _ _ _ _ _ _ _ h, rget_rset_ne _ _ _ _ _ _ _ _ hk]

theorem cmemRefresh_clean (x : Fin 28) (y : Fin 24) (bank : Fin 16) (row : Fin 768) (deferred : Nat) (s : State) :
    exec (.cmemRefresh x y bank row ⟨[], deferred⟩) s = .next (chargeComb (cbOf x.val y.val) deferred s) := rfl

/-- The offset of a row's block in its comb's memory. -/
def rowOff (bank : Fin 16) (row : Fin 768) (b : Fin 64) : Nat := (row.val * 64 + b.val) * 2048 + bank.val * 128

/-- What the report of a failing row touches. -/
def rowParts : List Part := [.flash, .faultBuf, .fld .FUS_RECORD_ENTRIES, .fld .FUS_EVT_COUNT, .fld .FUS_OVF_OVF, .fld .BST_EVT_COUNT, .fld .BST_OVF_OVF,
  .fld .TND_EVT_COUNT, .fld .TND_OVF_OVF]

theorem cmemRefresh_bad {x : Fin 28} {y : Fin 24} {bank : Fin 16} {row : Fin 768} {bad : List (Fin 64)} {deferred : Nat} {s : State} (hb : bad ≠ []) :
    let cb := cbOf x.val y.val
    let i := cb * 12288 + bank.val * 768 + row.val
    ∃ t, exec (.cmemRefresh x y bank row ⟨bad, deferred⟩) s = .next t ∧ t.mem = s.mem ∧
      (∀ b ∈ bad, t.poison.contains (cmKey cb ((row.val * 64 + b.val) * 2048 + bank.val * 128) / 128) = true) ∧
      tget s.start.binBase t.rowBins i = tget s.start.binBase s.rowBins i - 1 ∧
      (tget s.start.binBase s.rowBins i = 0 → t.rowRepairs.contains i = true) ∧
      rget t .TND_EVT_COUNT cb 2 = min 0xFFFFFFFF (rget s .TND_EVT_COUNT cb 2 + bad.length) := by
  intro cb i
  have h0 : Touches chargeParts s (chargeComb cb deferred s) := Touches.chargeComb _ _ _
  show ∃ t, execCmemRefresh x y bank row ⟨bad, deferred⟩ s = .next t ∧ _
  unfold execCmemRefresh
  extract_lets l s1 off bin s2 s3 s4
  have hbin : bin = tget s.start.binBase s.rowBins i := by
    unfold bin
    rw [show s1.start = s.start from h0 .start (by decide), show s1.rowBins = s.rowBins from h0 .rowBins (by decide)]
  have h4 : Touches rowParts s2 s4 := Touches.ite ((Touches.recordAdd _ _).tail (Touches.bump _ _ _ _ _ _).mono)
    ((Touches.bump _ _ _ _ _ _).tail (Touches.bump _ _ _ _ _ _).mono)
  have h5 : Touches raiseParts s4 (bad.foldl (fun s b => raise (regionOf cb)
      (recC s cb 0x05 2 0 (1 <<< 60 ||| cbX cb <<< 47 ||| cbY cb <<< 42 ||| 63 <<< 36 ||| off b)) s) s4) :=
    Touches.fold (fun _ _ => Touches.raise _ _ _) (Touches.refl _ _)
  have ht := h4.comp h5
  refine ⟨_, if_neg (by simpa using hb), (ht .mem (by decide)).trans (h0 .mem (by decide)), fun b hm => ?_, ?_, fun hz => ?_, ?_⟩
  · rw [ht .poison (by decide)]
    exact markRow_marks cb (rowOff bank row) bad s1.poison b hm
  · rw [ht .rowBins (by decide), ← hbin]
    exact tget_tset_same _ _ _ _
  · rw [ht .rowRepairs (by decide)]
    show (if bin = 0 ∧ !s1.rowRepairs.contains i then s1.rowRepairs ++ [i] else s1.rowRepairs).contains i = true
    rw [hbin, hz]
    by_cases hi : s1.rowRepairs.contains i = true
    · rw [if_neg (by simp_all)]
      exact hi
    · rw [if_pos (by simp_all)]
      simp
  · have h3 : rget s4 .TND_EVT_COUNT cb 2 = rget s3 .TND_EVT_COUNT cb 2 := by
      unfold s4
      split
      · exact Touches.recordAdd _ _ (.fld .TND_EVT_COUNT) (by decide) _ _
      · exact rget_bump_index _ _ _ _ _ _ _ (by decide) (by decide)
    rw [h5 (.fld .TND_EVT_COUNT) (by decide), h3]
    refine (rget_bump _ _ _ _ _ _ (by decide)).trans ?_
    exact congrArg (fun n => min 0xFFFFFFFF (n + bad.length)) (h0 (.fld .TND_EVT_COUNT) (by decide) cb 2)

/-! ### Mirrored ranges -/

section Config

variable {who : Requester} {c : Fin 16} {v : BitVec 64} {s : State} (hw : who = .pf ∨ who = .keeper) (h0 : rget s .CTX_STATE_STATE c.val ≠ 0)
  (h5 : rget s .CTX_STATE_STATE c.val ≠ 5)

theorem eavCtxCfgWrite_again (hc : (ctxGet s c.val).cfgWritten = true) : exec (.eavCtxCfgWrite who c v) s = .next s := if_pos (by simp [hc])

include hw h0 h5

theorem eavCtxCfgWrite_writes (hc : (ctxGet s c.val).cfgWritten = false) : ∃ t, exec (.eavCtxCfgWrite who c v) s = .next t ∧
    (ctxGet t c.val).cfgWritten = true ∧ rget t .EAV_CTX_CFG_GRANULE 0 c.val = (if fld v.toNat 62 2 = 3 then 0 else fld v.toNat 62 2) ∧
    rget t .EAV_CTX_CFG_MIRROR_BASE 0 c.val = fld v.toNat 41 21 ∧
    (rget t .EAV_CTX_CFG_MIRROR_COUNT 0 c.val = fld v.toNat 20 21 ∨ rget t .EAV_CTX_CFG_MIRROR_COUNT 0 c.val = 0) ∧ t.mem = s.mem := by
  have hx : ∃ n, (n = fld v.toNat 20 21 ∨ n = 0) ∧ exec (.eavCtxCfgWrite who c v) s = .next (ctxMod c.val (fun x => { x with cfgWritten := true })
      (rset .EAV_CTX_CFG_MIRROR_COUNT 0 c.val n <| rset .EAV_CTX_CFG_MIRROR_BASE 0 c.val (fld v.toNat 41 21) <|
        rset .EAV_CTX_CFG_GRANULE 0 c.val (if fld v.toNat 62 2 = 3 then 0 else fld v.toNat 62 2) s)) := by
    refine ⟨_, ite_eq_or_eq _ _ _, if_neg ?_⟩
    rcases hw with rfl | rfl <;> simp [h0, h5, hc]
  obtain ⟨n, hn, hx⟩ := hx
  have ht := Touches.ctxMod c.val (fun x => { x with cfgWritten := true }) (rset .EAV_CTX_CFG_MIRROR_COUNT 0 c.val n <|
    rset .EAV_CTX_CFG_MIRROR_BASE 0 c.val (fld v.toNat 41 21) <|
      rset .EAV_CTX_CFG_GRANULE 0 c.val (if fld v.toNat 62 2 = 3 then 0 else fld v.toNat 62 2) s)
  refine ⟨_, hx, by rw [ctxGet_ctxMod_same], ?_, ?_, ?_, rfl⟩
  · rw [ht (.fld .EAV_CTX_CFG_GRANULE) (by decide)]
    simp
  · rw [ht (.fld .EAV_CTX_CFG_MIRROR_BASE) (by decide)]
    simp
  · rw [ht (.fld .EAV_CTX_CFG_MIRROR_COUNT) (by decide), rget_rset_same]
    exact hn

end Config

/-- Settles O49: scrub, refresh and the mirrored configuration. -/
theorem scrubAndRefreshResults : Obligations.ScrubAndRefreshResults := by
  unfold Obligations.ScrubAndRefreshResults
  refine ⟨fun ch s h => ⟨patrolScrubRead_clean h, fun bad => patrolScrubRead_bad h⟩, fun x y bank row bad deferred s =>
    ⟨cmemRefresh_clean x y bank row deferred s, cmemRefresh_bad⟩, fun who c v s hw h0 h5 => ⟨eavCtxCfgWrite_writes hw h0 h5, eavCtxCfgWrite_again⟩⟩

end Sys2Proof.Machine

/-! PROOF. The static networks (R117 to R122, R128, R132, R180). -/

namespace Sys2Proof.Machine

/-! ### Contexts that keep their allotment -/

theorem ctxGet_ctxMod_field {β : Type} (p : Ctx → β) {f : Ctx → Ctx} (hf : ∀ x, p (f x) = p x) (c a : Nat) (s : State) :
    p (ctxGet (ctxMod c f s) a) = p (ctxGet s a) := by
  by_cases h : a = c
  · rw [h, ctxGet_ctxMod_same, hf]
  · rw [ctxGet_ctxMod_ne _ _ h]

/-- A comb belongs to the same context where every context keeps its allotment. -/
theorem ctxOfComb_of_allots {s t : State} (h : ∀ a, (ctxGet t a).allot = (ctxGet s a).allot) (cb : Nat) : ctxOfComb t cb = ctxOfComb s cb := by
  simp only [ctxOfComb, ctxHas, h]

theorem charge_allot (c n a : Nat) (s : State) : (ctxGet (charge c n s) a).allot = (ctxGet s a).allot := by
  unfold charge
  extract_lets v x late s1
  split
  · by_cases h : a = c
    · rw [h, ctxGet_ctxSet_same]
    · rw [ctxGet_ctxSet_ne _ _ _ _ h, ctxGet_touches (Touches.bump _ _ _ _ _ _) (by decide)]
      rfl
  · rfl

theorem charge_slips (c n : Nat) (s : State) :
    rget (charge c n s) .CTX_STEPSTAT_SLIP c = min (rget s .CTX_STEPSTAT_SLIP c + n) 0xFFFFFFFF := by
  unfold charge
  extract_lets v x late s1
  have h1 : rget s1 .CTX_STEPSTAT_SLIP c = v := rget_rset_same _ _ _ _ _
  split
  · rw [Touches.ctxSet _ _ _ (.fld .CTX_STEPSTAT_SLIP) (by decide), Touches.bump _ _ _ _ _ _ (.fld .CTX_STEPSTAT_SLIP) (by decide), h1]
  · exact h1

/-! ### Groups -/

/-- A switch is the same where the switches were not touched. -/
theorem swGet_touches {l : List Part} {s t : State} (h : Touches l s t) (hl : .switches ∉ l) (cb n : Nat) : swGet t cb n = swGet s cb n :=
  congrArg (tget switch0 · (swKey cb n)) (h .switches hl)

theorem netIx_lt (net : Net) : netIx net < 3 := by cases net <;> decide

theorem sendMarks_none {cb n : Nat} {s : State} (h : (swGet s cb n).marks = []) (tag : Nat) : sendMarks cb n tag s = s := by
  unfold sendMarks
  rw [h]
  rfl

section Stall

variable {cb n c : Nat} (inp : Nat) {s : State} (hs : (swGet s cb n).stallAt ≠ some s.cycle) (hc : ctxOfComb s cb = some c)

/-- The switch latches its stall of this cycle, and counts it. -/
def stalled (cb n : Nat) (s : State) : State :=
  swSet cb n { swGet s cb n with stallAt := some s.cycle } (bump .NET_EVT_COUNT .NET_OVF_OVF cb n 1 s)

theorem stalled_touches (cb n : Nat) (s : State) : Touches [.switches, .fld .NET_EVT_COUNT, .fld .NET_OVF_OVF] s (stalled cb n s) :=
  (Touches.swSet _ _ _ _).tail (Touches.bump _ _ _ _ _ _).mono

include hs hc

theorem balanceStall_from : Touches [.ctxs, .fld .NET_STALL_CYCLE, .fld .NET_STALL_VALID, .fld .NET_STALL_PHASE, .fld .NET_STALL_INPUT, .fld .NET_STALL_NET]
    (charge c 1 (stalled cb n s)) (balanceStall cb n inp s) := by
  have hb : swGet (bump .NET_EVT_COUNT .NET_OVF_OVF cb n 1 s) cb n = swGet s cb n := swGet_touches (Touches.bump _ _ _ _ _ _) (by decide) _ _
  have hcy : (bump .NET_EVT_COUNT .NET_OVF_OVF cb n 1 s).cycle = s.cycle := Touches.bump _ _ _ _ _ _ .cycle (by decide)
  have hcs : ctxOfComb (stalled cb n s) cb = some c := (ctxOfComb_touches (stalled_touches cb n s) (by decide) cb).trans hc
  unfold balanceStall
  rw [if_neg hs]
  extract_lets sw u
  have hu : u = stalled cb n s := rfl
  rw [hu, hcs]
  dsimp only
  refine Touches.ite (Touches.refl _ _) ?_
  exact (Touches.rset _ _ _ _ _).tail ((Touches.rset _ _ _ _ _).tail ((Touches.rset _ _ _ _ _).tail ((Touches.rset _ _ _ _ _).tail
    ((Touches.rset _ _ _ _ _).tail (Touches.ctxMod _ _ _).mono))))

theorem balanceStall_leaves (hn : n < 3) : let t := balanceStall cb n inp s
    swGet t cb n = { swGet s cb n with stallAt := some s.cycle } ∧ vget t .NET_STATUS_STALLED cb 0 = 1 ∧
    rget t .NET_EVT_COUNT cb n = min 0xFFFFFFFF (rget s .NET_EVT_COUNT cb n + 1) ∧
    rget t .CTX_STEPSTAT_SLIP c = min (rget s .CTX_STEPSTAT_SLIP c + 1) 0xFFFFFFFF ∧ t.workers = s.workers ∧ t.mem = s.mem := by
  intro t
  have h1 := stalled_touches cb n s
  have h2 := Touches.charge c 1 (stalled cb n s)
  have h3 := balanceStall_from inp hs hc
  have h23 := h2.comp h3
  have ht := h1.comp h23
  have hsw : swGet t cb n = { swGet s cb n with stallAt := some s.cycle } := (swGet_touches h23 (by decide) _ _).trans (swGet_swSet_same _ _ _ _)
  have hcy : t.cycle = s.cycle := ht .cycle (by decide)
  refine ⟨hsw, ?_, ?_, ?_, ht .workers (by decide), ht .mem (by decide)⟩
  · have hany : ((List.range 3).any fun n => match (swGet t cb n).stallAt with | some a => decide (t.cycle ≤ a + 1) | none => false) = true := by
      refine List.any_eq_true.mpr ⟨n, List.mem_range.mpr hn, ?_⟩
      rw [hsw, hcy]
      simp
    exact congrArg b2n hany
  · rw [h23 (.fld .NET_EVT_COUNT) (by decide)]
    exact rget_bump _ _ _ _ _ _ (by decide)
  · rw [h3 (.fld .CTX_STEPSTAT_SLIP) (by decide), charge_slips, h1 (.fld .CTX_STEPSTAT_SLIP) (by decide)]

end Stall

section Group

variable {x : Fin 28} {y : Fin 24} {net : Net} {inp : Fin 68} {c : Nat} {s : State} (hc : ctxOfComb s (cbOf x.val y.val) = some c)
  (hst : stepping s c = true) (hm : (swGet s (cbOf x.val y.val) (netIx net)).marks = [])
  (hg : groupOf (swGet s (cbOf x.val y.val) (netIx net)) inp.val ≠ [])
  (ho : ∀ r ∈ groupOf (swGet s (cbOf x.val y.val) (netIx net)) inp.val, (swGet s (cbOf x.val y.val) (netIx net)).open r = true)
  (hw : groupWords (swGet s (cbOf x.val y.val) (netIx net)) (netIx net) s.cycle (groupOf (swGet s (cbOf x.val y.val) (netIx net)) inp.val) = true)
include hc hst hm hg ho hw

/-- A group with a word on each input fires where every output has room, and stalls otherwise. -/
theorem exec_routeGroupFire : exec (.routeGroupFire x y net inp) s =
    .next (if ∀ r ∈ groupOf (swGet s (cbOf x.val y.val) (netIx net)) inp.val, outRoom s (cbOf x.val y.val) (netIx net) r.2.out = true then
      fireGroup (cbOf x.val y.val) (netIx net) (groupOf (swGet s (cbOf x.val y.val) (netIx net)) inp.val) s
    else balanceStall (cbOf x.val y.val) (netIx net) inp.val s) := by
  show execRouteGroupFire x y net inp s = _
  unfold execRouteGroupFire
  simp only [hc, hst, if_true]
  rw [sendMarks_none hm]
  refine congrArg Host.Outcome.next ?_
  unfold routeGroupFire
  extract_lets k g
  have hopen : (g.all fun r => k.open r) = true := List.all_eq_true.mpr ho
  rw [if_neg (by rw [hopen, show groupWords k (netIx net) s.cycle g = true from hw]; simpa [List.isEmpty_iff] using hg)]
  have hk : ∀ r : Nat × Route, (outRoom s (cbOf x.val y.val) (netIx net) r.2.out && !k.marks.contains r.2.out) =
      outRoom s (cbOf x.val y.val) (netIx net) r.2.out := fun r => by simp [k, hm]
  simp only [hk, List.all_eq_true]
  rfl

theorem routeGroupFire_stalls (hr : ∃ r ∈ groupOf (swGet s (cbOf x.val y.val) (netIx net)) inp.val,
    outRoom s (cbOf x.val y.val) (netIx net) r.2.out = false) :
    exec (.routeGroupFire x y net inp) s = .next (balanceStall (cbOf x.val y.val) (netIx net) inp.val s) := by
  rw [exec_routeGroupFire hc hst hm hg ho hw, if_neg]
  intro h
  obtain ⟨r, hr, hf⟩ := hr
  exact absurd (hf.symm.trans (h r hr)) (by decide)

end Group

/-! ### Links, crossings and residues -/

section Link

variable {x : Fin 28} {y : Fin 24} {net : Net} {dir : Fin 4} {back : Fin 16} {again : Bool} {slip : Nat} {s : State}

theorem exec_staticLinkCheckFail (hn : (neighbour (cbOf x.val y.val) dir.val).isSome = true)
    (hl : linkStopped s (cbOf x.val y.val) (netIx net) dir.val = false) :
    let cb := cbOf x.val y.val
    let n := netIx net
    let k := linkKey cb n dir.val
    let s1 := bump .NET_EVT_COUNT .NET_OVF_OVF cb 3 1 s
    let f := if again then (tget link0 s.links k).fails + 1 else 1
    exec (.staticLinkCheckFail x y net dir back ⟨again, slip⟩) s = .next (if f < 4 then chargeComb cb (min slip 400)
        (holdBack cb n dir.val back.val (s.cycle + min slip 400) { s1 with links := tset s.links k ⟨f, false⟩ })
      else combFault cb (holdBack cb n dir.val back.val never { s1 with links := tset s.links k ⟨f, true⟩ })) := by
  intro cb n k s1 f
  have hlk : s1.links = s.links := Touches.bump _ _ _ _ _ _ .links (by decide)
  have hcy : s1.cycle = s.cycle := Touches.bump _ _ _ _ _ _ .cycle (by decide)
  have hs : exec (.staticLinkCheckFail x y net dir back ⟨again, slip⟩) s =
      (if (if again then (tget link0 s1.links k).fails + 1 else 1) < 4 then .next (chargeComb cb (min slip 400)
        (holdBack cb n dir.val back.val (s1.cycle + min slip 400) { s1 with links := tset s1.links k ⟨if again then (tget link0 s1.links k).fails + 1 else 1, false⟩ }))
      else .next (combFault cb (holdBack cb n dir.val back.val never { s1 with links := tset s1.links k ⟨if again then (tget link0 s1.links k).fails + 1 else 1, true⟩ }))) :=
    if_neg (by simp [hl, Option.isNone_eq_false_iff.mpr hn])
  rw [hs, hlk, hcy]
  exact (apply_ite Host.Outcome.next _ _ _).symm

end Link

theorem crossingUser_of {s t : State} (h : ∀ a, (ctxGet t a).allot = (ctxGet s a).allot) (hs : t.switches = s.switches) (r side c : Nat) :
    crossingUser t r side c = crossingUser s r side c := by
  simp only [crossingUser, routesOver, h, hs]

theorem crossingWander_asks {r : Fin 42} {side : Fin 4} (words : Nat) (c : Fin 16) {s : State} (h : innerSide r.val side.val = true) : ∃ t,
    exec (.crossingWander r side words c) s = .next t ∧
    (∀ k, k < 16 → crossingUser s r.val side.val k = true → t.repins.contains (r.val * 4 + side.val, k) = true) ∧ t.mem = s.mem ∧
    rget t .NET_XING_WANDER r.val = setFld (rget s .NET_XING_WANDER r.val) (3 - side.val) 1 1 ∧
    rget t .NET_XEVT_COUNT r.val 0 = min 0xFFFFFFFF (rget s .NET_XEVT_COUNT r.val 0 + 1) := by
  show ∃ t, execCrossingWander r side words c s = .next t ∧ _
  unfold execCrossingWander
  rw [if_pos h]
  extract_lets s1 s2 s3 users
  have h2 : Touches [.fld .NET_XEVT_COUNT, .fld .NET_XOVF_OVF] s1 s2 := Touches.bump _ _ _ _ _ _
  have h3 : Touches [.ctxs, .fld .CTX_STEPSTAT_SLIP, .fld .CTX_EVT_COUNT, .fld .CTX_OVF_OVF] s2 s3 := Touches.ite (Touches.charge _ _ _) (Touches.refl _ _)
  have h23 := h2.comp h3
  have hx2 (a : Nat) : ctxGet s2 a = ctxGet s a := (ctxGet_touches h2 (by decide) a).trans rfl
  have ha (a : Nat) : (ctxGet s3 a).allot = (ctxGet s a).allot := by
    rw [← hx2 a]
    unfold s3
    split
    · exact charge_allot _ _ _ _
    · rfl
  refine ⟨_, rfl, fun k hk hu => ?_, h23 .mem (by decide), ?_, ?_⟩
  · have hu3 : crossingUser s3 r.val side.val k = true := (crossingUser_of ha (h23 .switches (by decide)) _ _ _).trans hu
    have hm : (r.val * 4 + side.val, k) ∈ users := List.mem_map.mpr ⟨k, List.mem_filter.mpr ⟨List.mem_range.mpr hk, hu3⟩, rfl⟩
    show (s3.repins ++ users.filter fun e => !s3.repins.contains e).contains _ = true
    simp only [List.contains_eq_mem, List.mem_append, List.mem_filter, decide_eq_true_eq, hm, true_and]
    by_cases hr : (r.val * 4 + side.val, k) ∈ s3.repins
    · exact .inl hr
    · exact .inr (by simpa using hr)
  · refine (h23 (.fld .NET_XING_WANDER) (by decide) _ _).trans ?_
    exact rget_rset_same _ _ _ _ _
  · refine (h3 (.fld .NET_XEVT_COUNT) (by decide) _ _).trans ((rget_bump _ _ _ _ _ _ (by decide)).trans ?_)
    rw [show rget s1 .NET_XEVT_COUNT r.val 0 = rget s .NET_XEVT_COUNT r.val 0 from rget_rset_field _ _ _ _ _ _ _ _ (by decide)]

theorem portParityError_fails (x : Fin 28) (y : Fin 24) (w : Fin 32) (port : Nat) (s : State) :
    let wk := wkOf x.val y.val w.val
    ∃ t, exec (.portParityError x y w port) s = .next t ∧ rget t .WRK_STATUS_STEP_FAILED wk = 1 ∧ rget t .WRK_FAULT_CLASS wk = 1 ∧
      rget t .WRK_FAULT_DETAIL wk = port % 256 ∧ (∀ c, ctxOfComb s (wk / 32) = some c → (ctxGet t c).failed = true) ∧ t.mem = s.mem := by
  intro wk
  let s1 := rset .WRK_STATUS_STEP_FAILED wk 0 1 s
  let s2 := wrkFault wk clsParity port 0 0 s1
  let r := recW s wk clsParity 1 port 0
  have h2 : Touches [.fld .WRK_FAULT_CYCLE, .fld .WRK_FAULT_SLOT, .fld .WRK_FAULT_THREAD, .fld .WRK_FAULT_DETAIL, .fld .WRK_FAULT_CLASS] s1 s2 :=
    Touches.wrkFault _ _ _ _ _ _
  have h3 : Touches (.ctxs :: raiseParts) s2 (raise (regionOf (wk / 32)) r (failComb (wk / 32) r (some wk) s2)) :=
    (Touches.raise _ _ _).tail (Touches.failComb _ _ _ _).mono
  have h12 := (Touches.rset .WRK_STATUS_STEP_FAILED wk 0 1 s).comp h2
  refine ⟨_, rfl, ?_, ?_, ?_, fun c hc => ?_, (h12.comp h3) .mem (by decide)⟩
  · refine (h3 (.fld .WRK_STATUS_STEP_FAILED) (by decide) _ _).trans ((h2 (.fld .WRK_STATUS_STEP_FAILED) (by decide) _ _).trans ?_)
    exact rget_rset_same _ _ _ _ _
  · refine (h3 (.fld .WRK_FAULT_CLASS) (by decide) _ _).trans ?_
    simp [s2, wrkFault, clsParity]
  · refine (h3 (.fld .WRK_FAULT_DETAIL) (by decide) _ _).trans ?_
    simp [s2, wrkFault]
  · refine (congrArg Ctx.failed (ctxGet_touches (Touches.raise _ _ _) (by decide) c)).trans ?_
    exact failComb_failed r _ ((ctxOfComb_touches h12 (by decide) _).trans hc)

theorem failComb_keeps {β : Type} (p : Ctx → β) (hp : ∀ (x : Ctx) b f l, p { x with failed := b, firstFail := f, suspects := l } = p x)
    (cb : Nat) (r : FaultRec) (who : Option Nat) (s : State) (a : Nat) : p (ctxGet (failComb cb r who s) a) = p (ctxGet s a) := by
  unfold failComb
  split
  · exact ctxGet_ctxMod_field p (fun x => hp x _ _ _) _ _ _
  · rfl

theorem combFault_keeps {β : Type} (p : Ctx → β) (hp : ∀ (x : Ctx) b f l, p { x with failed := b, firstFail := f, suspects := l } = p x)
    (cb : Nat) (s : State) (a : Nat) : p (ctxGet (combFault cb s) a) = p (ctxGet s a) := by
  unfold combFault
  dsimp only
  split
  · exact failComb_keeps p hp _ _ _ _ _
  · exact failComb_keeps p hp _ _ _ _ _

theorem Touches.combFault (cb : Nat) (s : State) : Touches [.ctxs, .combFaults] s (Machine.combFault cb s) := by
  unfold Machine.combFault
  exact ite (failComb _ _ _ _).mono ((set_combFaults _ _).tail (failComb _ _ _ _).mono)

/-- A residue failure is counted and noted, and fails the step of its context. -/
def residueNoted (cb : Nat) (r : FaultRec) (s : State) : State :=
  let s := bump .NET_EVT_COUNT .NET_OVF_OVF cb 5 1 s
  let s := match ctxOfComb s cb with
    | some c => ctxMod c (fun x => { x with residueHist := cb :: x.residueHist }) s
    | none => s
  raise (regionOf cb) r (failComb cb r none s)

theorem residueNoted_leaves (cb : Nat) (r : FaultRec) (s : State) : let t := residueNoted cb r s
    Touches ([.ctxs, .fld .NET_EVT_COUNT, .fld .NET_OVF_OVF] ++ raiseParts) s t ∧ rget t .NET_EVT_COUNT cb 5 = min 0xFFFFFFFF (rget s .NET_EVT_COUNT cb 5 + 1) ∧
    (∀ a, (ctxGet t a).allot = (ctxGet s a).allot) ∧
    (∀ c, ctxOfComb s cb = some c → (ctxGet t c).failed = true ∧ (ctxGet t c).residueHist = cb :: (ctxGet s c).residueHist) := by
  unfold residueNoted
  extract_lets s1 s2 t
  have h1 : Touches [.fld .NET_EVT_COUNT, .fld .NET_OVF_OVF] s s1 := Touches.bump _ _ _ _ _ _
  have h2 : Touches [.ctxs] s1 s2 := by
    unfold s2
    split
    · exact Touches.ctxMod _ _ _
    · exact Touches.refl _ _
  have h3 : Touches (.ctxs :: raiseParts) s2 t := (Touches.raise _ _ _).tail (Touches.failComb _ _ _ _).mono
  have hg (a : Nat) : ctxGet s1 a = ctxGet s a := ctxGet_touches h1 (by decide) a
  have hf (a : Nat) : ctxGet t a = ctxGet (failComb cb r none s2) a := ctxGet_touches (Touches.raise _ _ _) (by decide) a
  have ha2 (a : Nat) : (ctxGet s2 a).allot = (ctxGet s a).allot := by
    rw [← hg a]
    unfold s2
    split
    · exact ctxGet_ctxMod_field Ctx.allot (f := fun x => { x with residueHist := cb :: x.residueHist }) (fun _ => rfl) _ _ _
    · rfl
  refine ⟨?_, ?_, fun a => ?_, fun c hc => ⟨?_, ?_⟩⟩
  · exact h3.tail (h2.tail h1.mono)
  · rw [(h2.comp h3) (.fld .NET_EVT_COUNT) (by decide)]
    exact rget_bump _ _ _ _ _ _ (by decide)
  · rw [hf, failComb_keeps Ctx.allot (fun _ _ _ _ => rfl), ha2]
  · rw [hf]
    exact failComb_failed r none ((ctxOfComb_of_allots ha2 cb).trans hc)
  · have hc1 : ctxOfComb s1 cb = some c := (ctxOfComb_touches h1 (by decide) cb).trans hc
    have hs2 : s2 = ctxMod c (fun x => { x with residueHist := cb :: x.residueHist }) s1 := by
      unfold s2
      rw [hc1]
    rw [hf, failComb_keeps Ctx.residueHist (fun _ _ _ _ => rfl), hs2, ctxGet_ctxMod_same, hg]

/-- A comb's residue failed in the step, and fails again in its replay. -/
def residueAgain (cb : Nat) (s : State) : Bool :=
  match ctxOfComb s cb with
  | some c => (ctxGet s c).replayed && (ctxGet s c).residueHist.contains cb
  | none => false

theorem exec_residueMismatch (x : Fin 28) (y : Fin 24) (out : Fin 68) (s : State) : ∃ r,
    exec (.residueMismatch x y out) s = .next (if residueAgain (cbOf x.val y.val) s then combFault (cbOf x.val y.val) (residueNoted (cbOf x.val y.val) r s)
      else residueNoted (cbOf x.val y.val) r s) := by
  have h1 := Touches.bump .NET_EVT_COUNT .NET_OVF_OVF (cbOf x.val y.val) 5 1 s
  have ha : residueAgain (cbOf x.val y.val) (bump .NET_EVT_COUNT .NET_OVF_OVF (cbOf x.val y.val) 5 1 s) = residueAgain (cbOf x.val y.val) s := by
    simp only [residueAgain, ctxOfComb_touches h1 (by decide), ctxGet_touches h1 (by decide)]
  rw [← ha]
  exact ⟨_, rfl⟩

theorem residueMismatch_fails (x : Fin 28) (y : Fin 24) (out : Fin 68) (s : State) :
    let cb := cbOf x.val y.val
    ∃ t, exec (.residueMismatch x y out) s = .next t ∧ rget t .NET_EVT_COUNT cb 5 = min 0xFFFFFFFF (rget s .NET_EVT_COUNT cb 5 + 1) ∧
      (∀ c, ctxOfComb s cb = some c → (ctxGet t c).failed = true ∧ (ctxGet t c).residueHist = cb :: (ctxGet s c).residueHist) ∧
      (∀ c, ctxOfComb s cb = some c → (ctxGet s c).replayed = true → (ctxGet s c).residueHist.contains cb = true → t.combFaults.contains cb = true) ∧
      t.mem = s.mem := by
  intro cb
  obtain ⟨r, hx⟩ := exec_residueMismatch x y out s
  obtain ⟨ht, hn, ha, hc⟩ := residueNoted_leaves cb r s
  have hm : (residueNoted cb r s).mem = s.mem := ht .mem (by decide)
  refine ⟨_, hx, ?_⟩
  by_cases h : residueAgain cb s = true
  · rw [if_pos h]
    have hf := Touches.combFault cb (residueNoted cb r s)
    refine ⟨(hf (.fld .NET_EVT_COUNT) (by decide) _ _).trans hn, fun c hcb => ⟨combFault_failed ((ctxOfComb_of_allots ha cb).trans hcb), ?_⟩,
      fun _ _ _ _ => combFault_faults _ _, (hf .mem (by decide)).trans hm⟩
    exact (combFault_keeps Ctx.residueHist (fun _ _ _ _ => rfl) _ _ _).trans (hc c hcb).2
  · rw [if_neg h]
    refine ⟨hn, hc, fun c hcb hr hh => absurd ?_ h, hm⟩
    simp only [residueAgain, hcb, hr, hh, Bool.and_self]

/-- Settles O53: groups, links, crossings, and failed words. -/
theorem networkResults : Obligations.NetworkResults := by
  unfold Obligations.NetworkResults
  refine ⟨fun x y net inp c s => ?_, fun x y net dir back again slip s => ?_, fun r side words c s => crossingWander_asks words c,
    portParityError_fails, residueMismatch_fails⟩
  · intro cb n k g hc hst hm hg ho hw
    refine ⟨fun hr => ?_, fun hr hs => ?_, fun hr hs => ⟨_, routeGroupFire_stalls hc hst hm hg ho hw hr, balanceStall_leaves inp.val hs hc (netIx_lt net)⟩⟩
    · rw [exec_routeGroupFire hc hst hm hg ho hw, if_pos hr]
    · rw [routeGroupFire_stalls hc hst hm hg ho hw hr, show balanceStall _ _ _ s = s from if_pos hs]
  · intro cb n k s1 f hn hl
    refine ⟨fun hf => ?_, fun hf => ?_⟩
    · exact (exec_staticLinkCheckFail hn hl).trans (congrArg Host.Outcome.next (if_pos hf))
    · exact (exec_staticLinkCheckFail hn hl).trans (congrArg Host.Outcome.next (if_neg (Nat.not_lt.mpr hf)))

end Sys2Proof.Machine

/-! PROOF. Courses and fault records (R168, R169, R172, R331, R453). -/

namespace Sys2Proof.Machine

/-! ### Marks and flips -/

@[simp] theorem wGet_wMod_same (k : Nat) (f : Worker → Worker) (s : State) : wGet (wMod k f s) k = f (wGet s k) := tget_tset_same _ _ _ _

/-- A worker is the same where the workers were not touched. -/
theorem wGet_touches {l : List Part} {s t : State} (h : Touches l s t) (hl : .workers ∉ l) (k : Nat) : wGet t k = wGet s k :=
  congrArg (tget worker0 · k) (h .workers hl)

theorem courseMarkEmit_sends {x : Fin 28} {y : Fin 24} {w : Fin 32} {c : Nat} {s : State}
    (hc : ctxOfComb s (wkOf x.val y.val w.val / 32) = some c) (hd : (wGet s (wkOf x.val y.val w.val)).done = true)
    (hf : (wGet s (wkOf x.val y.val w.val)).flipped = false) (hk : coursing s c = true) (hm : (wGet s (wkOf x.val y.val w.val)).marksOut = false)
    (hr : ∀ o ∈ (wGet s (wkOf x.val y.val w.val)).act.outs, portRoom s (wkOf x.val y.val w.val) o = true) : ∃ t,
    exec (.courseMarkEmit x y w) s = .next t ∧ (wGet t (wkOf x.val y.val w.val)).marksOut = true ∧ t.mem = s.mem := by
  have hx : exec (.courseMarkEmit x y w) s = .next (wMod (wkOf x.val y.val w.val) (fun w => { w with marksOut := true })
      ((wGet s (wkOf x.val y.val w.val)).act.outs.foldl (fun u o => portMark (wkOf x.val y.val w.val) o (markTag u c) u) s)) := by
    show execCourseMarkEmit x y w s = _
    unfold execCourseMarkEmit
    simp only [hc]
    exact if_pos (by simp [hk, hd, hm, hf]; exact hr)
  have ht : Touches [.switches] s ((wGet s (wkOf x.val y.val w.val)).act.outs.foldl (fun u o => portMark (wkOf x.val y.val w.val) o (markTag u c) u) s) :=
    Touches.fold (fun _ _ => Touches.swSet _ _ _ _) (Touches.refl _ _)
  exact ⟨_, hx, by rw [wGet_wMod_same], ht .mem (by decide)⟩

/-- What the check of a worker's slots leaves: the other workers, and the worker's configurations and course. -/
structure SlotsChecked (wk : Nat) (s t : State) : Prop where
  touches : Touches slotCheckParts s t
  others : ∀ o, o ≠ wk → wGet t o = wGet s o
  act : (wGet t wk).act = (wGet s wk).act
  sh : (wGet t wk).sh = (wGet s wk).sh
  flipped : (wGet t wk).flipped = (wGet s wk).flipped
  marksOut : (wGet t wk).marksOut = (wGet s wk).marksOut
  shReady : (wGet t wk).shReady = (wGet s wk).shReady

namespace SlotsChecked

theorem refl (wk : Nat) (s : State) : SlotsChecked wk s s := ⟨Touches.refl _ _, fun _ _ => rfl, rfl, rfl, rfl, rfl, rfl⟩

theorem trans {wk : Nat} {s t u : State} (h : SlotsChecked wk s t) (g : SlotsChecked wk t u) : SlotsChecked wk s u :=
  ⟨g.touches.tail h.touches (fun _ => id), fun o ho => (g.others o ho).trans (h.others o ho), g.act.trans h.act, g.sh.trans h.sh,
    g.flipped.trans h.flipped, g.marksOut.trans h.marksOut, g.shReady.trans h.shReady⟩

/-- What does not touch the workers leaves them. -/
theorem of_touches {wk : Nat} {l : List Part} {s t : State} (h : Touches l s t) (hw : .workers ∉ l) (hl : l ⊆ slotCheckParts) : SlotsChecked wk s t := by
  have hg := wGet_touches h hw
  exact ⟨h.mono hl, fun o _ => hg o, by rw [hg], by rw [hg], by rw [hg], by rw [hg], by rw [hg]⟩

theorem set_upsets (wk : Nat) (w : Worker) (s : State) (hw : wGet s wk = w) (l : List (Nat × Bool)) (b : Bool) :
    SlotsChecked wk s (wSet wk { w with upsets := l, stopped := b } s) := by
  subst hw
  exact ⟨(Touches.wSet _ _ _).mono, fun o ho => wGet_wSet_ne _ _ _ _ ho, by rw [wGet_wSet_same], by rw [wGet_wSet_same], by rw [wGet_wSet_same],
    by rw [wGet_wSet_same], by rw [wGet_wSet_same]⟩

theorem slotCheck (wk t : Nat) (e : SlotEcc) (s : State) : SlotsChecked wk s (Machine.slotCheck wk t e s) := by
  unfold Machine.slotCheck
  extract_lets w p r s1 s2
  split
  · exact refl _ _
  · exact (set_upsets wk w s rfl _ _).trans (of_touches (Touches.bump _ _ _ _ _ _) (by decide) (by decide))
  · have h1 : Touches [.fld .WRK_STATUS_STEP_FAILED, .fld .WRK_FAULT_CYCLE, .fld .WRK_FAULT_SLOT, .fld .WRK_FAULT_THREAD, .fld .WRK_FAULT_DETAIL,
        .fld .WRK_FAULT_CLASS] s s1 := (Touches.wrkFault _ _ _ _ _ _).tail (Touches.rset _ _ _ _ _).mono
    have hw1 : wGet s1 wk = w := wGet_touches h1 (by decide) wk
    have h2 : Touches (.ctxs :: raiseParts) (wSet wk { w with stopped := true } s1) (Machine.raise (regionOf (wk / 32)) r s2) :=
      (Touches.raise _ _ _).tail (Touches.failComb _ _ _ _).mono
    exact ((of_touches h1 (by decide) (by decide)).trans (set_upsets wk w s1 hw1 w.upsets true)).trans (of_touches h2 (by decide) (by decide))

theorem checkAll (wk : Nat) (s : State) : SlotsChecked wk s (Machine.checkAll wk s) := by
  unfold Machine.checkAll
  split
  · exact refl _ _
  · refine List.foldlRecOn (motive := SlotsChecked wk s) _ _ (refl _ _) fun t ht a _ => ?_
    split
    · exact ht
    · exact ht.trans (slotCheck _ _ _ _)

end SlotsChecked

theorem Touches.leftover (unit c cause : Nat) (r : FaultRec) (s : State) : Touches (.ctxs :: raiseParts) s (Machine.leftover unit c cause r s) := by
  unfold Machine.leftover
  exact ite (refl _ _) ((raise _ _ _).tail (ctxMod _ _ _).mono)

/-- The inputs of a worker after its flip: what stood before the marks, and the marks, are gone. -/
def marksTaken (k : Worker) : Worker :=
  k.act.ins.foldl (fun w i => { w with fifo := w.fifo.set i ((k.fifo.getD i []).drop ((beforeMark (inNet i) (k.fifo.getD i [])).length + 1)) }) k

theorem marksTaken_keeps (k : Worker) : (marksTaken k).act = k.act ∧ (marksTaken k).sh = k.sh :=
  List.foldlRecOn (motive := fun w : Worker => w.act = k.act ∧ w.sh = k.sh) _ _ ⟨rfl, rfl⟩ fun _ h _ _ => h

theorem workerFlip_flips {x : Fin 28} {y : Fin 24} {w : Fin 32} {upsets : List (Fin 512 × Bool)} {c : Nat} {s : State}
    (hc : ctxOfComb s (wkOf x.val y.val w.val / 32) = some c) (hd : (wGet s (wkOf x.val y.val w.val)).done = true)
    (hf : (wGet s (wkOf x.val y.val w.val)).flipped = false) (hk : overlappedRunning s c = true)
    (hm : (wGet s (wkOf x.val y.val w.val)).marksOut = true ∨ (wGet s (wkOf x.val y.val w.val)).act.outs = [])
    (hi : ∀ i ∈ (wGet s (wkOf x.val y.val w.val)).act.ins, hasMark (inNet i) ((wGet s (wkOf x.val y.val w.val)).fifo.getD i []) = true) :
    let wk := wkOf x.val y.val w.val
    let k := wGet s wk
    ∃ t, exec (.workerFlip x y ⟨w, upsets⟩) s = .next t ∧ (wGet t wk).act = k.sh ∧ (wGet t wk).sh = k.act ∧ (wGet t wk).flipped = true ∧
      (wGet t wk).marksOut = false ∧ (wGet t wk).shReady = false ∧ (∀ o, o ≠ wk → wGet t o = wGet s o) ∧ t.mem = s.mem := by
  intro wk k
  let n : Worker := { flipWorker (marksTaken k) with upsets := upsets.map fun u => (u.1.val, u.2) }
  let s1 := wSet wk n s
  let s2 := checkAll wk s1
  have h2 : SlotsChecked wk s1 s2 := SlotsChecked.checkAll _ _
  have hx : ∃ lost : Nat, exec (.workerFlip x y ⟨w, upsets⟩) s = .next (if lost = 0 then s2
      else leftover (regionOf (wk / 32)) c 6 (recW s2 wk clsOverrun 2 6 0) (bump .NET_EVT_COUNT .NET_OVF_OVF (wk / 32) 4 lost s2)) := by
    refine ⟨(k.act.ins.map fun i => (beforeMark (inNet i) (k.fifo.getD i [])).length).foldl (· + ·) 0, ?_⟩
    show execWorkerFlip x y ⟨w, upsets⟩ s = _
    unfold execWorkerFlip
    simp only [hc]
    refine if_pos ?_
    have hins : (k.act.ins.all fun i => hasMark (inNet i) (k.fifo.getD i [])) = true := List.all_eq_true.mpr hi
    have hout : (k.marksOut || k.act.outs.isEmpty) = true := by
      rcases hm with hm | hm
      · simp [k, wk, hm]
      · simp [k, wk, hm]
    rw [show (wGet s (wkOf x.val y.val w.val)) = k from rfl, hins, hout, hk, hd, hf]
    rfl
  obtain ⟨lost, hx⟩ := hx
  have h3 : Touches ([.ctxs, .fld .NET_EVT_COUNT, .fld .NET_OVF_OVF] ++ raiseParts) s2 (if lost = 0 then s2
      else leftover (regionOf (wk / 32)) c 6 (recW s2 wk clsOverrun 2 6 0) (bump .NET_EVT_COUNT .NET_OVF_OVF (wk / 32) 4 lost s2)) :=
    Touches.ite (Touches.refl _ _) ((Touches.leftover _ _ _ _ _).tail (Touches.bump _ _ _ _ _ _).mono)
  have hg (o : Nat) := wGet_touches h3 (by decide) o
  have hn : wGet s1 wk = n := wGet_wSet_same _ _ _
  obtain ⟨hact, hsh⟩ := marksTaken_keeps k
  refine ⟨_, hx, ?_, ?_, ?_, ?_, ?_, fun o ho => ?_, ?_⟩
  · rw [hg, h2.act, hn]
    exact hsh
  · rw [hg, h2.sh, hn]
    exact hact
  · rw [hg, h2.flipped, hn]
    rfl
  · rw [hg, h2.marksOut, hn]
    rfl
  · rw [hg, h2.shReady, hn]
    rfl
  · rw [hg, h2.others o ho]
    exact wGet_wSet_ne _ _ _ _ ho
  · exact (h3 .mem (by decide)).trans (h2.touches .mem (by decide))

theorem switchFlip_flips {x : Fin 28} {y : Fin 24} {net : Net} {c : Nat} {s : State} (hc : ctxOfComb s (cbOf x.val y.val) = some c)
    (hk : overlappedRunning s c = true) (hf : (swGet s (cbOf x.val y.val) (netIx net)).flipped = false)
    (hi : ∀ i ∈ (swGet s (cbOf x.val y.val) (netIx net)).act.ins, ∃ v, ((swGet s (cbOf x.val y.val) (netIx net)).q i).head? = some v ∧
      isMark (netIx net) v = true) : exec (.switchFlip x y net) s = .next (sendMarks (cbOf x.val y.val) (netIx net) (markTag s c)
        (swSet (cbOf x.val y.val) (netIx net) (flipSwitch (swGet s (cbOf x.val y.val) (netIx net))) s)) := by
  show execSwitchFlip x y net s = _
  unfold execSwitchFlip
  simp only [hc]
  refine if_pos ?_
  rw [hk, hf, Bool.true_and, Bool.not_false, Bool.true_and]
  refine List.all_eq_true.mpr fun i h => ?_
  obtain ⟨v, hv, hm⟩ := hi i h
  simp only [hv, hm]

/-! ### Marks out of place -/

/-- A hold keeps what it does not write of its context. -/
theorem hold_keeps {β : Type} (p : Ctx → β) (hp : ∀ (x : Ctx) r, p { x with heldTicks := 0, held := r, load := none } = p x) (c cls : Nat)
    (r : Option FaultRec) (s : State) (a : Nat) : p (ctxGet (hold c cls r s) a) = p (ctxGet s a) := by
  unfold hold
  split
  · extract_lets s1 s2 s3
    have h3 : Touches endParts s2 s3 := Touches.endCmds _ _ _ _ _
    rw [ctxGet_touches (Touches.post _ _ _) (by decide), ctxGet_touches h3 (by decide)]
    exact ctxGet_ctxMod_field p (f := fun x => { x with heldTicks := 0, held := r, load := none }) (fun x => hp x r) _ _ _
  · rfl

theorem schedFault_sets (c : Nat) (r : FaultRec) (s : State) : (ctxGet (schedFault c r s) c).schedFault = true := by
  unfold schedFault
  rw [hold_keeps Ctx.schedFault (fun _ _ => rfl), ctxGet_ctxMod_same]

theorem courseMarkMismatch_resets {x : Fin 28} {y : Fin 24} {net : Net} {inp : Fin 132} {c : Nat} {v : NWord} {s : State}
    (hc : ctxOfComb s (cbOf x.val y.val) = some c) (hv : markInput s (cbOf x.val y.val) (netIx net) inp.val = some v)
    (hm : isMark (netIx net) v = true)
    (ha : (∀ b, (ctxGet s c).arm ≠ .running b) ∨ (netIx net = 2 ∧ (wordAt v.data 0).toNat / 8 ≠ markTag s c)) :
    ∃ t, exec (.courseMarkMismatch x y net inp) s = .next t ∧ (ctxGet t c).resetReq = some none ∧ (ctxGet t c).schedFault = true := by
  have hbad : (!(match (ctxGet s c).arm with | .running _ => true | _ => false) || (netIx net == 2 && (wordAt v.data 0).toNat / 8 != markTag s c)) = true := by
    rcases ha with ha | ⟨hn, ht⟩
    · cases h : (ctxGet s c).arm with
      | running b => exact absurd h (ha b)
      | _ => rfl
    · simp [hn, ht]
  have hx : ∃ r u, exec (.courseMarkMismatch x y net inp) s =
      .next (ctxMod c (fun x => { x with resetReq := some none }) (schedFault c r u)) := by
    let r := recC s (cbOf x.val y.val) clsSchedule 5 3 0
    refine ⟨r, raise (regionOf (cbOf x.val y.val)) r s, ?_⟩
    show execCourseMarkMismatch x y net inp s = _
    unfold execCourseMarkMismatch
    simp only [hc, hv]
    exact if_pos (by rw [hm, Bool.true_and]; exact hbad)
  obtain ⟨r, u, hx⟩ := hx
  refine ⟨_, hx, by rw [ctxGet_ctxMod_same], ?_⟩
  rw [ctxGet_ctxMod_same]
  exact schedFault_sets c r u

/-! ### Records -/

theorem Touches.deliverRec (f : Nat) (r : FaultRec) (s : State) : Touches [.mem, .hosts, .fld .HST_FQ_PTR_TAIL, .fld .HST_EVT_COUNT, .fld .HST_OVF_OVF] s
    (Machine.deliverRec f r s) := by
  unfold Machine.deliverRec
  exact ite ((msix _ _ _).tail ((rset _ _ _ _ _).tail (mwrite _ _ _).mono)) (bump _ _ _ _ _ _).mono

theorem logRec_logs (r : FaultRec) (s : State) : let t := logRec r s
    t.faultBuf = s.faultBuf ∧ t.keeper = { s.keeper with log := tset s.keeper.log (rget s .KPR_FLOG_NEXT) r } ∧
    rget t .KPR_FLOG_NEXT = (rget s .KPR_FLOG_NEXT + 1) % 4096 ∧ rget t .KPR_FLOG_TOTAL = min (rget s .KPR_FLOG_TOTAL + 1) 0xFFFFFFFF := by
  unfold logRec
  extract_lets n kp s1 s2 t
  have h2 : Touches [.fld .KPR_FLOG_NEXT, .fld .KPR_FLOG_WRAPPED] s1 s2 := (Touches.rset _ _ _ _ _).tail (Touches.ite (Touches.rset _ _ _ _ _).mono (Touches.refl _ _))
  have ht : Touches [.fld .KPR_FLOG_TOTAL] s2 t := Touches.rset _ _ _ _ _
  refine ⟨(h2.comp ht) .faultBuf (by decide), (h2.comp ht) .keeper (by decide), ?_, ?_⟩
  · rw [ht (.fld .KPR_FLOG_NEXT) (by decide)]
    exact rget_rset_same _ _ _ _ _
  · refine (rget_rset_same _ _ _ _ _).trans ?_
    rw [h2 (.fld .KPR_FLOG_TOTAL) (by decide)]
    rfl

theorem faultPacket_accepted {unit : Fin 50} {r : FaultRec} {q : List FaultRec} {s : State} (hq : tget [] s.faultBuf unit.val = r :: q)
    (hr : s.keeper.inReset = false) :
    let r1 := { r with seq := s.keeper.seq, module := moduleId s }
    ∃ t, exec (.faultPacket unit) s = .next t ∧ tget [] t.faultBuf unit.val = q ∧ t.keeper.seq = seqNext s.keeper.seq ∧
      t.keeper.log = tset s.keeper.log (rget s .KPR_FLOG_NEXT) r1 ∧ rget t .KPR_FLOG_NEXT = (rget s .KPR_FLOG_NEXT + 1) % 4096 ∧
      rget t .KPR_FLOG_TOTAL = min (rget s .KPR_FLOG_TOTAL + 1) 0xFFFFFFFF := by
  intro r1
  let s1 : State := { s with faultBuf := tset s.faultBuf unit.val q, keeper := { s.keeper with seq := seqNext s.keeper.seq } }
  have hx : exec (.faultPacket unit) s = .next (deliverRec (recFunc s1 r1) r1 (logRec r1 s1)) := by
    show execFaultPacket unit s = _
    unfold execFaultPacket
    rw [hq]
    exact if_neg (by simp [hr])
  have hd := Touches.deliverRec (recFunc s1 r1) r1 (logRec r1 s1)
  obtain ⟨hb, hk, hn, ht⟩ := logRec_logs r1 s1
  have hkp := (hd .keeper (by decide)).trans hk
  refine ⟨_, hx, ?_, congrArg Keeper.seq hkp, congrArg Keeper.log hkp, (hd (.fld .KPR_FLOG_NEXT) (by decide) _ _).trans hn,
    (hd (.fld .KPR_FLOG_TOTAL) (by decide) _ _).trans ht⟩
  rw [(hd .faultBuf (by decide)).trans hb]
  exact tget_tset_same _ _ _ _

/-- Settles O54: marks, flips, and records. -/
theorem courseAndRecordResults : Obligations.CourseAndRecordResults := by
  unfold Obligations.CourseAndRecordResults
  refine ⟨fun x y w upsets c s => ?_, fun x y net c s => ?_, fun x y net inp c v s => ?_, fun unit r q s hq hr => faultPacket_accepted hq hr⟩
  · intro wk k hc hd hf
    exact ⟨courseMarkEmit_sends hc hd hf, workerFlip_flips hc hd hf⟩
  · intro cb n k hc hk hf hi
    have hg : swGet (swSet cb n (flipSwitch k) s) cb n = flipSwitch k := swGet_swSet_same _ _ _ _
    exact ⟨swSet cb n (flipSwitch k) s, switchFlip_flips hc hk hf hi, by rw [hg]; rfl, by rw [hg]; rfl, by rw [hg]; rfl, by rw [hg]; rfl,
      by rw [hg]; rfl, rfl⟩
  · intro cb n hc hv hm ha
    exact courseMarkMismatch_resets hc hv hm ha

end Sys2Proof.Machine

/-! PROOF. Reads, writes and flows of the packet mesh (R258, R264 to R269, R375). -/

namespace Sys2Proof.Machine

/-! ### Arrival and the sequence check -/

/-- The state in which a packet that has arrived is handled. -/
def offMesh (p : Packet) (s : State) : State := { s with flight := dropFirst (fun q => q == p) s.flight }

/-- A packet in its channel's order, for an array that is on and not too old, reaches its endpoint. -/
theorem arrive_delivers {p : Packet} {s : State} (k : State → State) (hi : inOrder s p = true) (ho : intoOff s p = none) (ht : tooOld s p = false) :
    arrive p s k = k (offMesh p s) := by
  have ho' : intoOff (offMesh p s) p = none := ho
  have ht' : tooOld (offMesh p s) p = false := ht
  unfold arrive
  rw [hi]
  simp only [Bool.not_true, Bool.false_eq_true, if_false]
  change (match intoOff (offMesh p s) p with
    | some r => bump .PWR_REVT_COUNT .PWR_ROVF_OVF r 1 1 (offMesh p s)
    | none => if tooOld (offMesh p s) p then mshDrop p.dest.toNat 0 p (offMesh p s) else k (offMesh p s)) = _
  simp only [ho', ht', Bool.false_eq_true, if_false] <;> rfl

theorem stale_offMesh (p : Packet) (s : State) : stale (offMesh p s) p = stale s p := rfl

theorem flowCheck_next {p : Packet} {s : State} (ho : isOpen p = false) (hk : (s.rx.any fun x => x.1 == flowKey p) = true)
    (hf : (tget rx0 s.rx (flowKey p)).failed = false) (hn : p.seq.toNat = (tget rx0 s.rx (flowKey p)).next) : flowCheck p s = (true, s) := by
  simp [flowCheck, ho, hk, hf, hn]

theorem flowCheck_out_of_sequence {p : Packet} {s : State} (ho : isOpen p = false) (hk : (s.rx.any fun x => x.1 == flowKey p) = true)
    (hf : (tget rx0 s.rx (flowKey p)).failed = false) (hn : p.seq.toNat ≠ (tget rx0 s.rx (flowKey p)).next) :
    flowCheck p s = (false, launch (nackOf s 1 p)
      (mshDrop p.dest.toNat 2 p { s with rx := tset s.rx (flowKey p) { tget rx0 s.rx (flowKey p) with failed := true } })) := by
  simp [flowCheck, ho, hk, hf, hn]

theorem flowCheck_open {p : Packet} {s : State} (ho : isOpen p = true) (hq : p.seq = 0) (hl : (rxOpen s p.dest.toNat).length < 512) :
    flowCheck p s = (true, { s with rx := tset s.rx (flowKey p) ⟨p.src.toNat, p.flow.toNat, 0, false⟩
                                    rxDead := s.rxDead.filter (· != flowKey p) }) := by
  simp [flowCheck, ho, hq, Nat.not_le.mpr hl]

theorem flowCheck_full {p : Packet} {s : State} (ho : isOpen p = true) (hk : (s.rx.any fun x => x.1 == flowKey p) = false)
    (hl : 512 ≤ (rxOpen s p.dest.toNat).length) :
    flowCheck p s = (false, launch (nackOf s 2 p) (bump .MSH_EVT_COUNT .MSH_OVF_OVF (mshAt p.dest.toNat) 4 1 (refuseFlow p s))) := by
  simp [flowCheck, ho, hk, hl]

/-! ### Reads and writes -/

theorem rdreqPacket_answers {p : Packet} {crc : List BlockCrc} {s : State} (hi : inOrder s p = true) (ho : intoOff s p = none)
    (ht : tooOld s p = false) (hop : p.op = 1) (hs : stale s p = false) (hp : epPort p.dest.toNat = none) (hm : epMem p.dest.toNat = true)
    (ha : pktSpace p.addr.toNat = true) (hw : waitsTag s p p.value.toNat = false) (h1 : 1 ≤ p.value.toNat) (h2 : p.value.toNat ≤ 512)
    (hr : rangeFault (offMesh p s) (pktCtx p) p.addr.toNat p.value.toNat = none) :
    let u := poisonReads (pktCtx p) p.addr.toNat p.value.toNat
      (checkRead (pktCtx p) p.addr.toNat p.value.toNat crc (dynTags (pktCtx p) p.addr.toNat p.value.toNat (offMesh p s)))
    exec (.rdreqPacket ⟨p, crc⟩) s =
      .next (launch { answer u 3 p with payload := locRead u (pktCtx p) p.addr.toNat p.value.toNat, last := true } u) := by
  intro u
  refine congrArg Host.Outcome.next ((if_neg (by simp [hop, hw])).trans ((arrive_delivers _ hi ho ht).trans ?_))
  rw [stale_offMesh, hs]
  simp only [Bool.false_eq_true, if_false, hp]
  exact if_pos (by simp [hm, ha, h1, h2, hr])

/-- A write that is handled at the memory of its endpoint. -/
theorem wrPacket_handled {p : Packet} {s : State} (hi : inOrder s p = true) (ho : intoOff s p = none) (ht : tooOld s p = false) (hop : p.op = 2)
    (hs : stale s p = false) (hp : epPort p.dest.toNat = none) (hm : epMem p.dest.toNat = true)
    (hw : waitsTag s p (max 1 p.payload.length) = false) {r : Bool × State} (hr : flowCheck p (offMesh p s) = r) :
    exec (.wrPacket p) s = .next (if !r.1 then r.2
      else if !pktSpace p.addr.toNat || (rangeFault r.2 (pktCtx p) p.addr.toNat (max 1 p.payload.length)).isSome
        || !writeOk r.2 (pktCtx p) p.addr.toNat p.payload.length then refuseWr p r.2
      else flowAdvance p (locWrite (pktCtx p) p.addr.toNat p.payload (dynTags (pktCtx p) p.addr.toNat (max 1 p.payload.length) r.2))) := by
  refine congrArg Host.Outcome.next ((if_neg (by simp [hop, hw])).trans ((arrive_delivers _ hi ho ht).trans ?_))
  rw [stale_offMesh, hs]
  simp only [Bool.false_eq_true, if_false, hp, hm, Bool.not_true, hr]

/-- A write whose flow accepts it, and which its range and access let through, is stored and acknowledged. -/
theorem wrPacket_stores {p : Packet} {s u : State} (hi : inOrder s p = true) (ho : intoOff s p = none) (ht : tooOld s p = false) (hop : p.op = 2)
    (hs : stale s p = false) (hp : epPort p.dest.toNat = none) (hm : epMem p.dest.toNat = true)
    (hw : waitsTag s p (max 1 p.payload.length) = false) (hr : flowCheck p (offMesh p s) = (true, u)) (ha : pktSpace p.addr.toNat = true)
    (hf : rangeFault u (pktCtx p) p.addr.toNat (max 1 p.payload.length) = none) (hok : writeOk u (pktCtx p) p.addr.toNat p.payload.length = true) :
    exec (.wrPacket p) s =
      .next (flowAdvance p (locWrite (pktCtx p) p.addr.toNat p.payload (dynTags (pktCtx p) p.addr.toNat (max 1 p.payload.length) u))) := by
  rw [wrPacket_handled hi ho ht hop hs hp hm hw hr]
  simp [ha, hf, hok]

/-- A write that its flow refuses. -/
theorem wrPacket_refused {p : Packet} {s u : State} (hi : inOrder s p = true) (ho : intoOff s p = none) (ht : tooOld s p = false) (hop : p.op = 2)
    (hs : stale s p = false) (hp : epPort p.dest.toNat = none) (hm : epMem p.dest.toNat = true)
    (hw : waitsTag s p (max 1 p.payload.length) = false) (hr : flowCheck p (offMesh p s) = (false, u)) : exec (.wrPacket p) s = .next u :=
  wrPacket_handled hi ho ht hop hs hp hm hw hr

theorem rdrspPacket_sunk {p : Packet} {s : State} (hi : inOrder s p = true) (ho : intoOff s p = none) (ht : tooOld s p = false) (hop : p.op = 3) :
    exec (.rdrspPacket p) s = .next (if stale s p then mshDrop p.dest.toNat 1 p (offMesh p s) else offMesh p s) :=
  congrArg Host.Outcome.next ((if_neg (by simp [hop])).trans (arrive_delivers _ hi ho ht))

/-! ### Acknowledgements and refusals -/

theorem ackPacket_at_source {p : Packet} {s : State} (hi : inOrder s p = true) (ho : intoOff s p = none) (ht : tooOld s p = false) (hop : p.op = 4)
    (hs : stale s p = false) (hp : epPort p.dest.toNat = none) :
    exec (.ackPacket p) s = .next (if isLoader p.dest.toNat then loaderAck p (offMesh p s) else sourceAck p.dest.toNat p (offMesh p s)) := by
  refine congrArg Host.Outcome.next ((if_neg (by simp [hop])).trans ((arrive_delivers _ hi ho ht).trans ?_))
  rw [stale_offMesh, hs]
  simp only [Bool.false_eq_true, if_false, hp] <;> rfl

theorem ackPacket_at_port {p : Packet} {q : Nat} {s : State} (hi : inOrder s p = true) (ho : intoOff s p = none) (ht : tooOld s p = false)
    (hop : p.op = 4) (hs : stale s p = false) (hp : epPort p.dest.toNat = some q) :
    exec (.ackPacket p) s = .next (inFlowAck q p.flow.toNat (p.aux.toNat % 65536) (replyOut q p (offMesh p s))) := by
  refine congrArg Host.Outcome.next ((if_neg (by simp [hop])).trans ((arrive_delivers _ hi ho ht).trans ?_))
  rw [stale_offMesh, hs]
  simp only [Bool.false_eq_true, if_false, hp] <;> rfl

/-- What a NACK does at a source of its flow. -/
theorem nackPacket_at_source {p : Packet} {s : State} (hi : inOrder s p = true) (ho : intoOff s p = none) (ht : tooOld s p = false) (hop : p.op = 5)
    (hs : stale s p = false) (hp : epPort p.dest.toNat = none) {t : State}
    (h2 : p.aux.toNat % 256 = 2 → ∃ x, s.tx.find? (fun x => x.1 == txKey p.dest.toNat p.flow.toNat) = some x ∧
      t = { offMesh p s with tx := tset s.tx x.1 { x.2 with retryAt := some (s.cycle + 256) } })
    (h4 : p.aux.toNat % 256 = 4 → ∃ c, epDma p.dest.toNat = some c ∧ t = remoteFail c p (offMesh p s))
    (hn : p.aux.toNat % 256 ≠ 2 → p.aux.toNat % 256 ≠ 4 → t = flowFail p.dest.toNat p.flow.toNat 0x13 (offMesh p s)) :
    exec (.nackPacket p) s = .next t := by
  refine congrArg Host.Outcome.next ((if_neg (by simp [hop])).trans ((arrive_delivers _ hi ho ht).trans ?_))
  rw [stale_offMesh, hs]
  simp only [Bool.false_eq_true, if_false, hp]
  by_cases c2 : p.aux.toNat % 256 = 2
  · obtain ⟨x, hx, rfl⟩ := h2 c2
    have hx' : (offMesh p s).tx.find? (fun x => x.1 == txKey p.dest.toNat p.flow.toNat) = some x := hx
    simp only [c2, if_true, hx'] <;> rfl
  · by_cases c4 : p.aux.toNat % 256 = 4
    · obtain ⟨c, hc, rfl⟩ := h4 c4
      simp only [c4, Nat.reduceEqDiff, if_true, if_false, hc] <;> rfl
    · rw [hn c2 c4]
      simp only [c2, c4, if_false]

/-! ### Waits, retries and old packets -/

theorem windowTimeout_loader {ep : BitVec 16} {flow : BitVec 6} {s : State} (hl : isLoader ep.toNat = true) (hw : loaderWait s = true) :
    exec (.windowTimeout ep flow) s =
      .next (flowFail ep.toNat flow.toNat 0x13 (bump .MSH_EVT_COUNT .MSH_OVF_OVF (mshAt ep.toNat) 5 1 s)) :=
  congrArg Host.Outcome.next (if_pos (by simp [hl, hw]))

theorem windowTimeout_dma {ep : BitVec 16} {flow : BitVec 6} {c : Nat} {s : State} (hl : isLoader ep.toNat = false) (hc : epDma ep.toNat = some c)
    (hx : ∃ x ∈ s.tx, x.1 = txKey ep.toNat flow.toNat ∧ x.2.failed = false) (hw : creditWait s c flow.toNat = true) :
    exec (.windowTimeout ep flow) s =
      .next (flowFail ep.toNat flow.toNat 0x13 (bump .MSH_EVT_COUNT .MSH_OVF_OVF (mshAt ep.toNat) 5 1 s)) := by
  have hany : (s.tx.any fun x => x.1 == txKey ep.toNat flow.toNat && !x.2.failed) = true := by
    obtain ⟨x, hm, hk, hf⟩ := hx
    exact List.any_eq_true.2 ⟨x, hm, by simp [hk, hf]⟩
  refine congrArg Host.Outcome.next (if_pos ?_)
  simp only [hl, Bool.false_eq_true, if_false, hany, hc, hw, Bool.and_self] <;> rfl

/-- Sending a list of packets leaves all but the mesh. -/
theorem foldl_launch {α : Type} (f : State → α → Packet) (l : List α) (s : State) :
    (l.foldl (fun s o => launch (f s o) s) s).tx = s.tx ∧ (l.foldl (fun s o => launch (f s o) s) s).mem = s.mem ∧
      (l.foldl (fun s o => launch (f s o) s) s).flight.length = s.flight.length + l.length := by
  induction l generalizing s with
  | nil => exact ⟨rfl, rfl, rfl⟩
  | cons o l ih =>
    obtain ⟨h1, h2, h3⟩ := ih (launch (f s o) s)
    refine ⟨h1, h2, h3.trans ?_⟩
    simp only [launch, List.length_append, List.length_cons, List.length_nil]
    omega

theorem openRetry_sends {ep : BitVec 16} {flow : BitVec 6} {x : Nat × TxFlow} {c : Nat} {s : State}
    (hx : s.tx.find? (fun x => x.1 == txKey ep.toNat flow.toNat && x.2.retryAt.isSome && !x.2.failed) = some x) (hc : epDma ep.toNat = some c) :
    ∃ t, exec (.openRetry ep flow) s = .next t ∧ t.tx = tset s.tx (txKey ep.toNat flow.toNat) { x.2 with retryAt := none } ∧
      t.flight.length = s.flight.length + ((dmGet s c).out.filter fun o => o.flow == flow.toNat).length ∧ t.mem = s.mem := by
  have he : exec (.openRetry ep flow) s = .next (((dmGet s c).out.filter fun o => o.flow == flow.toNat).foldl
      (fun s o => launch (dmaPacket s c o.off o.bytes o.seq o.opens) s)
      { s with tx := tset s.tx (txKey ep.toNat flow.toNat) { x.2 with retryAt := none } }) := by
    show execOpenRetry ep flow s = _
    unfold execOpenRetry
    simp only [hx, hc] <;> rfl
  obtain ⟨htx, hmem, hfl⟩ := foldl_launch (fun s o => dmaPacket s c o.off o.bytes o.seq o.opens)
    ((dmGet s c).out.filter fun o => o.flow == flow.toNat) { s with tx := tset s.tx (txKey ep.toNat flow.toNat) { x.2 with retryAt := none } }
  exact ⟨_, he, htx, hfl, hmem⟩

theorem packetAgeDrop_drops {x y : Fin 32} {p : Packet} {s : State} (ht : tooOld s p = true) (hop : p.op ≠ 13)
    (hh : ((packetStops p).contains (epStop (x.val <<< 11 ||| y.val <<< 6)) = true ∧ inOrder s p = true) ∨
      (s.egress.contains p = true ∧ epStop (x.val <<< 11 ||| y.val <<< 6) = epStop p.dest.toNat)) :
    exec (.packetAgeDrop x y p) s =
      .next (mshDrop (if epStop (x.val <<< 11 ||| y.val <<< 6) < 672 then epC (epStop (x.val <<< 11 ||| y.val <<< 6)) else portEp 2) 0 p
        { s with flight := dropFirst (fun q => q == p) s.flight, egress := dropFirst (fun q => q == p) s.egress }) :=
  congrArg Host.Outcome.next (if_pos ⟨ht, hop, hh.imp_left fun ⟨hr, hi⟩ => Bool.and_eq_true_iff.2 ⟨hr, hi⟩⟩)

/-- Settles O55: each packet arrives and its endpoint handles it; the flow's check decides a write. -/
theorem meshDataResults : Obligations.MeshDataResults := by
  unfold Obligations.MeshDataResults
  refine ⟨?_, ?_, fun x y p s ht hop => packetAgeDrop_drops ht hop⟩
  · intro p s s1 e a k n who cause hi ho ht
    refine ⟨?_, ?_, ?_, ?_, ?_, ?_, ?_, ?_, ?_⟩
    · intro crc hop hs hp hm ha hw h1 h2 hr
      exact rdreqPacket_answers hi ho ht hop hs hp hm ha hw h1 h2 hr
    · intro hop hs hp hm hw
      refine ⟨fun hop' hk hf => ⟨?_, ?_⟩, ?_, ?_⟩
      · intro hn ha hr hok
        exact wrPacket_stores hi ho ht hop hs hp hm hw (flowCheck_next (s := offMesh p s) hop' hk hf hn) ha hr hok
      · intro hn
        exact wrPacket_refused hi ho ht hop hs hp hm hw (flowCheck_out_of_sequence (s := offMesh p s) hop' hk hf hn)
      · intro hop' hq hl u ha hr hok
        exact wrPacket_stores hi ho ht hop hs hp hm hw (flowCheck_open (s := offMesh p s) hop' hq hl) ha hr hok
      · intro hop' hk hl
        exact wrPacket_refused hi ho ht hop hs hp hm hw (flowCheck_full (s := offMesh p s) hop' hk hl)
    · intro hop hs
      exact (rdrspPacket_sunk hi ho ht hop).trans (congrArg Host.Outcome.next (if_neg (by simp [hs])))
    · intro hop hs
      exact (rdrspPacket_sunk hi ho ht hop).trans (congrArg Host.Outcome.next (if_pos hs))
    · exact fun hop hs hp => ackPacket_at_source hi ho ht hop hs hp
    · exact fun q hop hs hp => ackPacket_at_port hi ho ht hop hs hp
    · intro x hop hs hp hc hx
      exact nackPacket_at_source hi ho ht hop hs hp (fun _ => ⟨x, hx, rfl⟩) (fun h => absurd (hc.symm.trans h) (by decide)) (fun h => absurd hc h)
    · intro c hop hs hp hc hd
      exact nackPacket_at_source hi ho ht hop hs hp (fun h => absurd (hc.symm.trans h) (by decide)) (fun _ => ⟨c, hd, rfl⟩) (fun _ h => absurd hc h)
    · intro hop hs hp h2 h4
      exact nackPacket_at_source hi ho ht hop hs hp (fun h => absurd h h2) (fun h => absurd h h4) (fun _ _ => rfl)
  · intro ep flow s e key failed
    exact ⟨windowTimeout_loader, fun c hl hc hx hw => windowTimeout_dma hl hc hx hw, fun x c hx hc => openRetry_sends hx hc⟩

end Sys2Proof.Machine

/-! PROOF. Queues, signals and deliveries of the packet mesh (R60, R164, R186, R188, R220, R272, R276 to R278, R280, R283). -/

namespace Sys2Proof.Machine

/-! ### Queues and credits -/

theorem sendPacket_queued {p : Packet} {s : State} (hi : inOrder s p = true) (ho : intoOff s p = none) (ht : tooOld s p = false)
    (hg : epOnGrid p.dest.toNat = true) (hn : epN p.dest.toNat ≤ 31) (hop : p.op = 6)
    (hq : queueOk (offMesh p s) (epWorker p.dest.toNat) p = true) :
    let wk := epWorker p.dest.toNat
    let q := fld p.addr.toNat 4 3
    let ent : QEntry := ⟨(List.range (p.tlen.toNat + 1)).map (fun i => BitVec.ofNat 32 (leAt p.payload (4 * i) 4)), p.src.toNat, p.flow.toNat⟩
    let u := wMod wk (fun w => { w with queues := w.queues.set q (w.queues.getD q [] ++ [ent]) }) (offMesh p s)
    exec (.sendPacket p) s = .next (if ((wGet u wk).queues.getD q []).length = 16 then bump .MSG_EVT_COUNT .MSG_OVF_OVF wk 2 1 u else u) :=
  congrArg Host.Outcome.next ((if_neg (by simp [hop, hg, hn])).trans ((arrive_delivers _ hi ho ht).trans (if_pos hq)))

theorem sendPacket_returned {p : Packet} {s : State} (hi : inOrder s p = true) (ho : intoOff s p = none) (ht : tooOld s p = false)
    (hg : epOnGrid p.dest.toNat = true) (hn : epN p.dest.toNat ≤ 31) (hop : p.op = 6)
    (hq : queueOk (offMesh p s) (epWorker p.dest.toNat) p = false) :
    let u := if stale s p then mshDrop p.dest.toNat 1 p (offMesh p s) else offMesh p s
    exec (.sendPacket p) s = .next (launch (goneCredit u p) (bump .MSG_EVT_COUNT .MSG_OVF_OVF (epWorker p.dest.toNat) 0 1 u)) :=
  congrArg Host.Outcome.next ((if_neg (by simp [hop, hg, hn])).trans ((arrive_delivers _ hi ho ht).trans (if_neg (by rw [hq]; decide))))

theorem creditPacket_returns {p : Packet} {q : QTarget} {s : State} (hi : inOrder s p = true) (ho : intoOff s p = none) (ht : tooOld s p = false)
    (hg : epOnGrid p.dest.toNat = true) (hn : epN p.dest.toNat ≤ 31) (hop : p.op = 7) (hs : stale s p = false)
    (hq : qbind (wGet s (epWorker p.dest.toNat)) (p.flow.toNat % 8) = some q) (hb : bit p.aux.toNat 8 = false) :
    exec (.creditPacket p) s = .next (creditWake (epWorker p.dest.toNat) (p.flow.toNat % 8) q (wMod (epWorker p.dest.toNat) (fun w =>
      { w with cred := w.cred.set (p.flow.toNat % 8) (min q.max (w.cred.getD (p.flow.toNat % 8) 0 + p.aux.toNat % 32)) }) (offMesh p s))) := by
  have hq' : qbind (wGet (offMesh p s) (epWorker p.dest.toNat)) (p.flow.toNat % 8) = some q := hq
  refine congrArg Host.Outcome.next ((if_neg (by simp [hop, hg, hn])).trans ((arrive_delivers _ hi ho ht).trans ?_))
  rw [stale_offMesh, hs]
  simp only [Bool.false_eq_true, if_false, hq', hb] <;> rfl

theorem sigackPacket_counts {p : Packet} {s : State} (hi : inOrder s p = true) (ho : intoOff s p = none) (ht : tooOld s p = false)
    (hg : epOnGrid p.dest.toNat = true) (hn : epN p.dest.toNat ≤ 31) (hop : p.op = 9) (hs : stale s p = false) :
    exec (.sigackPacket p) s = .next (wMod (epWorker p.dest.toNat) (fun w =>
      { w with unacked := w.unacked.set (p.flow.toNat % 8) (w.unacked.getD (p.flow.toNat % 8) 0 - 1) }) (offMesh p s)) :=
  congrArg Host.Outcome.next
    ((if_neg (by simp [hop, hg, hn])).trans ((arrive_delivers _ hi ho ht).trans (if_neg (by rw [stale_offMesh, hs]; decide))))

/-! ### Signals and ridge signals -/

theorem sigPacket_acts {p : Packet} {s : State} (hi : inOrder s p = true) (ho : intoOff s p = none) (ht : tooOld s p = false) (hop : p.op = 8)
    (hg : epOnGrid p.dest.toNat = true) (hn : epN p.dest.toNat = 63) (hs : stale s p = false) :
    let u := signal (epComb p.dest.toNat) (fld p.addr.toNat 4 12) (p.value.toNat % 65536) (offMesh p s)
    exec (.sigPacket p) s = .next (launch { answer u 9 p with addr := 0 } u) :=
  congrArg Host.Outcome.next
    ((if_neg (by simp [hop, hg, hn])).trans ((arrive_delivers _ hi ho ht).trans (if_neg (by rw [stale_offMesh, hs]; decide))))

/-- What a ridge signal of the context's own generation does. -/
theorem ridgePacket_judged {p : Packet} {s : State} (hi : inOrder s p = true) (ho : intoOff s p = none) (ht : tooOld s p = false) (hop : p.op = 10)
    (he : p.dest.toNat = keeperEp) (hv : p.ctxv = true) (hs : stale s p = false) :
    exec (.ridgePacket p) s = .next (if p.value.toNat % 65536 ≠ rget s .CTX_STEP_COUNT p.ctx.toNat % 65536
        || (rget s .CTX_STATE_STATE p.ctx.toNat == 3 && rget s .CTX_STATE_HOLD_CLASS p.ctx.toNat == 0x23)
        || !(spanPeers s p.ctx.toNat).contains (p.aux.toNat % 1024)
      then ctxMod p.ctx.toNat (fun x => { x with ridgeDropped := x.ridgeDropped + 1 }) (offMesh p s)
      else ctxMod p.ctx.toNat (fun x => { x with peers := if x.peers.contains (p.aux.toNat % 1024) then x.peers else p.aux.toNat % 1024 :: x.peers })
        (offMesh p s)) :=
  congrArg Host.Outcome.next
    ((if_neg (by simp [hop, he, hv])).trans ((arrive_delivers _ hi ho ht).trans (if_neg (by rw [stale_offMesh, hs]; decide))))

theorem contains_insertIfNew (m : Nat) (l : List Nat) : (if l.contains m then l else m :: l).contains m = true := by
  split
  · assumption
  · simp

theorem ridgePacket_noted {p : Packet} {s : State} (hi : inOrder s p = true) (ho : intoOff s p = none) (ht : tooOld s p = false) (hop : p.op = 10)
    (he : p.dest.toNat = keeperEp) (hv : p.ctxv = true) (hs : stale s p = false)
    (hstep : p.value.toNat % 65536 = rget s .CTX_STEP_COUNT p.ctx.toNat % 65536) (hrun : rget s .CTX_STATE_STATE p.ctx.toNat = 2)
    (hm : (spanPeers s p.ctx.toNat).contains (p.aux.toNat % 1024) = true) : ∃ t, exec (.ridgePacket p) s = .next t ∧
      (ctxGet t p.ctx.toNat).peers.contains (p.aux.toNat % 1024) = true ∧ t = { offMesh p s with ctxs := t.ctxs } := by
  refine ⟨_, (ridgePacket_judged hi ho ht hop he hv hs).trans (congrArg Host.Outcome.next (if_neg (by rw [hm]; simp [hstep, hrun]))), ?_, rfl⟩
  rw [ctxGet_ctxMod_same]
  exact contains_insertIfNew _ _

theorem ridgePacket_of_other_step {p : Packet} {s : State} (hi : inOrder s p = true) (ho : intoOff s p = none) (ht : tooOld s p = false)
    (hop : p.op = 10) (he : p.dest.toNat = keeperEp) (hv : p.ctxv = true) (hs : stale s p = false)
    (hstep : p.value.toNat % 65536 ≠ rget s .CTX_STEP_COUNT p.ctx.toNat % 65536) :
    exec (.ridgePacket p) s = .next (ctxMod p.ctx.toNat (fun x => { x with ridgeDropped := x.ridgeDropped + 1 }) (offMesh p s)) :=
  (ridgePacket_judged hi ho ht hop he hv hs).trans (congrArg Host.Outcome.next (if_pos (by simp [hstep])))

/-! ### Deliveries -/

/-- A charge for delayed flits leaves the load of every context. -/
theorem charge_load (c n a : Nat) (s : State) : (ctxGet (charge c n s) a).load = (ctxGet s a).load := by
  unfold charge
  extract_lets v x late s1
  split
  · by_cases h : a = c
    · rw [h, ctxGet_ctxSet_same]
    · rw [ctxGet_ctxSet_ne _ _ _ _ h, ctxGet_touches (Touches.bump _ _ _ _ _ _) (by decide)]
      rfl
  · rfl

theorem loadingCtx_of_loads {s t : State} (h : ∀ a, (ctxGet t a).load = (ctxGet s a).load) : loadingCtx t = loadingCtx s := by
  simp only [loadingCtx, h]

theorem mgmtPacket_delivers {p : Packet} {d : Fin 16} {delays k : Nat} {s : State} (hi : inOrder s p = true) (ho : intoOff s p = none)
    (ht : tooOld s p = false) (hop : p.op = 11) (hsrc : mgmtSource p = true) (hs : stale s p = false) (hl : loadingCtx s = some k)
    (hr : mcastRoom s k p = true) :
    let u := if stepping s d.val then charge d.val delays (offMesh p s) else offMesh p s
    exec (.mgmtPacket p d delays) s = .next (if p.mcast then
        ((mgmtTargets p).filter fun t => !combsOff s (regionOf t)).foldl (mgmtAt k p) (dropOff (mgmtTargets p) u)
      else (mgmtTargets p).foldl (mgmtAt k p) u) := by
  intro u
  have hu : Touches [.ctxs, .fld .CTX_STEPSTAT_SLIP, .fld .CTX_EVT_COUNT, .fld .CTX_OVF_OVF] (offMesh p s) u :=
    Touches.ite (Touches.charge _ _ _) (Touches.refl _ _)
  have hsu : stale u p = false :=
    (congrArg (fun g => p.ctxv && p.gen.toNat != g) (hu (.fld .CTX_STATE_GEN) (by decide) p.ctx.toNat 0)).trans hs
  have hoff : ∀ r, combsOff u r = combsOff s r := fun r => congrArg (decide <| 3 ≤ ·) (hu (.fld .PWR_RSTAT_CA_STATE) (by decide) r 0)
  have hload : ∀ a, (ctxGet u a).load = (ctxGet s a).load := by
    intro a
    show (ctxGet (if stepping s d.val then charge d.val delays (offMesh p s) else offMesh p s) a).load = _
    split
    · exact charge_load _ _ _ _
    · rfl
  have hlu : loadingCtx u = some k := (loadingCtx_of_loads hload).trans hl
  refine congrArg Host.Outcome.next ((if_neg (by simp [hop, hsrc, hl, hr])).trans ((arrive_delivers _ hi ho ht).trans ?_))
  refine (if_neg (c := stale u p = true) (by rw [hsu]; decide)).trans ?_
  change (match loadingCtx u with
    | none => u
    | some c => if p.mcast then ((mgmtTargets p).filter fun t => !combsOff u (regionOf t)).foldl (mgmtAt c p) (dropOff (mgmtTargets p) u)
      else (mgmtTargets p).foldl (mgmtAt c p) u) = _
  simp only [hlu, hoff] <;> rfl

theorem multicastAckTimeout_ends {c : Fin 16} {j : LoadJob} {s : State} (hj : (ctxGet s c.val).load = some j) (ha : j.accepted = true) :
    exec (.multicastAckTimeout c) s = .next (endLoad c.val 0x15 (noIdx + noIdx * 2 ^ 32) s) := by
  show execMulticastAckTimeout c s = _
  unfold execMulticastAckTimeout
  simp only [hj, ha, if_true] <;> rfl

/-! ### Waits that time out -/

theorem waitSendTimeout_of_wait {x : Fin 28} {y : Fin 24} {w : Fin 32} {th : Fin 128} {s : State} {obj : Nat} {v : Word}
    (hp : (thGet s (wkOf x.val y.val w.val) th.val).park = .wait obj v) :
    let wk := wkOf x.val y.val w.val
    ∃ u, exec (.waitSendTimeout x y w th) s =
      .next (wake wk th.val false (timeoutEnd wk th.val obj (soAddr (cbX (wk / 32)) (cbY (wk / 32)) obj) true u)) ∧ u = { s with objs := u.objs } ∧
      (objGet u (wk / 32) obj).waiters = (objGet s (wk / 32) obj).waiters.filter fun v => !(v.worker == wk && v.thread == th.val) := by
  intro wk
  have hx : exec (.waitSendTimeout x y w th) s = .next (wake wk th.val false (timeoutEnd wk th.val obj (soAddr (cbX (wk / 32)) (cbY (wk / 32)) obj) true
      (objSet (wk / 32) obj { objGet s (wk / 32) obj with
        waiters := (objGet s (wk / 32) obj).waiters.filter fun v => !(v.worker == wk && v.thread == th.val) } s))) := by
    show execWaitSendTimeout x y w th s = _
    unfold execWaitSendTimeout
    simp only [hp] <;> rfl
  exact ⟨_, hx, rfl, by rw [objGet_objSet_same]⟩

theorem waitSendTimeout_of_credit {x : Fin 28} {y : Fin 24} {w : Fin 32} {th : Fin 128} {s : State} {b : Nat} {v : List Word} {q : QTarget}
    (hp : (thGet s (wkOf x.val y.val w.val) th.val).park = .credit b v) (hq : qbind (wGet s (wkOf x.val y.val w.val)) b = some q) :
    exec (.waitSendTimeout x y w th) s = .next (wake (wkOf x.val y.val w.val) th.val false
      (timeoutEnd (wkOf x.val y.val w.val) th.val q.q (quAddr q.x q.y q.w q.q) false s)) := by
  show execWaitSendTimeout x y w th s = _
  unfold execWaitSendTimeout
  simp only [hp, hq] <;> rfl

/-- Settles O56: each packet arrives and its endpoint handles it; a charge for delayed flits leaves what a delivery is judged by. -/
theorem meshMessageResults : Obligations.MeshMessageResults := by
  unfold Obligations.MeshMessageResults
  refine ⟨?_, fun c j s hj ha => multicastAckTimeout_ends hj ha, ?_⟩
  · intro p s s1 e wk b c m hi ho ht
    refine ⟨fun hg hn => ⟨?_, ?_, ?_, ?_⟩, ?_, fun hop he hv hs => ⟨?_, ?_⟩, ?_⟩
    · exact fun hop hq => sendPacket_queued hi ho ht hg hn hop hq
    · exact fun hop hq => sendPacket_returned hi ho ht hg hn hop hq
    · exact fun q hop hs hq hb => creditPacket_returns hi ho ht hg hn hop hs hq hb
    · exact fun hop hs => sigackPacket_counts hi ho ht hg hn hop hs
    · exact fun hop hg hn hs => sigPacket_acts hi ho ht hop hg hn hs
    · exact fun hstep hrun hm => ridgePacket_noted hi ho ht hop he hv hs hstep hrun hm
    · exact fun hstep => ridgePacket_of_other_step hi ho ht hop he hv hs hstep
    · exact fun d delays k hop hsrc hs hl hr => mgmtPacket_delivers hi ho ht hop hsrc hs hl hr
  · intro x y w th s wk t
    exact ⟨fun obj v hp => waitSendTimeout_of_wait hp, fun b v q hp hq => waitSendTimeout_of_credit hp hq⟩

end Sys2Proof.Machine
